-- ==== Sys2Proof/Word.lean ====
section
/-!
DEFINITION. The word types of the block (R8: registers are 32 bits wide).
-/
namespace Sys2Proof

/-- A 32-bit register word (R8). -/
abbrev Word := BitVec 32

/-- A byte of the cistern, the journal or a message. -/
abbrev Byte := BitVec 8

/-- A Nat as a 32-bit word, wrapping. -/
abbrev word (n : Nat) : Word := BitVec.ofNat 32 n

end Sys2Proof
end

