-- ==== Sys2Proof/Machine/StateTypes.lean ====
section
/-!
DEFINITION. The plain-data types of the state: what the block holds beside its registers. Each names the rule of
spec/ that gives it.
-/
namespace Sys2Proof.Machine

/-! ### Requesters and answers (R298, R14) -/

/-- Who issues an access: the three host ports, the three keepers, and Port J at an open debug level (R298, R405). -/
inductive Origin where
  | portS | portI | portF | k0 | k1 | k2 | portJ
  deriving DecidableEq, Repr

/-- Error response codes of R14. -/
inductive Code where
  | ok | unmapped | asleep | locked | denied | ecc | width | busy | timeout
  deriving DecidableEq, Repr

/-- The code as a number (R14). -/
def Code.num : Code → Nat
  | .ok => 0 | .unmapped => 1 | .asleep => 2 | .locked => 3 | .denied => 4 | .ecc => 5 | .width => 6 | .busy => 7 | .timeout => 8

/-- The answer a requester last received: the code and, for a read, the data. -/
structure Resp where
  code : Code := .ok
  data : Nat := 0
  deriving DecidableEq, Repr

/-! ### Journal (R377) -/

/-- One journal entry before it is packed into its 16 bytes. -/
structure JEntry where
  ns : Nat
  sec : Nat
  source : Nat
  safety : Bool
  todInvalid : Bool
  code : Nat
  payload : Nat
  deriving DecidableEq, Repr

/-! ### Regions and blocks (R17, R18) -/

/-- The five regions, in the order of CHIP_RERR0 to CHIP_RERR4 (R38). -/
inductive Region where
  | line | host | timing | keep | cistern
  deriving DecidableEq, Repr

/-- The blocks of R18 (the wells take their own rows). -/
inductive Block where
  | well (n : Fin 8)
  | fec
  | atlas
  | hostGroup (g : Fin 2)
  | timeTransfer
  | seep
  | keeper (k : Fin 3)
  | kic
  | fabric
  | journal
  | cistern
  deriving DecidableEq, Repr

/-- What a region's error controller remembers: the reaction in progress, and when the region has faulted (R33, R36). -/
structure RegionSt where
  reacting : Bool := false
  lanes : Nat := 0           -- bit n: lane n is being reinitialised by the reaction
  fresh : Bool := false      -- a reaction is still to begin
  faults : List Nat := []    -- times of the faults of the last 10 s
  deriving DecidableEq, Repr

/-- How a block's fault was detected (R20, R33): by the block's own checks, at a crossing into it, by its island's clock monitor, or for
a keeper by its lockstep comparison or its watchdog (R332). -/
inductive BlockMech where
  | own | crossing | clock | mismatch | watchdog
  deriving DecidableEq, Repr

/-- A mechanism by its number. -/
def BlockMech.num : BlockMech → Nat
  | .own => 0 | .crossing => 1 | .clock => 2 | .mismatch => 3 | .watchdog => 4

/-- What a block's fault handling remembers: a local reaction in progress and the times of its faults (R33, R35). -/
structure BlockSt where
  block : Block
  reacting : Bool := false
  faults : List (Nat × Nat) := []    -- times of its faults of the last second, with the lanes whose pipes took part (R36)
  mech : Option BlockMech := none    -- the mechanism of the latest fault (R39)
  count : Nat := 0                   -- faults since reset, those included that a region reaction absorbs (R37)
  lanes : Nat := 0                   -- lanes of the local reaction in progress (R35)
  ends : Nat := 0                    -- when the local reaction in progress is complete (R35)
  deriving DecidableEq, Repr

/-! ### Pumps and wells (R40 to R66) -/

/-- The three line profiles. -/
inductive Profile where
  | deep | standard | spring
  deriving DecidableEq, Repr

/-- One entry of a recipe's map of parameter slots (R50): the slot, the parameter that it holds, by its number in the shipped
recipes' maps (R116, R137), and its default value. -/
structure ParSlot where
  slot : Nat
  par : Nat
  dflt : Nat
  deriving DecidableEq, Repr

/-- A recipe's header (R50). -/
structure Recipe where
  profile : Profile
  rateLo : Nat            -- lane-rate range, MBd
  rateHi : Nat
  reach : Nat             -- 0 to 3, or 0xF for a recipe that REACH never selects
  rxMin : Nat
  txMin : Nat
  peakMac : Nat
  peakAcs : Nat
  sig : Nat               -- 32-bit state signature
  init : List Int         -- the preset of the starting coefficients, in 1/64 (R111)
  slots : List ParSlot    -- the map of its parameter slots
  deriving DecidableEq, Repr

/-- The sums of pz_grad over the symbols that it sampled (R104). -/
structure AdaptSums where
  n : Nat := 0
  g : List Int := []            -- one sum per tap
  errPow : Nat := 0             -- sum of squared errors
  lvlSum : List Int := []       -- Spring: sum of outputs per decided level
  lvlCnt : List Nat := []       -- Spring: samples per decided level
  skip : Bool := false          -- the epoch is a skipped one (R107)
  deriving DecidableEq, Repr

/-- The coefficients, the detection table and the parameters of the receive kernels as a pump's data memory holds them
(R47, R57); no table stands for the nominal one (R99). -/
structure RxSet where
  spring : Bool := false
  coefs : List Int := []        -- FFE_TAPS coefficients, 1/64
  pre : Nat := 0
  det : Option (List Nat) := none
  h1 : Nat := 0
  h2 : Nat := 0
  thr : List Int := [-128, 0, 128]
  patset : Nat := 0
  decim : Nat := 3              -- log2 of the decimation of pz_grad, the throttle applied
  duty : Nat := 0               -- log2 of the inverse duty of pz_ical, the throttle applied
  blr : Nat := 16               -- BLR_LEN in estimates; 0 is OFF
  llr : Nat := 16               -- LLR_SCALE
  deriving DecidableEq, Repr

/-- The pre-distortion table and the FIR taps of the transmit kernels as a pump's data memory holds them (R47, R136). -/
structure TxSet where
  pdUse : Bool := true
  pd : List (Nat × Nat) := []   -- words that differ from 0x8000
  fir : List Int := []
  deriving DecidableEq, Repr

/-- What pz_ical gathers per sub-converter (R47, R82): how many samples, their sum for the offset, the sum of their squares for the gain, and
that of their products with the difference of the neighbours for the skew (notes/assumptions/136.md). -/
structure IcalAcc where
  cnt : List Int := []
  ofs : List Int := []
  pow : List Int := []
  skew : List Int := []
  deriving DecidableEq, Repr

/-- The memories of one pump (R40): which recipe each instruction bank holds with good parity, what the data memory holds, with the pending
slot of its role's table (R47), and the two block input buffers; and the smallest slack of its blocks in the epoch (R66). -/
structure PumpMem where
  code0 : Option Recipe := none
  code1 : Option Recipe := none
  rx : RxSet := {}
  tx : TxSet := {}
  grad : AdaptSums := {}
  bufA : List Int := []
  bufB : List Int := []
  detNext : Option (List Nat) := none
  pdNext : Option (List (Nat × Nat)) := none
  ical : IcalAcc := {}
  slack : Nat := 0xFFFF
  ceAt : Nat := 0                    -- when CE_COUNT was last brought up to date (R66)
  deriving DecidableEq, Repr

/-- A recipe load in progress (R53). -/
structure Load where
  sel : Nat
  bank : Nat
  auto : Bool
  recipe : Recipe
  prof : Bool := false         -- the load of a profile change (R169)
  reach : Option Nat := none   -- the reach class, when a REACH write made the load (R115)
  deriving DecidableEq, Repr

/-- A pending bank switch (R54): the bank in force before it and which sides have switched. -/
structure Switch where
  target : Nat
  before : Nat
  rxDone : Bool := false
  txDone : Bool := false
  update : Bool := false       -- requested by an update switch-over (R292)
  deriving DecidableEq, Repr

/-- Why a well faults (R33, R39). -/
inductive WellMech where
  | memory | crossbar | clock | crossing | pumpNoReserve | cisternEcc | forcedSwitch
  deriving DecidableEq, Repr

/-- A mechanism by its number. -/
def WellMech.num : WellMech → Nat
  | .memory => 0 | .crossbar => 1 | .clock => 2 | .crossing => 3 | .pumpNoReserve => 4 | .cisternEcc => 5 | .forcedSwitch => 6

/-- A pump fault's cause, in the order of PUMP_ERR bits 0 to 4 (R66). -/
inductive PumpCause where
  | ipar | due | deadline | sig | late2
  deriving DecidableEq, Repr

/-- A slot whose pump is faulty (R58), with that pump and the first block of the frame in progress that leaves as erasures (R45). -/
structure Vacancy where
  role : Nat     -- 1 receive, 2 transmit
  slot : Nat
  pump : Nat := 64
  start : Nat := 0
  deriving DecidableEq, Repr

/-- A transmit slot that changes hands at the next transmit frame boundary after a rotation step (R56). -/
structure SlotMove where
  victim : Nat
  spare : Nat
  deriving DecidableEq, Repr

/-- How a test slice ends (R371, R374): it passes; the signature fails; the memory test fails within the free spare
rows (and uses up a memory's last spare or not); or it fails beyond them. -/
inductive SliceResult where
  | pass
  | sigFail
  | softRepair (lastSpare : Bool)
  | memFail
  deriving DecidableEq, Repr

/-- What a well holds beside its registers. -/
structure WellSt where
  bank0 : Option Recipe := none
  bank1 : Option Recipe := none
  txBank : Nat := 0                 -- bank the transmit slots run
  pump : Vector PumpMem 64 := Vector.replicate 64 {}
  load : Option Load := none
  switch : Option Switch := none
  vacant : List Vacancy := []       -- slots waiting for a takeover (R58)
  prevVictim : Nat := 63            -- R56
  rotDue : Bool := false            -- a rotation step is due at this receive epoch boundary (R56)
  move : Option SlotMove := none
  held : List Nat := []             -- parameter slots whose pending values a load brought: they wait for the switch (R66)
  rxNext : Nat := 0                 -- place in the dealing order of the next receive block (R43)
  txNext : Nat := 0
  late : List Nat := []             -- pumps whose last slice was late (R31)
  retest : List Nat := []           -- soft-repaired pumps waiting for their re-test (R374)
  named : Option Nat := none        -- pump named by SAF_LBIST_CTRL.GO (R373)
  saved : Option Nat := none        -- pump whose state the COMPAT slice saved (R373)
  restarting : Bool := false        -- between detection of a well fault and its restart
  deferred : List (Nat × PumpCause) := []   -- pump faults recorded during a restart (R37)
  faults : List Nat := []           -- times of the well faults of the last second
  mech : Option WellMech := none    -- the mechanism of the latest well fault (R39)
  faultCount : Nat := 0             -- well faults since reset, those included that a region reaction absorbs (R37)
  forced : Bool := false            -- the restart carries out a switch across differing state signatures (R55)
  quiet : Bool := false             -- the restart is that of a profile change (R169)
  hwMap : Bool := false             -- the hardwired PAM4 mapper carries the transmit side (R34)
  deriving DecidableEq, Repr

/-! ### Images and repair records (R281 to R288) -/

/-- A repair record (R288): TYPE, UNIT, LOC and DATA. -/
structure RepairRec where
  typ : Nat
  unit : Nat
  loc : Nat
  data : Nat := 0
  deriving DecidableEq, Repr

/-- What the device uses of an image's PUMP section (R50, R285). -/
structure PumpSection where
  recipes : List (Nat × Recipe) := []
  intact : Bool := true
  deriving DecidableEq, Repr, Inhabited

/-! ### Laser enable and DAC mute (R87 to R89) -/

/-- One lane's part of the laser enable and mute logic. LEN[n] itself is LINE_LEN_STATUS.LEN_OUT[n]. -/
structure LightLane where
  settled : Bool := false     -- LEN_SETTLE has elapsed since LEN[n] went high
  muted : Bool := true        -- the DAC is muted
  deriving DecidableEq, Repr

/-! ### Line converters (R67 to R92) -/

/-- The four timing-margin fields of a preset (R85). -/
structure Preset where
  sar : Nat := 2
  cmp : Nat := 5
  dacRt : Nat := 6
  piRt : Nat := 4
  deriving DecidableEq, Repr

/-- The analogue trims that have no register: the codes of both terminations, DAC full-scale current, interpolator linearity, and the
coarse skew trims of the sub-converters (R79, R92). -/
structure Trim where
  termTx : Nat := 0
  termRx : Nat := 0
  dac : Nat := 0
  pi : Nat := 0
  coarse : List Int := []
  deriving DecidableEq, Repr

/-- One sub-converter's corrections as an estimate, before they are brought into their field ranges (R82). -/
structure IcalEst where
  ofs : Int
  gain : Int
  skew : Int
  deriving DecidableEq, Repr

/-- What a calibration sequence measured: the quality figures of R79 and the corrections each step found. -/
structure CalResult where
  termErr : Int            -- 0.1%
  swingErr : Int           -- 0.1%
  ofsRes : Nat             -- 1/100 LSB
  gainRes : Nat            -- 0.01%
  skewRes : Nat            -- fs rms
  spur : Nat               -- dB below the tone
  piOk : Bool
  trim : Trim
  ical : List IcalEst      -- 64 entries
  deriving DecidableEq, Repr

/-- The quality figures of an epoch: SKEW_RES in fs, SPUR in dB, EYE_W in 1/128 UI, OFS_RES and GAIN_RES. -/
structure BgStats where
  skewRes : Nat := 0
  spur : Nat := 0
  eyeW : Nat := 0
  ofsRes : Nat := 0
  gainRes : Nat := 0
  est : List IcalEst := []
  deriving DecidableEq, Repr

/-- A calibration run whose results wait for the frame boundaries of the two sides (R84). -/
structure CalPend where
  steps : Nat
  bad : Nat
  res : CalResult
  deriving DecidableEq, Repr

/-- What a lane's converters and frame counters hold beside their registers. -/
structure LineSt where
  pllOn : Bool := false             -- started by the first accepted FEC_PROFILE change (R71, R149)
  pllEver : Bool := false           -- the PLL has locked once, so the signal detector runs (R71)
  realign : Bool := false           -- the next receive frame boundary ends the epoch: the tracker has realigned (R107)
  txHeld : Bool := false            -- the counter of the side has started and has met no boundary yet, so EPOCH values that waited
  rxHeld : Bool := false            -- come into force at its first frame boundary (R13)
  txRun : Bool := false             -- transmit frame counter
  txCnt : Nat := 0
  txEpochs : Nat := 0
  rxRun : Bool := false             -- receive frame counter
  rxCnt : Nat := 0
  rxEpochs : Nat := 0
  classTx : Nat := 1                -- FE_CLASS in force on each side
  classRx : Nat := 1
  bandTx : Nat := 0                 -- temperature band in force on each side (R86)
  bandRx : Nat := 0
  preset : Preset := {}             -- timing margins in force
  trim : Trim := {}
  calSteps : Nat := 0               -- steps of the run in progress
  calRx : Option CalPend := none    -- receive corrections waiting for the receive frame boundary
  calTx : Option CalPend := none
  bgPend : Option (List IcalEst) := none   -- correction set waiting for the receive epoch boundary (R82)
  bgBadCnt : Nat := 0
  steer : Int := 0                  -- steered offset of the transmit frequency at `steerAt`, in 1e-14 (R74)
  steerAt : Nat := 0
  steerSlew : Bool := false         -- steering has resumed and is still slewing to its target
  deriving DecidableEq, Repr

/-! ### The receive chain (R93 to R118) -/

/-- What a lane's well holds of its sample streams: the baseline estimates (R94), the timing loop (R96), what the receive pumps
delivered for the last frame (R43, R93), and the transmit frame with the DAC codes of the one before it (R43, R68). -/
structure SigSt where
  est : List Int := []           -- sums of 256 samples, newest first, at most 32
  part : List Int := []          -- the samples since the last complete estimate, newest first
  hist : List Int := []          -- the last samples before the frame, newest first
  trecI : Int := 0               -- the loop's integrator and phase, in 2^-32 of 1/128 UI (R96)
  trecPhi : Int := 0
  pos : Int := 0                 -- the interpolator's place in 1/128 UI, wraps included (R77)
  x : List Int := []             -- restored samples of the last receive frame
  y : List Int := []             -- equaliser outputs
  dec : List (Option Nat) := []  -- decided level indices; none in an erased block
  decPrev : List (Option Nat) := []   -- the last 127 of the frame before
  llr : List Int := []           -- LLRs, two per symbol (R102)
  nSamp : Nat := 0               -- samples of the receive epoch so far, and those over range (R70)
  nOver : Nat := 0
  ical : Nat := 0                -- blocks that pz_ical has gathered in the epoch (R82, R109)
  sent : List Nat := []          -- level indices of the last transmit frame
  before : List Nat := []        -- the last seven symbols before it, newest first
  dac : List Nat := []           -- DAC codes of that frame (R68)
  deriving DecidableEq, Repr

/-- What the well controller's receive chain holds beside its registers. Coefficients are in units of 1/16,384 (R97). -/
structure RxSt where
  c16 : List Int := []
  pend : Option (List Int) := none
  lastGood : Option (List Int) := none
  sums : Option AdaptSums := none   -- the sums pz_adapt works on in this epoch
  adaptRun : Bool := false
  figures : Option (Nat × Nat) := none   -- FOM and ERR_RMS waiting for the epoch boundary
  skip : Bool := true               -- this epoch is skipped so far
  useInit : Bool := true            -- the next attempt starts from the initial set
  epochs : Nat := 0                 -- epochs in ADAPT
  lowFom : Nat := 0
  trecGood : Nat := 0
  trecBad : Nat := 0
  unlocked : Nat := 0               -- consecutive frames without TREC_LOCK
  fomHist : List Nat := []
  restartPend : Bool := false       -- RESTART written (R117)
  startPend : Bool := false         -- loss of lock: acquisition at the next receive frame boundary (R113)
  thr : List Int := [-128, 0, 128]  -- Spring thresholds in force (R103)
  thrPend : Option (List Int) := none
  effort : Nat := 100               -- throttle effort in force (R109)
  taps : Nat := 3                   -- FFE_TAPS in force
  deriving DecidableEq, Repr

/-! ### Line framing and the inner code (R148 to R172) -/

/-- A decoder core in its window, with the settings it started under (R160, R161). -/
structure DecWin where
  lane : Nat
  frames : List Nat := []    -- the lanes' receive frames of the codeword, its number there, and how many payload bits of the
  idx : Nat := 0             -- frame carry host data on each lane (R154)
  carried : Nat := 122880
  llr : List Int
  cap : Nat
  etEn : Bool
  etMin : Nat
  etThresh : Nat
  norm : Nat
  deriving DecidableEq, Repr

/-- A codeword as it leaves the decoder: converged or not, its bits, and the magnitudes of its posteriors (R161, R165). -/
structure CwOut where
  conv : Bool
  bits : List Bool
  post : List Nat
  deriving DecidableEq, Repr

/-- A codeword that has left the decoder, by its receive frame and its number there. -/
structure CwDone where
  frame : Nat
  idx : Nat
  out : CwOut
  deriving DecidableEq, Repr

/-- A received payload bit, with the posterior's magnitude when it comes from a codeword that did not converge (R165). -/
structure PayBit where
  bit : Bool
  weak : Option Nat := none
  deriving DecidableEq, Repr

/-- Data of a lane's stream that is to be poisoned (R166): the KP4 codeword `cw`, counted from the place `base` of the stream, or with `whole`
the `cw`-th block of 5,440 bits of the stream. -/
structure PMark where
  base : Nat
  cw : Nat
  whole : Bool
  deriving DecidableEq, Repr

/-- What the frame tracker, the framer and the decoder of a lane hold beside their registers. -/
structure FrmSt where
  confirm : Nat := 0
  hdrPos : Nat := 0              -- where CONFIRM expects the header among the decided symbols
  misses : Nat := 0
  fcnt : Option Nat := none      -- FCNT of the last frame in LOCK
  tmf : Bool := false            -- the last header marked its frame (R151, R156)
  txBuf : List Bool := []        -- justification buffer, oldest bit first (R154)
  bPrev : Option Nat := none     -- host bits carried by the frame in transmission
  prbs : Nat := 0x7FFFFFFF       -- the generator of the PRBS31 fill toward the line (R184)
  jMin : Nat := 255              -- over the transmit epoch so far
  jMax : Nat := 0
  iterSum : Nat := 0             -- over the receive epoch so far
  iterCnt : Nat := 0
  iterMax : Nat := 0
  stdLock : Bool := false        -- Standard: the inner decoder has codeword lock
  frameNo : Nat := 0             -- receive frames so far
  cwNext : Nat := 0              -- number of the next codeword of the last received frame
  outs : List CwDone := []       -- codewords of the last two receive frames that have left the decoder
  oct : List PayBit := []        -- payload that waits for outer-code termination (R165)
  octNext : Nat := 0             -- codeword of the waiting group that termination takes next
  rxPos : Nat := 0               -- bits that passed the poison point in each direction (R166)
  txPos : Nat := 0
  rxRestart : Option Nat := none -- the decoder or encoder pipe restarts at the side's next frame boundary, with so many KP4 codewords
  txRestart : Option Nat := none -- in it to be poisoned (R35)
  rxBase : Nat := 0              -- the place in each direction's stream from which its monitor counts KP4 codewords (R186)
  txBase : Nat := 0
  rxMarks : List PMark := []     -- what is to be poisoned of each direction's stream
  txMarks : List PMark := []
  rxSeen : List (Option Bool) := []   -- bits that each direction's monitor has seen since its lock and not decoded yet (R185); none for
  txSeen : List (Option Bool) := []   -- a bit of an erased symbol
  deriving DecidableEq, Repr

/-- What a read of a 64-bit word finds: nothing, a single-bit error, or an uncorrectable first attempt whose retry succeeds or fails; `hard`
where the correctable error recurs on the re-read that follows its write-back (R259, R261). -/
inductive CisFault where
  | none
  | single (hard : Bool)
  | uncorr (retryOk : Bool) (hard : Bool := false)
  deriving DecidableEq, Repr

/-- What a lane's converter and its host side bring to a frame boundary: the ADC codes of the receive frame that ends, in order, with
the first codes after it that its last block's span takes in (R43), or the bits that arrived at each physical host lane during the
transmit frame that ends, lane 0 first (R154, R174); the places at which SIG_DET changed; and for an epoch boundary what the reads of atlas
entries find in the epoch's stream. -/
structure FrameData where
  samples : List Nat := []
  ahead : List Nat := []
  host : List (List Bool) := []
  cuts : List Nat := []
  atlasUe : List (Nat × CisFault) := []
  deriving DecidableEq, Repr

/-! ### The seep channel (R191 to R219) -/

/-- A seep message (R205); `payload` is its bytes. -/
structure SMsg where
  dst : Nat
  hops : Nat
  src : Nat
  rc : Nat
  mtype : Nat
  tid : Nat
  payload : List Nat
  deriving DecidableEq, Repr

/-- A queued message: its class of R209, the cells already sent, the cells there are, and for a reply the number of
transmit frames until its deadline frame (R217). -/
structure QMsg where
  cls : Nat
  msg : SMsg
  sent : Nat := 0
  due : Option Nat := none
  again : Nat := 0                   -- its cells before this one have been queued again after a restart (R217)
  deriving DecidableEq, Repr

/-- A PD_BULK segment as it is sent or received (R211); `low` says that it came in Seep-L, whose frames carry none of the others
(R141, R197). -/
structure Seg where
  seg : Nat
  upd : Nat
  frag : Nat
  data : Nat
  low : Bool := false
  frames : Option Nat := some 0      -- transmit frames begun since its frame ended; none once its update is answered TIMEOUT (R210)
  deriving DecidableEq, Repr

/-- The transmit frame in progress: what a restart or a change of mode queues again (R194, R217). -/
inductive SFrame where
  | none | idle
  | cells (l : List QMsg)       -- each cell's message, with its cell index in `sent`
  | bulk (g : Seg)
  deriving DecidableEq, Repr

/-- A request that K2 serves, waiting for its reply's deadline frame (R210). `reply` is the prepared reply: its code and
payload. -/
structure SReq where
  lane : Nat
  mtype : Nat
  src : Nat
  dst : Nat
  tid : Nat
  frames : Nat                        -- transmit frames of the lane begun since the request's frame ended
  reply : Option (Nat × List Nat) := none
  deriving DecidableEq, Repr

/-- A received seep frame as the demodulator finds it: whether a training was found, its place in resampler outputs from the expected one,
its mode, for each sub-carrier the correlation with every candidate tag value in 0.25 dB, whether the training holds an unsettled output,
and which data symbols do (R196, R202, R203). The responses' coefficients are not in the spec: what they yield comes with the command
(notes/assumptions/148.md). -/
structure SRxFrame where
  found : Bool
  modeL : Bool
  place : Int := 0
  corr : List (List Nat)
  unsettled : Bool
  loose : List Nat := []
  deriving DecidableEq, Repr

/-- What the equalised symbols of a seep frame give (R203): for each sub-carrier and data symbol the distance to the reference waveform of
each label, in the scale of the LLRs; and for each sub-carrier Σ|z − g·ref|² and Σ|g·ref|² over the training, and over the data symbols. -/
structure SDemod where
  dist : List (List (List Nat))
  train : List (Nat × Nat) := []
  data : List (Nat × Nat) := []
  deriving DecidableEq, Repr

/-- The first stages of a seep receive chain (R44, R200): the samples of a sum not yet complete, the integrators and combs of the
fifth-order CIC with its count of 64, and its outputs during the last line frame. -/
structure Tee where
  part : List Int := []
  int : List Int := [0, 0, 0, 0, 0]
  comb : List Int := [0, 0, 0, 0, 0]
  cnt : Nat := 0
  out : List Int := []
  deriving DecidableEq, Repr

/-- One lane of the seep channel beside its registers. -/
structure SeepLane where
  q : List QMsg := []
  cur : SFrame := .none
  fseq : Nat := 0
  msgRun : Nat := 0                  -- consecutive MSG frames with an update pending
  gotFrame : Bool := false           -- a valid frame has been received
  missed : Nat := 0                  -- consecutive expected frames without an accepted tag
  rxTag : Option (Bool × Nat) := none   -- mode and tag of the frame being received
  loose : List Nat := []                -- its unsettled data symbols (R202)
  labels : List (List Nat) := []        -- symbol labels of the frame in transmission, one list per sub-carrier (R195)
  startAt : Nat := 0                    -- when that frame started
  phase : List Nat := []                -- phase of each sub-carrier's modulation before the symbols below, in 2^-32 turns (R193)
  tail : List (List Int) := []          -- the last symbols of the frame before, in quarter turns
  tee : Tee := {}
  asm : Option (List Nat × Nat) := none -- bytes and next FRAG of the message being received
  inbox : List SMsg := []
  inFrames : List (Option Nat) := [] -- for each message of the inbox: transmit frames begun since its frame ended; none once it is
                                     -- answered TIMEOUT (R210)
  segs : List Seg := []
  compact : Bool := false            -- FORMAT of the update that comes in
  deriving DecidableEq, Repr

/-- The seep block beside its registers. -/
structure SeepSt where
  reqs : List SReq := []
  gwTx : Vector Word 64 := Vector.replicate 64 0
  gwRx : List SMsg := []
  gwReqs : List (Nat × Nat × Nat) := []   -- reply type, node and TID of gateway requests not answered yet
  evLast : Nat := 0                  -- doorbells (bits 0 to 31) and FULL (bit 32) already announced (R213)
  evFrames : Nat := 0                -- transmit frames of the EVENT lane since the last EVENT
  deriving DecidableEq, Repr

/-! ### The pattern atlas and pre-distortion (R119 to R147) -/

/-- An atlas entry (R120). -/
structure AEntry where
  mean : Int := 0
  spread : Nat := 0
  count : Nat := 0
  deriving DecidableEq, Repr

/-- An entry in the write-combining cache (R125). -/
structure ACache where
  idx : Nat
  e : AEntry
  dirty : Bool
  deriving DecidableEq, Repr

/-- A miss slot with the updates that wait in it (R125). -/
structure AMiss where
  idx : Nat
  waiting : List Int
  deriving DecidableEq, Repr

/-- One record of a PD_UPDATE (R131). -/
structure PdRec where
  delta : Int
  r : Int
  spread : Nat
  w : Nat
  deriving DecidableEq, Repr

/-- The results of a distillation run (R128, R129). `det` is none when every entry is thin. -/
structure DistResult where
  det : Option (List Nat)
  thin : Nat
  sRef : Nat
  recs : List PdRec
  resid : Nat
  deriving DecidableEq, Repr

/-- A distillation run in progress (R127): the targets at its start, the entries streamed so far, and its results. -/
structure DistRun where
  h1 : Nat
  h2 : Nat
  canSend : Bool                 -- its period began after PD_SETTLE settle periods (R134)
  stream : List (Nat × AEntry) := []
  result : Option DistResult := none
  deriving DecidableEq, Repr

/-- An update in transport (R131, R132). -/
structure PdTx where
  upd : Nat
  ext : Nat                      -- the 16-bit header extension of R211
  segs : Nat                     -- 80 or 16
  stream : Nat                   -- the record bits
  next : Nat := 0
  periods : Nat := 0
  deriving DecidableEq, Repr

/-- An update being received (R133). -/
structure PdRx where
  upd : Nat
  ext : Nat := 0
  next : Nat := 0
  stream : Nat := 0
  idle : Nat := 0
  deriving DecidableEq, Repr

/-- Where a training run stands (R140). -/
inductive TrainPhase where
  | preset | base | step | trial | revert
  deriving DecidableEq, Repr

/-- A training run in progress (R140). -/
structure TrainRun where
  phase : TrainPhase := .preset
  pass : Nat := 0
  i : Nat := 0
  up : Bool := true
  moved : Bool := false
  kept : Nat := 0
  waiting : Bool := true         -- a TAP_STATUS is awaited
  tid : Nat := 0                 -- TID of the request
  frames : Nat := 0              -- seep frames since the request
  skip : Nat := 0                -- epochs still to skip
  left : Nat := 0                -- epochs still to measure
  sum : Nat := 0
  cnt : Nat := 0
  bSum : Nat := 0                -- the base, as a sum over bCnt epochs
  bCnt : Nat := 1
  deriving DecidableEq, Repr

/-- A picked sample that waits for the corrected decisions of its context (R122): its receive frame and its place there, the sample
in 1/16 of its unit, and whether its block was erased. -/
structure Held where
  frame : Nat
  pos : Nat
  y : Int
  erased : Bool
  deriving DecidableEq, Repr

/-- One lane of the atlas engine beside its registers. -/
structure AtlasSt where
  cache : List ACache := []      -- most recently used first
  misses : List AMiss := []
  held : List Held := []         -- oldest first
  pick : Nat := 0                -- symbols from the start of the last receive frame to the next pick (R122)
  resume : Bool := false         -- unfrozen, learning from the next receive epoch boundary
  effort : Nat := 100            -- effort in force for the sampling interval (R126)
  run : Option DistRun := none
  det : Option (List Nat) := none
  pd : List (Nat × Nat) := []    -- transmit table in force: words that differ from 0x8000
  pdPend : List (Nat × Nat) := []
  pdDue : Bool := false          -- a received update waits for its boundary (R133)
  farR : List (Nat × Nat) := []
  farSpread : List (Nat × Nat) := []
  farW : List (Nat × Nat) := []
  settle : Option Nat := none    -- complete settle periods since the last event of R134
  whole : Bool := false          -- the period in progress began after that event
  updNext : Nat := 1
  tx : Option PdTx := none
  ackWait : Option Nat := none   -- Seep-A frames since the last record of an unacknowledged update
  rx : Option PdRx := none
  reject : Option Nat := none    -- update number whose remaining segments are ignored
  train : Option TrainRun := none
  rd : Option Nat := none        -- coherent read in progress
  deriving DecidableEq, Repr

/-! ### Host lanes and outer-code monitors (R173 to R190) -/

/-- A coefficient request on a host link (R180): a preset, a step of one tap c−3 to c+2, or hold. -/
inductive CoefReq where
  | preset (p : Nat)
  | step (tap : Fin 6) (up : Bool)
  | hold
  deriving DecidableEq, Repr

/-- A status response to a coefficient request (R180, R182). -/
inductive CoefStatus where
  | updated | maximum | minimum | hold
  deriving DecidableEq, Repr

/-- The local search against the host's transmitter (R181). -/
structure HostTrain where
  phase : TrainPhase := .preset
  pass : Nat := 0
  i : Nat := 0
  up : Bool := true
  moved : Bool := false
  kept : Nat := 0
  bSum : Nat := 0
  bCnt : Nat := 1
  ready : Bool := false          -- the local receiver has signalled ready
  deriving DecidableEq, Repr

/-- One physical host lane beside its registers; the taps in force are the aliases of HOST_LN_TXFIR0 and TXFIR1. -/
structure HostLane where
  skip : Bool := false           -- the lane returns to ACTIVE without training (R179, R183)
  train : Option HostTrain := none
  req : Option CoefReq := none   -- the request last sent to the host
  resp : Option CoefStatus := none   -- the response last sent to the host (R182)
  measAt : Nat := 0              -- when FOM, the FFE taps and the PRBS31 errors were last brought up to date (R176, R189)
  txOfs : Int := 0               -- offset of the transmit frequency from nominal at `txAt`, in 1e-14 (R178)
  txAt : Nat := 0
  txSlew : Bool := false         -- tracking has resumed and slews
  txData : Bool := false         -- the transmitter has sent data since `txAt`
  deriving DecidableEq, Repr

/-- A KP4 monitor's running counters and marker counts (R186 to R188). -/
structure MonCnt where
  good : List Nat := [0, 0, 0, 0, 0, 0, 0, 0]   -- consecutive markers found, per lane of the port
  bad : List Nat := [0, 0, 0, 0, 0, 0, 0, 0]
  cw : Nat := 0
  uncorr : Nat := 0
  sym : Nat := 0
  bins : List Nat := [0, 0, 0, 0, 0, 0, 0, 0, 0, 0, 0, 0, 0, 0, 0, 0]
  win : Nat := 0
  winHigh : Nat := 0
  next : Nat := 0                -- the codeword of a group of four that the monitor decodes next
  deriving DecidableEq, Repr

/-- The host side beside its registers. -/
structure HostSt where
  lanes : Vector HostLane 8 := Vector.replicate 8 {}
  mon : Vector MonCnt 16 := Vector.replicate 16 {}   -- port p, direction d at 2p + d
  fill : Vector Bool 8 := Vector.replicate 8 false   -- line lane i carries PRBS31 fill for want of host data (R184)
  fail : Vector Bool 8 := Vector.replicate 8 false   -- logical lane i has no line data for the host (R184)
  level : Vector Int 8 := Vector.replicate 8 0   -- fill of the output buffer of line lane i's deframer about its middle, in 5e-9 bit (R155)
  out : Vector (List (Option Bool)) 8 := Vector.replicate 8 []   -- the bits that physical transmit lane h sent last (R174, R175);
                                                     -- none for a bit of an erased symbol (R164)
  deriving DecidableEq, Repr

/-! ### The time-of-day counters (R220) -/

/-- One time-of-day counter: 48-bit seconds, nanoseconds, and the fraction of a nanosecond in 1/2^52 ns. -/
structure Tod where
  sec : Nat := 0
  ns : Nat := 0
  frac : Nat := 0
  deriving DecidableEq, Repr

/-- What a well measures of a marked frame's header against the reference strobe of the present time (R21): the symbols from the strobe's
arrival to the header's first symbol, negative where the header comes first, the phase of the DAC clock in 1/128 UI at a transmitted
header, and the strobe's crossing time in ps. -/
structure Strobe where
  syms : Int
  phase : Nat
  cross : Nat
  deriving DecidableEq, Repr

/-- A timestamp of a marked frame or a Seep-L frame: its FCNT or FSEQ, the time in 2^-16 ns of counter A, and whether the
frame tracker was in LOCK (R230, R232, R234). -/
structure Mark where
  fcnt : Nat
  t : Int
  lock : Bool := true
  deriving DecidableEq, Repr

/-- How a no-majority arises (R225): both counters fail parity, or a counter, B if `isB`, takes another value with both
intact; a disagreement may fall in the cycle of a step. -/
inductive NoMaj where
  | bothFail
  | differ (isB : Bool) (v : Tod)
  | inStep
  deriving DecidableEq, Repr

/-- What the device has heard of a measurement's source (R231, R237). -/
inductive MeasKind where
  | line | seepL | pps
  deriving DecidableEq, Repr

/-- The oscillator model that the predictions of a holdover use (R238, R240): a fit is accepted, c0 to c3, s and a in 1e-18, t_fit, the
rms residual, and the range of T in the fit's records. -/
structure HoFit where
  fitted : Bool := false
  coefs : List Int := [0, 0, 0, 0, 0, 0]
  tFit : Int := 0
  rms : Nat := 0
  tMin : Int := 0
  tMax : Int := 0
  deriving DecidableEq, Repr

/-- A record of the ledger: seconds, T in 0.001 °C, dT/dt in µ°C/s, y_osc in 1e-18, and the servo's state (R238, R239). -/
structure LedgerRec where
  sec : Nat
  t : Int
  d : Int
  y : Int
  state : Nat := 2
  deriving DecidableEq, Repr

/-- The time-transfer unit beside its registers. Frequencies are in 1e-15, counter amounts in 2^-52 ns. -/
structure TodSt where
  a : Tod := {}
  b : Tod := {}
  freq : Int := 0                -- FREQ_ADJ in force
  man : Int := 0                 -- the manual value in force (R221)
  slew : Int := 0                -- the servo's slew term (R237)
  slewLeft : Int := 0            -- what a slew has still to correct
  slewRate : Nat := 0            -- magnitude of the slew's term
  part : Nat := 0                -- cycles of a REFCLK cycle in S4 that the counters have not taken yet (R244)
  first : Bool := false          -- no measurement accepted yet in this ACQUIRE
  held : Bool := false           -- validity is held through this ACQUIRE (R236)
  theta : Int := 0               -- last θ, in 2^-17 ps
  good : Nat := 0                -- consecutive accepted measurements of one kind within LOCK_THRESH
  measAt : Nat := 0              -- when the last measurement was accepted (R236)
  outliers : Nat := 0            -- consecutive outliers
  srcValid : Bool := true        -- the source's VALID, as last heard (R236)
  seq : Nat := 0
  lastMark : Nat := 0            -- seconds × 16 + sixteenth of the last marking instant taken
  tmfDue : Option Nat := none    -- FCNT of the transmit frame of TT_LANE that is to carry the flag (R229)
  txMarks : List Mark := []
  rxMarks : List Mark := []
  exch : Option Nat := none      -- FCNT of this interval's marked frame while its exchange is not complete
  lTx : List Mark := []
  lRx : List Mark := []
  exchL : Option Int := none     -- when the Seep-L exchange that is not complete yet began (R234)
  lInt : Option Nat := none      -- the 4 s interval of the last TT_L sent
  ppsSec : Option (Nat × Nat) := none   -- the seconds that label the last labelled PPS_IN edge, and when it was (R247)
  ppsAt : Option Nat := none     -- when the last PPS_IN edge was accepted
  uncFine : Nat := 0             -- TOD_UNC below one nanosecond, in 1e-16 ns
  ringPeriod : Nat := 0          -- calibrated period of the ring oscillator
  refBack : Bool := false        -- REFCLK is back and being timed for stability
  ppsHigh : Bool := false        -- level of PPS_OUT
  ppsOfs : Int := 0              -- displacement of its last rise from the wrap, ps, and its pulse's width, ms (R248)
  ppsWidth : Nat := 0
  txMsg : List Nat := []         -- the last TOD_TX message
  pathTx : Vector Nat 8 := Vector.replicate 8 0   -- analogue path delays in force, ps (R227)
  pathRx : Vector Nat 8 := Vector.replicate 8 0
  osc : List (Nat × Int × Int) := []   -- samples in LOCKED: when, T in 0.01 °C and FREQ_ADJ, newest first (R238)
  temps : List (Nat × Int) := []   -- when and T, newest first (R238, R240)
  coefs : List Int := [0, 0, 0, 0, 0, 0]   -- c0 to c3, s and a, in 1e-18
  tFit : Int := 0
  fitRms : Nat := 0              -- 1e-18
  tMin : Int := 0                -- range of T in the fit's records, 0.001 °C
  tMax : Int := 0
  fixed : HoFit := {}            -- what K2 fixed on entry to HOLDOVER (R240)
  fixedFreq : Int := 0           -- FREQ_ADJ on entry to HOLDOVER or FREERUN (R240)
  recN : Nat := 0                -- index of the next record, not wrapped, and of the first since the ledger was seeded
  recBase : Nat := 0
  recHeld : List LedgerRec := [] -- records that K2 holds through S3 and S4, oldest first (R331)
  readGood : Nat := 0            -- PPS readbacks within SG2_LIMIT since the trip's condition ended (R361)
  deriving DecidableEq, Repr

/-! ### The cistern (R254 to R273) -/

/-- Who reads or writes the cistern, beside the origins of the register fabric (R260). -/
inductive CisReq where
  | bus (o : Origin)
  | pumpDma (n : Fin 8) (m : Fin 64)
  | atlas (n : Fin 8)
  | mirror
  | bucket
  deriving DecidableEq, Repr

/-- An access that requests the cistern: who, where, how many bytes, the value of a write, what a read finds, and how long it has
waited in units of 0.2 ns (R26). -/
structure CisAccess where
  q : CisReq
  a : Nat
  k : Nat
  w : Option Nat := none
  f : CisFault := .none
  waited : Nat := 0
  deriving DecidableEq, Repr

/-- A merge-buffer entry: the line's number (address / 32) and its written bytes as a mask (R263). The bytes themselves
are in memory already: a read returns the latest write (R256). -/
structure MergeEntry where
  line : Nat
  mask : Nat
  deriving DecidableEq, Repr

/-- A captured segment in a capture buffer: its header bytes and its samples (R269, R270). -/
structure CapBuf where
  header : List Nat
  samples : List Nat
  deriving DecidableEq, Repr

/-- A capture in progress. -/
structure Capture where
  lane : Nat
  marked : Bool            -- TRIGGER in force
  nextDue : Option Nat := none   -- receive frame count of the next segment; none until the trigger
  taken : Nat := 0         -- segments that went into a buffer
  gap : Bool := false
  ending : Bool := false   -- ABORT written
  deriving DecidableEq, Repr

/-- The cistern controller beside its registers and its bytes. -/
structure CisSt where
  merge : List MergeEntry := []      -- oldest first
  badSpares : List Nat := []         -- spare lines that developed a fault themselves (R261)
  poison : List Nat := []            -- word numbers (address / 8) marked known-bad
  burst : List Nat := []             -- times of the uncorrectable first attempts of the last millisecond
  lapStart : Nat := 0
  lapPaused : Nat := 0               -- time of the lap before the present self-refresh
  capture : Option Capture := none
  bufs : List CapBuf := []           -- at most two, oldest first
  capEffort : Nat := 100
  engAt : Nat := 0                   -- line at which the background engine's lap began
  engWork : Nat := 0                 -- what it has walked until engTime, in 1e-4 of a line
  engTime : Nat := 0
  zeroMirror : Bool := false
  stalled : List CisAccess := []     -- accesses of requesters inside the device that wait for the end of a retrain (R36)
  deriving DecidableEq, Repr

/-- A bin of the band table (R239): mean and spread in 1e-18, and its count. -/
structure Bin where
  mean : Int
  spread : Nat
  cnt : Nat
  day : Nat := 0
  deriving DecidableEq, Repr

/-! ### Start-up and images (R274 to R297) -/

/-- A word of the fuses (the five groups of *Fuses*): the lifecycle word, the key hash, the VDD_CORE offset TRIM, the
sensor, converter and path-delay trims, the repair records and the device identity. -/
inductive FuseWord where
  | lifecycle | key | avs
  | sensor (k : Fin 36)
  | conv (n : Fin 8)
  | path (n : Fin 8)
  | repair (k : Fin 32)
  | ident
  deriving DecidableEq, Repr

/-- A copy of a fuse word that does not read as burnt: it reads another value with intact parity, or fails parity (none). -/
structure FuseFault where
  fword : FuseWord
  copy : Fin 3
  val : Option Nat
  deriving DecidableEq, Repr

/-- The fuses as burnt. Lifecycle copies are burnt one at a time (R402); every other word's three copies are equal. -/
structure FuseSt where
  lc : Vector Nat 3 := Vector.replicate 3 0
  key : Nat := 0
  avs : Nat := 0
  ident : Nat := 0
  repairs : List RepairRec := []
  noPath : Nat := 0          -- bit n: a path-delay word of lane n has no majority (R278)
  conv : Vector Nat 8 := Vector.replicate 8 0   -- converter trims of each lane
  identEff : Nat := 0        -- the identity as the last cold start resolved it; 0 without a majority
  noConv : Nat := 0          -- bit n: a converter trim word of lane n has no majority
  keyEff : Option Nat := none   -- the key hash as the last cold start resolved it; none without a majority
  deriving DecidableEq, Repr

/-- The fields of an intact directory copy of the NVM (R280). -/
structure Dir where
  seq : Nat
  lenA : Nat
  lenB : Nat
  deriving DecidableEq, Repr

/-- A CONFIG record (R286). -/
structure CfgRec where
  addr : Nat
  value : Nat
  ctl : Nat
  deriving DecidableEq, Repr

/-- A PERM window record as its four words (R314). -/
structure PermWin where
  w0 : Nat
  base : Nat
  limit : Nat
  w3 : Nat
  deriving DecidableEq, Repr

/-- A port's part of the PERM group record as its two words: CLAIM and FORCE, and OWN (R314). -/
structure PermGrp where
  w0 : Nat
  w1 : Nat
  deriving DecidableEq, Repr

/-- A PERM section (R314). -/
structure PermSec where
  wins : List PermWin := []
  grps : Vector PermGrp 3 := Vector.replicate 3 { w0 := 0, w1 := 0 }
  deriving DecidableEq, Repr

/-- An image as the device reads it (R282, R285): the header's fields, the hash of its public key, whether its signature
and its body digest are correct, and its sections; HOLDOVER as its bytes. -/
structure Image where
  marker : Nat
  format : Nat
  chipId : Nat
  minRev : Nat
  seq : Nat
  length : Nat
  sects : List (Nat × Nat × Nat) := []      -- TYPE, OFFSET, SIZE of the first SECT_COUNT entries
  sectCount : Nat
  digest : Nat
  pubHash : Nat
  sigOk : Bool
  bodyOk : Bool
  config : List CfgRec := []
  perm : Option PermSec := none
  pump : PumpSection := {}
  filter : List (Nat × Nat × Nat) := []     -- lane, SEEP_LN_FILT0, SEEP_LN_FILT1
  holdover : Option (List Nat) := none
  repair : List RepairRec := []
  deriving DecidableEq, Repr

/-- A monitor-ADC self-calibration's result (R395): factors of both modes and the quality figures, in 1/100 LSB and 0.01%. -/
structure MonCalRes where
  ofs : Int
  gain : Nat
  ofsLp : Int
  gainLp : Nat
  ofsRes : Nat
  gainRes : Nat
  deriving DecidableEq, Repr

/-- What a cold start meets outside the device: the fuses' faulty copies, the cistern's training, the NVM, the
calibrations, and the CONFIG records whose awaited apply point came within 10 ms (R286). -/
structure BootData where
  fuses : List FuseFault := []
  trainOk : Bool := true
  rext : Nat := 0              -- the reference resistor as it is measured (R81), 0.1 Ω
  vrefExt : Bool := false      -- the external voltage reference is present
  dir0 : List Nat              -- the 64 bytes of each directory copy (R280)
  dir1 : List Nat
  imgA : Option (List (Nat × Nat)) := none   -- each image copy's bytes that are not 0, by offset (R279, R282)
  imgB : Option (List (Nat × Nat)) := none
  mon : Option MonCalRes := none
  cal : Vector CalResult 8
  waitsMet : List Nat := []
  k0Faults : List (Nat × BlockMech) := []      -- faults of K0 and the step in which each comes (R331)
  deriving DecidableEq, Repr

/-- An update switch-over beside its registers (R292 to R294). -/
structure UpdSt where
  img : Option Image := none     -- the image that it switches to
  keeper : Option Nat := none    -- the pair being switched
  updated : List Nat := []       -- pairs that run the new firmware, latest first
  rollback : Bool := false       -- pairs are being switched back
  wells : Nat := 0               -- wells that loaded a bank in step 2 and have not switched yet
  banks : Nat := 0               -- bit n: the bank that well n loaded
  reqd : Nat := 0                -- wells whose switch has been requested once more already
  cfg : List (CfgRec × Nat) := []  -- CONFIG records of the tail that are left, the first written and awaited
  since : Nat := 0                 -- when it was written
  deriving DecidableEq, Repr

/-- Start-up and images beside their registers: the permissions in force, the verified staged image, and the switch-over. -/
structure BootSt where
  perm : PermSec := {}
  staged : Option Image := none
  upd : UpdSt := {}
  recover : Bool := false    -- SWITCH was written in BOOT_FAIL with a verified image (R289)
  deriving DecidableEq, Repr

/-! ### Host ports and mailboxes (R298 to R329) -/

/-- Where SPI_CS_N rises in a Port S frame (R302): before the frame status has ended, in a turnaround or the status byte behind a complete
data word, or in a data word. -/
inductive AbortAt where
  | head | gap | word
  deriving DecidableEq, Repr

/-- A word in a write queue: its address, its data, and whether a group write brought it (R301, R305). -/
structure Posted where
  addr : Nat
  data : Nat
  group : Bool := false
  deriving DecidableEq, Repr

/-- The front ends of Port S and Port I beside their registers. -/
structure PortSt where
  qS : List Posted := []
  qI : List Posted := []
  grantTo : Option Origin := none   -- who received the fabric's last grant, and how many in a row while another waited (R27)
  grantRun : Nat := 0
  frame : Code := .ok            -- status of the last Port S frame
  nack : Bool := false           -- the last Port I transfer's address header was NACKed
  dyn : Option Nat := none       -- dynamic address of Port I
  pid : Option (Nat × Nat) := none -- part ID and instance field of the provisional ID last sent (R303)
  ptr : Nat := 0                 -- read pointer of Port I
  ibiEn : Bool := false          -- ENEC
  ibiDue : Bool := false         -- an in-band interrupt is to be sent
  ibiRetry : Bool := false       -- the last one was NACKed or lost arbitration
  ibiAcc : Nat := 0              -- causes at the last acceptance
  ibiByte : Nat := 0             -- mandatory data byte of the last in-band interrupt
  deriving DecidableEq, Repr

/-- A mailbox reply (R322): the control word's fields and the sixteen data words. -/
structure Reply where
  len : Nat
  opcode : Nat
  tag : Nat
  words : List Nat
  deriving DecidableEq, Repr

/-- A port's mailboxes beside their registers: the inbound words and the replies that wait. The outbound words are the
DATA registers as the host reads them. -/
structure Mbx where
  inb : Vector Word 16 := Vector.replicate 16 0
  queue : List Reply := []
  deriving DecidableEq, Repr

/-! ### Keepers and the interrupt controller (R330 to R341) -/

/-- A keeper pair and its interface beside their registers. -/
structure KeeperSt where
  stack : List (Nat × Nat) := []   -- priority and ID, top first
  svc : List Nat := []             -- sources in service on the pair
  seen : Bool := false             -- the request has been asserted since the last claim or end-of-interrupt
  down : Bool := false             -- the pair is being reset after a fault
  halted : Bool := false           -- halted through Port J (R405)
  kickAt : Nat := 0                -- when its watchdog was last kicked or restarted
  kicked : Bool := false           -- it has been kicked since it was restarted
  mode : Word := 0xF1              -- KIC_MODE as saved at sleep entry (R339)
  fw : Option Nat := none          -- the slot whose firmware it runs; none before step 8 of the cold start (R285, R293)
  deriving DecidableEq, Repr

/-- Why a keeper faults (R332). -/
inductive KeeperCause where
  | mismatch | watchdog | memory
  deriving DecidableEq, Repr

/-- The keeper interrupt controller and the keepers. -/
structure KicSt where
  k : Vector KeeperSt 3 := Vector.replicate 3 {}
  mismatch : List Nat := []        -- times of lockstep mismatches of the last reset window
  errSaved : Nat := 0              -- EOI_ERR as saved at sleep entry
  deriving DecidableEq, Repr

/-! ### Power states (R342 to R358) -/

/-- A wake source with what the pin shows (R353). -/
inductive WakeSrc where
  | wakeN (low : Bool)
  | txdis
  | ltr
  | dpIdle
  | portF
  | doorbell (p : Fin 3)
  | pps
  deriving DecidableEq, Repr

/-- A register write by a host: the port and the address and data. -/
structure HostWrite where
  port : Fin 3
  addr : Nat
  data : Nat
  deriving DecidableEq, Repr

/-- An entry in progress (R350): its target and the blocks that still delay, each with the DELAYs it has answered. -/
structure Entry where
  target : Nat
  delays : List (Nat × Nat) := []
  deriving DecidableEq, Repr

/-- The power controller beside its registers. -/
structure PwrSt where
  entry : Option Entry := none
  commit : Bool := false           -- the commit window is open
  exiting : Bool := false          -- an exit sequence runs
  wakeN : Bool := true             -- level of WAKE_N
  txdis : Bool := true             -- TXDIS_N as sampled at step 5 of the entry
  raise : Bool := false            -- the request that awaits acknowledgement raises VDD_CORE
  held : Option (Nat × Nat × Nat × Nat) := none   -- a profile change that waits for a raise (R345): its three fields and
                                                  -- its poison count
  reqLevel : Nat := 0              -- level whose voltage is requested (R344)
  levels : Nat := 0                -- level wake sources asserted so far, as bits of PWR_WAKE_CAUSE (R353, R354)
  deriving DecidableEq, Repr

/-! ### Functional safety (R359 to R383) -/

/-- What a scan finds at a protected register (R369): the register's copy differs though intact, or fails its check; the
protected copy fails its check; both fail. -/
inductive CopyFault where
  | differs | regFails | protFails | bothFail
  deriving DecidableEq, Repr

/-- What a scan finds at one protected register (R369). -/
structure ScanFind where
  addr : Nat
  fault : CopyFault
  deriving DecidableEq, Repr

/-- What the journal holds after VDD_AON was below its window, when it is not guaranteed (R370): the number of the next entry
and the bytes. -/
structure AonLoss where
  next : Nat
  bytes : List (Nat × Nat)
  deriving DecidableEq, Repr

/-- What an SRAM patrol finds in a word (R375). -/
inductive PatrolFind where
  | clean
  | corrected
  | recurs
  | uncorrectable
  deriving DecidableEq, Repr

/-- The safety mechanisms beside their registers. -/
structure SafSt where
  sg1 : Vector (List Nat) 16 := Vector.replicate 16 []   -- times of parity errors, port p and direction d at 2p + d
  restored : List (Nat × Nat) := []   -- registers restored in the last scans, with the number of consecutive ones
  clean : Bool := false               -- the last scan found no mismatch
  chanB : Bool := false               -- the channel that the next path test takes
  clkBad : Nat := 0                   -- islands whose clock monitor has fired and not re-armed
  railSince : List (Nat × Nat) := []  -- rails out of their window, with the time at which each left
  railOk : Nat := 0                   -- when the last rail returned during a supply hold
  supplyHold : Bool := false
  rows : List (Nat × Nat) := []       -- memory rows that a spare row has replaced: instance and row (R375)
  mirror : Nat := 0                   -- number of the next entry to be mirrored
  jnlZero : Bool := false             -- the payloads have been zeroised, and the mirror is being cleared
  deriving DecidableEq, Repr

/-! ### Temperature and the monitor ADC (R384 to R398) -/

/-- The thermal controller beside its registers. -/
structure ThmSt where
  follow : Nat := 100              -- the value that follows the computed effort (R388)
  computed : Nat := 100
  coolSince : Option Nat := none   -- since when every valid sensor has read below 100 °C in a vent hold
  converting : Bool := false
  below : Nat := 0                 -- time with effort below 100% since THR_SECONDS last counted, in units of 0.2 ns
  lastSet : Nat := 0               -- when that time was last brought up to date
  deriving DecidableEq, Repr

/-- A converted sample: its code and its over-range flag (R391). -/
structure MonSample where
  code : Nat
  overs : Bool
  deriving DecidableEq, Repr

/-- The monitor ADC beside its registers: the settings in force for the scan in progress and its place in it (R392). -/
structure MonSt where
  scanning : Bool := false
  mask : Nat := 0
  lowPwr : Bool := false
  next : Nat := 0                  -- next channel number
  time : Nat := 0                  -- sample periods of the scan so far
  ch : List Word := []             -- MON_CH registers in force
  cal : Word := 0x80000            -- factors in force
  deriving DecidableEq, Repr

/-! ### Lifecycle, debug and boundary scan (R399 to R413) -/

/-- A Port J instruction (R410). -/
inductive JInstr where
  | bypass | idcode | sample | extest | clamp | highz | extestPulse | extestTrain
  deriving DecidableEq, Repr

/-- Security and debug beside their registers. -/
structure SecSt where
  want : Option (Nat × Nat) := none   -- level being opened, and by whom: 1 Port S, 2 Port J
  waits : Option Nat := none          -- a FULL request that waits for the wake it caused (R408)
  lcTarget : Nat := 0
  instr : JInstr := .idcode
  cells : List (Nat × Bool) := []     -- boundary cells that an Update-DR has set
  driven : Bool := false              -- the cells drive the balls
  deriving DecidableEq, Repr

end Sys2Proof.Machine
end

