-- ==== Sys2Proof/Syntax.lean ====
section
/-!
DEFINITION. The commands of the block: one constructor per row of spec/opcode_table.json, in its order, each with the row's
operands. A command that is "a write of X" carries its requester and what it writes; an event carries what the device does
not know by itself: what a pin shows, what a measurement gives, what a link brings.
-/
namespace Sys2Proof

open Machine

/-- A command of the block (R299 to R329 for accesses, the rule of each constructor for events). -/
inductive Instr where
  /-- REGISTER_WRITE (R307). -/
  | registerWrite (o : Origin) (a : Nat) (size : Nat) (w : Word)
  /-- FRAME_BOUNDARY (R12). -/
  | frameBoundary (n : Fin 8) (rx : Bool) (d : FrameData)
  /-- EPOCH_BOUNDARY (R28). -/
  | epochBoundary (n : Fin 8) (rx : Bool) (d : FrameData)
  /-- DISTILLATION_BOUNDARY (R130). -/
  | distillationBoundary (n : Fin 8) (d : FrameData)
  /-- CROSSING_FAULT (R20). -/
  | crossingFault (b : Block) (lanes : Nat) (tx : Bool) (poison : Nat)
  /-- PUMP_FAULT (R58). -/
  | pumpFault (n : Fin 8) (m : Fin 64) (c : PumpCause) (blk : Nat)
  /-- BLOCK_SLOT_END (R45). -/
  | blockSlotEnd (n : Fin 8) (m : Fin 64) (blk : Nat)
  /-- PUMP_TAKEOVER (R58). -/
  | pumpTakeover (n : Fin 8)
  /-- WELL_FAULT (R33). -/
  | wellFault (n : Fin 8) (mech : WellMech)
  /-- WELL_RESTART (R60). -/
  | wellRestart (n : Fin 8) (cw : Nat) (frames : Nat)
  /-- BLOCK_FAULT (R35). -/
  | blockFault (b : Block) (lanes : Nat) (tx : Bool) (poison : Nat) (quick : Bool)
  /-- LOCAL_REACTION_TIMEOUT (R33). -/
  | localReactionTimeout (b : Block)
  /-- REGION_FAULT (R36). -/
  | regionFault (r : Region) (block : Nat) (cause : Nat) (lanes : Nat) (sg : Nat)
  /-- REGION_REACTION_DONE (R36). -/
  | regionReactionDone (r : Region) (inTime : Bool)
  /-- FAULT_RELEASE (R38). -/
  | faultRelease (o : Origin)
  /-- RECIPE_LOAD (R53). -/
  | recipeLoad (o : Origin) (n : Fin 8) (v : Word)
  /-- RECIPE_LOAD_DONE (R53). -/
  | recipeLoadDone (n : Fin 8) (bad : List (Fin 64))
  /-- BANK_SWITCH_REQUEST (R54). -/
  | bankSwitchRequest (o : Origin) (n : Fin 8)
  /-- BANK_SWITCH_SIDE (R55). -/
  | bankSwitchSide (n : Fin 8) (rx : Bool)
  /-- ROTATION_STEP (R56). -/
  | rotationStep (n : Fin 8)
  /-- TEST_SLICE_DONE (R59). -/
  | testSliceDone (n : Fin 8) (r : SliceResult)
  /-- TEST_SLICE_TIMEOUT (R31). -/
  | testSliceTimeout (n : Fin 8)
  /-- LBIST_GO (R373). -/
  | lbistGo (o : Origin) (v : Word)
  /-- LEN_EN_SET (R89). -/
  | lenEnSet (o : Origin) (n : Fin 8)
  /-- LEN_EN_CLEAR (R89). -/
  | lenEnClear (o : Origin) (n : Fin 8)
  /-- TXDIS_ASSERT (R89). -/
  | txdisAssert
  /-- TXDIS_DEASSERT (R89). -/
  | txdisDeassert
  /-- TXDIS_FILT_EXPIRY (R89). -/
  | txdisFiltExpiry
  /-- LEN_SETTLE_EXPIRY (R89). -/
  | lenSettleExpiry (n : Fin 8)
  /-- LANE_PLL_LOCK (R75). -/
  | lanePllLock (n : Fin 8)
  /-- LANE_PLL_LOL (R75). -/
  | lanePllLol (n : Fin 8)
  /-- SIGNAL_DETECT (R71). -/
  | signalDetect (n : Fin 8)
  /-- SIGNAL_LOSS (R71). -/
  | signalLoss (n : Fin 8)
  /-- CONVERTER_CAL_DONE (R80). -/
  | converterCalDone (n : Fin 8) (c : CalResult)
  /-- FOREGROUND_CAL_GO (R84). -/
  | foregroundCalGo (o : Origin) (v : Word)
  /-- PI_MANUAL (R78). -/
  | piManual (o : Origin) (n : Fin 8) (on : Bool)
  /-- ACQ_TIMING_TIMEOUT (R111). -/
  | acqTimingTimeout (n : Fin 8)
  /-- ACQ_ADAPT_TIMEOUT (R111). -/
  | acqAdaptTimeout (n : Fin 8)
  /-- HOLD_TIMEOUT (R112). -/
  | holdTimeout (n : Fin 8)
  /-- RX_LOSS_OF_LOCK (R113). -/
  | rxLossOfLock (n : Fin 8)
  /-- RX_RESTART (R117). -/
  | rxRestart (o : Origin) (n : Fin 8) (v : Word)
  /-- REACH_SELECT (R115). -/
  | reachSelect (o : Origin) (n : Fin 8) (v : Word)
  /-- ADAPT_UPDATE_DONE (R106). -/
  | adaptUpdateDone (n : Fin 8)
  /-- ATLAS_SAMPLE_PICK (R122). -/
  | atlasSamplePick (n : Fin 8)
  /-- ATLAS_UPDATE (R124). -/
  | atlasUpdate (n : Fin 8)
  /-- ATLAS_MISS_FILL (R125). -/
  | atlasMissFill (n : Fin 8) (i : Nat) (f : CisFault)
  /-- DISTIL_DONE (R128). -/
  | distilDone (n : Fin 8)
  /-- PD_BULK_SEGMENT_RECEIVE (R211). -/
  | pdBulkSegmentReceive (n : Fin 8)
  /-- PD_UPDATE_STALL (R133). -/
  | pdUpdateStall (n : Fin 8)
  /-- PD_TABLE_APPLY (R133). -/
  | pdTableApply (n : Fin 8)
  /-- PD_ACK_RECEIVE (R134). -/
  | pdAckReceive (n : Fin 8)
  /-- PD_NOACK_TIMEOUT (R134). -/
  | pdNoackTimeout (n : Fin 8)
  /-- TAP_REQ_RECEIVE (R139). -/
  | tapReqReceive (n : Fin 8)
  /-- TAP_STATUS_RECEIVE (R140). -/
  | tapStatusReceive (n : Fin 8)
  /-- TAP_REQ_TIMEOUT (R140). -/
  | tapReqTimeout (n : Fin 8)
  /-- TRAIN_MEASURE_DONE (R140). -/
  | trainMeasureDone (n : Fin 8)
  /-- TRAIN_START (R141). -/
  | trainStart (o : Origin) (n : Fin 8) (v : Word)
  /-- TRAIN_INTERVAL_EXPIRY (R141). -/
  | trainIntervalExpiry (n : Fin 8)
  /-- ATLAS_FREEZE (R142). -/
  | atlasFreeze (o : Origin) (n : Fin 8) (on : Bool)
  /-- ATLAS_FROZEN (R142). -/
  | atlasFrozen (n : Fin 8)
  /-- ATLAS_COHERENT_READ (R143). -/
  | atlasCoherentRead (o : Origin) (n : Fin 8) (i : Nat)
  /-- ATLAS_READ_DONE (R143). -/
  | atlasReadDone (n : Fin 8) (f : CisFault)
  /-- ATLAS_CLEAR (R145). -/
  | atlasClear (o : Origin) (lanes : Nat)
  /-- ATLAS_CLEAR_DONE (R145). -/
  | atlasClearDone (n : Fin 8)
  /-- ATLAS_SRC_CHANGE (R144). -/
  | atlasSrcChange (o : Origin) (n : Fin 8) (src : Bool)
  /-- PD_TABLE_ACCESS (R138). -/
  | pdTableAccess (o : Origin) (n : Fin 8) (w : Option Word)
  /-- PD_APPLY (R138). -/
  | pdApply (o : Origin) (n : Fin 8)
  /-- DET_TABLE_READ (R147). -/
  | detTableRead (o : Origin) (n : Fin 8)
  /-- PROFILE_APPLY (R149). -/
  | profileApply (o : Origin) (v : Word)
  /-- PROFILE_CHANGE_DONE (R168). -/
  | profileChangeDone
  /-- FRAME_HEADER_RECEIVE (R156). -/
  | frameHeaderReceive (n : Fin 8) (pos : Nat) (skew : Nat)
  /-- CODEWORD_ASSEMBLED (R161). -/
  | codewordAssembled (n : Fin 8)
  /-- DECODE_WINDOW_END (R161). -/
  | decodeWindowEnd (n : Fin 8)
  /-- OCT_CODEWORD (R165). -/
  | octCodeword (n : Fin 8)
  /-- HOST_LANE_ENABLE (R179). -/
  | hostLaneEnable (o : Origin) (n : Fin 8) (on : Bool)
  /-- HOST_SIGNAL_DETECT (R179). -/
  | hostSignalDetect (n : Fin 8)
  /-- HOST_LOS (R179). -/
  | hostLos (n : Fin 8)
  /-- HOST_CDR_LOCK (R179). -/
  | hostCdrLock (n : Fin 8) (ctle : Nat) (ofs : Int)
  /-- HOST_CDR_LOL (R179). -/
  | hostCdrLol (n : Fin 8)
  /-- HOST_FREQ_ERR (R178). -/
  | hostFreqErr (n : Fin 8) (ofs : Int)
  /-- HOST_TRAIN_FRAMES (R180). -/
  | hostTrainFrames (n : Fin 8)
  /-- HOST_TRAIN_NOPEER (R179). -/
  | hostTrainNopeer (n : Fin 8)
  /-- HOST_COEFF_REQUEST (R182). -/
  | hostCoeffRequest (n : Fin 8) (q : CoefReq)
  /-- HOST_COEFF_STATUS (R181). -/
  | hostCoeffStatus (n : Fin 8) (r : CoefStatus)
  /-- HOST_TRIAL_MEASURE_DONE (R181). -/
  | hostTrialMeasureDone (n : Fin 8) (sum : Nat) (cnt : Nat)
  /-- HOST_TRAIN_DONE (R181). -/
  | hostTrainDone (n : Fin 8)
  /-- HOST_TRAIN_TIMEOUT (R181). -/
  | hostTrainTimeout (n : Fin 8)
  /-- HOST_RETRAIN (R179). -/
  | hostRetrain (o : Origin) (n : Fin 8)
  /-- HOST_POLARITY_CHANGE (R175). -/
  | hostPolarityChange (o : Origin) (n : Fin 8) (rx : Bool) (inv : Bool)
  /-- HOST_MAP_WRITE (R174). -/
  | hostMapWrite (o : Origin) (rx : Bool) (v : Word)
  /-- HOST_TEST_MODE (R189). -/
  | hostTestMode (o : Origin) (v : Word)
  /-- KP4_AM_RECEIVE (R186). -/
  | kp4AmReceive (p : Fin 8) (d : Fin 2) (k : Fin 8) (found : Bool)
  /-- KP4_MONITOR_CODEWORD (R187). -/
  | kp4MonitorCodeword (p : Fin 8) (d : Fin 2)
  /-- KP4_DEGRADE_WINDOW (R188). -/
  | kp4DegradeWindow (p : Fin 8) (d : Fin 2)
  /-- KP4_SNAP (R187). -/
  | kp4Snap (o : Origin) (ports : Nat)
  /-- KP4_CLEAR (R187). -/
  | kp4Clear (o : Origin) (ports : Nat)
  /-- SEEP_TX_FRAME_START (R209). -/
  | seepTxFrameStart (n : Fin 8)
  /-- SEEP_RX_FRAME (R203). -/
  | seepRxFrame (n : Fin 8) (f : SRxFrame) (age : Nat)
  /-- SEEP_FRAME_DECODED (R199). -/
  | seepFrameDecoded (n : Fin 8) (d : SDemod) (late : Nat)
  /-- SEEP_SYNC_LOSS (R203). -/
  | seepSyncLoss (n : Fin 8)
  /-- SEEP_FORWARD (R206). -/
  | seepForward (n : Fin 8)
  /-- PF_READ_RECEIVE (R212). -/
  | pfReadReceive (n : Fin 8) (silent : List Nat)
  /-- PF_WRITE_RECEIVE (R212). -/
  | pfWriteReceive (n : Fin 8) (silent : List Nat)
  /-- MBX_IN_RECEIVE (R323). -/
  | mbxInReceive (n : Fin 8)
  /-- WAKE_REQ_RECEIVE (R214). -/
  | wakeReqReceive (n : Fin 8)
  /-- GATEWAY_RX_MESSAGE (R216). -/
  | gatewayRxMessage (n : Fin 8)
  /-- PF_REPLY_DEADLINE (R210). -/
  | pfReplyDeadline (n : Fin 8)
  /-- PF_REPLY_READY (R210). -/
  | pfReplyReady (n : Fin 8)
  /-- EVENT_SEND (R213). -/
  | eventSend
  /-- EVENT_REPEAT (R213). -/
  | eventRepeat
  /-- GATEWAY_GO (R216). -/
  | gatewayGo (o : Origin) (lane : Fin 8)
  /-- GATEWAY_POP (R216). -/
  | gatewayPop (o : Origin)
  /-- GATEWAY_DATA_ACCESS (R216). -/
  | gatewayDataAccess (o : Origin) (tx : Bool) (w : Option Word)
  /-- SEEP_LANE_ENABLE (R217). -/
  | seepLaneEnable (o : Origin) (n : Fin 8) (on : Bool)
  /-- TOD_SECOND_WRAP (R220). -/
  | todSecondWrap
  /-- PPS_OUT_FALL (R248). -/
  | ppsOutFall
  /-- TOD_TX_SEND (R249). -/
  | todTxSend
  /-- TT_MARKING_INSTANT (R229). -/
  | ttMarkingInstant (lag : Strobe)
  /-- TT_MARKED_FRAME_RX (R230). -/
  | ttMarkedFrameRx (age : Strobe)
  /-- TT_TS_RECEIVE (R230). -/
  | ttTsReceive
  /-- TT_L_SEND (R234). -/
  | ttLSend
  /-- TT_L_RECEIVE (R234). -/
  | ttLReceive
  /-- PPS_IN_EDGE (R247). -/
  | ppsInEdge (age : Nat)
  /-- TOD_RX_MESSAGE (R247). -/
  | todRxMessage (bytes : List Nat) (ms : Nat)
  /-- HOLDOVER_ENTRY (R236). -/
  | holdoverEntry (found : List (Nat × CisFault))
  /-- TOD_UNC_EXCEEDED (R236). -/
  | todUncExceeded
  /-- HOLDOVER_PREDICTION (R240). -/
  | holdoverPrediction (found : List (Nat × CisFault))
  /-- OSC_TEMP_SAMPLE (R238). -/
  | oscTempSample
  /-- LEDGER_RECORD (R238). -/
  | ledgerRecord (found : List (Nat × CisFault))
  /-- MODEL_REFIT (R238). -/
  | modelRefit (found : List (Nat × CisFault))
  /-- TOD_COUNTER_REPAIR (R225). -/
  | todCounterRepair (isB : Bool)
  /-- TOD_NO_MAJORITY (R225). -/
  | todNoMajority (k : NoMaj)
  /-- TOD_SET_SECONDS (R223). -/
  | todSetSeconds (o : Origin)
  /-- TOD_PHASE_ADJUST (R223). -/
  | todPhaseAdjust (o : Origin) (v : Word)
  /-- TOD_SLEW_DONE (R222). -/
  | todSlewDone
  /-- TOD_CAPTURE (R224). -/
  | todCapture (o : Origin) (v : Word)
  /-- TOD_FREQ_LATCH (R309). -/
  | todFreqLatch (o : Origin)
  /-- TOD_FREQ_MAN_WRITE (R221). -/
  | todFreqManWrite (o : Origin) (v : Word)
  /-- TOD_SOURCE_SELECT (R235). -/
  | todSourceSelect (o : Origin) (v : Word)
  /-- REFCLK_LOSS (R245). -/
  | refclkLoss (cycles : Nat) (period : Nat)
  /-- REFCLK_RETURN (R245). -/
  | refclkReturn
  /-- REFCLK_RESTORE (R245). -/
  | refclkRestore
  /-- CISTERN_READ (R259). -/
  | cisternRead (q : CisReq) (a : Nat) (k : Nat) (f : CisFault) (others : List CisAccess)
  /-- CISTERN_WRITE (R263). -/
  | cisternWrite (q : CisReq) (a : Nat) (k : Nat) (v : Nat) (others : List CisAccess)
  /-- MERGE_ENTRY_AGE (R263). -/
  | mergeEntryAge (line : Nat) (f : Vector CisFault 4)
  /-- PATROL_LINE_READ (R264). -/
  | patrolLineRead (f : Vector CisFault 4)
  /-- SCRUB_LAP_LIMIT (R265). -/
  | scrubLapLimit
  /-- SCRUB_BG_GO (R265). -/
  | scrubBgGo (o : Origin) (v : Word)
  /-- SCRUB_BG_LAP_DONE (R265). -/
  | scrubBgLapDone (found : List (Nat × CisFault))
  /-- REFRESH_TICK (R266). -/
  | refreshTick
  /-- REFRESH_RATE_POLL (R266). -/
  | refreshRatePoll (rate : Nat)
  /-- REMAP_COMMAND (R261). -/
  | remapCommand (o : Origin) (line : Nat)
  /-- CISTERN_ERROR_BURST (R262). -/
  | cisternErrorBurst (lockLoss : Bool)
  /-- CISTERN_RETRAIN_DONE (R36). -/
  | cisternRetrainDone
  /-- CAPTURE_GO (R269). -/
  | captureGo (o : Origin) (v : Word)
  /-- CAPTURE_SEGMENT (R269). -/
  | captureSegment (samples : List Nat) (st : Strobe)
  /-- CAPTURE_SEGMENT_DRAINED (R269). -/
  | captureSegmentDrained
  /-- CAPTURE_ABORT (R269). -/
  | captureAbort (o : Origin)
  /-- ZEROISE_GO (R271). -/
  | zeroiseGo (o : Origin) (mirror : Bool)
  /-- ZEROISE_DONE (R271). -/
  | zeroiseDone
  /-- RESET_ASSERT (R426). -/
  | resetAssert
  /-- COLD_START (R274). -/
  | coldStart (d : BootData)
  /-- BOOT_RESTART (R274). -/
  | bootRestart (o : Origin)
  /-- STAGE_VERIFY (R291). -/
  | stageVerify (o : Origin)
  /-- STAGE_VERIFY_DONE (R291). -/
  | stageVerifyDone
  /-- UPDATE_SWITCH (R292). -/
  | updateSwitch (o : Origin) (v : Word)
  /-- BOOT_FAIL_RECOVER (R289). -/
  | bootFailRecover (o : Origin) (d : BootData)
  /-- KEEPER_READY (R293). -/
  | keeperReady (k : Fin 3)
  /-- KEEPER_SWITCH_TIMEOUT (R294). -/
  | keeperSwitchTimeout
  /-- REPAIR_RECORD_READ (R288). -/
  | repairRecordRead (o : Origin)
  /-- PORT_S_READ (R300). -/
  | portSRead (a : Nat) (count : Fin 256)
  /-- PORT_S_WRITE (R301). -/
  | portSWrite (a : Nat) (l : List Word)
  /-- PORT_S_STATUS (R301). -/
  | portSStatus (op : Fin 16) (a : Nat)
  /-- PORT_S_FRAME_ABORT (R302). -/
  | portSFrameAbort (place : AbortAt) (wr : Bool) (a : Nat) (count : Fin 256) (l : List Word)
  /-- PORT_S_READ_TIMEOUT (R300). -/
  | portSReadTimeout (a : Nat)
  /-- POSTED_WRITE_PERFORM (R301). -/
  | postedWritePerform
  /-- PORT_I_PRIVATE_WRITE (R303). -/
  | portIPrivateWrite (addrBytes : Nat) (a : Nat) (l : List Word) (tail : Nat)
  /-- PORT_I_PRIVATE_READ (R304). -/
  | portIPrivateRead (group : Bool) (count : Nat)
  /-- PORT_I_GROUP_WRITE (R305). -/
  | portIGroupWrite (addrBytes : Nat) (a : Nat) (l : List Word) (tail : Nat)
  /-- PORT_I_ENTDAA (R303). -/
  | portIEntdaa (dyn : Nat)
  /-- PORT_I_SETGRPA (R305). -/
  | portISetgrpa (grp : Nat)
  /-- PORT_I_ENEC (R325). -/
  | portIEnec
  /-- IBI_SEND (R325). -/
  | ibiSend (acked : Bool)
  /-- IBI_RETRY (R325). -/
  | ibiRetry (acked : Bool)
  /-- ACCESS_TIMEOUT (R311). -/
  | accessTimeout (o : Origin) (a : Nat)
  /-- SEM_CLAIM (R317). -/
  | semClaim (l : List Origin) (k : Fin 16)
  /-- SEM_RELEASE (R317). -/
  | semRelease (o : Origin) (k : Fin 16)
  /-- MBX_IN_GO (R320). -/
  | mbxInGo (p : Fin 3) (v : Word)
  /-- MBX_IN_ACK (R320). -/
  | mbxInAck (k : Fin 3) (p : Fin 3) (rc : Nat)
  /-- MBX_IN_FLOW_READ (R320). -/
  | mbxInFlowRead (k : Fin 3) (p : Fin 3)
  /-- MBX_OUT_POST (R320). -/
  | mbxOutPost (k : Fin 3) (p : Fin 3) (r : Reply)
  /-- MBX_OUT_FLOW_READ (R320). -/
  | mbxOutFlowRead (p : Fin 3)
  /-- MBX_OUT_ACK (R320). -/
  | mbxOutAck (p : Fin 3) (rc : Nat)
  /-- MBX_DATA_WRITE (R320). -/
  | mbxDataWrite (p : Fin 3) (i : Fin 16) (w : Word)
  /-- MBX_MODE_APPLY (R319). -/
  | mbxModeApply (p : Fin 3)
  /-- MBX_ECHO (R322). -/
  | mbxEcho (p : Fin 3)
  /-- MBX_READ (R322). -/
  | mbxRead (p : Fin 3) (silent : List Nat)
  /-- MBX_WRITE (R322). -/
  | mbxWrite (p : Fin 3) (silent : List Nat)
  /-- MBX_IMAGE_BLOCK (R322). -/
  | mbxImageBlock (p : Fin 3)
  /-- MBX_JOURNAL (R322). -/
  | mbxJournal (p : Fin 3)
  /-- MBX_TELEMETRY (R322). -/
  | mbxTelemetry (p : Fin 3)
  /-- MBX_VENDOR_OPCODE (R322). -/
  | mbxVendorOpcode (p : Fin 3) (rc : Nat) (reply : Option Reply)
  /-- MBX_BAD_OPCODE (R322). -/
  | mbxBadOpcode (p : Fin 3)
  /-- DOORBELL_TODEV_SET (R324). -/
  | doorbellTodevSet (p : Fin 3) (bits : Word)
  /-- DOORBELL_TODEV_ACK (R324). -/
  | doorbellTodevAck (k : Fin 3) (p : Fin 3) (bits : Word)
  /-- DOORBELL_TOHOST_SET (R324). -/
  | doorbellTohostSet (k : Fin 3) (p : Fin 3) (bits : Word)
  /-- DOORBELL_TOHOST_CLEAR (R324). -/
  | doorbellTohostClear (p : Fin 3) (bits : Word)
  /-- IRQ_SOURCE_ASSERT (R334). -/
  | irqSourceAssert (id : Nat)
  /-- IRQ_CLAIM (R335). -/
  | irqClaim (k : Fin 3)
  /-- IRQ_EOI (R336). -/
  | irqEoi (k : Fin 3) (id : Nat)
  /-- KIC_MODE_WRITE (R338). -/
  | kicModeWrite (k : Fin 3) (v : Word)
  /-- KEEPER_FAULT (R332). -/
  | keeperFault (k : Fin 3) (c : KeeperCause)
  /-- WATCHDOG_KICK (R370). -/
  | watchdogKick (k : Fin 3)
  /-- WATCHDOG_EXPIRY (R370). -/
  | watchdogExpiry (k : Fin 3)
  /-- DP_IDLE_DECLARE (R349). -/
  | dpIdleDeclare (o : Origin)
  /-- DP_IDLE_CANCEL (R349). -/
  | dpIdleCancel (o : Origin)
  /-- LTR_WRITE (R347). -/
  | ltrWrite (o : Origin) (p : Fin 3) (v : Word)
  /-- SLEEP_ENTRY_START (R350). -/
  | sleepEntryStart (edges : List WakeSrc)
  /-- SLEEP_DELAY_RETRY (R350). -/
  | sleepDelayRetry (b : Nat) (edges : List WakeSrc)
  /-- SLEEP_PREPARE_DONE (R350). -/
  | sleepPrepareDone (writes : List HostWrite) (pps : Bool)
  /-- SLEEP_HOLDOFF_EXPIRY (R351). -/
  | sleepHoldoffExpiry (edges : List WakeSrc)
  /-- WAKE_EVENT (R353). -/
  | wakeEvent (w : WakeSrc)
  /-- SLEEP_EXIT_DONE (R354). -/
  | sleepExitDone (cal : Vector CalResult 8)
  /-- PERF_LEVEL_CHANGE (R343). -/
  | perfLevelChange
  /-- AVS_ACK (R344). -/
  | avsAck (o : Origin) (v : Word)
  /-- AVS_TIMEOUT (R344). -/
  | avsTimeout
  /-- SG1_PARITY_ERROR (R363). -/
  | sg1ParityError (p : Fin 8) (d : Fin 2)
  /-- SG1_RELEASE (R361). -/
  | sg1Release (o : Origin)
  /-- PPS_READBACK (R365). -/
  | ppsReadback (err : Int)
  /-- SG3_REQUEST (R366). -/
  | sg3Request (o : Origin) (v : Word)
  /-- SG3_RELEASE (R361). -/
  | sg3Release (o : Origin)
  /-- SG4_RELEASE (R361). -/
  | sg4Release (o : Origin)
  /-- LEN_PATH_TEST (R367). -/
  | lenPathTest (ok : Bool)
  /-- LEN_READBACK_MISMATCH (R367). -/
  | lenReadbackMismatch
  /-- SG4_SCAN (R369). -/
  | sg4Scan (found : List ScanFind)
  /-- CLOCK_MONITOR_FAULT (R370). -/
  | clockMonitorFault (i : Fin 13)
  /-- SUPPLY_OUT_OF_WINDOW (R370). -/
  | supplyOutOfWindow (r : Fin 8)
  /-- SUPPLY_RESTART (R370). -/
  | supplyRestart (lost : Option AonLoss)
  /-- SUPPLY_RESTART_RECOVER (R370). -/
  | supplyRestartRecover
  /-- MEMORY_PATROL (R375). -/
  | memoryPatrol (inst : Nat) (row : Nat) (f : PatrolFind)
  /-- FUSE_REPAIR_BURN (R376). -/
  | fuseRepairBurn (o : Origin)
  /-- FUSE_REPAIR_BURN_DONE (R376). -/
  | fuseRepairBurnDone
  /-- JOURNAL_ENTRY_WRITE (R378). -/
  | journalEntryWrite
  /-- JOURNAL_MIRROR_WRITE (R267). -/
  | journalMirrorWrite
  /-- THERMAL_SAMPLE_START (R385). -/
  | thermalSampleStart
  /-- THERMAL_SAMPLE_DONE (R384). -/
  | thermalSampleDone (rd : Vector (Option Int) 36)
  /-- EFFORT_RISE_STEP (R388). -/
  | effortRiseStep
  /-- VENT_COOLDOWN_EXPIRY (R389). -/
  | ventCooldownExpiry
  /-- MON_CHANNEL_RESULT (R393). -/
  | monChannelResult (c : Fin 32) (l : List MonSample)
  /-- MON_CAL_START (R395). -/
  | monCalStart (o : Origin)
  /-- MON_CAL_DONE (R395). -/
  | monCalDone (r : MonCalRes)
  /-- MON_CAL_TIMEOUT (R395). -/
  | monCalTimeout
  /-- LIFECYCLE_TRANSITION (R402). -/
  | lifecycleTransition (o : Origin) (v : Word)
  /-- LIFECYCLE_BURN_DONE (R402). -/
  | lifecycleBurnDone (bad : Option (Fin 3))
  /-- DEBUG_OPEN (R406). -/
  | debugOpen (o : Origin) (level : Fin 4)
  /-- DEBUG_OPEN_DONE (R406). -/
  | debugOpenDone
  /-- DEBUG_CLOSE (R407). -/
  | debugClose (o : Origin)
  /-- JTAG_DBG_REQ (R406). -/
  | jtagDbgReq (level : Fin 4)
  /-- JTAG_DBG_CLOSE (R407). -/
  | jtagDbgClose
  /-- TRST_ASSERT (R407). -/
  | trstAssert
  /-- JTAG_DEBUG_ACCESS (R405). -/
  | jtagDebugAccess (a : Nat) (w : Option Word)
  /-- JTAG_BYPASS (R410). -/
  | jtagBypass
  /-- JTAG_IDCODE (R410). -/
  | jtagIdcode
  /-- JTAG_SAMPLE_PRELOAD (R410). -/
  | jtagSamplePreload (l : List (Nat × Bool))
  /-- JTAG_EXTEST (R411). -/
  | jtagExtest
  /-- JTAG_CLAMP (R411). -/
  | jtagClamp
  /-- JTAG_HIGHZ (R411). -/
  | jtagHighz
  /-- JTAG_EXTEST_PULSE (R411). -/
  | jtagExtestPulse
  /-- JTAG_EXTEST_TRAIN (R411). -/
  | jtagExtestTrain
  /-- JTAG_TEST_LOGIC_RESET (R411). -/
  | jtagTestLogicReset
  /-- RAIL_BACK_IN_WINDOW (R370). -/
  | railBackInWindow (r : Fin 8)
  /-- CLOCK_MONITOR_REARM (R370). -/
  | clockMonitorRearm (i : Fin 13)
  /-- SLEEP_NO_ANSWER (R350). -/
  | sleepNoAnswer (b : Nat) (edges : List WakeSrc)
  /-- KEEPER_HALT (R405). -/
  | keeperHalt (k : Fin 3)
  /-- KEEPER_RESUME (R405). -/
  | keeperResume (k : Fin 3)
  /-- BOUNDARY_UPDATE (R410). -/
  | boundaryUpdate (l : List (Nat × Bool))
  deriving DecidableEq, Repr

end Sys2Proof
end

