-- ==== Sys2Proof/Machine/Crypto.lean ====
section
/-!
DEFINITION. The digest and the signature of images: SHA-384 and ECDSA over P-384, which R282 and R283 of spec/11_start_up_and_images.md name
and their standards (FIPS 180-4, FIPS 186-4) define (notes/assumptions/152.md).
-/
namespace Sys2Proof.Machine

/-- A number from bytes, the most significant first. -/
def ofBytes (l : List Nat) : Nat := l.foldl (fun v b => v * 256 + b) 0

/-! ### SHA-384 -/

/-- The round constants. -/
def shaK : List Nat :=
  [0x428a2f98d728ae22, 0x7137449123ef65cd, 0xb5c0fbcfec4d3b2f, 0xe9b5dba58189dbbc,
   0x3956c25bf348b538, 0x59f111f1b605d019, 0x923f82a4af194f9b, 0xab1c5ed5da6d8118,
   0xd807aa98a3030242, 0x12835b0145706fbe, 0x243185be4ee4b28c, 0x550c7dc3d5ffb4e2,
   0x72be5d74f27b896f, 0x80deb1fe3b1696b1, 0x9bdc06a725c71235, 0xc19bf174cf692694] ++
  [0xe49b69c19ef14ad2, 0xefbe4786384f25e3, 0x0fc19dc68b8cd5b5, 0x240ca1cc77ac9c65,
   0x2de92c6f592b0275, 0x4a7484aa6ea6e483, 0x5cb0a9dcbd41fbd4, 0x76f988da831153b5,
   0x983e5152ee66dfab, 0xa831c66d2db43210, 0xb00327c898fb213f, 0xbf597fc7beef0ee4,
   0xc6e00bf33da88fc2, 0xd5a79147930aa725, 0x06ca6351e003826f, 0x142929670a0e6e70] ++
  [0x27b70a8546d22ffc, 0x2e1b21385c26c926, 0x4d2c6dfc5ac42aed, 0x53380d139d95b3df,
   0x650a73548baf63de, 0x766a0abb3c77b2a8, 0x81c2c92e47edaee6, 0x92722c851482353b,
   0xa2bfe8a14cf10364, 0xa81a664bbc423001, 0xc24b8b70d0f89791, 0xc76c51a30654be30,
   0xd192e819d6ef5218, 0xd69906245565a910, 0xf40e35855771202a, 0x106aa07032bbd1b8] ++
  [0x19a4c116b8d2d0c8, 0x1e376c085141ab53, 0x2748774cdf8eeb99, 0x34b0bcb5e19b48a8,
   0x391c0cb3c5c95a63, 0x4ed8aa4ae3418acb, 0x5b9cca4f7763e373, 0x682e6ff3d6b2b8a3,
   0x748f82ee5defb2fc, 0x78a5636f43172f60, 0x84c87814a1f0ab72, 0x8cc702081a6439ec,
   0x90befffa23631e28, 0xa4506cebde82bde9, 0xbef9a3f7b2c67915, 0xc67178f2e372532b] ++
  [0xca273eceea26619c, 0xd186b8c721c0c207, 0xeada7dd6cde0eb1e, 0xf57d4f7fee6ed178,
   0x06f067aa72176fba, 0x0a637dc5a2c898a6, 0x113f9804bef90dae, 0x1b710b35131c471b,
   0x28db77f523047d84, 0x32caab7b40c72493, 0x3c9ebe0a15c9bebc, 0x431d67c49c100d4c,
   0x4cc5d4becb3e42b6, 0x597f299cfc657e2a, 0x5fcb6fab3ad6faec, 0x6c44198c4a475817]

/-- The initial hash value. -/
def shaInit : List Nat :=
  [0xcbbb9d5dc1059ed8, 0x629a292a367cd507, 0x9159015a3070dd17, 0x152fecd8f70e5939,
   0x67332667ffc00b31, 0x8eb44a8768581511, 0xdb0c2e0d64f98fa7, 0x47b5481dbefa4fa4]

/-- A 64-bit word rotated right. -/
def rotr (x n : Nat) : Nat := (x >>> n ||| x <<< (64 - n)) % 2 ^ 64

/-- One round, on the working variables `h` and the 16 words `w` of the message schedule that follow. -/
def shaRound (h w : List Nat) (k : Nat) : List Nat :=
  match h with
  | [a, b, c, d, e, f, g, i] =>
    let ch := Nat.xor (Nat.land e f) (Nat.land (2 ^ 64 - 1 - e) g)
    let t := i + (Nat.xor (rotr e 14) (Nat.xor (rotr e 18) (rotr e 41))) + ch + k + w.headD 0
    let u := Nat.xor (rotr a 28) (Nat.xor (rotr a 34) (rotr a 39)) + Nat.xor (Nat.land a b) (Nat.xor (Nat.land a c) (Nat.land b c))
    [(t + u) % 2 ^ 64, a, b, c, (d + t) % 2 ^ 64, e, f, g]
  | l => l

/-- The schedule moves on by one word. -/
def shaNext (w : List Nat) : List Nat :=
  let x := w.getD 1 0
  let y := w.getD 14 0
  w.drop 1 ++ [(w.headD 0 + Nat.xor (rotr x 1) (Nat.xor (rotr x 8) (x >>> 7)) + w.getD 9 0 +
    Nat.xor (rotr y 19) (Nat.xor (rotr y 61) (y >>> 6))) % 2 ^ 64]

/-- All rounds of a block. -/
def shaRounds : List Nat → List Nat → List Nat → List Nat
  | [], h, _ => h
  | k :: t, h, w => shaRounds t (shaRound h w k) (shaNext w)

/-- The words of a block of 128 bytes. -/
def shaWords (l : List Nat) : List Nat := (List.range 16).map fun i => ofBytes ((l.drop (8 * i)).take 8)

/-- The blocks of a padded message. -/
def shaBlocks : Nat → List Nat → List Nat → List Nat
  | 0, h, _ => h
  | n + 1, h, l => shaBlocks n ((h.zip (shaRounds shaK h (shaWords (l.take 128)))).map fun p => (p.1 + p.2) % 2 ^ 64) (l.drop 128)

/-- A message with its padding and its length in bits. -/
def shaPad (l : List Nat) : List Nat :=
  l ++ [0x80] ++ List.replicate ((239 - l.length % 128) % 128) 0 ++ (List.range 16).map fun i => 8 * l.length / 256 ^ (15 - i) % 256

/-- SHA-384 of a message, as the number that its 48 bytes spell. -/
def sha384 (l : List Nat) : Nat :=
  ((shaBlocks ((shaPad l).length / 128) shaInit (shaPad l)).take 6).foldl (fun v x => v * 2 ^ 64 + x) 0

/-! ### ECDSA over P-384 -/

/-- The field, the curve's b, its base point and the order of that. -/
def p384 : Nat := 0xfffffffffffffffffffffffffffffffffffffffffffffffffffffffffffffffeffffffff0000000000000000ffffffff
def p384B : Nat := 0xb3312fa7e23ee7e4988e056be3f82d19181d9c6efe8141120314088f5013875ac656398d8a2ed19d2a85c8edd3ec2aef
def p384X : Nat := 0xaa87ca22be8b05378eb1c71ef320ad746e1d3b628ba79b9859f741e082542a385502f25dbf55296c3a545e3872760ab7
def p384Y : Nat := 0x3617de4a96262c6f5d9e98bf9292dc29f8f41dbd289a147ce9da3113b5f0b8c00a60b1ce1d7e819d7a431d7c90ea0e5f
def p384N : Nat := 0xffffffffffffffffffffffffffffffffffffffffffffffffc7634d81f4372ddf581a0db248b0a77aecec196accc52973

/-- A point in Jacobian coordinates; at infinity z is 0. -/
structure CurvePt where
  x : Nat
  y : Nat
  z : Nat
  deriving DecidableEq, Repr

/-- A difference in the field. -/
def fsub (a b : Nat) : Nat := (a + p384 - b) % p384

/-- Twice a point. -/
def CurvePt.dbl (p : CurvePt) : CurvePt :=
  let d := p.z * p.z % p384
  let g := p.y * p.y % p384
  let b := p.x * g % p384
  let a := 3 * fsub p.x d * (p.x + d) % p384
  let x := fsub (a * a % p384) (8 * b % p384)
  { x := x, y := fsub (a * fsub (4 * b % p384) x % p384) (8 * g * g % p384), z := 2 * p.y * p.z % p384 }

/-- The sum of two points. -/
def CurvePt.add (p q : CurvePt) : CurvePt :=
  if p.z = 0 then q
  else if q.z = 0 then p
  else
    let c := p.z * p.z % p384
    let d := q.z * q.z % p384
    let u := p.x * d % p384
    let h := fsub (q.x * c % p384) u
    let v := p.y * q.z * d % p384
    let r := fsub (q.y * p.z * c % p384) v
    if h = 0 then (if r = 0 then p.dbl else { x := 1, y := 1, z := 0 })
    else
      let e := h * h % p384
      let f := e * h % p384
      let w := u * e % p384
      let x := fsub (fsub (r * r % p384) f) (2 * w % p384)
      { x := x, y := fsub (r * fsub w x % p384) (v * f % p384), z := p.z * q.z * h % p384 }

/-- a·P + b·Q, from the highest of k bits down; `s` is P + Q. -/
def curveComb (a b : Nat) (p q s : CurvePt) : Nat → CurvePt → CurvePt
  | 0, r => r
  | k + 1, r =>
    let r := r.dbl
    curveComb a b p q s k
      (match a.testBit k, b.testBit k with
       | true, true => r.add s
       | true, false => r.add p
       | false, true => r.add q
       | false, false => r)

/-- A power modulo the order, over the lowest k bits of the exponent from the highest down. -/
def powN (b e : Nat) : Nat → Nat → Nat
  | 0, r => r
  | k + 1, r => powN b e k (if e.testBit k then r * r % p384N * b % p384N else r * r % p384N)

/-- The point of an uncompressed public key of 97 bytes, if it is one of the curve. -/
def keyPoint (l : List Nat) : Option CurvePt :=
  let x := ofBytes ((l.drop 1).take 48)
  let y := ofBytes (l.drop 49)
  if l.headD 0 = 4 ∧ x < p384 ∧ y < p384 ∧ y * y % p384 = (x * x * x + (p384 - 3) * x + p384B) % p384 then some { x := x, y := y, z := 1 }
  else none

/-- The signature (r, s) of a message digest verifies against a public key. -/
def ecdsaOk (key : List Nat) (r s e : Nat) : Bool :=
  match keyPoint key with
  | none => false
  | some q =>
    if r = 0 ∨ p384N ≤ r ∨ s = 0 ∨ p384N ≤ s then false
    else
      let w := powN s (p384N - 2) 384 1
      let g : CurvePt := { x := p384X, y := p384Y, z := 1 }
      let t := curveComb (e * w % p384N) (r * w % p384N) g q (g.add q) 384 { x := 1, y := 1, z := 0 }
      let z := t.z * t.z % p384
      t.z != 0 && (r * z % p384 == t.x || (decide (r + p384N < p384) && (r + p384N) * z % p384 == t.x))

end Sys2Proof.Machine
end

