-- ==== Sys2Proof/Machine/Fields.lean ====
section
/-!
DEFINITION. Register fields and register rows (R8 to R15 of spec/00_scope.md), the way a field is read from and
put into a word, and sparse canonical maps (the form in which registers, memory and tables are held).
-/
namespace Sys2Proof.Machine

/-- Access types of R10. -/
inductive Access where
  | rw | ro | w1c | w1s | wo | rwo | rwl
  deriving DecidableEq, Repr

/-- Apply points of R12. -/
inductive Apply where
  | imm | frame | epoch | seep | second
  deriving DecidableEq, Repr

/-- Function groups of R316, in the order of CHIP_SEM0 to CHIP_SEM5. -/
inductive Grp where
  | datapath | timing | seep | power | update | debug
  deriving DecidableEq, Repr

/-- One field of a register table: place, width, type, reset value, apply point, function group, and the range
to which a written value is brought where the table says so. -/
structure Fld where
  lo  : Nat
  w   : Nat
  ty  : Access
  rst : Nat
  ap  : Apply := .imm
  grp : Option Grp := none
  lim : Option (Nat × Nat) := none
  deriving DecidableEq, Repr

/-- One row of the register map: base address, the strides and counts of its index dimensions, its fields,
whether it is masked (R11) or marked AON (R15), and the register whose bit 31 locks its RWL fields (R10). -/
structure RegSpec where
  base   : Nat
  dims   : List (Nat × Nat)
  flds   : List Fld
  masked : Bool := false
  aon    : Bool := false
  lockAt : Option Nat := none
  deriving DecidableEq, Repr

/-- The field's value in a word. -/
def Fld.get (f : Fld) (w : Word) : Nat := w.toNat / 2 ^ f.lo % 2 ^ f.w

/-- The word with the field replaced by `v` (taken modulo the field's width). -/
def Fld.put (f : Fld) (w : Word) (v : Nat) : Word :=
  BitVec.ofNat 32 (w.toNat / 2 ^ (f.lo + f.w) * 2 ^ (f.lo + f.w) + v % 2 ^ f.w * 2 ^ f.lo + w.toNat % 2 ^ f.lo)

/-- The largest value of a field. -/
def Fld.max (f : Fld) : Nat := 2 ^ f.w - 1

/-- A field's value read as two's complement. -/
def Fld.sget (f : Fld) (w : Word) : Int :=
  let v := f.get w
  if v < 2 ^ (f.w - 1) then (v : Int) else (v : Int) - 2 ^ f.w

/-- Whether an offset from a row's base names one of the row's registers. -/
def dimsMatch : List (Nat × Nat) → Nat → Bool
  | [], o => o == 0
  | (st, c) :: t, o => decide (o / st < c) && dimsMatch t (o % st)

/-- Whether the row covers the address. -/
def RegSpec.covers (r : RegSpec) (a : Nat) : Bool :=
  decide (r.base ≤ a) && dimsMatch r.dims (a - r.base)

/-- The reset word a row's table gives (WO fields read 0). -/
def RegSpec.rstWord (r : RegSpec) : Word :=
  r.flds.foldl (fun w f => if f.ty = .wo then w else f.put w f.rst) 0

/-- Value at a key of a sparse map whose unlisted keys hold `d`. -/
def sget {α : Type} (d : α) (k : Nat) : List (Nat × α) → α
  | [] => d
  | (k', v) :: t => if k = k' then v else sget d k t

/-- Sparse map without the entries of a key. -/
def sdel {α : Type} (k : Nat) (m : List (Nat × α)) : List (Nat × α) := m.filter fun x => decide (x.1 ≠ k)

/-- Sparse map with the value at a key replaced; a value equal to the default `d` of that key is not listed. -/
def sput {α : Type} [DecidableEq α] (d : α) (k : Nat) (v : α) : List (Nat × α) → List (Nat × α)
  | [] => if v = d then [] else [(k, v)]
  | (k', v') :: t =>
    if k < k' then (if v = d then sdel k ((k', v') :: t) else (k, v) :: (k', v') :: t)
    else if k = k' then (if v = d then sdel k t else (k, v) :: t)
    else (k', v') :: sput d k v t

/-- Every key of the list is greater than `k`. -/
def sabove {α : Type} (k : Nat) : List (Nat × α) → Bool
  | [] => true
  | (k', _) :: _ => decide (k < k')

/-- The canonical form of a sparse map: keys strictly rising, no entry equal to its key's default. -/
def swf {α : Type} [DecidableEq α] (d : Nat → α) : List (Nat × α) → Bool
  | [] => true
  | (k, v) :: t => decide (v ≠ d k) && sabove k t && swf d t

end Sys2Proof.Machine
end

