-- ==== Sys2Proof/Machine/Regs.lean ====
section
/-!
DEFINITION. Every register of the device, from the register tables of spec/01 to spec/17 and the index R418 of
spec/18_address_map.md. `R.<NAME>` is an address (a function of the lane, port, pump or index where the
register is an array), `F.<NAME>_<FIELD>` a field with its access type, reset value, apply point, function
group and, where a table says that an out-of-range write is taken as the nearest limit, its limits. The lists
`Regs.<chapter>` hold the rows the access rules read.
-/
namespace Sys2Proof.Machine


/-! ### spec/01_architecture.md -/

/-- CHIP_FAULT_STATUS, 0x0000_0400, AON: R38. -/
def R.CHIP_FAULT_STATUS : Nat := 0x400
def F.CHIP_FAULT_STATUS_CHIP_FAULT : Fld := { lo := 0, w := 1, ty := .w1c, rst := 0x0 }
def F.CHIP_FAULT_STATUS_SAFE : Fld := { lo := 1, w := 1, ty := .ro, rst := 0x0 }
def F.CHIP_FAULT_STATUS_REGION_PEND : Fld := { lo := 4, w := 5, ty := .ro, rst := 0x0 }
def F.CHIP_FAULT_STATUS_SG_TRIPPED : Fld := { lo := 16, w := 4, ty := .ro, rst := 0x0 }
/-- CHIP_RERR0–CHIP_RERR4, 0x0000_0410 + 4 × n, n = 0 Line, 1 Host, 2 Timing, 3 Keep, 4 Cistern, AON: R38. -/
def R.CHIP_RERR (n : Nat) : Nat := 0x410 + n * 0x4
def F.CHIP_RERR_PEND : Fld := { lo := 0, w := 1, ty := .w1c, rst := 0x0 }
def F.CHIP_RERR_ESCALATED : Fld := { lo := 1, w := 1, ty := .w1c, rst := 0x0 }
def F.CHIP_RERR_LAST_BLOCK : Fld := { lo := 4, w := 4, ty := .ro, rst := 0x0 }
def F.CHIP_RERR_CAUSE : Fld := { lo := 8, w := 4, ty := .ro, rst := 0x0 }
def F.CHIP_RERR_COUNT : Fld := { lo := 16, w := 8, ty := .ro, rst := 0x0 }
/-- CHIP_ESC_CFG, 0x0000_0430: R38. -/
def R.CHIP_ESC_CFG : Nat := 0x430
def F.CHIP_ESC_CFG_WELL_REPEAT : Fld := { lo := 0, w := 4, ty := .rwl, rst := 0x3, lim := some (2, 15) }
def F.CHIP_ESC_CFG_REGION_REPEAT : Fld := { lo := 4, w := 4, ty := .rwl, rst := 0x2, lim := some (2, 15) }
def F.CHIP_ESC_CFG_LOCK : Fld := { lo := 31, w := 1, ty := .rwo, rst := 0x0 }

/-- The register rows of spec/01_architecture.md. -/
def Regs.arc : List RegSpec := [
  { base := 0x400, dims := [], flds := [F.CHIP_FAULT_STATUS_CHIP_FAULT, F.CHIP_FAULT_STATUS_SAFE, F.CHIP_FAULT_STATUS_REGION_PEND, F.CHIP_FAULT_STATUS_SG_TRIPPED], aon := true },
  { base := 0x410, dims := [(0x4, 5)], flds := [F.CHIP_RERR_PEND, F.CHIP_RERR_ESCALATED, F.CHIP_RERR_LAST_BLOCK, F.CHIP_RERR_CAUSE, F.CHIP_RERR_COUNT], aon := true },
  { base := 0x430, dims := [], flds := [F.CHIP_ESC_CFG_WELL_REPEAT, F.CHIP_ESC_CFG_REGION_REPEAT, F.CHIP_ESC_CFG_LOCK], lockAt := some 0x430 } ]

/-! ### spec/02_pumps_and_wells.md -/

/-- WELLn_RECIPE, B + 0x0000: R66. -/
def R.WELL_RECIPE (n : Nat) : Nat := 0x800000 + n * 0x100000
def F.WELL_RECIPE_SEL : Fld := { lo := 0, w := 6, ty := .rw, rst := 0x0, grp := some .datapath }
def F.WELL_RECIPE_LOAD : Fld := { lo := 8, w := 1, ty := .wo, rst := 0x0, grp := some .datapath }
def F.WELL_RECIPE_AUTO_SWITCH : Fld := { lo := 9, w := 1, ty := .rw, rst := 0x1, grp := some .datapath }
def F.WELL_RECIPE_FORCE : Fld := { lo := 10, w := 1, ty := .rw, rst := 0x0, grp := some .datapath }
def F.WELL_RECIPE_SRC : Fld := { lo := 11, w := 1, ty := .rw, rst := 0x0, grp := some .datapath }
/-- WELLn_IBANK, B + 0x0004: R66. -/
def R.WELL_IBANK (n : Nat) : Nat := 0x800004 + n * 0x100000
def F.WELL_IBANK_ACTIVE : Fld := { lo := 0, w := 1, ty := .ro, rst := 0x0, ap := .frame, grp := some .datapath }
def F.WELL_IBANK_SWITCH : Fld := { lo := 1, w := 1, ty := .wo, rst := 0x0, ap := .frame, grp := some .datapath }
def F.WELL_IBANK_SWITCH_PEND : Fld := { lo := 2, w := 1, ty := .ro, rst := 0x0, grp := some .datapath }
def F.WELL_IBANK_LOADING : Fld := { lo := 3, w := 1, ty := .ro, rst := 0x0, grp := some .datapath }
def F.WELL_IBANK_BANK_VALID : Fld := { lo := 4, w := 2, ty := .ro, rst := 0x1, grp := some .datapath }
def F.WELL_IBANK_SEL_BANK0 : Fld := { lo := 8, w := 6, ty := .ro, rst := 0x0, grp := some .datapath }
def F.WELL_IBANK_SEL_BANK1 : Fld := { lo := 16, w := 6, ty := .ro, rst := 0x0, grp := some .datapath }
/-- WELLn_STATUS, B + 0x0008: R66. -/
def R.WELL_STATUS (n : Nat) : Nat := 0x800008 + n * 0x100000
def F.WELL_STATUS_TAKEOVER : Fld := { lo := 0, w := 1, ty := .w1c, rst := 0x0, grp := some .datapath }
def F.WELL_STATUS_QUARANTINE : Fld := { lo := 1, w := 1, ty := .w1c, rst := 0x0, grp := some .datapath }
def F.WELL_STATUS_RESTART : Fld := { lo := 2, w := 1, ty := .w1c, rst := 0x0, grp := some .datapath }
def F.WELL_STATUS_BURST : Fld := { lo := 3, w := 1, ty := .w1c, rst := 0x0, grp := some .datapath }
def F.WELL_STATUS_SWITCH_DONE : Fld := { lo := 4, w := 1, ty := .w1c, rst := 0x0, grp := some .datapath }
def F.WELL_STATUS_SWITCH_REFUSED : Fld := { lo := 5, w := 1, ty := .w1c, rst := 0x0, grp := some .datapath }
def F.WELL_STATUS_SWITCH_CANCELLED : Fld := { lo := 6, w := 1, ty := .w1c, rst := 0x0, grp := some .datapath }
def F.WELL_STATUS_LOAD_ERR : Fld := { lo := 7, w := 1, ty := .w1c, rst := 0x0, grp := some .datapath }
def F.WELL_STATUS_ROT_STOPPED : Fld := { lo := 8, w := 1, ty := .ro, rst := 0x0, grp := some .datapath }
def F.WELL_STATUS_VARIANT_REDUCED : Fld := { lo := 9, w := 1, ty := .ro, rst := 0x0, grp := some .datapath }
def F.WELL_STATUS_REFUSE_REASON : Fld := { lo := 12, w := 4, ty := .ro, rst := 0x0, grp := some .datapath }
/-- WELLn_POOL, B + 0x000C: R66. -/
def R.WELL_POOL (n : Nat) : Nat := 0x80000c + n * 0x100000
def F.WELL_POOL_RX_WORKING : Fld := { lo := 0, w := 6, ty := .ro, rst := 0x30, grp := some .datapath }
def F.WELL_POOL_TX_WORKING : Fld := { lo := 8, w := 4, ty := .ro, rst := 0x8, grp := some .datapath }
def F.WELL_POOL_SPARES : Fld := { lo := 12, w := 4, ty := .ro, rst := 0x8, grp := some .datapath }
def F.WELL_POOL_TEST_PUMP : Fld := { lo := 16, w := 6, ty := .ro, rst := 0x0, grp := some .datapath }
def F.WELL_POOL_TEST_BUSY : Fld := { lo := 22, w := 1, ty := .ro, rst := 0x0, grp := some .datapath }
def F.WELL_POOL_QUAR_COUNT : Fld := { lo := 24, w := 6, ty := .ro, rst := 0x0, grp := some .datapath }
/-- WELLn_QUAR0, B + 0x0010, and WELLn_QUAR1, B + 0x0014: R66. -/
def R.WELL_QUAR0 (n : Nat) : Nat := 0x800010 + n * 0x100000
def F.WELL_QUAR0_QUAR : Fld := { lo := 0, w := 32, ty := .ro, rst := 0x0, grp := some .datapath }
/-- WELLn_QUAR0, B + 0x0010, and WELLn_QUAR1, B + 0x0014: R66. -/
def R.WELL_QUAR1 (n : Nat) : Nat := 0x800014 + n * 0x100000
def F.WELL_QUAR1_QUAR : Fld := { lo := 0, w := 32, ty := .ro, rst := 0x0, grp := some .datapath }
/-- WELLn_ROT_CFG, B + 0x0018: R66. -/
def R.WELL_ROT_CFG (n : Nat) : Nat := 0x800018 + n * 0x100000
def F.WELL_ROT_CFG_ROT_EPOCHS : Fld := { lo := 0, w := 5, ty := .rw, rst := 0x10, ap := .epoch, grp := some .datapath }
def F.WELL_ROT_CFG_ROT_EN : Fld := { lo := 8, w := 1, ty := .rw, rst := 0x1, grp := some .datapath }
def F.WELL_ROT_CFG_KEEP_SPARES : Fld := { lo := 9, w := 3, ty := .rw, rst := 0x0, grp := some .datapath }
/-- WELLn_BUDGET, B + 0x0020: R66. -/
def R.WELL_BUDGET (n : Nat) : Nat := 0x800020 + n * 0x100000
def F.WELL_BUDGET_MAC_UTIL : Fld := { lo := 0, w := 8, ty := .ro, rst := 0x0, ap := .epoch, grp := some .datapath }
def F.WELL_BUDGET_ACS_UTIL : Fld := { lo := 8, w := 8, ty := .ro, rst := 0x0, ap := .epoch, grp := some .datapath }
def F.WELL_BUDGET_SLACK_MIN : Fld := { lo := 16, w := 16, ty := .ro, rst := 0x0, ap := .epoch, grp := some .datapath }
/-- WELLn_CNT, B + 0x0024: R66. -/
def R.WELL_CNT (n : Nat) : Nat := 0x800024 + n * 0x100000
def F.WELL_CNT_TAKEOVERS : Fld := { lo := 0, w := 8, ty := .ro, rst := 0x0, grp := some .datapath }
def F.WELL_CNT_RESTARTS : Fld := { lo := 8, w := 8, ty := .ro, rst := 0x0, grp := some .datapath }
def F.WELL_CNT_BURST_FRAMES : Fld := { lo := 16, w := 16, ty := .ro, rst := 0x0, grp := some .datapath }
/-- WELLn_PARAM0–WELLn_PARAM63, B + 0x0400 + 4 × k, k = 0 to 63: R66. -/
def R.WELL_PARAM (n : Nat) (k : Nat) : Nat := 0x800400 + n * 0x100000 + k * 0x4
def F.WELL_PARAM_VALUE : Fld := { lo := 0, w := 32, ty := .rw, rst := 0x0, ap := .epoch, grp := some .datapath }
/-- PUMP_STATE, P + 0x000: R66. -/
def R.PUMP_STATE (n : Nat) (k : Nat) : Nat := 0x880000 + n * 0x100000 + k * 0x1000
def F.PUMP_STATE_ROLE : Fld := { lo := 0, w := 2, ty := .ro, rst := 0x0, grp := some .datapath }
def F.PUMP_STATE_QUAR : Fld := { lo := 2, w := 1, ty := .ro, rst := 0x0, grp := some .datapath }
def F.PUMP_STATE_UNTESTED : Fld := { lo := 3, w := 1, ty := .ro, rst := 0x1, grp := some .datapath }
def F.PUMP_STATE_BANK : Fld := { lo := 4, w := 1, ty := .ro, rst := 0x0, grp := some .datapath }
def F.PUMP_STATE_TEST_PASS : Fld := { lo := 5, w := 1, ty := .ro, rst := 0x0, grp := some .datapath }
def F.PUMP_STATE_SLOT : Fld := { lo := 8, w := 6, ty := .ro, rst := 0x0, grp := some .datapath }
/-- PUMP_ERR, P + 0x004: R66. -/
def R.PUMP_ERR (n : Nat) (k : Nat) : Nat := 0x880004 + n * 0x100000 + k * 0x1000
def F.PUMP_ERR_IPAR : Fld := { lo := 0, w := 1, ty := .w1c, rst := 0x0, grp := some .datapath }
def F.PUMP_ERR_DUE : Fld := { lo := 1, w := 1, ty := .w1c, rst := 0x0, grp := some .datapath }
def F.PUMP_ERR_DEADLINE : Fld := { lo := 2, w := 1, ty := .w1c, rst := 0x0, grp := some .datapath }
def F.PUMP_ERR_SIG : Fld := { lo := 3, w := 1, ty := .w1c, rst := 0x0, grp := some .datapath }
def F.PUMP_ERR_LATE2 : Fld := { lo := 4, w := 1, ty := .w1c, rst := 0x0, grp := some .datapath }
def F.PUMP_ERR_IPAR_INACTIVE : Fld := { lo := 5, w := 1, ty := .w1c, rst := 0x0, grp := some .datapath }
def F.PUMP_ERR_KWARN : Fld := { lo := 6, w := 1, ty := .w1c, rst := 0x0, grp := some .datapath }
def F.PUMP_ERR_KERR : Fld := { lo := 8, w := 8, ty := .ro, rst := 0x0, grp := some .datapath }
def F.PUMP_ERR_KID : Fld := { lo := 16, w := 8, ty := .ro, rst := 0x0, grp := some .datapath }
def F.PUMP_ERR_CE_COUNT : Fld := { lo := 24, w := 8, ty := .ro, rst := 0x0, grp := some .datapath }
/-- PUMP_SLACK, P + 0x008: R66. -/
def R.PUMP_SLACK (n : Nat) (k : Nat) : Nat := 0x880008 + n * 0x100000 + k * 0x1000
def F.PUMP_SLACK_MIN_SLACK : Fld := { lo := 0, w := 16, ty := .ro, rst := 0x0, ap := .epoch, grp := some .datapath }

/-- The register rows of spec/02_pumps_and_wells.md. -/
def Regs.pmp : List RegSpec := [
  { base := 0x800000, dims := [(0x100000, 8)], flds := [F.WELL_RECIPE_SEL, F.WELL_RECIPE_LOAD, F.WELL_RECIPE_AUTO_SWITCH, F.WELL_RECIPE_FORCE, F.WELL_RECIPE_SRC] },
  { base := 0x800004, dims := [(0x100000, 8)], flds := [F.WELL_IBANK_ACTIVE, F.WELL_IBANK_SWITCH, F.WELL_IBANK_SWITCH_PEND, F.WELL_IBANK_LOADING, F.WELL_IBANK_BANK_VALID, F.WELL_IBANK_SEL_BANK0, F.WELL_IBANK_SEL_BANK1] },
  { base := 0x800008, dims := [(0x100000, 8)], flds := [F.WELL_STATUS_TAKEOVER, F.WELL_STATUS_QUARANTINE, F.WELL_STATUS_RESTART, F.WELL_STATUS_BURST, F.WELL_STATUS_SWITCH_DONE, F.WELL_STATUS_SWITCH_REFUSED, F.WELL_STATUS_SWITCH_CANCELLED, F.WELL_STATUS_LOAD_ERR, F.WELL_STATUS_ROT_STOPPED, F.WELL_STATUS_VARIANT_REDUCED, F.WELL_STATUS_REFUSE_REASON] },
  { base := 0x80000c, dims := [(0x100000, 8)], flds := [F.WELL_POOL_RX_WORKING, F.WELL_POOL_TX_WORKING, F.WELL_POOL_SPARES, F.WELL_POOL_TEST_PUMP, F.WELL_POOL_TEST_BUSY, F.WELL_POOL_QUAR_COUNT] },
  { base := 0x800010, dims := [(0x100000, 8)], flds := [F.WELL_QUAR0_QUAR] },
  { base := 0x800014, dims := [(0x100000, 8)], flds := [F.WELL_QUAR1_QUAR] },
  { base := 0x800018, dims := [(0x100000, 8)], flds := [F.WELL_ROT_CFG_ROT_EPOCHS, F.WELL_ROT_CFG_ROT_EN, F.WELL_ROT_CFG_KEEP_SPARES] },
  { base := 0x800020, dims := [(0x100000, 8)], flds := [F.WELL_BUDGET_MAC_UTIL, F.WELL_BUDGET_ACS_UTIL, F.WELL_BUDGET_SLACK_MIN] },
  { base := 0x800024, dims := [(0x100000, 8)], flds := [F.WELL_CNT_TAKEOVERS, F.WELL_CNT_RESTARTS, F.WELL_CNT_BURST_FRAMES] },
  { base := 0x800400, dims := [(0x100000, 8), (0x4, 64)], flds := [F.WELL_PARAM_VALUE] },
  { base := 0x880000, dims := [(0x100000, 8), (0x1000, 64)], flds := [F.PUMP_STATE_ROLE, F.PUMP_STATE_QUAR, F.PUMP_STATE_UNTESTED, F.PUMP_STATE_BANK, F.PUMP_STATE_TEST_PASS, F.PUMP_STATE_SLOT] },
  { base := 0x880004, dims := [(0x100000, 8), (0x1000, 64)], flds := [F.PUMP_ERR_IPAR, F.PUMP_ERR_DUE, F.PUMP_ERR_DEADLINE, F.PUMP_ERR_SIG, F.PUMP_ERR_LATE2, F.PUMP_ERR_IPAR_INACTIVE, F.PUMP_ERR_KWARN, F.PUMP_ERR_KERR, F.PUMP_ERR_KID, F.PUMP_ERR_CE_COUNT] },
  { base := 0x880008, dims := [(0x100000, 8), (0x1000, 64)], flds := [F.PUMP_SLACK_MIN_SLACK] } ]

/-! ### spec/03_line_converters.md -/

/-- LINE_LEN_CTRL, C + 0x000, masked, AON: R92. -/
def R.LINE_LEN_CTRL : Nat := 0x400000
def F.LINE_LEN_CTRL_LEN_EN : Fld := { lo := 0, w := 8, ty := .rw, rst := 0x0, grp := some .datapath }
def F.LINE_LEN_CTRL_MUTE : Fld := { lo := 8, w := 8, ty := .rw, rst := 0x0, ap := .frame, grp := some .datapath }
/-- LINE_LEN_STATUS, C + 0x004, AON: R92. -/
def R.LINE_LEN_STATUS : Nat := 0x400004
def F.LINE_LEN_STATUS_LEN_OUT : Fld := { lo := 0, w := 8, ty := .ro, rst := 0x0, grp := some .datapath }
def F.LINE_LEN_STATUS_TXDIS_LVL : Fld := { lo := 8, w := 1, ty := .ro, rst := 0x0, grp := some .datapath }
def F.LINE_LEN_STATUS_SG3_HOLD : Fld := { lo := 9, w := 1, ty := .ro, rst := 0x0, grp := some .datapath }
def F.LINE_LEN_STATUS_VENT_HOLD : Fld := { lo := 10, w := 1, ty := .ro, rst := 0x0, grp := some .datapath }
def F.LINE_LEN_STATUS_LEN_DROP : Fld := { lo := 16, w := 8, ty := .w1c, rst := 0x0, grp := some .datapath }
/-- LINE_LEN_TIMING, C + 0x008, AON: R92. -/
def R.LINE_LEN_TIMING : Nat := 0x400008
def F.LINE_LEN_TIMING_LEN_SETTLE : Fld := { lo := 0, w := 8, ty := .rwl, rst := 0x14, grp := some .datapath }
def F.LINE_LEN_TIMING_TXDIS_FILT : Fld := { lo := 8, w := 8, ty := .rwl, rst := 0xa, grp := some .datapath }
def F.LINE_LEN_TIMING_LOCK : Fld := { lo := 31, w := 1, ty := .rwo, rst := 0x0, grp := some .datapath }
/-- LINE_TRACE, C + 0x00C: R92. -/
def R.LINE_TRACE : Nat := 0x40000c
def F.LINE_TRACE_VREF_EXT_PRESENT : Fld := { lo := 0, w := 1, ty := .ro, rst := 0x0, grp := some .datapath }
def F.LINE_TRACE_REXT_OK : Fld := { lo := 1, w := 1, ty := .ro, rst := 0x0, grp := some .datapath }
def F.LINE_TRACE_REFCLK_OK : Fld := { lo := 2, w := 1, ty := .ro, rst := 0x0, grp := some .datapath }
def F.LINE_TRACE_REXT_MEAS : Fld := { lo := 16, w := 16, ty := .ro, rst := 0x0, grp := some .datapath }
/-- LINE_CAL_CMD, C + 0x010: R92. -/
def R.LINE_CAL_CMD : Nat := 0x400010
def F.LINE_CAL_CMD_LANES : Fld := { lo := 0, w := 8, ty := .rw, rst := 0x0, grp := some .datapath }
def F.LINE_CAL_CMD_STEPS : Fld := { lo := 8, w := 6, ty := .rw, rst := 0x3f, grp := some .datapath }
def F.LINE_CAL_CMD_GO : Fld := { lo := 16, w := 1, ty := .wo, rst := 0x0, grp := some .datapath }
def F.LINE_CAL_CMD_FORCE : Fld := { lo := 17, w := 1, ty := .rw, rst := 0x0, grp := some .datapath }
/-- LINE_TBP0–LINE_TBP7, C + 0x040 + 4 × b, b = 0 to 7: R92. -/
def R.LINE_TBP (n : Nat) : Nat := 0x400040 + n * 0x4
def F.LINE_TBP_SAR_MARGIN : Fld := { lo := 0, w := 4, ty := .rw, rst := 0x0, ap := .epoch, grp := some .datapath }
def F.LINE_TBP_CMP_BIAS : Fld := { lo := 4, w := 4, ty := .rw, rst := 0x0, ap := .epoch, grp := some .datapath }
def F.LINE_TBP_DAC_RT_PHASE : Fld := { lo := 8, w := 4, ty := .rw, rst := 0x0, ap := .epoch, grp := some .datapath }
def F.LINE_TBP_PI_RT_PHASE : Fld := { lo := 12, w := 4, ty := .rw, rst := 0x0, ap := .epoch, grp := some .datapath }
/-- LINE_PLL_CFG, L + 0x000: R92. -/
def R.LINE_PLL_CFG (n : Nat) : Nat := 0x410000 + n * 0x1000
def F.LINE_PLL_CFG_RATE : Fld := { lo := 0, w := 2, ty := .ro, rst := 0x0, grp := some .datapath }
def F.LINE_PLL_CFG_STEER_LANE : Fld := { lo := 4, w := 3, ty := .ro, rst := 0x0, grp := some .datapath }
def F.LINE_PLL_CFG_STEER_BW : Fld := { lo := 8, w := 2, ty := .rw, rst := 0x1, grp := some .datapath }
/-- LINE_PLL_STATUS, L + 0x004: R92. -/
def R.LINE_PLL_STATUS (n : Nat) : Nat := 0x410004 + n * 0x1000
def F.LINE_PLL_STATUS_LOCK : Fld := { lo := 0, w := 1, ty := .ro, rst := 0x0, grp := some .datapath }
def F.LINE_PLL_STATUS_LOL : Fld := { lo := 1, w := 1, ty := .w1c, rst := 0x0, grp := some .datapath }
def F.LINE_PLL_STATUS_STEER_HOLD : Fld := { lo := 2, w := 1, ty := .ro, rst := 0x0, grp := some .datapath }
def F.LINE_PLL_STATUS_LOL_COUNT : Fld := { lo := 8, w := 8, ty := .ro, rst := 0x0, grp := some .datapath }
def F.LINE_PLL_STATUS_FREQ_OFS : Fld := { lo := 16, w := 16, ty := .ro, rst := 0x0, grp := some .datapath }
/-- LINE_FE_CFG, L + 0x010: R92. -/
def R.LINE_FE_CFG (n : Nat) : Nat := 0x410010 + n * 0x1000
def F.LINE_FE_CFG_FE_CLASS : Fld := { lo := 0, w := 2, ty := .rw, rst := 0x1, ap := .frame, grp := some .datapath }
def F.LINE_FE_CFG_SWING : Fld := { lo := 8, w := 8, ty := .rw, rst := 0x96, ap := .frame, grp := some .datapath }
def F.LINE_FE_CFG_ADC_FS : Fld := { lo := 16, w := 4, ty := .rw, rst := 0x3, ap := .epoch, grp := some .datapath }
def F.LINE_FE_CFG_PEAK : Fld := { lo := 20, w := 3, ty := .rw, rst := 0x2, ap := .epoch, grp := some .datapath }
def F.LINE_FE_CFG_TX_POL : Fld := { lo := 24, w := 1, ty := .rw, rst := 0x0, ap := .frame, grp := some .datapath }
def F.LINE_FE_CFG_RX_POL : Fld := { lo := 25, w := 1, ty := .rw, rst := 0x0, ap := .frame, grp := some .datapath }
def F.LINE_FE_CFG_DAC_EN : Fld := { lo := 26, w := 1, ty := .rw, rst := 0x1, grp := some .datapath }
def F.LINE_FE_CFG_ADC_EN : Fld := { lo := 27, w := 1, ty := .rw, rst := 0x1, grp := some .datapath }
/-- LINE_FE_STATUS, L + 0x014: R92. -/
def R.LINE_FE_STATUS (n : Nat) : Nat := 0x410014 + n * 0x1000
def F.LINE_FE_STATUS_SIG_DET : Fld := { lo := 0, w := 1, ty := .ro, rst := 0x0, grp := some .datapath }
def F.LINE_FE_STATUS_SIG_LOSS : Fld := { lo := 1, w := 1, ty := .w1c, rst := 0x0, grp := some .datapath }
def F.LINE_FE_STATUS_ADC_OVR : Fld := { lo := 2, w := 1, ty := .w1c, rst := 0x0, grp := some .datapath }
def F.LINE_FE_STATUS_DAC_CLIP : Fld := { lo := 3, w := 1, ty := .w1c, rst := 0x0, grp := some .datapath }
def F.LINE_FE_STATUS_SWING_EFF : Fld := { lo := 8, w := 8, ty := .ro, rst := 0x96, ap := .frame, grp := some .datapath }
def F.LINE_FE_STATUS_FS_EFF : Fld := { lo := 16, w := 4, ty := .ro, rst := 0x3, ap := .epoch, grp := some .datapath }
def F.LINE_FE_STATUS_PEAK_EFF : Fld := { lo := 20, w := 3, ty := .ro, rst := 0x2, ap := .epoch, grp := some .datapath }
/-- LINE_PI, L + 0x018: R92. -/
def R.LINE_PI (n : Nat) : Nat := 0x410018 + n * 0x1000
def F.LINE_PI_PHASE : Fld := { lo := 0, w := 7, ty := .ro, rst := 0x0, grp := some .datapath }
def F.LINE_PI_WRAPS : Fld := { lo := 8, w := 16, ty := .ro, rst := 0x0, grp := some .datapath }
def F.LINE_PI_MANUAL : Fld := { lo := 24, w := 1, ty := .rw, rst := 0x0, grp := some .datapath }
/-- LINE_PI_MAN, L + 0x01C: R92. -/
def R.LINE_PI_MAN (n : Nat) : Nat := 0x41001c + n * 0x1000
def F.LINE_PI_MAN_CODE : Fld := { lo := 0, w := 7, ty := .rw, rst := 0x0, grp := some .datapath }
/-- LINE_CAL_CFG, L + 0x020: R92. -/
def R.LINE_CAL_CFG (n : Nat) : Nat := 0x410020 + n * 0x1000
def F.LINE_CAL_CFG_BG_EN : Fld := { lo := 0, w := 1, ty := .rw, rst := 0x1, grp := some .datapath }
def F.LINE_CAL_CFG_BG_SKEW_EN : Fld := { lo := 1, w := 1, ty := .rw, rst := 0x1, grp := some .datapath }
def F.LINE_CAL_CFG_MANUAL : Fld := { lo := 2, w := 1, ty := .rw, rst := 0x0, grp := some .datapath }
def F.LINE_CAL_CFG_BG_TIMEOUT : Fld := { lo := 8, w := 8, ty := .rw, rst := 0x10, grp := some .datapath }
def F.LINE_CAL_CFG_SKEW_STEP_MAX : Fld := { lo := 16, w := 8, ty := .rw, rst := 0x2, grp := some .datapath }
/-- LINE_CAL_STATUS, L + 0x024: R92. -/
def R.LINE_CAL_STATUS (n : Nat) : Nat := 0x410024 + n * 0x1000
def F.LINE_CAL_STATUS_RUNNING : Fld := { lo := 0, w := 1, ty := .ro, rst := 0x0, grp := some .datapath }
def F.LINE_CAL_STATUS_DONE : Fld := { lo := 1, w := 1, ty := .w1c, rst := 0x0, grp := some .datapath }
def F.LINE_CAL_STATUS_REFUSED : Fld := { lo := 2, w := 1, ty := .w1c, rst := 0x0, grp := some .datapath }
def F.LINE_CAL_STATUS_BAD : Fld := { lo := 8, w := 6, ty := .ro, rst := 0x0, grp := some .datapath }
def F.LINE_CAL_STATUS_BG_BAD : Fld := { lo := 14, w := 1, ty := .ro, rst := 0x0, ap := .epoch, grp := some .datapath }
def F.LINE_CAL_STATUS_BG_CONV : Fld := { lo := 15, w := 1, ty := .ro, rst := 0x0, ap := .epoch, grp := some .datapath }
def F.LINE_CAL_STATUS_BG_SETS : Fld := { lo := 16, w := 16, ty := .ro, rst := 0x0, grp := some .datapath }
/-- LINE_CAL_QUAL0, L + 0x028: R92. -/
def R.LINE_CAL_QUAL0 (n : Nat) : Nat := 0x410028 + n * 0x1000
def F.LINE_CAL_QUAL0_SKEW_RES : Fld := { lo := 0, w := 12, ty := .ro, rst := 0x0, ap := .epoch, grp := some .datapath }
def F.LINE_CAL_QUAL0_SPUR : Fld := { lo := 16, w := 8, ty := .ro, rst := 0x0, ap := .epoch, grp := some .datapath }
def F.LINE_CAL_QUAL0_EYE_W : Fld := { lo := 24, w := 7, ty := .ro, rst := 0x0, ap := .epoch, grp := some .datapath }
/-- LINE_CAL_QUAL1, L + 0x02C: R92. -/
def R.LINE_CAL_QUAL1 (n : Nat) : Nat := 0x41002c + n * 0x1000
def F.LINE_CAL_QUAL1_OFS_RES : Fld := { lo := 0, w := 8, ty := .ro, rst := 0x0, ap := .epoch, grp := some .datapath }
def F.LINE_CAL_QUAL1_GAIN_RES : Fld := { lo := 8, w := 8, ty := .ro, rst := 0x0, ap := .epoch, grp := some .datapath }
def F.LINE_CAL_QUAL1_TERM_ERR : Fld := { lo := 16, w := 8, ty := .ro, rst := 0x0, grp := some .datapath }
def F.LINE_CAL_QUAL1_SWING_ERR : Fld := { lo := 24, w := 8, ty := .ro, rst := 0x0, grp := some .datapath }
/-- LINE_ICAL0–LINE_ICAL63, L + 0x100 + 4 × k, k = 0 to 63: R92. -/
def R.LINE_ICAL (n : Nat) (k : Nat) : Nat := 0x410100 + n * 0x1000 + k * 0x4
def F.LINE_ICAL_OFFSET : Fld := { lo := 0, w := 8, ty := .rw, rst := 0x0, ap := .epoch, grp := some .datapath }
def F.LINE_ICAL_GAIN : Fld := { lo := 8, w := 12, ty := .rw, rst := 0x800, ap := .epoch, grp := some .datapath }
def F.LINE_ICAL_SKEW : Fld := { lo := 20, w := 8, ty := .rw, rst := 0x0, ap := .epoch, grp := some .datapath }

/-- The register rows of spec/03_line_converters.md. -/
def Regs.cnv : List RegSpec := [
  { base := 0x400000, dims := [], flds := [F.LINE_LEN_CTRL_LEN_EN, F.LINE_LEN_CTRL_MUTE], masked := true, aon := true },
  { base := 0x400004, dims := [], flds := [F.LINE_LEN_STATUS_LEN_OUT, F.LINE_LEN_STATUS_TXDIS_LVL, F.LINE_LEN_STATUS_SG3_HOLD, F.LINE_LEN_STATUS_VENT_HOLD, F.LINE_LEN_STATUS_LEN_DROP], aon := true },
  { base := 0x400008, dims := [], flds := [F.LINE_LEN_TIMING_LEN_SETTLE, F.LINE_LEN_TIMING_TXDIS_FILT, F.LINE_LEN_TIMING_LOCK], aon := true, lockAt := some 0x400008 },
  { base := 0x40000c, dims := [], flds := [F.LINE_TRACE_VREF_EXT_PRESENT, F.LINE_TRACE_REXT_OK, F.LINE_TRACE_REFCLK_OK, F.LINE_TRACE_REXT_MEAS] },
  { base := 0x400010, dims := [], flds := [F.LINE_CAL_CMD_LANES, F.LINE_CAL_CMD_STEPS, F.LINE_CAL_CMD_GO, F.LINE_CAL_CMD_FORCE] },
  { base := 0x400040, dims := [(0x4, 8)], flds := [F.LINE_TBP_SAR_MARGIN, F.LINE_TBP_CMP_BIAS, F.LINE_TBP_DAC_RT_PHASE, F.LINE_TBP_PI_RT_PHASE] },
  { base := 0x410000, dims := [(0x1000, 8)], flds := [F.LINE_PLL_CFG_RATE, F.LINE_PLL_CFG_STEER_LANE, F.LINE_PLL_CFG_STEER_BW] },
  { base := 0x410004, dims := [(0x1000, 8)], flds := [F.LINE_PLL_STATUS_LOCK, F.LINE_PLL_STATUS_LOL, F.LINE_PLL_STATUS_STEER_HOLD, F.LINE_PLL_STATUS_LOL_COUNT, F.LINE_PLL_STATUS_FREQ_OFS], lockAt := some 0x410004 },
  { base := 0x410010, dims := [(0x1000, 8)], flds := [F.LINE_FE_CFG_FE_CLASS, F.LINE_FE_CFG_SWING, F.LINE_FE_CFG_ADC_FS, F.LINE_FE_CFG_PEAK, F.LINE_FE_CFG_TX_POL, F.LINE_FE_CFG_RX_POL, F.LINE_FE_CFG_DAC_EN, F.LINE_FE_CFG_ADC_EN] },
  { base := 0x410014, dims := [(0x1000, 8)], flds := [F.LINE_FE_STATUS_SIG_DET, F.LINE_FE_STATUS_SIG_LOSS, F.LINE_FE_STATUS_ADC_OVR, F.LINE_FE_STATUS_DAC_CLIP, F.LINE_FE_STATUS_SWING_EFF, F.LINE_FE_STATUS_FS_EFF, F.LINE_FE_STATUS_PEAK_EFF] },
  { base := 0x410018, dims := [(0x1000, 8)], flds := [F.LINE_PI_PHASE, F.LINE_PI_WRAPS, F.LINE_PI_MANUAL] },
  { base := 0x41001c, dims := [(0x1000, 8)], flds := [F.LINE_PI_MAN_CODE] },
  { base := 0x410020, dims := [(0x1000, 8)], flds := [F.LINE_CAL_CFG_BG_EN, F.LINE_CAL_CFG_BG_SKEW_EN, F.LINE_CAL_CFG_MANUAL, F.LINE_CAL_CFG_BG_TIMEOUT, F.LINE_CAL_CFG_SKEW_STEP_MAX] },
  { base := 0x410024, dims := [(0x1000, 8)], flds := [F.LINE_CAL_STATUS_RUNNING, F.LINE_CAL_STATUS_DONE, F.LINE_CAL_STATUS_REFUSED, F.LINE_CAL_STATUS_BAD, F.LINE_CAL_STATUS_BG_BAD, F.LINE_CAL_STATUS_BG_CONV, F.LINE_CAL_STATUS_BG_SETS] },
  { base := 0x410028, dims := [(0x1000, 8)], flds := [F.LINE_CAL_QUAL0_SKEW_RES, F.LINE_CAL_QUAL0_SPUR, F.LINE_CAL_QUAL0_EYE_W] },
  { base := 0x41002c, dims := [(0x1000, 8)], flds := [F.LINE_CAL_QUAL1_OFS_RES, F.LINE_CAL_QUAL1_GAIN_RES, F.LINE_CAL_QUAL1_TERM_ERR, F.LINE_CAL_QUAL1_SWING_ERR] },
  { base := 0x410100, dims := [(0x1000, 8), (0x4, 64)], flds := [F.LINE_ICAL_OFFSET, F.LINE_ICAL_GAIN, F.LINE_ICAL_SKEW] } ]

/-! ### spec/04_receive_chain.md -/

/-- WELLn_RX_CTRL, B + 0x0100: R118. -/
def R.WELL_RX_CTRL (n : Nat) : Nat := 0x800100 + n * 0x100000
def F.WELL_RX_CTRL_REACH : Fld := { lo := 0, w := 2, ty := .rw, rst := 0x1, grp := some .datapath }
def F.WELL_RX_CTRL_ADAPT_EN : Fld := { lo := 4, w := 1, ty := .rw, rst := 0x1, ap := .epoch, grp := some .datapath }
def F.WELL_RX_CTRL_TREC_FREEZE : Fld := { lo := 5, w := 1, ty := .rw, rst := 0x0, grp := some .datapath }
def F.WELL_RX_CTRL_RESTART : Fld := { lo := 6, w := 1, ty := .wo, rst := 0x0, ap := .frame, grp := some .datapath }
def F.WELL_RX_CTRL_INIT_SRC : Fld := { lo := 7, w := 1, ty := .rw, rst := 0x0, grp := some .datapath }
def F.WELL_RX_CTRL_HOLD_KEEP : Fld := { lo := 8, w := 1, ty := .rw, rst := 0x1, grp := some .datapath }
/-- WELLn_RX_ACQ, B + 0x0104: R118. -/
def R.WELL_RX_ACQ (n : Nat) : Nat := 0x800104 + n * 0x100000
def F.WELL_RX_ACQ_ACQ_EPOCHS : Fld := { lo := 0, w := 8, ty := .rw, rst := 0x20, grp := some .datapath }
def F.WELL_RX_ACQ_ACQ_TIMEOUT : Fld := { lo := 8, w := 8, ty := .rw, rst := 0x40, grp := some .datapath }
def F.WELL_RX_ACQ_LOCK_FOM : Fld := { lo := 16, w := 8, ty := .rw, rst := 0x3c, grp := some .datapath }
def F.WELL_RX_ACQ_LOL_FOM : Fld := { lo := 24, w := 8, ty := .rw, rst := 0x30, grp := some .datapath }
/-- WELLn_RX_LOL, B + 0x0108: R118. -/
def R.WELL_RX_LOL (n : Nat) : Nat := 0x800108 + n * 0x100000
def F.WELL_RX_LOL_LOL_EPOCHS : Fld := { lo := 0, w := 8, ty := .rw, rst := 0x4, grp := some .datapath }
def F.WELL_RX_LOL_HOLD_TIME : Fld := { lo := 8, w := 8, ty := .rw, rst := 0xa, grp := some .datapath }
/-- WELLn_RX_STATUS, B + 0x010C: R118. -/
def R.WELL_RX_STATUS (n : Nat) : Nat := 0x80010c + n * 0x100000
def F.WELL_RX_STATUS_STATE : Fld := { lo := 0, w := 3, ty := .ro, rst := 0x0, grp := some .datapath }
def F.WELL_RX_STATUS_TREC_LOCK : Fld := { lo := 3, w := 1, ty := .ro, rst := 0x0, grp := some .datapath }
def F.WELL_RX_STATUS_DET_ACTIVE : Fld := { lo := 4, w := 1, ty := .ro, rst := 0x0, ap := .frame, grp := some .datapath }
def F.WELL_RX_STATUS_LOCKED_EV : Fld := { lo := 5, w := 1, ty := .w1c, rst := 0x0, grp := some .datapath }
def F.WELL_RX_STATUS_LOL : Fld := { lo := 6, w := 1, ty := .w1c, rst := 0x0, grp := some .datapath }
def F.WELL_RX_STATUS_ACQ_FAIL : Fld := { lo := 7, w := 1, ty := .w1c, rst := 0x0, grp := some .datapath }
def F.WELL_RX_STATUS_REACH_ERR : Fld := { lo := 8, w := 1, ty := .w1c, rst := 0x0, grp := some .datapath }
def F.WELL_RX_STATUS_ADAPT_LATE : Fld := { lo := 9, w := 1, ty := .w1c, rst := 0x0, grp := some .datapath }
def F.WELL_RX_STATUS_ADAPT_REJECT : Fld := { lo := 10, w := 1, ty := .w1c, rst := 0x0, grp := some .datapath }
def F.WELL_RX_STATUS_REACH_EFF : Fld := { lo := 12, w := 2, ty := .ro, rst := 0x1, ap := .frame, grp := some .datapath }
def F.WELL_RX_STATUS_REACH_NC : Fld := { lo := 14, w := 1, ty := .ro, rst := 0x0, ap := .frame, grp := some .datapath }
/-- WELLn_RX_FOM, B + 0x0110: R118. -/
def R.WELL_RX_FOM (n : Nat) : Nat := 0x800110 + n * 0x100000
def F.WELL_RX_FOM_FOM : Fld := { lo := 0, w := 8, ty := .ro, rst := 0x0, ap := .epoch, grp := some .datapath }
def F.WELL_RX_FOM_FOM_AVG : Fld := { lo := 8, w := 8, ty := .ro, rst := 0x0, ap := .epoch, grp := some .datapath }
def F.WELL_RX_FOM_ERR_RMS : Fld := { lo := 16, w := 16, ty := .ro, rst := 0x0, ap := .epoch, grp := some .datapath }
/-- WELLn_RX_TREC, B + 0x0114: R118. -/
def R.WELL_RX_TREC (n : Nat) : Nat := 0x800114 + n * 0x100000
def F.WELL_RX_TREC_FREQ : Fld := { lo := 0, w := 16, ty := .ro, rst := 0x0, grp := some .datapath }
def F.WELL_RX_TREC_PH_ERR_RMS : Fld := { lo := 16, w := 7, ty := .ro, rst := 0x0, ap := .frame, grp := some .datapath }
/-- WELLn_RX_CNT, B + 0x0118: R118. -/
def R.WELL_RX_CNT (n : Nat) : Nat := 0x800118 + n * 0x100000
def F.WELL_RX_CNT_LOL_COUNT : Fld := { lo := 0, w := 8, ty := .ro, rst := 0x0, grp := some .datapath }
def F.WELL_RX_CNT_ACQ_FAILS : Fld := { lo := 8, w := 8, ty := .ro, rst := 0x0, grp := some .datapath }
def F.WELL_RX_CNT_ADAPT_LATES : Fld := { lo := 16, w := 8, ty := .ro, rst := 0x0, grp := some .datapath }
def F.WELL_RX_CNT_ADAPT_REJECTS : Fld := { lo := 24, w := 8, ty := .ro, rst := 0x0, grp := some .datapath }
/-- WELLn_FFE_INIT0–WELLn_FFE_INIT10, B + 0x0140 + 4 × k, k = 0 to 10: R118. -/
def R.WELL_FFE_INIT (n : Nat) (k : Nat) : Nat := 0x800140 + n * 0x100000 + k * 0x4
def F.WELL_FFE_INIT_TAP0 : Fld := { lo := 0, w := 8, ty := .rw, rst := 0x0, grp := some .datapath }
def F.WELL_FFE_INIT_TAP1 : Fld := { lo := 8, w := 8, ty := .rw, rst := 0x0, grp := some .datapath }
def F.WELL_FFE_INIT_TAP2 : Fld := { lo := 16, w := 8, ty := .rw, rst := 0x0, grp := some .datapath }
def F.WELL_FFE_INIT_TAP3 : Fld := { lo := 24, w := 8, ty := .rw, rst := 0x0, grp := some .datapath }
/-- WELLn_FFE_TAP0–WELLn_FFE_TAP10, B + 0x0180 + 4 × k, k = 0 to 10: R118. -/
def R.WELL_FFE_TAP (n : Nat) (k : Nat) : Nat := 0x800180 + n * 0x100000 + k * 0x4
def F.WELL_FFE_TAP_TAP0 : Fld := { lo := 0, w := 8, ty := .ro, rst := 0x0, ap := .epoch, grp := some .datapath }
def F.WELL_FFE_TAP_TAP1 : Fld := { lo := 8, w := 8, ty := .ro, rst := 0x0, ap := .epoch, grp := some .datapath }
def F.WELL_FFE_TAP_TAP2 : Fld := { lo := 16, w := 8, ty := .ro, rst := 0x0, ap := .epoch, grp := some .datapath }
def F.WELL_FFE_TAP_TAP3 : Fld := { lo := 24, w := 8, ty := .ro, rst := 0x0, ap := .epoch, grp := some .datapath }

/-- The register rows of spec/04_receive_chain.md. -/
def Regs.rx : List RegSpec := [
  { base := 0x800100, dims := [(0x100000, 8)], flds := [F.WELL_RX_CTRL_REACH, F.WELL_RX_CTRL_ADAPT_EN, F.WELL_RX_CTRL_TREC_FREEZE, F.WELL_RX_CTRL_RESTART, F.WELL_RX_CTRL_INIT_SRC, F.WELL_RX_CTRL_HOLD_KEEP] },
  { base := 0x800104, dims := [(0x100000, 8)], flds := [F.WELL_RX_ACQ_ACQ_EPOCHS, F.WELL_RX_ACQ_ACQ_TIMEOUT, F.WELL_RX_ACQ_LOCK_FOM, F.WELL_RX_ACQ_LOL_FOM] },
  { base := 0x800108, dims := [(0x100000, 8)], flds := [F.WELL_RX_LOL_LOL_EPOCHS, F.WELL_RX_LOL_HOLD_TIME] },
  { base := 0x80010c, dims := [(0x100000, 8)], flds := [F.WELL_RX_STATUS_STATE, F.WELL_RX_STATUS_TREC_LOCK, F.WELL_RX_STATUS_DET_ACTIVE, F.WELL_RX_STATUS_LOCKED_EV, F.WELL_RX_STATUS_LOL, F.WELL_RX_STATUS_ACQ_FAIL, F.WELL_RX_STATUS_REACH_ERR, F.WELL_RX_STATUS_ADAPT_LATE, F.WELL_RX_STATUS_ADAPT_REJECT, F.WELL_RX_STATUS_REACH_EFF, F.WELL_RX_STATUS_REACH_NC] },
  { base := 0x800110, dims := [(0x100000, 8)], flds := [F.WELL_RX_FOM_FOM, F.WELL_RX_FOM_FOM_AVG, F.WELL_RX_FOM_ERR_RMS] },
  { base := 0x800114, dims := [(0x100000, 8)], flds := [F.WELL_RX_TREC_FREQ, F.WELL_RX_TREC_PH_ERR_RMS] },
  { base := 0x800118, dims := [(0x100000, 8)], flds := [F.WELL_RX_CNT_LOL_COUNT, F.WELL_RX_CNT_ACQ_FAILS, F.WELL_RX_CNT_ADAPT_LATES, F.WELL_RX_CNT_ADAPT_REJECTS] },
  { base := 0x800140, dims := [(0x100000, 8), (0x4, 11)], flds := [F.WELL_FFE_INIT_TAP0, F.WELL_FFE_INIT_TAP1, F.WELL_FFE_INIT_TAP2, F.WELL_FFE_INIT_TAP3] },
  { base := 0x800180, dims := [(0x100000, 8), (0x4, 11)], flds := [F.WELL_FFE_TAP_TAP0, F.WELL_FFE_TAP_TAP1, F.WELL_FFE_TAP_TAP2, F.WELL_FFE_TAP_TAP3] } ]

/-! ### spec/05_pattern_atlas.md -/

/-- ATL_CTRL, C + 0x000, masked: R147. -/
def R.ATL_CTRL : Nat := 0x1200000
def F.ATL_CTRL_LEARN_EN : Fld := { lo := 0, w := 8, ty := .rw, rst := 0xff, grp := some .datapath }
def F.ATL_CTRL_DIST_EN : Fld := { lo := 8, w := 8, ty := .rw, rst := 0xff, grp := some .datapath }
/-- ATL_CFG, C + 0x004: R147. -/
def R.ATL_CFG : Nat := 0x1200004
def F.ATL_CFG_AVG_SHIFT : Fld := { lo := 0, w := 4, ty := .rw, rst := 0x6, grp := some .datapath }
def F.ATL_CFG_MIN_COUNT : Fld := { lo := 8, w := 8, ty := .rw, rst := 0x10, grp := some .datapath }
def F.ATL_CFG_CLEAR_ON_RETARGET : Fld := { lo := 16, w := 1, ty := .rw, rst := 0x1, grp := some .datapath }
/-- ATL_CLEAR, C + 0x008: R147. -/
def R.ATL_CLEAR : Nat := 0x1200008
def F.ATL_CLEAR_LANES : Fld := { lo := 0, w := 8, ty := .wo, rst := 0x0, grp := some .datapath }
def F.ATL_CLEAR_BUSY : Fld := { lo := 8, w := 8, ty := .ro, rst := 0x0, grp := some .datapath }
/-- ATL_FREEZE, C + 0x00C, masked: R147. -/
def R.ATL_FREEZE : Nat := 0x120000c
def F.ATL_FREEZE_FREEZE : Fld := { lo := 0, w := 8, ty := .rw, rst := 0x0, grp := some .datapath }
/-- ATL_LANE_CFG, A + 0x000: R147. -/
def R.ATL_LANE_CFG (n : Nat) : Nat := 0x1210000 + n * 0x1000
def F.ATL_LANE_CFG_SRC : Fld := { lo := 0, w := 1, ty := .rw, rst := 0x0, grp := some .datapath }
def F.ATL_LANE_CFG_PD_SRC : Fld := { lo := 1, w := 1, ty := .rwl, rst := 0x0, grp := some .datapath }
def F.ATL_LANE_CFG_TAP_REMOTE_EN : Fld := { lo := 2, w := 1, ty := .rwl, rst := 0x1, grp := some .datapath }
def F.ATL_LANE_CFG_PD_SEND_EN : Fld := { lo := 3, w := 1, ty := .rw, rst := 0x1, grp := some .datapath }
def F.ATL_LANE_CFG_LOCK : Fld := { lo := 31, w := 1, ty := .rwo, rst := 0x0, grp := some .datapath }
/-- ATL_PD_CFG, A + 0x004: R147. -/
def R.ATL_PD_CFG (n : Nat) : Nat := 0x1210004 + n * 0x1000
def F.ATL_PD_CFG_PD_GAIN : Fld := { lo := 0, w := 4, ty := .rw, rst := 0x4, grp := some .datapath }
def F.ATL_PD_CFG_PD_SETTLE : Fld := { lo := 4, w := 4, ty := .rw, rst := 0x3, grp := some .datapath }
def F.ATL_PD_CFG_PD_FORMAT : Fld := { lo := 8, w := 1, ty := .rw, rst := 0x0, grp := some .datapath }
def F.ATL_PD_CFG_PD_TX_PERIODS : Fld := { lo := 12, w := 3, ty := .rw, rst := 0x2, grp := some .datapath }
def F.ATL_PD_CFG_PD_STEP_MAX : Fld := { lo := 16, w := 8, ty := .rw, rst := 0x10, grp := some .datapath }
/-- ATL_TRAIN, A + 0x008: R147. -/
def R.ATL_TRAIN (n : Nat) : Nat := 0x1210008 + n * 0x1000
def F.ATL_TRAIN_TRAIN_MODE : Fld := { lo := 0, w := 2, ty := .rw, rst := 0x1, grp := some .datapath }
def F.ATL_TRAIN_START : Fld := { lo := 2, w := 1, ty := .wo, rst := 0x0, grp := some .datapath }
def F.ATL_TRAIN_TRAIN_STATE : Fld := { lo := 4, w := 3, ty := .ro, rst := 0x0, grp := some .datapath }
def F.ATL_TRAIN_TRAIN_SKIP : Fld := { lo := 8, w := 4, ty := .rw, rst := 0x8, grp := some .datapath }
def F.ATL_TRAIN_TRAIN_EPOCHS : Fld := { lo := 12, w := 4, ty := .rw, rst := 0x8, grp := some .datapath }
def F.ATL_TRAIN_TRAIN_MIN_GAIN : Fld := { lo := 16, w := 4, ty := .rw, rst := 0x1, grp := some .datapath }
def F.ATL_TRAIN_TRAIN_MAX_PASSES : Fld := { lo := 20, w := 3, ty := .rw, rst := 0x4, grp := some .datapath }
def F.ATL_TRAIN_TRAIN_INTERVAL : Fld := { lo := 24, w := 8, ty := .rw, rst := 0x3c, grp := some .datapath }
/-- ATL_STATUS, A + 0x010: R147. -/
def R.ATL_STATUS (n : Nat) : Nat := 0x1210010 + n * 0x1000
def F.ATL_STATUS_LEARNING : Fld := { lo := 0, w := 1, ty := .ro, rst := 0x0, grp := some .datapath }
def F.ATL_STATUS_FROZEN : Fld := { lo := 1, w := 1, ty := .ro, rst := 0x0, grp := some .datapath }
def F.ATL_STATUS_CLEAR_BUSY : Fld := { lo := 2, w := 1, ty := .ro, rst := 0x0, grp := some .datapath }
def F.ATL_STATUS_DIST_DONE : Fld := { lo := 4, w := 1, ty := .w1c, rst := 0x0, grp := some .datapath }
def F.ATL_STATUS_DIST_LATE : Fld := { lo := 5, w := 1, ty := .w1c, rst := 0x0, grp := some .datapath }
def F.ATL_STATUS_DIST_ABORT : Fld := { lo := 6, w := 1, ty := .w1c, rst := 0x0, grp := some .datapath }
def F.ATL_STATUS_INVAL : Fld := { lo := 7, w := 1, ty := .w1c, rst := 0x0, grp := some .datapath }
def F.ATL_STATUS_PD_SENT : Fld := { lo := 8, w := 1, ty := .w1c, rst := 0x0, grp := some .datapath }
def F.ATL_STATUS_PD_ACKED : Fld := { lo := 9, w := 1, ty := .w1c, rst := 0x0, grp := some .datapath }
def F.ATL_STATUS_PD_TX_LATE : Fld := { lo := 10, w := 1, ty := .w1c, rst := 0x0, grp := some .datapath }
def F.ATL_STATUS_PD_NOACK : Fld := { lo := 11, w := 1, ty := .w1c, rst := 0x0, grp := some .datapath }
def F.ATL_STATUS_PD_APPLIED : Fld := { lo := 12, w := 1, ty := .w1c, rst := 0x0, grp := some .datapath }
def F.ATL_STATUS_PD_DISCARD : Fld := { lo := 13, w := 1, ty := .w1c, rst := 0x0, grp := some .datapath }
def F.ATL_STATUS_TAP_APPLIED : Fld := { lo := 14, w := 1, ty := .w1c, rst := 0x0, grp := some .datapath }
def F.ATL_STATUS_TRAIN_DONE : Fld := { lo := 15, w := 1, ty := .w1c, rst := 0x0, grp := some .datapath }
def F.ATL_STATUS_TRAIN_FAIL : Fld := { lo := 16, w := 1, ty := .w1c, rst := 0x0, grp := some .datapath }
/-- ATL_CNT0, A + 0x014: R147. -/
def R.ATL_CNT0 (n : Nat) : Nat := 0x1210014 + n * 0x1000
def F.ATL_CNT0_UPDATES : Fld := { lo := 0, w := 32, ty := .ro, rst := 0x0, grp := some .datapath }
/-- ATL_CNT1, A + 0x018: R147. -/
def R.ATL_CNT1 (n : Nat) : Nat := 0x1210018 + n * 0x1000
def F.ATL_CNT1_DROPPED : Fld := { lo := 0, w := 16, ty := .ro, rst := 0x0, grp := some .datapath }
def F.ATL_CNT1_EXCLUDED : Fld := { lo := 16, w := 16, ty := .ro, rst := 0x0, grp := some .datapath }
/-- ATL_CNT2, A + 0x01C: R147. -/
def R.ATL_CNT2 (n : Nat) : Nat := 0x121001c + n * 0x1000
def F.ATL_CNT2_INVALS : Fld := { lo := 0, w := 16, ty := .ro, rst := 0x0, grp := some .datapath }
def F.ATL_CNT2_DIST_LATES : Fld := { lo := 16, w := 8, ty := .ro, rst := 0x0, grp := some .datapath }
def F.ATL_CNT2_PD_TX_LATES : Fld := { lo := 24, w := 8, ty := .ro, rst := 0x0, grp := some .datapath }
/-- ATL_DIST, A + 0x020: R147. -/
def R.ATL_DIST (n : Nat) : Nat := 0x1210020 + n * 0x1000
def F.ATL_DIST_THIN : Fld := { lo := 0, w := 13, ty := .ro, rst := 0x1000, grp := some .datapath }
def F.ATL_DIST_S_REF : Fld := { lo := 16, w := 16, ty := .ro, rst := 0x0, grp := some .datapath }
/-- ATL_PD_STATE, A + 0x024: R147. -/
def R.ATL_PD_STATE (n : Nat) : Nat := 0x1210024 + n * 0x1000
def F.ATL_PD_STATE_TX_UPD : Fld := { lo := 0, w := 16, ty := .ro, rst := 0x0, grp := some .datapath }
def F.ATL_PD_STATE_RX_UPD : Fld := { lo := 16, w := 16, ty := .ro, rst := 0x0, grp := some .datapath }
/-- ATL_PD_QUAL, A + 0x028: R147. -/
def R.ATL_PD_QUAL (n : Nat) : Nat := 0x1210028 + n * 0x1000
def F.ATL_PD_QUAL_RESID_RMS : Fld := { lo := 0, w := 16, ty := .ro, rst := 0x0, grp := some .datapath }
def F.ATL_PD_QUAL_FAR_FOM : Fld := { lo := 16, w := 8, ty := .ro, rst := 0x0, grp := some .datapath }
/-- ATL_RD_INDEX, A + 0x030: R147. -/
def R.ATL_RD_INDEX (n : Nat) : Nat := 0x1210030 + n * 0x1000
def F.ATL_RD_INDEX_INDEX : Fld := { lo := 0, w := 20, ty := .rw, rst := 0x0, grp := some .datapath }
def F.ATL_RD_INDEX_BUSY : Fld := { lo := 31, w := 1, ty := .ro, rst := 0x0, grp := some .datapath }
/-- ATL_RD_DATA0, A + 0x034, and ATL_RD_DATA1, A + 0x038: R147. -/
def R.ATL_RD_DATA0 (n : Nat) : Nat := 0x1210034 + n * 0x1000
def F.ATL_RD_DATA0_MEAN : Fld := { lo := 0, w := 16, ty := .ro, rst := 0x0, grp := some .datapath }
def F.ATL_RD_DATA0_SPREAD : Fld := { lo := 16, w := 16, ty := .ro, rst := 0x0, grp := some .datapath }
/-- ATL_RD_DATA0, A + 0x034, and ATL_RD_DATA1, A + 0x038: R147. -/
def R.ATL_RD_DATA1 (n : Nat) : Nat := 0x1210038 + n * 0x1000
def F.ATL_RD_DATA1_COUNT : Fld := { lo := 0, w := 32, ty := .ro, rst := 0x0, grp := some .datapath }
/-- ATL_DET_INDEX, A + 0x040, and ATL_DET_DATA, A + 0x044: R147. -/
def R.ATL_DET_INDEX (n : Nat) : Nat := 0x1210040 + n * 0x1000
def F.ATL_DET_INDEX_INDEX : Fld := { lo := 0, w := 12, ty := .rw, rst := 0x0, grp := some .datapath }
/-- ATL_DET_INDEX, A + 0x040, and ATL_DET_DATA, A + 0x044: R147. -/
def R.ATL_DET_DATA (n : Nat) : Nat := 0x1210044 + n * 0x1000
def F.ATL_DET_DATA_ENTRY : Fld := { lo := 0, w := 16, ty := .ro, rst := 0x0, ap := .frame, grp := some .datapath }
/-- ATL_PD_INDEX, A + 0x048: R147. -/
def R.ATL_PD_INDEX (n : Nat) : Nat := 0x1210048 + n * 0x1000
def F.ATL_PD_INDEX_INDEX : Fld := { lo := 0, w := 10, ty := .rw, rst := 0x0, grp := some .datapath }
def F.ATL_PD_INDEX_VIEW : Fld := { lo := 12, w := 3, ty := .rw, rst := 0x0, grp := some .datapath }
/-- ATL_PD_DATA, A + 0x04C: R147. -/
def R.ATL_PD_DATA (n : Nat) : Nat := 0x121004c + n * 0x1000
def F.ATL_PD_DATA_VALUE : Fld := { lo := 0, w := 16, ty := .rw, rst := 0x0, grp := some .datapath }
/-- ATL_PD_APPLY, A + 0x050: R147. -/
def R.ATL_PD_APPLY (n : Nat) : Nat := 0x1210050 + n * 0x1000
def F.ATL_PD_APPLY_APPLY : Fld := { lo := 0, w := 1, ty := .wo, rst := 0x0, ap := .frame, grp := some .datapath }
def F.ATL_PD_APPLY_PEND : Fld := { lo := 1, w := 1, ty := .ro, rst := 0x0, grp := some .datapath }

/-- The register rows of spec/05_pattern_atlas.md. -/
def Regs.atl : List RegSpec := [
  { base := 0x1200000, dims := [], flds := [F.ATL_CTRL_LEARN_EN, F.ATL_CTRL_DIST_EN], masked := true },
  { base := 0x1200004, dims := [], flds := [F.ATL_CFG_AVG_SHIFT, F.ATL_CFG_MIN_COUNT, F.ATL_CFG_CLEAR_ON_RETARGET] },
  { base := 0x1200008, dims := [], flds := [F.ATL_CLEAR_LANES, F.ATL_CLEAR_BUSY] },
  { base := 0x120000c, dims := [], flds := [F.ATL_FREEZE_FREEZE], masked := true },
  { base := 0x1210000, dims := [(0x1000, 8)], flds := [F.ATL_LANE_CFG_SRC, F.ATL_LANE_CFG_PD_SRC, F.ATL_LANE_CFG_TAP_REMOTE_EN, F.ATL_LANE_CFG_PD_SEND_EN, F.ATL_LANE_CFG_LOCK], lockAt := some 0x1210000 },
  { base := 0x1210004, dims := [(0x1000, 8)], flds := [F.ATL_PD_CFG_PD_GAIN, F.ATL_PD_CFG_PD_SETTLE, F.ATL_PD_CFG_PD_FORMAT, F.ATL_PD_CFG_PD_TX_PERIODS, F.ATL_PD_CFG_PD_STEP_MAX] },
  { base := 0x1210008, dims := [(0x1000, 8)], flds := [F.ATL_TRAIN_TRAIN_MODE, F.ATL_TRAIN_START, F.ATL_TRAIN_TRAIN_STATE, F.ATL_TRAIN_TRAIN_SKIP, F.ATL_TRAIN_TRAIN_EPOCHS, F.ATL_TRAIN_TRAIN_MIN_GAIN, F.ATL_TRAIN_TRAIN_MAX_PASSES, F.ATL_TRAIN_TRAIN_INTERVAL] },
  { base := 0x1210010, dims := [(0x1000, 8)], flds := [F.ATL_STATUS_LEARNING, F.ATL_STATUS_FROZEN, F.ATL_STATUS_CLEAR_BUSY, F.ATL_STATUS_DIST_DONE, F.ATL_STATUS_DIST_LATE, F.ATL_STATUS_DIST_ABORT, F.ATL_STATUS_INVAL, F.ATL_STATUS_PD_SENT, F.ATL_STATUS_PD_ACKED, F.ATL_STATUS_PD_TX_LATE, F.ATL_STATUS_PD_NOACK, F.ATL_STATUS_PD_APPLIED, F.ATL_STATUS_PD_DISCARD, F.ATL_STATUS_TAP_APPLIED, F.ATL_STATUS_TRAIN_DONE, F.ATL_STATUS_TRAIN_FAIL] },
  { base := 0x1210014, dims := [(0x1000, 8)], flds := [F.ATL_CNT0_UPDATES] },
  { base := 0x1210018, dims := [(0x1000, 8)], flds := [F.ATL_CNT1_DROPPED, F.ATL_CNT1_EXCLUDED] },
  { base := 0x121001c, dims := [(0x1000, 8)], flds := [F.ATL_CNT2_INVALS, F.ATL_CNT2_DIST_LATES, F.ATL_CNT2_PD_TX_LATES] },
  { base := 0x1210020, dims := [(0x1000, 8)], flds := [F.ATL_DIST_THIN, F.ATL_DIST_S_REF] },
  { base := 0x1210024, dims := [(0x1000, 8)], flds := [F.ATL_PD_STATE_TX_UPD, F.ATL_PD_STATE_RX_UPD] },
  { base := 0x1210028, dims := [(0x1000, 8)], flds := [F.ATL_PD_QUAL_RESID_RMS, F.ATL_PD_QUAL_FAR_FOM] },
  { base := 0x1210030, dims := [(0x1000, 8)], flds := [F.ATL_RD_INDEX_INDEX, F.ATL_RD_INDEX_BUSY] },
  { base := 0x1210034, dims := [(0x1000, 8)], flds := [F.ATL_RD_DATA0_MEAN, F.ATL_RD_DATA0_SPREAD] },
  { base := 0x1210038, dims := [(0x1000, 8)], flds := [F.ATL_RD_DATA1_COUNT] },
  { base := 0x1210040, dims := [(0x1000, 8)], flds := [F.ATL_DET_INDEX_INDEX] },
  { base := 0x1210044, dims := [(0x1000, 8)], flds := [F.ATL_DET_DATA_ENTRY] },
  { base := 0x1210048, dims := [(0x1000, 8)], flds := [F.ATL_PD_INDEX_INDEX, F.ATL_PD_INDEX_VIEW] },
  { base := 0x121004c, dims := [(0x1000, 8)], flds := [F.ATL_PD_DATA_VALUE] },
  { base := 0x1210050, dims := [(0x1000, 8)], flds := [F.ATL_PD_APPLY_APPLY, F.ATL_PD_APPLY_PEND] } ]

/-! ### spec/06_line_framing_and_inner_code.md -/

/-- FEC_PROFILE, C + 0x000: R172. -/
def R.FEC_PROFILE : Nat := 0x1000000
def F.FEC_PROFILE_PROFILE : Fld := { lo := 0, w := 2, ty := .rw, rst := 0x0, grp := some .datapath }
def F.FEC_PROFILE_LEGACY : Fld := { lo := 2, w := 1, ty := .rw, rst := 0x0, grp := some .datapath }
def F.FEC_PROFILE_PORT_CFG : Fld := { lo := 4, w := 3, ty := .rw, rst := 0x0, grp := some .datapath }
def F.FEC_PROFILE_APPLY : Fld := { lo := 8, w := 1, ty := .wo, rst := 0x0, grp := some .datapath }
def F.FEC_PROFILE_BUSY : Fld := { lo := 9, w := 1, ty := .ro, rst := 0x0, grp := some .datapath }
def F.FEC_PROFILE_REFUSED : Fld := { lo := 10, w := 1, ty := .w1c, rst := 0x0, grp := some .datapath }
def F.FEC_PROFILE_PROFILE_EFF : Fld := { lo := 12, w := 2, ty := .ro, rst := 0x0, grp := some .datapath }
def F.FEC_PROFILE_LEGACY_EFF : Fld := { lo := 14, w := 1, ty := .ro, rst := 0x0, grp := some .datapath }
def F.FEC_PROFILE_PORT_EFF : Fld := { lo := 16, w := 3, ty := .ro, rst := 0x0, grp := some .datapath }
/-- FEC_DEC_CFG, C + 0x004: R172. -/
def R.FEC_DEC_CFG : Nat := 0x1000004
def F.FEC_DEC_CFG_ITER_CAP : Fld := { lo := 0, w := 4, ty := .rw, rst := 0xc, ap := .frame, grp := some .datapath }
def F.FEC_DEC_CFG_ET_EN : Fld := { lo := 4, w := 1, ty := .rw, rst := 0x1, ap := .frame, grp := some .datapath }
def F.FEC_DEC_CFG_ET_MIN_ITER : Fld := { lo := 5, w := 3, ty := .rw, rst := 0x1, ap := .frame, grp := some .datapath }
def F.FEC_DEC_CFG_ET_THRESH : Fld := { lo := 8, w := 5, ty := .rw, rst := 0x4, ap := .frame, grp := some .datapath }
def F.FEC_DEC_CFG_NORM : Fld := { lo := 13, w := 3, ty := .rw, rst := 0x6, ap := .frame, grp := some .datapath }
def F.FEC_DEC_CFG_CHASE_P : Fld := { lo := 16, w := 4, ty := .rw, rst := 0x4, ap := .frame, grp := some .datapath }
/-- FEC_OCT_CFG, C + 0x008: R172. -/
def R.FEC_OCT_CFG : Nat := 0x1000008
def F.FEC_OCT_CFG_OCT_EN : Fld := { lo := 0, w := 8, ty := .rw, rst := 0x0, ap := .frame, grp := some .datapath }
def F.FEC_OCT_CFG_ERASE_THRESH : Fld := { lo := 8, w := 5, ty := .rw, rst := 0x3, ap := .frame, grp := some .datapath }
def F.FEC_OCT_CFG_ERASE_MAX : Fld := { lo := 16, w := 5, ty := .rw, rst := 0x10, ap := .frame, grp := some .datapath }
def F.FEC_OCT_CFG_UNCORR_POISON : Fld := { lo := 24, w := 1, ty := .rw, rst := 0x1, ap := .frame, grp := some .datapath }
/-- FEC_LN_JUST, F + 0x000: R172. -/
def R.FEC_LN_JUST (n : Nat) : Nat := 0x1010000 + n * 0x1000
def F.FEC_LN_JUST_J_TX : Fld := { lo := 0, w := 8, ty := .ro, rst := 0x0, grp := some .datapath }
def F.FEC_LN_JUST_J_MIN : Fld := { lo := 8, w := 8, ty := .ro, rst := 0x0, ap := .epoch, grp := some .datapath }
def F.FEC_LN_JUST_J_MAX : Fld := { lo := 16, w := 8, ty := .ro, rst := 0x0, ap := .epoch, grp := some .datapath }
def F.FEC_LN_JUST_JUST_OVF : Fld := { lo := 24, w := 1, ty := .w1c, rst := 0x0, grp := some .datapath }
def F.FEC_LN_JUST_DESKEW_ERR : Fld := { lo := 25, w := 1, ty := .w1c, rst := 0x0, grp := some .datapath }
/-- FEC_LN_CW, F + 0x004: R172. -/
def R.FEC_LN_CW (n : Nat) : Nat := 0x1010004 + n * 0x1000
def F.FEC_LN_CW_CODEWORDS : Fld := { lo := 0, w := 32, ty := .ro, rst := 0x0, grp := some .datapath }
/-- FEC_LN_NC, F + 0x008: R172. -/
def R.FEC_LN_NC (n : Nat) : Nat := 0x1010008 + n * 0x1000
def F.FEC_LN_NC_NONCONV : Fld := { lo := 0, w := 32, ty := .ro, rst := 0x0, grp := some .datapath }
/-- FEC_LN_BITS, F + 0x00C: R172. -/
def R.FEC_LN_BITS (n : Nat) : Nat := 0x101000c + n * 0x1000
def F.FEC_LN_BITS_CORR_BITS : Fld := { lo := 0, w := 32, ty := .ro, rst := 0x0, grp := some .datapath }
/-- FEC_LN_ITER, F + 0x010: R172. -/
def R.FEC_LN_ITER (n : Nat) : Nat := 0x1010010 + n * 0x1000
def F.FEC_LN_ITER_ITER_AVG : Fld := { lo := 0, w := 8, ty := .ro, rst := 0x0, ap := .epoch, grp := some .datapath }
def F.FEC_LN_ITER_ITER_MAX : Fld := { lo := 8, w := 4, ty := .ro, rst := 0x0, ap := .epoch, grp := some .datapath }
def F.FEC_LN_ITER_CAP_EFF : Fld := { lo := 12, w := 4, ty := .ro, rst := 0xc, ap := .epoch, grp := some .datapath }
def F.FEC_LN_ITER_SKEW : Fld := { lo := 16, w := 16, ty := .ro, rst := 0x0, grp := some .datapath }
/-- FEC_LN_POISON, F + 0x014: R172. -/
def R.FEC_LN_POISON (n : Nat) : Nat := 0x1010014 + n * 0x1000
def F.FEC_LN_POISON_POISON_RX : Fld := { lo := 0, w := 16, ty := .ro, rst := 0x0, grp := some .datapath }
def F.FEC_LN_POISON_POISON_TX : Fld := { lo := 16, w := 16, ty := .ro, rst := 0x0, grp := some .datapath }
/-- FEC_LN_OCT, F + 0x018: R172. -/
def R.FEC_LN_OCT (n : Nat) : Nat := 0x1010018 + n * 0x1000
def F.FEC_LN_OCT_OCT_CORR_SYM : Fld := { lo := 0, w := 24, ty := .ro, rst := 0x0, grp := some .datapath }
def F.FEC_LN_OCT_OCT_UNCORR : Fld := { lo := 24, w := 7, ty := .ro, rst := 0x0, grp := some .datapath }
def F.FEC_LN_OCT_OCT_EFF : Fld := { lo := 31, w := 1, ty := .ro, rst := 0x0, ap := .frame, grp := some .datapath }
/-- WELLn_FRM_CFG, B + 0x0200: R172. -/
def R.WELL_FRM_CFG (n : Nat) : Nat := 0x800200 + n * 0x100000
def F.WELL_FRM_CFG_SYNC_TOL : Fld := { lo := 0, w := 3, ty := .rw, rst := 0x4, grp := some .datapath }
def F.WELL_FRM_CFG_CONFIRM_N : Fld := { lo := 4, w := 2, ty := .rw, rst := 0x2, grp := some .datapath }
def F.WELL_FRM_CFG_LOF_N : Fld := { lo := 8, w := 4, ty := .rw, rst := 0x4, grp := some .datapath }
def F.WELL_FRM_CFG_JUMP_MAX : Fld := { lo := 12, w := 4, ty := .rw, rst := 0x8, grp := some .datapath }
/-- WELLn_FRM_STATUS, B + 0x0204: R172. -/
def R.WELL_FRM_STATUS (n : Nat) : Nat := 0x800204 + n * 0x100000
def F.WELL_FRM_STATUS_STATE : Fld := { lo := 0, w := 2, ty := .ro, rst := 0x0, grp := some .datapath }
def F.WELL_FRM_STATUS_FLOCK_EV : Fld := { lo := 2, w := 1, ty := .w1c, rst := 0x0, grp := some .datapath }
def F.WELL_FRM_STATUS_LOF : Fld := { lo := 3, w := 1, ty := .w1c, rst := 0x0, grp := some .datapath }
def F.WELL_FRM_STATUS_CRC_ERR : Fld := { lo := 4, w := 1, ty := .w1c, rst := 0x0, grp := some .datapath }
def F.WELL_FRM_STATUS_J_SUBST : Fld := { lo := 5, w := 1, ty := .w1c, rst := 0x0, grp := some .datapath }
def F.WELL_FRM_STATUS_FAR_LANE : Fld := { lo := 8, w := 3, ty := .ro, rst := 0x0, grp := some .datapath }
def F.WELL_FRM_STATUS_FAR_PORT : Fld := { lo := 11, w := 3, ty := .ro, rst := 0x0, grp := some .datapath }
def F.WELL_FRM_STATUS_FAR_CFG : Fld := { lo := 14, w := 2, ty := .ro, rst := 0x0, grp := some .datapath }
def F.WELL_FRM_STATUS_J_RX : Fld := { lo := 16, w := 8, ty := .ro, rst := 0x0, grp := some .datapath }
/-- WELLn_FRM_CNT, B + 0x0208: R172. -/
def R.WELL_FRM_CNT (n : Nat) : Nat := 0x800208 + n * 0x100000
def F.WELL_FRM_CNT_CRC_ERRS : Fld := { lo := 0, w := 16, ty := .ro, rst := 0x0, grp := some .datapath }
def F.WELL_FRM_CNT_LOF_COUNT : Fld := { lo := 16, w := 8, ty := .ro, rst := 0x0, grp := some .datapath }
def F.WELL_FRM_CNT_FCNT_ERRS : Fld := { lo := 24, w := 8, ty := .ro, rst := 0x0, grp := some .datapath }

/-- The register rows of spec/06_line_framing_and_inner_code.md. -/
def Regs.frm : List RegSpec := [
  { base := 0x1000000, dims := [], flds := [F.FEC_PROFILE_PROFILE, F.FEC_PROFILE_LEGACY, F.FEC_PROFILE_PORT_CFG, F.FEC_PROFILE_APPLY, F.FEC_PROFILE_BUSY, F.FEC_PROFILE_REFUSED, F.FEC_PROFILE_PROFILE_EFF, F.FEC_PROFILE_LEGACY_EFF, F.FEC_PROFILE_PORT_EFF] },
  { base := 0x1000004, dims := [], flds := [F.FEC_DEC_CFG_ITER_CAP, F.FEC_DEC_CFG_ET_EN, F.FEC_DEC_CFG_ET_MIN_ITER, F.FEC_DEC_CFG_ET_THRESH, F.FEC_DEC_CFG_NORM, F.FEC_DEC_CFG_CHASE_P] },
  { base := 0x1000008, dims := [], flds := [F.FEC_OCT_CFG_OCT_EN, F.FEC_OCT_CFG_ERASE_THRESH, F.FEC_OCT_CFG_ERASE_MAX, F.FEC_OCT_CFG_UNCORR_POISON] },
  { base := 0x1010000, dims := [(0x1000, 8)], flds := [F.FEC_LN_JUST_J_TX, F.FEC_LN_JUST_J_MIN, F.FEC_LN_JUST_J_MAX, F.FEC_LN_JUST_JUST_OVF, F.FEC_LN_JUST_DESKEW_ERR] },
  { base := 0x1010004, dims := [(0x1000, 8)], flds := [F.FEC_LN_CW_CODEWORDS] },
  { base := 0x1010008, dims := [(0x1000, 8)], flds := [F.FEC_LN_NC_NONCONV] },
  { base := 0x101000c, dims := [(0x1000, 8)], flds := [F.FEC_LN_BITS_CORR_BITS] },
  { base := 0x1010010, dims := [(0x1000, 8)], flds := [F.FEC_LN_ITER_ITER_AVG, F.FEC_LN_ITER_ITER_MAX, F.FEC_LN_ITER_CAP_EFF, F.FEC_LN_ITER_SKEW] },
  { base := 0x1010014, dims := [(0x1000, 8)], flds := [F.FEC_LN_POISON_POISON_RX, F.FEC_LN_POISON_POISON_TX] },
  { base := 0x1010018, dims := [(0x1000, 8)], flds := [F.FEC_LN_OCT_OCT_CORR_SYM, F.FEC_LN_OCT_OCT_UNCORR, F.FEC_LN_OCT_OCT_EFF] },
  { base := 0x800200, dims := [(0x100000, 8)], flds := [F.WELL_FRM_CFG_SYNC_TOL, F.WELL_FRM_CFG_CONFIRM_N, F.WELL_FRM_CFG_LOF_N, F.WELL_FRM_CFG_JUMP_MAX] },
  { base := 0x800204, dims := [(0x100000, 8)], flds := [F.WELL_FRM_STATUS_STATE, F.WELL_FRM_STATUS_FLOCK_EV, F.WELL_FRM_STATUS_LOF, F.WELL_FRM_STATUS_CRC_ERR, F.WELL_FRM_STATUS_J_SUBST, F.WELL_FRM_STATUS_FAR_LANE, F.WELL_FRM_STATUS_FAR_PORT, F.WELL_FRM_STATUS_FAR_CFG, F.WELL_FRM_STATUS_J_RX] },
  { base := 0x800208, dims := [(0x100000, 8)], flds := [F.WELL_FRM_CNT_CRC_ERRS, F.WELL_FRM_CNT_LOF_COUNT, F.WELL_FRM_CNT_FCNT_ERRS] } ]

/-! ### spec/07_host_lanes.md -/

/-- HOST_RX_MAP, C + 0x000, and HOST_TX_MAP, C + 0x004: R190. -/
def R.HOST_RX_MAP : Nat := 0x208000
def F.HOST_RX_MAP_MAP : Fld := { lo := 0, w := 24, ty := .rwl, rst := 0xfac688, grp := some .datapath }
def F.HOST_RX_MAP_LOCK : Fld := { lo := 31, w := 1, ty := .rwo, rst := 0x0, grp := some .datapath }
/-- HOST_RX_MAP, C + 0x000, and HOST_TX_MAP, C + 0x004: R190. -/
def R.HOST_TX_MAP : Nat := 0x208004
def F.HOST_TX_MAP_MAP : Fld := { lo := 0, w := 24, ty := .rwl, rst := 0xfac688, grp := some .datapath }
def F.HOST_TX_MAP_LOCK : Fld := { lo := 31, w := 1, ty := .rwo, rst := 0x0, grp := some .datapath }
/-- HOST_CTRL, C + 0x008: R190. -/
def R.HOST_CTRL : Nat := 0x208008
def F.HOST_CTRL_CHAN_CLASS : Fld := { lo := 0, w := 2, ty := .rw, rst := 0x1, grp := some .datapath }
def F.HOST_CTRL_TRAIN_MODE : Fld := { lo := 2, w := 1, ty := .rw, rst := 0x1, grp := some .datapath }
def F.HOST_CTRL_RX_FAIL_ACTION : Fld := { lo := 3, w := 1, ty := .rw, rst := 0x0, grp := some .datapath }
def F.HOST_CTRL_TEST : Fld := { lo := 4, w := 2, ty := .rw, rst := 0x0, grp := some .datapath }
def F.HOST_CTRL_TEST_LOW_RATE : Fld := { lo := 6, w := 1, ty := .rw, rst := 0x0, grp := some .datapath }
def F.HOST_CTRL_TRAIN_TIMEOUT : Fld := { lo := 8, w := 8, ty := .rw, rst := 0x32, grp := some .datapath }
def F.HOST_CTRL_TRAIN_WIN : Fld := { lo := 16, w := 4, ty := .rw, rst := 0x4, grp := some .datapath }
def F.HOST_CTRL_TRAIN_MIN_GAIN : Fld := { lo := 20, w := 4, ty := .rw, rst := 0x1, grp := some .datapath }
/-- HOST_STATUS, C + 0x00C: R190. -/
def R.HOST_STATUS : Nat := 0x20800c
def F.HOST_STATUS_MAP_ERR : Fld := { lo := 0, w := 1, ty := .w1c, rst := 0x0, grp := some .datapath }
def F.HOST_STATUS_RATE_EFF : Fld := { lo := 4, w := 2, ty := .ro, rst := 0x0, grp := some .datapath }
/-- HOST_MON_SNAP, C + 0x010: R190. -/
def R.HOST_MON_SNAP : Nat := 0x208010
def F.HOST_MON_SNAP_SNAP : Fld := { lo := 0, w := 8, ty := .wo, rst := 0x0, grp := some .datapath }
def F.HOST_MON_SNAP_CLEAR : Fld := { lo := 8, w := 8, ty := .wo, rst := 0x0, grp := some .datapath }
/-- HOST_MON_CFG, C + 0x014: R190. -/
def R.HOST_MON_CFG : Nat := 0x208014
def F.HOST_MON_CFG_AM_LOCK_N : Fld := { lo := 0, w := 3, ty := .rw, rst := 0x2, grp := some .datapath }
def F.HOST_MON_CFG_AM_LOSS_N : Fld := { lo := 4, w := 4, ty := .rw, rst := 0x4, grp := some .datapath }
def F.HOST_MON_CFG_DEG_BIN : Fld := { lo := 8, w := 4, ty := .rw, rst := 0x8, grp := some .datapath }
def F.HOST_MON_CFG_DEG_COUNT : Fld := { lo := 16, w := 16, ty := .rw, rst := 0x40, grp := some .datapath }
/-- HOST_MON_STATUS, M + 0x000: R190. -/
def R.HOST_MON_STATUS (n : Nat) (k : Nat) : Nat := 0x208100 + n * 0x100 + k * 0x80
def F.HOST_MON_STATUS_LOCK : Fld := { lo := 0, w := 1, ty := .ro, rst := 0x0, grp := some .datapath }
def F.HOST_MON_STATUS_LOCK_LOSS : Fld := { lo := 1, w := 1, ty := .w1c, rst := 0x0, grp := some .datapath }
def F.HOST_MON_STATUS_DEGRADE : Fld := { lo := 2, w := 1, ty := .w1c, rst := 0x0, grp := some .datapath }
def F.HOST_MON_STATUS_UNCORR_EV : Fld := { lo := 3, w := 1, ty := .w1c, rst := 0x0, grp := some .datapath }
def F.HOST_MON_STATUS_LOSS_COUNT : Fld := { lo := 8, w := 8, ty := .ro, rst := 0x0, grp := some .datapath }
/-- HOST_MON_CW_LO, M + 0x004; HOST_MON_CW_HI, M + 0x008; HOST_MON_UNCORR, M + 0x00C; HOST_MON_SYM, M + 0x010; HOST_MON_BIN0–HOST_MON_BIN15, M + 0x040 + 4 × k: R190. -/
def R.HOST_MON_CW_LO (n : Nat) (k : Nat) : Nat := 0x208104 + n * 0x100 + k * 0x80
def F.HOST_MON_CW_LO_CW_LO : Fld := { lo := 0, w := 32, ty := .ro, rst := 0x0, grp := some .datapath }
/-- HOST_MON_CW_LO, M + 0x004; HOST_MON_CW_HI, M + 0x008; HOST_MON_UNCORR, M + 0x00C; HOST_MON_SYM, M + 0x010; HOST_MON_BIN0–HOST_MON_BIN15, M + 0x040 + 4 × k: R190. -/
def R.HOST_MON_CW_HI (n : Nat) (k : Nat) : Nat := 0x208108 + n * 0x100 + k * 0x80
def F.HOST_MON_CW_HI_CW_HI : Fld := { lo := 0, w := 32, ty := .ro, rst := 0x0, grp := some .datapath }
/-- HOST_MON_CW_LO, M + 0x004; HOST_MON_CW_HI, M + 0x008; HOST_MON_UNCORR, M + 0x00C; HOST_MON_SYM, M + 0x010; HOST_MON_BIN0–HOST_MON_BIN15, M + 0x040 + 4 × k: R190. -/
def R.HOST_MON_UNCORR (n : Nat) (k : Nat) : Nat := 0x20810c + n * 0x100 + k * 0x80
def F.HOST_MON_UNCORR_UNCORR : Fld := { lo := 0, w := 32, ty := .ro, rst := 0x0, grp := some .datapath }
/-- HOST_MON_CW_LO, M + 0x004; HOST_MON_CW_HI, M + 0x008; HOST_MON_UNCORR, M + 0x00C; HOST_MON_SYM, M + 0x010; HOST_MON_BIN0–HOST_MON_BIN15, M + 0x040 + 4 × k: R190. -/
def R.HOST_MON_SYM (n : Nat) (k : Nat) : Nat := 0x208110 + n * 0x100 + k * 0x80
def F.HOST_MON_SYM_SYM_CORR : Fld := { lo := 0, w := 32, ty := .ro, rst := 0x0, grp := some .datapath }
/-- HOST_MON_CW_LO, M + 0x004; HOST_MON_CW_HI, M + 0x008; HOST_MON_UNCORR, M + 0x00C; HOST_MON_SYM, M + 0x010; HOST_MON_BIN0–HOST_MON_BIN15, M + 0x040 + 4 × k: R190. -/
def R.HOST_MON_BIN (n : Nat) (k : Nat) (j : Nat) : Nat := 0x208140 + n * 0x100 + k * 0x80 + j * 0x4
def F.HOST_MON_BIN_BIN : Fld := { lo := 0, w := 32, ty := .ro, rst := 0x0, grp := some .datapath }
/-- HOST_LN_CFG, L + 0x000: R190. -/
def R.HOST_LN_CFG (n : Nat) : Nat := 0x200000 + n * 0x1000
def F.HOST_LN_CFG_EN : Fld := { lo := 0, w := 1, ty := .rw, rst := 0x0, grp := some .datapath }
def F.HOST_LN_CFG_RX_POL : Fld := { lo := 1, w := 1, ty := .rw, rst := 0x0, grp := some .datapath }
def F.HOST_LN_CFG_TX_POL : Fld := { lo := 2, w := 1, ty := .rw, rst := 0x0, grp := some .datapath }
def F.HOST_LN_CFG_RETRAIN : Fld := { lo := 3, w := 1, ty := .wo, rst := 0x0, grp := some .datapath }
def F.HOST_LN_CFG_CTLE_MAN : Fld := { lo := 4, w := 1, ty := .rw, rst := 0x0, grp := some .datapath }
def F.HOST_LN_CFG_CTLE : Fld := { lo := 8, w := 4, ty := .rw, rst := 0x6, grp := some .datapath }
def F.HOST_LN_CFG_CDR_BW : Fld := { lo := 12, w := 2, ty := .rw, rst := 0x1, grp := some .datapath }
def F.HOST_LN_CFG_DFE_EN : Fld := { lo := 14, w := 1, ty := .rw, rst := 0x1, grp := some .datapath }
def F.HOST_LN_CFG_FFE_HOLD : Fld := { lo := 15, w := 1, ty := .rw, rst := 0x0, grp := some .datapath }
/-- HOST_LN_STATUS, L + 0x004: R190. -/
def R.HOST_LN_STATUS (n : Nat) : Nat := 0x200004 + n * 0x1000
def F.HOST_LN_STATUS_STATE : Fld := { lo := 0, w := 3, ty := .ro, rst := 0x0, grp := some .datapath }
def F.HOST_LN_STATUS_SIG_DET : Fld := { lo := 3, w := 1, ty := .ro, rst := 0x0, grp := some .datapath }
def F.HOST_LN_STATUS_CDR_LOCK : Fld := { lo := 4, w := 1, ty := .ro, rst := 0x0, grp := some .datapath }
def F.HOST_LN_STATUS_LOS : Fld := { lo := 5, w := 1, ty := .w1c, rst := 0x0, grp := some .datapath }
def F.HOST_LN_STATUS_CDR_LOL : Fld := { lo := 6, w := 1, ty := .w1c, rst := 0x0, grp := some .datapath }
def F.HOST_LN_STATUS_FREQ_ERR : Fld := { lo := 7, w := 1, ty := .w1c, rst := 0x0, grp := some .datapath }
def F.HOST_LN_STATUS_TRAIN_DONE : Fld := { lo := 8, w := 1, ty := .w1c, rst := 0x0, grp := some .datapath }
def F.HOST_LN_STATUS_TRAIN_FAIL : Fld := { lo := 9, w := 1, ty := .w1c, rst := 0x0, grp := some .datapath }
def F.HOST_LN_STATUS_TRAIN_NOPEER : Fld := { lo := 10, w := 1, ty := .ro, rst := 0x0, grp := some .datapath }
def F.HOST_LN_STATUS_CTLE_EFF : Fld := { lo := 12, w := 4, ty := .ro, rst := 0x0, grp := some .datapath }
def F.HOST_LN_STATUS_FREQ_OFS : Fld := { lo := 16, w := 16, ty := .ro, rst := 0x0, grp := some .datapath }
/-- HOST_LN_FOM, L + 0x008: R190. -/
def R.HOST_LN_FOM (n : Nat) : Nat := 0x200008 + n * 0x1000
def F.HOST_LN_FOM_FOM : Fld := { lo := 0, w := 8, ty := .ro, rst := 0x0, grp := some .datapath }
def F.HOST_LN_FOM_LOS_COUNT : Fld := { lo := 16, w := 8, ty := .ro, rst := 0x0, grp := some .datapath }
def F.HOST_LN_FOM_TRAIN_COUNT : Fld := { lo := 24, w := 8, ty := .ro, rst := 0x0, grp := some .datapath }
/-- HOST_LN_TXFIR0, L + 0x010, and HOST_LN_TXFIR1, L + 0x014: R190. -/
def R.HOST_LN_TXFIR0 (n : Nat) : Nat := 0x200010 + n * 0x1000
def F.HOST_LN_TXFIR0_C_M3 : Fld := { lo := 0, w := 8, ty := .rw, rst := 0x0, grp := some .datapath }
def F.HOST_LN_TXFIR0_C_M2 : Fld := { lo := 8, w := 8, ty := .rw, rst := 0x0, grp := some .datapath }
def F.HOST_LN_TXFIR0_C_M1 : Fld := { lo := 16, w := 8, ty := .rw, rst := 0x0, grp := some .datapath }
def F.HOST_LN_TXFIR0_C0 : Fld := { lo := 24, w := 8, ty := .rw, rst := 0x40, grp := some .datapath }
/-- HOST_LN_TXFIR0, L + 0x010, and HOST_LN_TXFIR1, L + 0x014: R190. -/
def R.HOST_LN_TXFIR1 (n : Nat) : Nat := 0x200014 + n * 0x1000
def F.HOST_LN_TXFIR1_C_P1 : Fld := { lo := 0, w := 8, ty := .rw, rst := 0x0, grp := some .datapath }
def F.HOST_LN_TXFIR1_C_P2 : Fld := { lo := 8, w := 8, ty := .rw, rst := 0x0, grp := some .datapath }
/-- HOST_LN_PRBS, L + 0x020: R190. -/
def R.HOST_LN_PRBS (n : Nat) : Nat := 0x200020 + n * 0x1000
def F.HOST_LN_PRBS_ERRORS : Fld := { lo := 0, w := 32, ty := .ro, rst := 0x0, grp := some .datapath }
/-- HOST_LN_FFE0–HOST_LN_FFE5, L + 0x040 + 4 × k, k = 0 to 5: R190. -/
def R.HOST_LN_FFE (n : Nat) (k : Nat) : Nat := 0x200040 + n * 0x1000 + k * 0x4
def F.HOST_LN_FFE_TAP0 : Fld := { lo := 0, w := 8, ty := .ro, rst := 0x0, grp := some .datapath }
def F.HOST_LN_FFE_TAP1 : Fld := { lo := 8, w := 8, ty := .ro, rst := 0x0, grp := some .datapath }
def F.HOST_LN_FFE_TAP2 : Fld := { lo := 16, w := 8, ty := .ro, rst := 0x0, grp := some .datapath }
def F.HOST_LN_FFE_TAP3 : Fld := { lo := 24, w := 8, ty := .ro, rst := 0x0, grp := some .datapath }

/-- The register rows of spec/07_host_lanes.md. -/
def Regs.hst : List RegSpec := [
  { base := 0x208000, dims := [], flds := [F.HOST_RX_MAP_MAP, F.HOST_RX_MAP_LOCK], lockAt := some 0x208000 },
  { base := 0x208004, dims := [], flds := [F.HOST_TX_MAP_MAP, F.HOST_TX_MAP_LOCK], lockAt := some 0x208004 },
  { base := 0x208008, dims := [], flds := [F.HOST_CTRL_CHAN_CLASS, F.HOST_CTRL_TRAIN_MODE, F.HOST_CTRL_RX_FAIL_ACTION, F.HOST_CTRL_TEST, F.HOST_CTRL_TEST_LOW_RATE, F.HOST_CTRL_TRAIN_TIMEOUT, F.HOST_CTRL_TRAIN_WIN, F.HOST_CTRL_TRAIN_MIN_GAIN] },
  { base := 0x20800c, dims := [], flds := [F.HOST_STATUS_MAP_ERR, F.HOST_STATUS_RATE_EFF] },
  { base := 0x208010, dims := [], flds := [F.HOST_MON_SNAP_SNAP, F.HOST_MON_SNAP_CLEAR] },
  { base := 0x208014, dims := [], flds := [F.HOST_MON_CFG_AM_LOCK_N, F.HOST_MON_CFG_AM_LOSS_N, F.HOST_MON_CFG_DEG_BIN, F.HOST_MON_CFG_DEG_COUNT] },
  { base := 0x208100, dims := [(0x100, 8), (0x80, 2)], flds := [F.HOST_MON_STATUS_LOCK, F.HOST_MON_STATUS_LOCK_LOSS, F.HOST_MON_STATUS_DEGRADE, F.HOST_MON_STATUS_UNCORR_EV, F.HOST_MON_STATUS_LOSS_COUNT], lockAt := some 0x208100 },
  { base := 0x208104, dims := [(0x100, 8), (0x80, 2)], flds := [F.HOST_MON_CW_LO_CW_LO] },
  { base := 0x208108, dims := [(0x100, 8), (0x80, 2)], flds := [F.HOST_MON_CW_HI_CW_HI] },
  { base := 0x20810c, dims := [(0x100, 8), (0x80, 2)], flds := [F.HOST_MON_UNCORR_UNCORR] },
  { base := 0x208110, dims := [(0x100, 8), (0x80, 2)], flds := [F.HOST_MON_SYM_SYM_CORR] },
  { base := 0x208140, dims := [(0x100, 8), (0x80, 2), (0x4, 16)], flds := [F.HOST_MON_BIN_BIN] },
  { base := 0x200000, dims := [(0x1000, 8)], flds := [F.HOST_LN_CFG_EN, F.HOST_LN_CFG_RX_POL, F.HOST_LN_CFG_TX_POL, F.HOST_LN_CFG_RETRAIN, F.HOST_LN_CFG_CTLE_MAN, F.HOST_LN_CFG_CTLE, F.HOST_LN_CFG_CDR_BW, F.HOST_LN_CFG_DFE_EN, F.HOST_LN_CFG_FFE_HOLD] },
  { base := 0x200004, dims := [(0x1000, 8)], flds := [F.HOST_LN_STATUS_STATE, F.HOST_LN_STATUS_SIG_DET, F.HOST_LN_STATUS_CDR_LOCK, F.HOST_LN_STATUS_LOS, F.HOST_LN_STATUS_CDR_LOL, F.HOST_LN_STATUS_FREQ_ERR, F.HOST_LN_STATUS_TRAIN_DONE, F.HOST_LN_STATUS_TRAIN_FAIL, F.HOST_LN_STATUS_TRAIN_NOPEER, F.HOST_LN_STATUS_CTLE_EFF, F.HOST_LN_STATUS_FREQ_OFS] },
  { base := 0x200008, dims := [(0x1000, 8)], flds := [F.HOST_LN_FOM_FOM, F.HOST_LN_FOM_LOS_COUNT, F.HOST_LN_FOM_TRAIN_COUNT] },
  { base := 0x200010, dims := [(0x1000, 8)], flds := [F.HOST_LN_TXFIR0_C_M3, F.HOST_LN_TXFIR0_C_M2, F.HOST_LN_TXFIR0_C_M1, F.HOST_LN_TXFIR0_C0] },
  { base := 0x200014, dims := [(0x1000, 8)], flds := [F.HOST_LN_TXFIR1_C_P1, F.HOST_LN_TXFIR1_C_P2] },
  { base := 0x200020, dims := [(0x1000, 8)], flds := [F.HOST_LN_PRBS_ERRORS] },
  { base := 0x200040, dims := [(0x1000, 8), (0x4, 6)], flds := [F.HOST_LN_FFE_TAP0, F.HOST_LN_FFE_TAP1, F.HOST_LN_FFE_TAP2, F.HOST_LN_FFE_TAP3] } ]

/-! ### spec/08_seep_channel.md -/

/-- SEEP_NODE, C + 0x000: R219. -/
def R.SEEP_NODE : Nat := 0x1108000
def F.SEEP_NODE_NODE : Fld := { lo := 0, w := 12, ty := .rwl, rst := 0x0, grp := some .seep }
def F.SEEP_NODE_LOCK : Fld := { lo := 31, w := 1, ty := .rwo, rst := 0x0, grp := some .seep }
/-- SEEP_CFG, C + 0x004: R219. -/
def R.SEEP_CFG : Nat := 0x1108004
def F.SEEP_CFG_TT_LANE : Fld := { lo := 0, w := 3, ty := .rw, rst := 0x0, grp := some .seep }
def F.SEEP_CFG_PF_WAKE_EN : Fld := { lo := 4, w := 1, ty := .rwl, rst := 0x0, grp := some .seep }
def F.SEEP_CFG_EVENT_REPEAT : Fld := { lo := 8, w := 8, ty := .rw, rst := 0x10, grp := some .seep }
def F.SEEP_CFG_LOCK : Fld := { lo := 31, w := 1, ty := .rwo, rst := 0x0, grp := some .seep }
/-- SEEP_PF_PEER, C + 0x008: R219. -/
def R.SEEP_PF_PEER : Nat := 0x1108008
def F.SEEP_PF_PEER_PEER : Fld := { lo := 0, w := 12, ty := .rwl, rst := 0x0, grp := some .seep }
def F.SEEP_PF_PEER_LANE : Fld := { lo := 12, w := 3, ty := .rwl, rst := 0x0, grp := some .seep }
def F.SEEP_PF_PEER_EN : Fld := { lo := 15, w := 1, ty := .rwl, rst := 0x0, grp := some .seep }
def F.SEEP_PF_PEER_LOCK : Fld := { lo := 31, w := 1, ty := .rwo, rst := 0x0, grp := some .seep }
/-- SEEP_WAKE, C + 0x00C: R219. -/
def R.SEEP_WAKE : Nat := 0x110800c
def F.SEEP_WAKE_WAKE_PEND : Fld := { lo := 0, w := 1, ty := .w1c, rst := 0x0, grp := some .seep }
def F.SEEP_WAKE_WAKE_LANE : Fld := { lo := 1, w := 3, ty := .ro, rst := 0x0, grp := some .seep }
def F.SEEP_WAKE_WAKE_NODE : Fld := { lo := 16, w := 12, ty := .ro, rst := 0x0, grp := some .seep }
/-- SEEP_GW_CTL, C + 0x010: R219. -/
def R.SEEP_GW_CTL : Nat := 0x1108010
def F.SEEP_GW_CTL_GO : Fld := { lo := 0, w := 1, ty := .wo, rst := 0x0, grp := some .seep }
def F.SEEP_GW_CTL_LANE : Fld := { lo := 1, w := 3, ty := .rw, rst := 0x0, grp := some .seep }
def F.SEEP_GW_CTL_TX_BUSY : Fld := { lo := 4, w := 1, ty := .ro, rst := 0x0, grp := some .seep }
def F.SEEP_GW_CTL_GW_ERR : Fld := { lo := 5, w := 1, ty := .w1c, rst := 0x0, grp := some .seep }
def F.SEEP_GW_CTL_RX_COUNT : Fld := { lo := 8, w := 3, ty := .ro, rst := 0x0, grp := some .seep }
def F.SEEP_GW_CTL_RX_AVAIL : Fld := { lo := 11, w := 1, ty := .ro, rst := 0x0, grp := some .seep }
def F.SEEP_GW_CTL_POP : Fld := { lo := 12, w := 1, ty := .wo, rst := 0x0, grp := some .seep }
def F.SEEP_GW_CTL_RX_OVF : Fld := { lo := 13, w := 1, ty := .w1c, rst := 0x0, grp := some .seep }
/-- SEEP_GW_TXIDX, C + 0x014; SEEP_GW_TXDATA, C + 0x018; SEEP_GW_RXIDX, C + 0x01C; SEEP_GW_RXDATA, C + 0x020: R219. -/
def R.SEEP_GW_TXIDX : Nat := 0x1108014
def F.SEEP_GW_TXIDX_IDX : Fld := { lo := 0, w := 6, ty := .rw, rst := 0x0, grp := some .seep }
/-- SEEP_GW_TXIDX, C + 0x014; SEEP_GW_TXDATA, C + 0x018; SEEP_GW_RXIDX, C + 0x01C; SEEP_GW_RXDATA, C + 0x020: R219. -/
def R.SEEP_GW_TXDATA : Nat := 0x1108018
def F.SEEP_GW_TXDATA_WORD : Fld := { lo := 0, w := 32, ty := .rw, rst := 0x0, grp := some .seep }
/-- SEEP_GW_TXIDX, C + 0x014; SEEP_GW_TXDATA, C + 0x018; SEEP_GW_RXIDX, C + 0x01C; SEEP_GW_RXDATA, C + 0x020: R219. -/
def R.SEEP_GW_RXIDX : Nat := 0x110801c
def F.SEEP_GW_RXIDX_IDX : Fld := { lo := 0, w := 6, ty := .rw, rst := 0x0, grp := some .seep }
/-- SEEP_GW_TXIDX, C + 0x014; SEEP_GW_TXDATA, C + 0x018; SEEP_GW_RXIDX, C + 0x01C; SEEP_GW_RXDATA, C + 0x020: R219. -/
def R.SEEP_GW_RXDATA : Nat := 0x1108020
def F.SEEP_GW_RXDATA_WORD : Fld := { lo := 0, w := 32, ty := .ro, rst := 0x0, grp := some .seep }
/-- SEEP_STATUS, C + 0x024: R219. -/
def R.SEEP_STATUS : Nat := 0x1108024
def F.SEEP_STATUS_NOROUTE : Fld := { lo := 0, w := 1, ty := .w1c, rst := 0x0, grp := some .seep }
def F.SEEP_STATUS_BAD_MSG : Fld := { lo := 1, w := 1, ty := .w1c, rst := 0x0, grp := some .seep }
/-- SEEP_CNT, C + 0x028: R219. -/
def R.SEEP_CNT : Nat := 0x1108028
def F.SEEP_CNT_FORWARDED : Fld := { lo := 0, w := 16, ty := .ro, rst := 0x0, grp := some .seep }
def F.SEEP_CNT_DROPPED : Fld := { lo := 16, w := 16, ty := .ro, rst := 0x0, grp := some .seep }
/-- SEEP_ROUTE0–SEEP_ROUTE15, C + 0x040 + 4 × k, k = 0 to 15: R219. -/
def R.SEEP_ROUTE (n : Nat) : Nat := 0x1108040 + n * 0x4
def F.SEEP_ROUTE_BASE : Fld := { lo := 0, w := 12, ty := .rw, rst := 0x0, grp := some .seep }
def F.SEEP_ROUTE_MASK : Fld := { lo := 12, w := 12, ty := .rw, rst := 0x0, grp := some .seep }
def F.SEEP_ROUTE_LANE : Fld := { lo := 24, w := 3, ty := .rw, rst := 0x0, grp := some .seep }
def F.SEEP_ROUTE_EN : Fld := { lo := 27, w := 1, ty := .rw, rst := 0x0, grp := some .seep }
/-- SEEP_LN_CFG, L + 0x000: R219. -/
def R.SEEP_LN_CFG (n : Nat) : Nat := 0x1100000 + n * 0x1000
def F.SEEP_LN_CFG_EN : Fld := { lo := 0, w := 1, ty := .rw, rst := 0x0, grp := some .seep }
def F.SEEP_LN_CFG_DEPTH_CLASS : Fld := { lo := 1, w := 2, ty := .rw, rst := 0x1, ap := .seep, grp := some .seep }
def F.SEEP_LN_CFG_FORCE_L : Fld := { lo := 3, w := 1, ty := .rw, rst := 0x0, ap := .seep, grp := some .seep }
def F.SEEP_LN_CFG_FWD_EN : Fld := { lo := 4, w := 1, ty := .rwl, rst := 0x0, grp := some .seep }
def F.SEEP_LN_CFG_IN_LANE : Fld := { lo := 8, w := 3, ty := .rw, rst := 0x0, ap := .seep, grp := some .seep }
def F.SEEP_LN_CFG_DEPTH : Fld := { lo := 16, w := 7, ty := .rw, rst := 0x18, ap := .seep, grp := some .seep }
def F.SEEP_LN_CFG_LOCK : Fld := { lo := 31, w := 1, ty := .rwo, rst := 0x0, grp := some .seep }
/-- SEEP_LN_FILT0, L + 0x004: R219. -/
def R.SEEP_LN_FILT0 (n : Nat) : Nat := 0x1100004 + n * 0x1000
def F.SEEP_LN_FILT0_HB1 : Fld := { lo := 0, w := 5, ty := .rw, rst := 0x0, ap := .seep, grp := some .seep }
def F.SEEP_LN_FILT0_HB2 : Fld := { lo := 8, w := 5, ty := .rw, rst := 0x2, ap := .seep, grp := some .seep }
def F.SEEP_LN_FILT0_CHAN_A : Fld := { lo := 16, w := 5, ty := .rw, rst := 0xb, ap := .seep, grp := some .seep }
def F.SEEP_LN_FILT0_CHAN_L : Fld := { lo := 24, w := 5, ty := .rw, rst := 0x13, ap := .seep, grp := some .seep }
/-- SEEP_LN_FILT1, L + 0x008: R219. -/
def R.SEEP_LN_FILT1 (n : Nat) : Nat := 0x1100008 + n * 0x1000
def F.SEEP_LN_FILT1_RESAMP : Fld := { lo := 0, w := 5, ty := .rw, rst := 0x1a, ap := .seep, grp := some .seep }
def F.SEEP_LN_FILT1_SLEEP_DEC : Fld := { lo := 8, w := 5, ty := .rw, rst := 0x4, ap := .seep, grp := some .seep }
def F.SEEP_LN_FILT1_TAG_MARGIN : Fld := { lo := 16, w := 8, ty := .rw, rst := 0x8, ap := .seep, grp := some .seep }
def F.SEEP_LN_FILT1_ITER : Fld := { lo := 24, w := 6, ty := .rw, rst := 0x18, ap := .seep, grp := some .seep }
/-- SEEP_LN_BM, L + 0x00C: R219. -/
def R.SEEP_LN_BM (n : Nat) : Nat := 0x110000c + n * 0x1000
def F.SEEP_LN_BM_BM_SCALE : Fld := { lo := 0, w := 8, ty := .rw, rst := 0x0, ap := .seep, grp := some .seep }
/-- SEEP_LN_STATUS, L + 0x010: R219. -/
def R.SEEP_LN_STATUS (n : Nat) : Nat := 0x1100010 + n * 0x1000
def F.SEEP_LN_STATUS_TX_MODE : Fld := { lo := 0, w := 1, ty := .ro, rst := 0x0, grp := some .seep }
def F.SEEP_LN_STATUS_RX_MODE : Fld := { lo := 1, w := 1, ty := .ro, rst := 0x0, grp := some .seep }
def F.SEEP_LN_STATUS_RX_SYNC : Fld := { lo := 2, w := 1, ty := .ro, rst := 0x0, grp := some .seep }
def F.SEEP_LN_STATUS_INPUT : Fld := { lo := 3, w := 1, ty := .ro, rst := 0x0, grp := some .seep }
def F.SEEP_LN_STATUS_UNSETTLED : Fld := { lo := 4, w := 1, ty := .ro, rst := 0x0, grp := some .seep }
def F.SEEP_LN_STATUS_SYNC_LOSS : Fld := { lo := 5, w := 1, ty := .w1c, rst := 0x0, grp := some .seep }
def F.SEEP_LN_STATUS_CW_FAIL : Fld := { lo := 6, w := 1, ty := .w1c, rst := 0x0, grp := some .seep }
def F.SEEP_LN_STATUS_REPLY_LATE : Fld := { lo := 7, w := 1, ty := .w1c, rst := 0x0, grp := some .seep }
def F.SEEP_LN_STATUS_TXQ_DROP : Fld := { lo := 8, w := 1, ty := .w1c, rst := 0x0, grp := some .seep }
def F.SEEP_LN_STATUS_BM_CLIP : Fld := { lo := 9, w := 1, ty := .w1c, rst := 0x0, grp := some .seep }
def F.SEEP_LN_STATUS_FILT_ERR : Fld := { lo := 10, w := 1, ty := .w1c, rst := 0x0, grp := some .seep }
def F.SEEP_LN_STATUS_TXQ_LEVEL : Fld := { lo := 16, w := 6, ty := .ro, rst := 0x0, grp := some .seep }
def F.SEEP_LN_STATUS_UNSET_LEN : Fld := { lo := 24, w := 8, ty := .ro, rst := 0x0, grp := some .seep }
/-- SEEP_LN_EVM, L + 0x014: R219. -/
def R.SEEP_LN_EVM (n : Nat) : Nat := 0x1100014 + n * 0x1000
def F.SEEP_LN_EVM_EVM0 : Fld := { lo := 0, w := 8, ty := .ro, rst := 0x0, grp := some .seep }
def F.SEEP_LN_EVM_EVM1 : Fld := { lo := 8, w := 8, ty := .ro, rst := 0x0, grp := some .seep }
def F.SEEP_LN_EVM_EVM2 : Fld := { lo := 16, w := 8, ty := .ro, rst := 0x0, grp := some .seep }
def F.SEEP_LN_EVM_EVM3 : Fld := { lo := 24, w := 8, ty := .ro, rst := 0x0, grp := some .seep }
/-- SEEP_LN_CNT0, L + 0x018: R219. -/
def R.SEEP_LN_CNT0 (n : Nat) : Nat := 0x1100018 + n * 0x1000
def F.SEEP_LN_CNT0_RX_FRAMES : Fld := { lo := 0, w := 16, ty := .ro, rst := 0x0, grp := some .seep }
def F.SEEP_LN_CNT0_CW_FAILS : Fld := { lo := 16, w := 16, ty := .ro, rst := 0x0, grp := some .seep }
/-- SEEP_LN_CNT1, L + 0x01C: R219. -/
def R.SEEP_LN_CNT1 (n : Nat) : Nat := 0x110001c + n * 0x1000
def F.SEEP_LN_CNT1_LOST : Fld := { lo := 0, w := 8, ty := .ro, rst := 0x0, grp := some .seep }
def F.SEEP_LN_CNT1_LATE_REPLIES : Fld := { lo := 8, w := 8, ty := .ro, rst := 0x0, grp := some .seep }
def F.SEEP_LN_CNT1_TXQ_DROPS : Fld := { lo := 16, w := 8, ty := .ro, rst := 0x0, grp := some .seep }
def F.SEEP_LN_CNT1_SYNC_LOSSES : Fld := { lo := 24, w := 8, ty := .ro, rst := 0x0, grp := some .seep }
/-- SEEP_LN_TXCNT, L + 0x020: R219. -/
def R.SEEP_LN_TXCNT (n : Nat) : Nat := 0x1100020 + n * 0x1000
def F.SEEP_LN_TXCNT_TX_FRAMES : Fld := { lo := 0, w := 16, ty := .ro, rst := 0x0, grp := some .seep }
def F.SEEP_LN_TXCNT_BULK_FRAMES : Fld := { lo := 16, w := 16, ty := .ro, rst := 0x0, grp := some .seep }

/-- The register rows of spec/08_seep_channel.md. -/
def Regs.sep : List RegSpec := [
  { base := 0x1108000, dims := [], flds := [F.SEEP_NODE_NODE, F.SEEP_NODE_LOCK], lockAt := some 0x1108000 },
  { base := 0x1108004, dims := [], flds := [F.SEEP_CFG_TT_LANE, F.SEEP_CFG_PF_WAKE_EN, F.SEEP_CFG_EVENT_REPEAT, F.SEEP_CFG_LOCK], lockAt := some 0x1108004 },
  { base := 0x1108008, dims := [], flds := [F.SEEP_PF_PEER_PEER, F.SEEP_PF_PEER_LANE, F.SEEP_PF_PEER_EN, F.SEEP_PF_PEER_LOCK], lockAt := some 0x1108008 },
  { base := 0x110800c, dims := [], flds := [F.SEEP_WAKE_WAKE_PEND, F.SEEP_WAKE_WAKE_LANE, F.SEEP_WAKE_WAKE_NODE] },
  { base := 0x1108010, dims := [], flds := [F.SEEP_GW_CTL_GO, F.SEEP_GW_CTL_LANE, F.SEEP_GW_CTL_TX_BUSY, F.SEEP_GW_CTL_GW_ERR, F.SEEP_GW_CTL_RX_COUNT, F.SEEP_GW_CTL_RX_AVAIL, F.SEEP_GW_CTL_POP, F.SEEP_GW_CTL_RX_OVF] },
  { base := 0x1108014, dims := [], flds := [F.SEEP_GW_TXIDX_IDX] },
  { base := 0x1108018, dims := [], flds := [F.SEEP_GW_TXDATA_WORD] },
  { base := 0x110801c, dims := [], flds := [F.SEEP_GW_RXIDX_IDX] },
  { base := 0x1108020, dims := [], flds := [F.SEEP_GW_RXDATA_WORD] },
  { base := 0x1108024, dims := [], flds := [F.SEEP_STATUS_NOROUTE, F.SEEP_STATUS_BAD_MSG] },
  { base := 0x1108028, dims := [], flds := [F.SEEP_CNT_FORWARDED, F.SEEP_CNT_DROPPED] },
  { base := 0x1108040, dims := [(0x4, 16)], flds := [F.SEEP_ROUTE_BASE, F.SEEP_ROUTE_MASK, F.SEEP_ROUTE_LANE, F.SEEP_ROUTE_EN] },
  { base := 0x1100000, dims := [(0x1000, 8)], flds := [F.SEEP_LN_CFG_EN, F.SEEP_LN_CFG_DEPTH_CLASS, F.SEEP_LN_CFG_FORCE_L, F.SEEP_LN_CFG_FWD_EN, F.SEEP_LN_CFG_IN_LANE, F.SEEP_LN_CFG_DEPTH, F.SEEP_LN_CFG_LOCK], lockAt := some 0x1100000 },
  { base := 0x1100004, dims := [(0x1000, 8)], flds := [F.SEEP_LN_FILT0_HB1, F.SEEP_LN_FILT0_HB2, F.SEEP_LN_FILT0_CHAN_A, F.SEEP_LN_FILT0_CHAN_L] },
  { base := 0x1100008, dims := [(0x1000, 8)], flds := [F.SEEP_LN_FILT1_RESAMP, F.SEEP_LN_FILT1_SLEEP_DEC, F.SEEP_LN_FILT1_TAG_MARGIN, F.SEEP_LN_FILT1_ITER] },
  { base := 0x110000c, dims := [(0x1000, 8)], flds := [F.SEEP_LN_BM_BM_SCALE] },
  { base := 0x1100010, dims := [(0x1000, 8)], flds := [F.SEEP_LN_STATUS_TX_MODE, F.SEEP_LN_STATUS_RX_MODE, F.SEEP_LN_STATUS_RX_SYNC, F.SEEP_LN_STATUS_INPUT, F.SEEP_LN_STATUS_UNSETTLED, F.SEEP_LN_STATUS_SYNC_LOSS, F.SEEP_LN_STATUS_CW_FAIL, F.SEEP_LN_STATUS_REPLY_LATE, F.SEEP_LN_STATUS_TXQ_DROP, F.SEEP_LN_STATUS_BM_CLIP, F.SEEP_LN_STATUS_FILT_ERR, F.SEEP_LN_STATUS_TXQ_LEVEL, F.SEEP_LN_STATUS_UNSET_LEN] },
  { base := 0x1100014, dims := [(0x1000, 8)], flds := [F.SEEP_LN_EVM_EVM0, F.SEEP_LN_EVM_EVM1, F.SEEP_LN_EVM_EVM2, F.SEEP_LN_EVM_EVM3] },
  { base := 0x1100018, dims := [(0x1000, 8)], flds := [F.SEEP_LN_CNT0_RX_FRAMES, F.SEEP_LN_CNT0_CW_FAILS] },
  { base := 0x110001c, dims := [(0x1000, 8)], flds := [F.SEEP_LN_CNT1_LOST, F.SEEP_LN_CNT1_LATE_REPLIES, F.SEEP_LN_CNT1_TXQ_DROPS, F.SEEP_LN_CNT1_SYNC_LOSSES] },
  { base := 0x1100020, dims := [(0x1000, 8)], flds := [F.SEEP_LN_TXCNT_TX_FRAMES, F.SEEP_LN_TXCNT_BULK_FRAMES] } ]

/-! ### spec/09_timing.md -/

/-- TOD_CTRL, T + 0x000: R253. -/
def R.TOD_CTRL : Nat := 0x100000
def F.TOD_CTRL_SRC : Fld := { lo := 0, w := 2, ty := .rwl, rst := 0x0, grp := some .timing }
def F.TOD_CTRL_PPS_OUT_EN : Fld := { lo := 2, w := 1, ty := .rwl, rst := 0x0, grp := some .timing }
def F.TOD_CTRL_TOD_TX_EN : Fld := { lo := 3, w := 1, ty := .rwl, rst := 0x0, grp := some .timing }
def F.TOD_CTRL_TOD_RX_EN : Fld := { lo := 4, w := 1, ty := .rwl, rst := 0x0, grp := some .timing }
def F.TOD_CTRL_SERVO_BW : Fld := { lo := 5, w := 3, ty := .rw, rst := 0x2, grp := some .timing }
def F.TOD_CTRL_SERVO_BW_L : Fld := { lo := 8, w := 2, ty := .rw, rst := 0x1, grp := some .timing }
def F.TOD_CTRL_LEARN_EN : Fld := { lo := 10, w := 1, ty := .rw, rst := 0x1, grp := some .timing }
def F.TOD_CTRL_LOCK : Fld := { lo := 31, w := 1, ty := .rwo, rst := 0x0, grp := some .timing }
/-- TOD_STATUS, T + 0x004, AON: R253. -/
def R.TOD_STATUS : Nat := 0x100004
def F.TOD_STATUS_STATE : Fld := { lo := 0, w := 3, ty := .ro, rst := 0x0, grp := some .timing }
def F.TOD_STATUS_VALID : Fld := { lo := 3, w := 1, ty := .ro, rst := 0x0, grp := some .timing }
def F.TOD_STATUS_DEGRADED : Fld := { lo := 4, w := 1, ty := .ro, rst := 0x0, grp := some .timing }
def F.TOD_STATUS_REFCLK_LOST : Fld := { lo := 5, w := 1, ty := .ro, rst := 0x0, grp := some .timing }
def F.TOD_STATUS_NO_MAJORITY : Fld := { lo := 6, w := 1, ty := .ro, rst := 0x0, grp := some .timing }
def F.TOD_STATUS_PPS_SQUELCH : Fld := { lo := 7, w := 1, ty := .ro, rst := 0x1, grp := some .timing }
def F.TOD_STATUS_METHOD : Fld := { lo := 8, w := 2, ty := .ro, rst := 0x0, grp := some .timing }
def F.TOD_STATUS_STATE_EV : Fld := { lo := 16, w := 1, ty := .w1c, rst := 0x0, grp := some .timing }
def F.TOD_STATUS_VALID_FALL : Fld := { lo := 17, w := 1, ty := .w1c, rst := 0x0, grp := some .timing }
def F.TOD_STATUS_EXCH_LATE : Fld := { lo := 18, w := 1, ty := .w1c, rst := 0x0, grp := some .timing }
def F.TOD_STATUS_OUTLIER : Fld := { lo := 19, w := 1, ty := .w1c, rst := 0x0, grp := some .timing }
def F.TOD_STATUS_LOOP : Fld := { lo := 20, w := 1, ty := .w1c, rst := 0x0, grp := some .timing }
def F.TOD_STATUS_PPSIN_REJ : Fld := { lo := 21, w := 1, ty := .w1c, rst := 0x0, grp := some .timing }
def F.TOD_STATUS_NOMAJ_EV : Fld := { lo := 22, w := 1, ty := .w1c, rst := 0x0, grp := some .timing }
def F.TOD_STATUS_CNT_REPAIR : Fld := { lo := 23, w := 1, ty := .w1c, rst := 0x0, grp := some .timing }
def F.TOD_STATUS_STEP_EV : Fld := { lo := 24, w := 1, ty := .w1c, rst := 0x0, grp := some .timing }
def F.TOD_STATUS_SET_REFUSED : Fld := { lo := 25, w := 1, ty := .w1c, rst := 0x0, grp := some .timing }
def F.TOD_STATUS_STEP_AS_SLEW : Fld := { lo := 26, w := 1, ty := .w1c, rst := 0x0, grp := some .timing }
def F.TOD_STATUS_HO_FALLBACK : Fld := { lo := 27, w := 1, ty := .w1c, rst := 0x0, grp := some .timing }
/-- TOD_SNAP_CTRL, T + 0x010: R253. -/
def R.TOD_SNAP_CTRL : Nat := 0x100010
def F.TOD_SNAP_CTRL_CAPTURE : Fld := { lo := 0, w := 1, ty := .wo, rst := 0x0, grp := some .timing }
def F.TOD_SNAP_CTRL_SEL : Fld := { lo := 1, w := 1, ty := .rw, rst := 0x0, grp := some .timing }
def F.TOD_SNAP_CTRL_ON_PPS : Fld := { lo := 2, w := 1, ty := .rw, rst := 0x0, grp := some .timing }
/-- TOD_SNAP_NS, T + 0x014; TOD_SNAP_SEC_LO, T + 0x018; TOD_SNAP_SEC_HI, T + 0x01C; all AON: R253. -/
def R.TOD_SNAP_NS : Nat := 0x100014
def F.TOD_SNAP_NS_NS : Fld := { lo := 0, w := 32, ty := .ro, rst := 0x0, grp := some .timing }
/-- TOD_SNAP_NS, T + 0x014; TOD_SNAP_SEC_LO, T + 0x018; TOD_SNAP_SEC_HI, T + 0x01C; all AON: R253. -/
def R.TOD_SNAP_SEC_LO : Nat := 0x100018
def F.TOD_SNAP_SEC_LO_SEC_LO : Fld := { lo := 0, w := 32, ty := .ro, rst := 0x0, grp := some .timing }
/-- TOD_SNAP_NS, T + 0x014; TOD_SNAP_SEC_LO, T + 0x018; TOD_SNAP_SEC_HI, T + 0x01C; all AON: R253. -/
def R.TOD_SNAP_SEC_HI : Nat := 0x10001c
def F.TOD_SNAP_SEC_HI_SEC_HI : Fld := { lo := 0, w := 16, ty := .ro, rst := 0x0, grp := some .timing }
def F.TOD_SNAP_SEC_HI_FRAC : Fld := { lo := 16, w := 16, ty := .ro, rst := 0x0, grp := some .timing }
/-- TOD_SET_SEC_LO, T + 0x020; TOD_SET_SEC_HI, T + 0x024; TOD_SET_CTRL, T + 0x028: R253. -/
def R.TOD_SET_SEC_LO : Nat := 0x100020
def F.TOD_SET_SEC_LO_SEC_LO : Fld := { lo := 0, w := 32, ty := .rw, rst := 0x0, grp := some .timing }
/-- TOD_SET_SEC_LO, T + 0x020; TOD_SET_SEC_HI, T + 0x024; TOD_SET_CTRL, T + 0x028: R253. -/
def R.TOD_SET_SEC_HI : Nat := 0x100024
def F.TOD_SET_SEC_HI_SEC_HI : Fld := { lo := 0, w := 16, ty := .rw, rst := 0x0, grp := some .timing }
/-- TOD_SET_SEC_LO, T + 0x020; TOD_SET_SEC_HI, T + 0x024; TOD_SET_CTRL, T + 0x028: R253. -/
def R.TOD_SET_CTRL : Nat := 0x100028
def F.TOD_SET_CTRL_GO : Fld := { lo := 0, w := 1, ty := .wo, rst := 0x0, ap := .second, grp := some .timing }
def F.TOD_SET_CTRL_PEND : Fld := { lo := 1, w := 1, ty := .ro, rst := 0x0, grp := some .timing }
/-- TOD_PHASE, T + 0x02C: R253. -/
def R.TOD_PHASE : Nat := 0x10002c
def F.TOD_PHASE_OFFSET : Fld := { lo := 0, w := 28, ty := .rw, rst := 0x0, grp := some .timing }
def F.TOD_PHASE_STEP : Fld := { lo := 28, w := 1, ty := .rw, rst := 0x0, grp := some .timing }
def F.TOD_PHASE_GO : Fld := { lo := 29, w := 1, ty := .wo, rst := 0x0, grp := some .timing }
def F.TOD_PHASE_BUSY : Fld := { lo := 30, w := 1, ty := .ro, rst := 0x0, grp := some .timing }
/-- TOD_FREQ_LO, T + 0x030; TOD_FREQ_HI, T + 0x034: R253. -/
def R.TOD_FREQ_LO : Nat := 0x100030
def F.TOD_FREQ_LO_ADJ_LO : Fld := { lo := 0, w := 32, ty := .ro, rst := 0x0, grp := some .timing }
/-- TOD_FREQ_LO, T + 0x030; TOD_FREQ_HI, T + 0x034: R253. -/
def R.TOD_FREQ_HI : Nat := 0x100034
def F.TOD_FREQ_HI_ADJ_HI : Fld := { lo := 0, w := 16, ty := .ro, rst := 0x0, grp := some .timing }
/-- TOD_FREQ_MAN_LO, T + 0x038; TOD_FREQ_MAN_HI, T + 0x03C: R253. -/
def R.TOD_FREQ_MAN_LO : Nat := 0x100038
def F.TOD_FREQ_MAN_LO_MAN_LO : Fld := { lo := 0, w := 32, ty := .rw, rst := 0x0, grp := some .timing }
/-- TOD_FREQ_MAN_LO, T + 0x038; TOD_FREQ_MAN_HI, T + 0x03C: R253. -/
def R.TOD_FREQ_MAN_HI : Nat := 0x10003c
def F.TOD_FREQ_MAN_HI_MAN_HI : Fld := { lo := 0, w := 16, ty := .rw, rst := 0x0, grp := some .timing }
/-- TOD_SLEW, T + 0x040: R253. -/
def R.TOD_SLEW : Nat := 0x100040
def F.TOD_SLEW_SLEW_MAX : Fld := { lo := 0, w := 8, ty := .rw, rst := 0xa, grp := some .timing }
def F.TOD_SLEW_LOCK_THRESH : Fld := { lo := 8, w := 8, ty := .rw, rst := 0x14, grp := some .timing }
def F.TOD_SLEW_OUTLIER : Fld := { lo := 16, w := 8, ty := .rw, rst := 0x19, grp := some .timing }
def F.TOD_SLEW_HO_ENTRY : Fld := { lo := 24, w := 8, ty := .rw, rst := 0x2, grp := some .timing }
/-- TOD_UNC, T + 0x044, AON; TOD_UNC_RATE, T + 0x048: R253. -/
def R.TOD_UNC : Nat := 0x100044
def F.TOD_UNC_UNC : Fld := { lo := 0, w := 32, ty := .ro, rst := 0xffffffff, grp := some .timing }
/-- TOD_UNC, T + 0x044, AON; TOD_UNC_RATE, T + 0x048: R253. -/
def R.TOD_UNC_RATE : Nat := 0x100048
def F.TOD_UNC_RATE_RATE : Fld := { lo := 0, w := 32, ty := .ro, rst := 0x0, grp := some .timing }
/-- TOD_UNC_CFG, T + 0x04C: R253. -/
def R.TOD_UNC_CFG : Nat := 0x10004c
def F.TOD_UNC_CFG_UNC_LIMIT : Fld := { lo := 0, w := 16, ty := .rw, rst := 0x44c, grp := some .timing }
def F.TOD_UNC_CFG_RING_UNC_PPM : Fld := { lo := 16, w := 8, ty := .rw, rst := 0x14, grp := some .timing }
def F.TOD_UNC_CFG_ASYM_UNC : Fld := { lo := 24, w := 8, ty := .rw, rst := 0x32, grp := some .timing }
/-- TOD_TT_ASYM, T + 0x050; TOD_TT_EXT, T + 0x054; TOD_TT_EXTL, T + 0x058: R253. -/
def R.TOD_TT_ASYM : Nat := 0x100050
def F.TOD_TT_ASYM_ASYM : Fld := { lo := 0, w := 32, ty := .rw, rst := 0x0, grp := some .timing }
/-- TOD_TT_ASYM, T + 0x050; TOD_TT_EXT, T + 0x054; TOD_TT_EXTL, T + 0x058: R253. -/
def R.TOD_TT_EXT : Nat := 0x100054
def F.TOD_TT_EXT_TX_EXT : Fld := { lo := 0, w := 16, ty := .rw, rst := 0x0, grp := some .timing }
def F.TOD_TT_EXT_RX_EXT : Fld := { lo := 16, w := 16, ty := .rw, rst := 0x0, grp := some .timing }
/-- TOD_TT_ASYM, T + 0x050; TOD_TT_EXT, T + 0x054; TOD_TT_EXTL, T + 0x058: R253. -/
def R.TOD_TT_EXTL : Nat := 0x100058
def F.TOD_TT_EXTL_TX_EXTL : Fld := { lo := 0, w := 16, ty := .rw, rst := 0x0, grp := some .timing }
def F.TOD_TT_EXTL_RX_EXTL : Fld := { lo := 16, w := 16, ty := .rw, rst := 0x0, grp := some .timing }
/-- TOD_TT_OFS, T + 0x05C; TOD_TT_DELAY, T + 0x060; TOD_TT_CNT, T + 0x064: R253. -/
def R.TOD_TT_OFS : Nat := 0x10005c
def F.TOD_TT_OFS_THETA : Fld := { lo := 0, w := 32, ty := .ro, rst := 0x0, grp := some .timing }
/-- TOD_TT_OFS, T + 0x05C; TOD_TT_DELAY, T + 0x060; TOD_TT_CNT, T + 0x064: R253. -/
def R.TOD_TT_DELAY : Nat := 0x100060
def F.TOD_TT_DELAY_D : Fld := { lo := 0, w := 32, ty := .ro, rst := 0x0, grp := some .timing }
/-- TOD_TT_OFS, T + 0x05C; TOD_TT_DELAY, T + 0x060; TOD_TT_CNT, T + 0x064: R253. -/
def R.TOD_TT_CNT : Nat := 0x100064
def F.TOD_TT_CNT_ACCEPTED : Fld := { lo := 0, w := 16, ty := .ro, rst := 0x0, grp := some .timing }
def F.TOD_TT_CNT_LATES : Fld := { lo := 16, w := 8, ty := .ro, rst := 0x0, grp := some .timing }
def F.TOD_TT_CNT_OUTLIERS : Fld := { lo := 24, w := 8, ty := .ro, rst := 0x0, grp := some .timing }
/-- TOD_PPS_CFG, T + 0x070; TOD_PPS_IN_DLY, T + 0x074: R253. -/
def R.TOD_PPS_CFG : Nat := 0x100070
def F.TOD_PPS_CFG_OUT_DELAY : Fld := { lo := 0, w := 16, ty := .rw, rst := 0x0, grp := some .timing }
def F.TOD_PPS_CFG_WIDTH : Fld := { lo := 16, w := 8, ty := .rw, rst := 0x64, grp := some .timing }
def F.TOD_PPS_CFG_IN_WIN : Fld := { lo := 24, w := 8, ty := .rw, rst := 0xa, grp := some .timing }
/-- TOD_PPS_CFG, T + 0x070; TOD_PPS_IN_DLY, T + 0x074: R253. -/
def R.TOD_PPS_IN_DLY : Nat := 0x100074
def F.TOD_PPS_IN_DLY_IN_DELAY : Fld := { lo := 0, w := 16, ty := .rw, rst := 0x0, grp := some .timing }
/-- TOD_MSG_CFG, T + 0x078: R253. -/
def R.TOD_MSG_CFG : Nat := 0x100078
def F.TOD_MSG_CFG_UTC_OFS : Fld := { lo := 0, w := 16, ty := .rw, rst := 0x0, ap := .second, grp := some .timing }
def F.TOD_MSG_CFG_BAUD : Fld := { lo := 16, w := 2, ty := .rw, rst := 0x1, grp := some .timing }
/-- TOD_CLKOUT, T + 0x07C: R253. -/
def R.TOD_CLKOUT : Nat := 0x10007c
def F.TOD_CLKOUT_FREQ : Fld := { lo := 0, w := 2, ty := .rw, rst := 0x3, grp := some .timing }
def F.TOD_CLKOUT_SRC : Fld := { lo := 2, w := 1, ty := .rw, rst := 0x0, grp := some .timing }
def F.TOD_CLKOUT_LANE : Fld := { lo := 3, w := 3, ty := .rw, rst := 0x0, grp := some .timing }
def F.TOD_CLKOUT_SQUELCH_EN : Fld := { lo := 6, w := 1, ty := .rw, rst := 0x1, grp := some .timing }
def F.TOD_CLKOUT_SQUELCHED : Fld := { lo := 7, w := 1, ty := .ro, rst := 0x1, grp := some .timing }
/-- TOD_HO_CFG, T + 0x080; TOD_HO_MODEL, T + 0x084: R253. -/
def R.TOD_HO_CFG : Nat := 0x100080
def F.TOD_HO_CFG_THERM_NOM : Fld := { lo := 0, w := 16, ty := .rw, rst := 0x3e8, grp := some .timing }
def F.TOD_HO_CFG_THERM_BETA : Fld := { lo := 16, w := 16, ty := .rw, rst := 0xd6b, grp := some .timing }
/-- TOD_HO_CFG, T + 0x080; TOD_HO_MODEL, T + 0x084: R253. -/
def R.TOD_HO_MODEL : Nat := 0x100084
def F.TOD_HO_MODEL_RES_MAX : Fld := { lo := 0, w := 8, ty := .rw, rst := 0x32, grp := some .timing }
def F.TOD_HO_MODEL_BIN_MIN : Fld := { lo := 8, w := 8, ty := .rw, rst := 0x3c, grp := some .timing }
def F.TOD_HO_MODEL_MODEL_DAYS : Fld := { lo := 16, w := 8, ty := .rw, rst := 0x1e, grp := some .timing }
/-- TOD_HO_STATUS, T + 0x088; TOD_HO_TIME, T + 0x08C: R253. -/
def R.TOD_HO_STATUS : Nat := 0x100088
def F.TOD_HO_STATUS_PRED : Fld := { lo := 0, w := 2, ty := .ro, rst := 0x0, grp := some .timing }
def F.TOD_HO_STATUS_SEEDED : Fld := { lo := 2, w := 1, ty := .ro, rst := 0x0, grp := some .timing }
def F.TOD_HO_STATUS_FITTED : Fld := { lo := 3, w := 1, ty := .ro, rst := 0x0, grp := some .timing }
def F.TOD_HO_STATUS_OSC_TEMP : Fld := { lo := 16, w := 16, ty := .ro, rst := 0x0, grp := some .timing }
/-- TOD_HO_STATUS, T + 0x088; TOD_HO_TIME, T + 0x08C: R253. -/
def R.TOD_HO_TIME : Nat := 0x10008c
def F.TOD_HO_TIME_HO_TIME : Fld := { lo := 0, w := 32, ty := .ro, rst := 0x0, grp := some .timing }
/-- TOD_CMP, T + 0x090, AON: R253. -/
def R.TOD_CMP : Nat := 0x100090
def F.TOD_CMP_INTACT_A : Fld := { lo := 0, w := 1, ty := .ro, rst := 0x1, grp := some .timing }
def F.TOD_CMP_INTACT_B : Fld := { lo := 1, w := 1, ty := .ro, rst := 0x1, grp := some .timing }
def F.TOD_CMP_DIFF : Fld := { lo := 16, w := 16, ty := .ro, rst := 0x0, grp := some .timing }

/-- The register rows of spec/09_timing.md. -/
def Regs.tim : List RegSpec := [
  { base := 0x100000, dims := [], flds := [F.TOD_CTRL_SRC, F.TOD_CTRL_PPS_OUT_EN, F.TOD_CTRL_TOD_TX_EN, F.TOD_CTRL_TOD_RX_EN, F.TOD_CTRL_SERVO_BW, F.TOD_CTRL_SERVO_BW_L, F.TOD_CTRL_LEARN_EN, F.TOD_CTRL_LOCK], lockAt := some 0x100000 },
  { base := 0x100004, dims := [], flds := [F.TOD_STATUS_STATE, F.TOD_STATUS_VALID, F.TOD_STATUS_DEGRADED, F.TOD_STATUS_REFCLK_LOST, F.TOD_STATUS_NO_MAJORITY, F.TOD_STATUS_PPS_SQUELCH, F.TOD_STATUS_METHOD, F.TOD_STATUS_STATE_EV, F.TOD_STATUS_VALID_FALL, F.TOD_STATUS_EXCH_LATE, F.TOD_STATUS_OUTLIER, F.TOD_STATUS_LOOP, F.TOD_STATUS_PPSIN_REJ, F.TOD_STATUS_NOMAJ_EV, F.TOD_STATUS_CNT_REPAIR, F.TOD_STATUS_STEP_EV, F.TOD_STATUS_SET_REFUSED, F.TOD_STATUS_STEP_AS_SLEW, F.TOD_STATUS_HO_FALLBACK], aon := true },
  { base := 0x100010, dims := [], flds := [F.TOD_SNAP_CTRL_CAPTURE, F.TOD_SNAP_CTRL_SEL, F.TOD_SNAP_CTRL_ON_PPS] },
  { base := 0x100014, dims := [], flds := [F.TOD_SNAP_NS_NS], aon := true },
  { base := 0x100018, dims := [], flds := [F.TOD_SNAP_SEC_LO_SEC_LO], aon := true },
  { base := 0x10001c, dims := [], flds := [F.TOD_SNAP_SEC_HI_SEC_HI, F.TOD_SNAP_SEC_HI_FRAC], aon := true },
  { base := 0x100020, dims := [], flds := [F.TOD_SET_SEC_LO_SEC_LO] },
  { base := 0x100024, dims := [], flds := [F.TOD_SET_SEC_HI_SEC_HI] },
  { base := 0x100028, dims := [], flds := [F.TOD_SET_CTRL_GO, F.TOD_SET_CTRL_PEND] },
  { base := 0x10002c, dims := [], flds := [F.TOD_PHASE_OFFSET, F.TOD_PHASE_STEP, F.TOD_PHASE_GO, F.TOD_PHASE_BUSY] },
  { base := 0x100030, dims := [], flds := [F.TOD_FREQ_LO_ADJ_LO] },
  { base := 0x100034, dims := [], flds := [F.TOD_FREQ_HI_ADJ_HI] },
  { base := 0x100038, dims := [], flds := [F.TOD_FREQ_MAN_LO_MAN_LO] },
  { base := 0x10003c, dims := [], flds := [F.TOD_FREQ_MAN_HI_MAN_HI] },
  { base := 0x100040, dims := [], flds := [F.TOD_SLEW_SLEW_MAX, F.TOD_SLEW_LOCK_THRESH, F.TOD_SLEW_OUTLIER, F.TOD_SLEW_HO_ENTRY] },
  { base := 0x100044, dims := [], flds := [F.TOD_UNC_UNC], aon := true },
  { base := 0x100048, dims := [], flds := [F.TOD_UNC_RATE_RATE] },
  { base := 0x10004c, dims := [], flds := [F.TOD_UNC_CFG_UNC_LIMIT, F.TOD_UNC_CFG_RING_UNC_PPM, F.TOD_UNC_CFG_ASYM_UNC] },
  { base := 0x100050, dims := [], flds := [F.TOD_TT_ASYM_ASYM] },
  { base := 0x100054, dims := [], flds := [F.TOD_TT_EXT_TX_EXT, F.TOD_TT_EXT_RX_EXT] },
  { base := 0x100058, dims := [], flds := [F.TOD_TT_EXTL_TX_EXTL, F.TOD_TT_EXTL_RX_EXTL] },
  { base := 0x10005c, dims := [], flds := [F.TOD_TT_OFS_THETA] },
  { base := 0x100060, dims := [], flds := [F.TOD_TT_DELAY_D] },
  { base := 0x100064, dims := [], flds := [F.TOD_TT_CNT_ACCEPTED, F.TOD_TT_CNT_LATES, F.TOD_TT_CNT_OUTLIERS] },
  { base := 0x100070, dims := [], flds := [F.TOD_PPS_CFG_OUT_DELAY, F.TOD_PPS_CFG_WIDTH, F.TOD_PPS_CFG_IN_WIN] },
  { base := 0x100074, dims := [], flds := [F.TOD_PPS_IN_DLY_IN_DELAY] },
  { base := 0x100078, dims := [], flds := [F.TOD_MSG_CFG_UTC_OFS, F.TOD_MSG_CFG_BAUD] },
  { base := 0x10007c, dims := [], flds := [F.TOD_CLKOUT_FREQ, F.TOD_CLKOUT_SRC, F.TOD_CLKOUT_LANE, F.TOD_CLKOUT_SQUELCH_EN, F.TOD_CLKOUT_SQUELCHED] },
  { base := 0x100080, dims := [], flds := [F.TOD_HO_CFG_THERM_NOM, F.TOD_HO_CFG_THERM_BETA] },
  { base := 0x100084, dims := [], flds := [F.TOD_HO_MODEL_RES_MAX, F.TOD_HO_MODEL_BIN_MIN, F.TOD_HO_MODEL_MODEL_DAYS] },
  { base := 0x100088, dims := [], flds := [F.TOD_HO_STATUS_PRED, F.TOD_HO_STATUS_SEEDED, F.TOD_HO_STATUS_FITTED, F.TOD_HO_STATUS_OSC_TEMP] },
  { base := 0x10008c, dims := [], flds := [F.TOD_HO_TIME_HO_TIME] },
  { base := 0x100090, dims := [], flds := [F.TOD_CMP_INTACT_A, F.TOD_CMP_INTACT_B, F.TOD_CMP_DIFF], aon := true } ]

/-! ### spec/10_cistern.md -/

/-- CIS_STATUS, C + 0x000: R273. -/
def R.CIS_STATUS : Nat := 0x1300000
def F.CIS_STATUS_TRAINED : Fld := { lo := 0, w := 1, ty := .ro, rst := 0x0 }
def F.CIS_STATUS_FILLED : Fld := { lo := 1, w := 1, ty := .ro, rst := 0x0 }
def F.CIS_STATUS_SELF_REFRESH : Fld := { lo := 2, w := 1, ty := .ro, rst := 0x0 }
def F.CIS_STATUS_BG_BUSY : Fld := { lo := 3, w := 1, ty := .ro, rst := 0x0 }
def F.CIS_STATUS_CAP_BUSY : Fld := { lo := 4, w := 1, ty := .ro, rst := 0x0 }
def F.CIS_STATUS_ZERO_BUSY : Fld := { lo := 5, w := 1, ty := .ro, rst := 0x0 }
def F.CIS_STATUS_REMAP_FULL : Fld := { lo := 6, w := 1, ty := .ro, rst := 0x0 }
def F.CIS_STATUS_UNAVAILABLE : Fld := { lo := 7, w := 1, ty := .ro, rst := 0x0 }
def F.CIS_STATUS_CE_EV : Fld := { lo := 16, w := 1, ty := .w1c, rst := 0x0 }
def F.CIS_STATUS_UE_EV : Fld := { lo := 17, w := 1, ty := .w1c, rst := 0x0 }
def F.CIS_STATUS_RMW_UE : Fld := { lo := 18, w := 1, ty := .w1c, rst := 0x0 }
def F.CIS_STATUS_LAP_LATE : Fld := { lo := 19, w := 1, ty := .w1c, rst := 0x0 }
def F.CIS_STATUS_REMAP_EV : Fld := { lo := 20, w := 1, ty := .w1c, rst := 0x0 }
def F.CIS_STATUS_RETRAIN_EV : Fld := { lo := 21, w := 1, ty := .w1c, rst := 0x0 }
def F.CIS_STATUS_CAP_DONE : Fld := { lo := 22, w := 1, ty := .w1c, rst := 0x0 }
def F.CIS_STATUS_ZERO_DONE : Fld := { lo := 23, w := 1, ty := .w1c, rst := 0x0 }
def F.CIS_STATUS_CAP_REFUSED : Fld := { lo := 24, w := 1, ty := .w1c, rst := 0x0 }
/-- CIS_CFG, C + 0x004: R273. -/
def R.CIS_CFG : Nat := 0x1300004
def F.CIS_CFG_MERGE_AGE : Fld := { lo := 0, w := 4, ty := .rw, rst := 0x8, grp := some .datapath }
def F.CIS_CFG_AUTO_REMAP : Fld := { lo := 4, w := 1, ty := .rw, rst := 0x1, grp := some .datapath }
/-- CIS_REF, C + 0x008: R273. -/
def R.CIS_REF : Nat := 0x1300008
def F.CIS_REF_MULT : Fld := { lo := 0, w := 16, ty := .rw, rst := 0xa400, grp := some .datapath }
def F.CIS_REF_BAND_EFF : Fld := { lo := 16, w := 3, ty := .ro, rst := 0x0, grp := some .datapath }
def F.CIS_REF_MULT_EFF : Fld := { lo := 19, w := 2, ty := .ro, rst := 0x0, grp := some .datapath }
def F.CIS_REF_MR4_RATE : Fld := { lo := 21, w := 3, ty := .ro, rst := 0x0, grp := some .datapath }
/-- CIS_SCRUB_CFG, C + 0x010: R273. -/
def R.CIS_SCRUB_CFG : Nat := 0x1300010
def F.CIS_SCRUB_CFG_SCRUB_EN : Fld := { lo := 0, w := 1, ty := .rw, rst := 0x1, grp := some .datapath }
def F.CIS_SCRUB_CFG_BG_GO : Fld := { lo := 1, w := 1, ty := .wo, rst := 0x0, grp := some .datapath }
def F.CIS_SCRUB_CFG_LAP_LIMIT : Fld := { lo := 8, w := 8, ty := .rw, rst := 0x3c, grp := some .datapath }
def F.CIS_SCRUB_CFG_BG_RATE : Fld := { lo := 16, w := 9, ty := .rw, rst := 0x10, grp := some .datapath }
/-- CIS_SCRUB_STATUS, C + 0x014: R273. -/
def R.CIS_SCRUB_STATUS : Nat := 0x1300014
def F.CIS_SCRUB_STATUS_LAP_MS : Fld := { lo := 0, w := 20, ty := .ro, rst := 0x0, grp := some .datapath }
def F.CIS_SCRUB_STATUS_LAPS : Fld := { lo := 20, w := 12, ty := .ro, rst := 0x0, grp := some .datapath }
/-- CIS_SCRUB_POS, C + 0x018: R273. -/
def R.CIS_SCRUB_POS : Nat := 0x1300018
def F.CIS_SCRUB_POS_LINE : Fld := { lo := 0, w := 26, ty := .ro, rst := 0x0, grp := some .datapath }
def F.CIS_SCRUB_POS_BY_ENGINE : Fld := { lo := 31, w := 1, ty := .ro, rst := 0x0, grp := some .datapath }
/-- CIS_ECC_CNT, C + 0x01C: R273. -/
def R.CIS_ECC_CNT : Nat := 0x130001c
def F.CIS_ECC_CNT_CE_COUNT : Fld := { lo := 0, w := 24, ty := .ro, rst := 0x0, grp := some .datapath }
def F.CIS_ECC_CNT_UE_COUNT : Fld := { lo := 24, w := 8, ty := .ro, rst := 0x0, grp := some .datapath }
/-- CIS_UE_ADDR, C + 0x020, and CIS_UE_INFO, C + 0x024: R273. -/
def R.CIS_UE_ADDR : Nat := 0x1300020
def F.CIS_UE_ADDR_ADDR : Fld := { lo := 0, w := 32, ty := .ro, rst := 0x0, grp := some .datapath }
/-- CIS_UE_ADDR, C + 0x020, and CIS_UE_INFO, C + 0x024: R273. -/
def R.CIS_UE_INFO : Nat := 0x1300024
def F.CIS_UE_INFO_SOURCE : Fld := { lo := 0, w := 4, ty := .ro, rst := 0x0, grp := some .datapath }
def F.CIS_UE_INFO_POISONED : Fld := { lo := 4, w := 1, ty := .ro, rst := 0x0, grp := some .datapath }
def F.CIS_UE_INFO_REMAPPED : Fld := { lo := 5, w := 1, ty := .ro, rst := 0x0, grp := some .datapath }
/-- CIS_REMAP0–CIS_REMAP7, C + 0x040 + 4 × k, k = 0 to 7: R273. -/
def R.CIS_REMAP (n : Nat) : Nat := 0x1300040 + n * 0x4
def F.CIS_REMAP_LINE_ADDR : Fld := { lo := 0, w := 27, ty := .ro, rst := 0x0, grp := some .datapath }
def F.CIS_REMAP_VALID : Fld := { lo := 27, w := 1, ty := .ro, rst := 0x0, grp := some .datapath }
def F.CIS_REMAP_CAUSE : Fld := { lo := 28, w := 2, ty := .ro, rst := 0x0, grp := some .datapath }
/-- CIS_REMAP_CMD, C + 0x060: R273. -/
def R.CIS_REMAP_CMD : Nat := 0x1300060
def F.CIS_REMAP_CMD_LINE_ADDR : Fld := { lo := 0, w := 27, ty := .rw, rst := 0x0, grp := some .datapath }
def F.CIS_REMAP_CMD_GO : Fld := { lo := 27, w := 1, ty := .wo, rst := 0x0, grp := some .datapath }
def F.CIS_REMAP_CMD_ERR : Fld := { lo := 28, w := 1, ty := .w1c, rst := 0x0, grp := some .datapath }
/-- CIS_CAP_CTRL, C + 0x080: R273. -/
def R.CIS_CAP_CTRL : Nat := 0x1300080
def F.CIS_CAP_CTRL_GO : Fld := { lo := 0, w := 1, ty := .wo, rst := 0x0, grp := some .debug }
def F.CIS_CAP_CTRL_ABORT : Fld := { lo := 1, w := 1, ty := .wo, rst := 0x0, grp := some .debug }
def F.CIS_CAP_CTRL_LANE : Fld := { lo := 2, w := 3, ty := .rw, rst := 0x0, grp := some .debug }
def F.CIS_CAP_CTRL_TRIGGER : Fld := { lo := 5, w := 1, ty := .rw, rst := 0x0, grp := some .debug }
/-- CIS_CAP_CFG, C + 0x084, and CIS_CAP_CFG2, C + 0x088: R273. -/
def R.CIS_CAP_CFG : Nat := 0x1300084
def F.CIS_CAP_CFG_SEG_SAMPLES : Fld := { lo := 0, w := 10, ty := .rw, rst := 0x3ff, grp := some .debug }
def F.CIS_CAP_CFG_SEG_PERIOD : Fld := { lo := 16, w := 16, ty := .rw, rst := 0x20, grp := some .debug }
/-- CIS_CAP_CFG, C + 0x084, and CIS_CAP_CFG2, C + 0x088: R273. -/
def R.CIS_CAP_CFG2 : Nat := 0x1300088
def F.CIS_CAP_CFG2_SEG_COUNT : Fld := { lo := 0, w := 15, ty := .rw, rst := 0x4000, grp := some .debug }
def F.CIS_CAP_CFG2_OFFSET : Fld := { lo := 16, w := 11, ty := .rw, rst := 0x0, grp := some .debug }
/-- CIS_CAP_STATUS, C + 0x08C: R273. -/
def R.CIS_CAP_STATUS : Nat := 0x130008c
def F.CIS_CAP_STATUS_SEGS_DONE : Fld := { lo := 0, w := 15, ty := .ro, rst := 0x0, grp := some .datapath }
def F.CIS_CAP_STATUS_SKIPPED : Fld := { lo := 16, w := 16, ty := .ro, rst := 0x0, grp := some .datapath }
/-- CIS_ZERO, C + 0x090: R273. -/
def R.CIS_ZERO : Nat := 0x1300090
def F.CIS_ZERO_GO : Fld := { lo := 0, w := 1, ty := .wo, rst := 0x0, grp := some .debug }
def F.CIS_ZERO_MIRROR : Fld := { lo := 1, w := 1, ty := .rw, rst := 0x0, grp := some .debug }

/-- The register rows of spec/10_cistern.md. -/
def Regs.cis : List RegSpec := [
  { base := 0x1300000, dims := [], flds := [F.CIS_STATUS_TRAINED, F.CIS_STATUS_FILLED, F.CIS_STATUS_SELF_REFRESH, F.CIS_STATUS_BG_BUSY, F.CIS_STATUS_CAP_BUSY, F.CIS_STATUS_ZERO_BUSY, F.CIS_STATUS_REMAP_FULL, F.CIS_STATUS_UNAVAILABLE, F.CIS_STATUS_CE_EV, F.CIS_STATUS_UE_EV, F.CIS_STATUS_RMW_UE, F.CIS_STATUS_LAP_LATE, F.CIS_STATUS_REMAP_EV, F.CIS_STATUS_RETRAIN_EV, F.CIS_STATUS_CAP_DONE, F.CIS_STATUS_ZERO_DONE, F.CIS_STATUS_CAP_REFUSED] },
  { base := 0x1300004, dims := [], flds := [F.CIS_CFG_MERGE_AGE, F.CIS_CFG_AUTO_REMAP] },
  { base := 0x1300008, dims := [], flds := [F.CIS_REF_MULT, F.CIS_REF_BAND_EFF, F.CIS_REF_MULT_EFF, F.CIS_REF_MR4_RATE] },
  { base := 0x1300010, dims := [], flds := [F.CIS_SCRUB_CFG_SCRUB_EN, F.CIS_SCRUB_CFG_BG_GO, F.CIS_SCRUB_CFG_LAP_LIMIT, F.CIS_SCRUB_CFG_BG_RATE] },
  { base := 0x1300014, dims := [], flds := [F.CIS_SCRUB_STATUS_LAP_MS, F.CIS_SCRUB_STATUS_LAPS] },
  { base := 0x1300018, dims := [], flds := [F.CIS_SCRUB_POS_LINE, F.CIS_SCRUB_POS_BY_ENGINE] },
  { base := 0x130001c, dims := [], flds := [F.CIS_ECC_CNT_CE_COUNT, F.CIS_ECC_CNT_UE_COUNT] },
  { base := 0x1300020, dims := [], flds := [F.CIS_UE_ADDR_ADDR] },
  { base := 0x1300024, dims := [], flds := [F.CIS_UE_INFO_SOURCE, F.CIS_UE_INFO_POISONED, F.CIS_UE_INFO_REMAPPED] },
  { base := 0x1300040, dims := [(0x4, 8)], flds := [F.CIS_REMAP_LINE_ADDR, F.CIS_REMAP_VALID, F.CIS_REMAP_CAUSE] },
  { base := 0x1300060, dims := [], flds := [F.CIS_REMAP_CMD_LINE_ADDR, F.CIS_REMAP_CMD_GO, F.CIS_REMAP_CMD_ERR] },
  { base := 0x1300080, dims := [], flds := [F.CIS_CAP_CTRL_GO, F.CIS_CAP_CTRL_ABORT, F.CIS_CAP_CTRL_LANE, F.CIS_CAP_CTRL_TRIGGER] },
  { base := 0x1300084, dims := [], flds := [F.CIS_CAP_CFG_SEG_SAMPLES, F.CIS_CAP_CFG_SEG_PERIOD] },
  { base := 0x1300088, dims := [], flds := [F.CIS_CAP_CFG2_SEG_COUNT, F.CIS_CAP_CFG2_OFFSET] },
  { base := 0x130008c, dims := [], flds := [F.CIS_CAP_STATUS_SEGS_DONE, F.CIS_CAP_STATUS_SKIPPED] },
  { base := 0x1300090, dims := [], flds := [F.CIS_ZERO_GO, F.CIS_ZERO_MIRROR] } ]

/-! ### spec/11_start_up_and_images.md -/

/-- BOOT_STATUS, B + 0x000, AON: R297. -/
def R.BOOT_STATUS : Nat := 0x40000
def F.BOOT_STATUS_PHASE : Fld := { lo := 0, w := 3, ty := .ro, rst := 0x0, grp := some .update }
def F.BOOT_STATUS_COPY : Fld := { lo := 3, w := 1, ty := .ro, rst := 0x0, grp := some .update }
def F.BOOT_STATUS_FROM_STAGING : Fld := { lo := 4, w := 1, ty := .ro, rst := 0x0, grp := some .update }
def F.BOOT_STATUS_IN_FORCE_SLOT : Fld := { lo := 5, w := 1, ty := .ro, rst := 0x0, grp := some .update }
def F.BOOT_STATUS_DIR_TWIN : Fld := { lo := 6, w := 1, ty := .w1c, rst := 0x0, grp := some .update }
def F.BOOT_STATUS_IMAGE_TWIN_CONFLICT : Fld := { lo := 7, w := 1, ty := .w1c, rst := 0x0, grp := some .update }
def F.BOOT_STATUS_FALLBACK : Fld := { lo := 8, w := 1, ty := .w1c, rst := 0x0, grp := some .update }
def F.BOOT_STATUS_CONFIG_ERR : Fld := { lo := 9, w := 1, ty := .w1c, rst := 0x0, grp := some .update }
def F.BOOT_STATUS_REPAIR_ERR : Fld := { lo := 10, w := 1, ty := .w1c, rst := 0x0, grp := some .update }
def F.BOOT_STATUS_FUSE_NOMAJ : Fld := { lo := 11, w := 1, ty := .w1c, rst := 0x0, grp := some .update }
/-- BOOT_SEQ, B + 0x004: R297. -/
def R.BOOT_SEQ : Nat := 0x40004
def F.BOOT_SEQ_SEQ_EFF : Fld := { lo := 0, w := 32, ty := .ro, rst := 0x0, grp := some .update }
/-- BOOT_COPY_INFO, B + 0x008: R297. -/
def R.BOOT_COPY_INFO : Nat := 0x40008
def F.BOOT_COPY_INFO_RESULT_A : Fld := { lo := 0, w := 4, ty := .ro, rst := 0x0, grp := some .update }
def F.BOOT_COPY_INFO_RESULT_B : Fld := { lo := 4, w := 4, ty := .ro, rst := 0x0, grp := some .update }
/-- BOOT_CFG_ERR, B + 0x00C: R297. -/
def R.BOOT_CFG_ERR : Nat := 0x4000c
def F.BOOT_CFG_ERR_FIRST_INDEX : Fld := { lo := 0, w := 14, ty := .ro, rst := 0x0, grp := some .update }
def F.BOOT_CFG_ERR_CODE : Fld := { lo := 16, w := 4, ty := .ro, rst := 0x0, grp := some .update }
def F.BOOT_CFG_ERR_REASON : Fld := { lo := 20, w := 3, ty := .ro, rst := 0x0, grp := some .update }
def F.BOOT_CFG_ERR_COUNT : Fld := { lo := 24, w := 8, ty := .ro, rst := 0x0, grp := some .update }
/-- BOOT_FUSE, B + 0x010: R297. -/
def R.BOOT_FUSE : Nat := 0x40010
def F.BOOT_FUSE_REPAIRED : Fld := { lo := 0, w := 8, ty := .ro, rst := 0x0, grp := some .update }
def F.BOOT_FUSE_NOMAJ : Fld := { lo := 8, w := 5, ty := .ro, rst := 0x0, grp := some .update }
/-- BOOT_STAGE_CTRL, B + 0x020: R297. -/
def R.BOOT_STAGE_CTRL : Nat := 0x40020
def F.BOOT_STAGE_CTRL_VERIFY : Fld := { lo := 0, w := 1, ty := .wo, rst := 0x0, grp := some .update }
def F.BOOT_STAGE_CTRL_SWITCH : Fld := { lo := 1, w := 1, ty := .wo, rst := 0x0, grp := some .update }
def F.BOOT_STAGE_CTRL_APPLY_CONFIG : Fld := { lo := 2, w := 1, ty := .rw, rst := 0x0, grp := some .update }
def F.BOOT_STAGE_CTRL_FORCE_WELL : Fld := { lo := 3, w := 1, ty := .rw, rst := 0x0, grp := some .update }
def F.BOOT_STAGE_CTRL_ALLOW_OLDER : Fld := { lo := 4, w := 1, ty := .rw, rst := 0x0, grp := some .update }
def F.BOOT_STAGE_CTRL_RESTART : Fld := { lo := 8, w := 1, ty := .wo, rst := 0x0, grp := some .update }
/-- BOOT_STAGE_STATUS, B + 0x024: R297. -/
def R.BOOT_STAGE_STATUS : Nat := 0x40024
def F.BOOT_STAGE_STATUS_VERIFY_BUSY : Fld := { lo := 0, w := 1, ty := .ro, rst := 0x0, grp := some .update }
def F.BOOT_STAGE_STATUS_VERIFIED : Fld := { lo := 1, w := 1, ty := .ro, rst := 0x0, grp := some .update }
def F.BOOT_STAGE_STATUS_SWITCH_BUSY : Fld := { lo := 2, w := 1, ty := .ro, rst := 0x0, grp := some .update }
def F.BOOT_STAGE_STATUS_UPD_DONE : Fld := { lo := 3, w := 1, ty := .w1c, rst := 0x0, grp := some .update }
def F.BOOT_STAGE_STATUS_UPD_ERR : Fld := { lo := 4, w := 1, ty := .w1c, rst := 0x0, grp := some .update }
def F.BOOT_STAGE_STATUS_STEP : Fld := { lo := 5, w := 3, ty := .ro, rst := 0x0, grp := some .update }
def F.BOOT_STAGE_STATUS_REASON : Fld := { lo := 8, w := 4, ty := .ro, rst := 0x0, grp := some .update }
def F.BOOT_STAGE_STATUS_WELL_PEND : Fld := { lo := 12, w := 8, ty := .ro, rst := 0x0, grp := some .update }
def F.BOOT_STAGE_STATUS_SKIPPED : Fld := { lo := 20, w := 8, ty := .ro, rst := 0x0, grp := some .update }
/-- BOOT_STAGE_SEQ, B + 0x028: R297. -/
def R.BOOT_STAGE_SEQ : Nat := 0x40028
def F.BOOT_STAGE_SEQ_SEQ : Fld := { lo := 0, w := 32, ty := .ro, rst := 0x0, grp := some .update }
/-- BOOT_RPR_COUNT, B + 0x030, and BOOT_RPR_INDEX, B + 0x034: R297. -/
def R.BOOT_RPR_COUNT : Nat := 0x40030
def F.BOOT_RPR_COUNT_COUNT : Fld := { lo := 0, w := 7, ty := .ro, rst := 0x0, grp := some .update }
def F.BOOT_RPR_COUNT_OVF : Fld := { lo := 7, w := 1, ty := .ro, rst := 0x0, grp := some .update }
/-- BOOT_RPR_COUNT, B + 0x030, and BOOT_RPR_INDEX, B + 0x034: R297. -/
def R.BOOT_RPR_INDEX : Nat := 0x40034
def F.BOOT_RPR_INDEX_INDEX : Fld := { lo := 0, w := 6, ty := .rw, rst := 0x0, grp := some .update }
/-- BOOT_RPR_DATA0–BOOT_RPR_DATA3, B + 0x038 + 4 × k, k = 0 to 3: R297. -/
def R.BOOT_RPR_DATA (n : Nat) : Nat := 0x40038 + n * 0x4
def F.BOOT_RPR_DATA_WORD : Fld := { lo := 0, w := 32, ty := .ro, rst := 0x0, grp := some .update }

/-- The register rows of spec/11_start_up_and_images.md. -/
def Regs.bt : List RegSpec := [
  { base := 0x40000, dims := [], flds := [F.BOOT_STATUS_PHASE, F.BOOT_STATUS_COPY, F.BOOT_STATUS_FROM_STAGING, F.BOOT_STATUS_IN_FORCE_SLOT, F.BOOT_STATUS_DIR_TWIN, F.BOOT_STATUS_IMAGE_TWIN_CONFLICT, F.BOOT_STATUS_FALLBACK, F.BOOT_STATUS_CONFIG_ERR, F.BOOT_STATUS_REPAIR_ERR, F.BOOT_STATUS_FUSE_NOMAJ], aon := true },
  { base := 0x40004, dims := [], flds := [F.BOOT_SEQ_SEQ_EFF] },
  { base := 0x40008, dims := [], flds := [F.BOOT_COPY_INFO_RESULT_A, F.BOOT_COPY_INFO_RESULT_B] },
  { base := 0x4000c, dims := [], flds := [F.BOOT_CFG_ERR_FIRST_INDEX, F.BOOT_CFG_ERR_CODE, F.BOOT_CFG_ERR_REASON, F.BOOT_CFG_ERR_COUNT] },
  { base := 0x40010, dims := [], flds := [F.BOOT_FUSE_REPAIRED, F.BOOT_FUSE_NOMAJ] },
  { base := 0x40020, dims := [], flds := [F.BOOT_STAGE_CTRL_VERIFY, F.BOOT_STAGE_CTRL_SWITCH, F.BOOT_STAGE_CTRL_APPLY_CONFIG, F.BOOT_STAGE_CTRL_FORCE_WELL, F.BOOT_STAGE_CTRL_ALLOW_OLDER, F.BOOT_STAGE_CTRL_RESTART] },
  { base := 0x40024, dims := [], flds := [F.BOOT_STAGE_STATUS_VERIFY_BUSY, F.BOOT_STAGE_STATUS_VERIFIED, F.BOOT_STAGE_STATUS_SWITCH_BUSY, F.BOOT_STAGE_STATUS_UPD_DONE, F.BOOT_STAGE_STATUS_UPD_ERR, F.BOOT_STAGE_STATUS_STEP, F.BOOT_STAGE_STATUS_REASON, F.BOOT_STAGE_STATUS_WELL_PEND, F.BOOT_STAGE_STATUS_SKIPPED] },
  { base := 0x40028, dims := [], flds := [F.BOOT_STAGE_SEQ_SEQ] },
  { base := 0x40030, dims := [], flds := [F.BOOT_RPR_COUNT_COUNT, F.BOOT_RPR_COUNT_OVF] },
  { base := 0x40034, dims := [], flds := [F.BOOT_RPR_INDEX_INDEX] },
  { base := 0x40038, dims := [(0x4, 4)], flds := [F.BOOT_RPR_DATA_WORD] } ]

/-! ### spec/12_host_access.md -/

/-- CHIP_ID, 0x0000_0000, and CHIP_REV, 0x0000_0004, AON: R328. -/
def R.CHIP_ID : Nat := 0x0
def F.CHIP_ID_ID : Fld := { lo := 0, w := 32, ty := .ro, rst := 0x5a4e0816 }
/-- CHIP_ID, 0x0000_0000, and CHIP_REV, 0x0000_0004, AON: R328. -/
def R.CHIP_REV : Nat := 0x4
def F.CHIP_REV_REV : Fld := { lo := 0, w := 32, ty := .ro, rst := 0xb0 }
/-- CHIP_SEM0–CHIP_SEM15, 0x0000_0100 + 4 × k, k = 0 to 15, AON: R328. -/
def R.CHIP_SEM (n : Nat) : Nat := 0x100 + n * 0x4
def F.CHIP_SEM_CODE : Fld := { lo := 0, w := 4, ty := .rw, rst := 0x0 }
/-- CHIP_SEM_VIEW0, 0x0000_0140, and CHIP_SEM_VIEW1, 0x0000_0144, AON: R328. -/
def R.CHIP_SEM_VIEW0 : Nat := 0x140
def F.CHIP_SEM_VIEW0_HOLDER0 : Fld := { lo := 0, w := 4, ty := .ro, rst := 0x0 }
def F.CHIP_SEM_VIEW0_HOLDER1 : Fld := { lo := 4, w := 4, ty := .ro, rst := 0x0 }
def F.CHIP_SEM_VIEW0_HOLDER2 : Fld := { lo := 8, w := 4, ty := .ro, rst := 0x0 }
def F.CHIP_SEM_VIEW0_HOLDER3 : Fld := { lo := 12, w := 4, ty := .ro, rst := 0x0 }
def F.CHIP_SEM_VIEW0_HOLDER4 : Fld := { lo := 16, w := 4, ty := .ro, rst := 0x0 }
def F.CHIP_SEM_VIEW0_HOLDER5 : Fld := { lo := 20, w := 4, ty := .ro, rst := 0x0 }
def F.CHIP_SEM_VIEW0_HOLDER6 : Fld := { lo := 24, w := 4, ty := .ro, rst := 0x0 }
def F.CHIP_SEM_VIEW0_HOLDER7 : Fld := { lo := 28, w := 4, ty := .ro, rst := 0x0 }
/-- CHIP_SEM_VIEW0, 0x0000_0140, and CHIP_SEM_VIEW1, 0x0000_0144, AON: R328. -/
def R.CHIP_SEM_VIEW1 : Nat := 0x144
def F.CHIP_SEM_VIEW1_HOLDER0 : Fld := { lo := 0, w := 4, ty := .ro, rst := 0x0 }
def F.CHIP_SEM_VIEW1_HOLDER1 : Fld := { lo := 4, w := 4, ty := .ro, rst := 0x0 }
def F.CHIP_SEM_VIEW1_HOLDER2 : Fld := { lo := 8, w := 4, ty := .ro, rst := 0x0 }
def F.CHIP_SEM_VIEW1_HOLDER3 : Fld := { lo := 12, w := 4, ty := .ro, rst := 0x0 }
def F.CHIP_SEM_VIEW1_HOLDER4 : Fld := { lo := 16, w := 4, ty := .ro, rst := 0x0 }
def F.CHIP_SEM_VIEW1_HOLDER5 : Fld := { lo := 20, w := 4, ty := .ro, rst := 0x0 }
def F.CHIP_SEM_VIEW1_HOLDER6 : Fld := { lo := 24, w := 4, ty := .ro, rst := 0x0 }
def F.CHIP_SEM_VIEW1_HOLDER7 : Fld := { lo := 28, w := 4, ty := .ro, rst := 0x0 }
/-- CHIP_VIOL, 0x0000_0200, and CHIP_VIOL_ADDR, 0x0000_0204, AON: R328. -/
def R.CHIP_VIOL : Nat := 0x200
def F.CHIP_VIOL_LOCK_VIOL : Fld := { lo := 0, w := 6, ty := .w1c, rst := 0x0 }
def F.CHIP_VIOL_COUNT : Fld := { lo := 8, w := 8, ty := .ro, rst := 0x0 }
/-- CHIP_VIOL, 0x0000_0200, and CHIP_VIOL_ADDR, 0x0000_0204, AON: R328. -/
def R.CHIP_VIOL_ADDR : Nat := 0x204
def F.CHIP_VIOL_ADDR_ADDR : Fld := { lo := 0, w := 32, ty := .ro, rst := 0x0 }
/-- CHIP_PORT_ERR0–CHIP_PORT_ERR2, 0x0000_0210 + 4 × p, and CHIP_PORT_ADDR0–CHIP_PORT_ADDR2, 0x0000_0220 + 4 × p, p = 0 Port S, 1 Port I, 2 Port F, AON: R328. -/
def R.CHIP_PORT_ERR (n : Nat) : Nat := 0x210 + n * 0x4
def F.CHIP_PORT_ERR_ERR : Fld := { lo := 0, w := 1, ty := .w1c, rst := 0x0 }
def F.CHIP_PORT_ERR_PARTIAL : Fld := { lo := 1, w := 1, ty := .w1c, rst := 0x0 }
def F.CHIP_PORT_ERR_FIRST_CODE : Fld := { lo := 4, w := 4, ty := .ro, rst := 0x0 }
def F.CHIP_PORT_ERR_LAST_CODE : Fld := { lo := 8, w := 4, ty := .ro, rst := 0x0 }
def F.CHIP_PORT_ERR_COUNT : Fld := { lo := 16, w := 8, ty := .ro, rst := 0x0 }
/-- CHIP_PORT_ERR0–CHIP_PORT_ERR2, 0x0000_0210 + 4 × p, and CHIP_PORT_ADDR0–CHIP_PORT_ADDR2, 0x0000_0220 + 4 × p, p = 0 Port S, 1 Port I, 2 Port F, AON: R328. -/
def R.CHIP_PORT_ADDR (n : Nat) : Nat := 0x220 + n * 0x4
def F.CHIP_PORT_ADDR_ADDR : Fld := { lo := 0, w := 32, ty := .ro, rst := 0x0 }
/-- CHIP_PI_GRP, 0x0000_0230, AON: R328. -/
def R.CHIP_PI_GRP : Nat := 0x230
def F.CHIP_PI_GRP_GRP_WRITES : Fld := { lo := 0, w := 16, ty := .ro, rst := 0x0 }
def F.CHIP_PI_GRP_GRP_ADDR : Fld := { lo := 16, w := 7, ty := .ro, rst := 0x0 }
def F.CHIP_PI_GRP_GRP_VALID : Fld := { lo := 23, w := 1, ty := .ro, rst := 0x0 }
/-- CHIP_PERM_INDEX, 0x0000_0300; CHIP_PERM_DATA0–CHIP_PERM_DATA3, 0x0000_0304 + 4 × k; CHIP_PERM_STATUS, 0x0000_0318; AON: R328. -/
def R.CHIP_PERM_INDEX : Nat := 0x300
def F.CHIP_PERM_INDEX_INDEX : Fld := { lo := 0, w := 7, ty := .rw, rst := 0x0 }
/-- CHIP_PERM_INDEX, 0x0000_0300; CHIP_PERM_DATA0–CHIP_PERM_DATA3, 0x0000_0304 + 4 × k; CHIP_PERM_STATUS, 0x0000_0318; AON: R328. -/
def R.CHIP_PERM_DATA (n : Nat) : Nat := 0x304 + n * 0x4
def F.CHIP_PERM_DATA_WORD : Fld := { lo := 0, w := 32, ty := .ro, rst := 0x0 }
/-- CHIP_PERM_INDEX, 0x0000_0300; CHIP_PERM_DATA0–CHIP_PERM_DATA3, 0x0000_0304 + 4 × k; CHIP_PERM_STATUS, 0x0000_0318; AON: R328. -/
def R.CHIP_PERM_STATUS : Nat := 0x318
def F.CHIP_PERM_STATUS_PERM_LOADED : Fld := { lo := 0, w := 1, ty := .ro, rst := 0x0 }
def F.CHIP_PERM_STATUS_PERM_ERR : Fld := { lo := 1, w := 1, ty := .w1c, rst := 0x0 }
def F.CHIP_PERM_STATUS_WINDOWS : Fld := { lo := 8, w := 8, ty := .ro, rst := 0x0 }
/-- MBX_x_IN_CTRL, M + 0x000: R329. -/
def R.MBX_IN_CTRL (n : Nat) : Nat := 0x30000 + n * 0x1000
def F.MBX_IN_CTRL_LEN : Fld := { lo := 0, w := 5, ty := .rw, rst := 0x8 }
def F.MBX_IN_CTRL_OPCODE : Fld := { lo := 8, w := 8, ty := .rw, rst := 0x0 }
def F.MBX_IN_CTRL_TAG : Fld := { lo := 16, w := 8, ty := .rw, rst := 0x0 }
def F.MBX_IN_CTRL_GO : Fld := { lo := 31, w := 1, ty := .wo, rst := 0x0 }
/-- MBX_x_STATUS, M + 0x004: R329. -/
def R.MBX_STATUS (n : Nat) : Nat := 0x30004 + n * 0x1000
def F.MBX_STATUS_IN_FULL : Fld := { lo := 0, w := 1, ty := .ro, rst := 0x0 }
def F.MBX_STATUS_IN_DONE : Fld := { lo := 1, w := 1, ty := .w1c, rst := 0x0 }
def F.MBX_STATUS_OUT_FULL : Fld := { lo := 2, w := 1, ty := .ro, rst := 0x0 }
def F.MBX_STATUS_OUT_AVAIL : Fld := { lo := 3, w := 1, ty := .w1c, rst := 0x0 }
def F.MBX_STATUS_OUT_LOST : Fld := { lo := 4, w := 1, ty := .w1c, rst := 0x0 }
def F.MBX_STATUS_MODE : Fld := { lo := 5, w := 1, ty := .ro, rst := 0x0 }
def F.MBX_STATUS_OUT_QUEUED : Fld := { lo := 8, w := 4, ty := .ro, rst := 0x0 }
/-- MBX_x_ACK, M + 0x008; MBX_x_OUT_ACK, M + 0x00C; MBX_x_IRQ_EN, M + 0x010: R329. -/
def R.MBX_ACK (n : Nat) : Nat := 0x30008 + n * 0x1000
def F.MBX_ACK_RC : Fld := { lo := 0, w := 16, ty := .ro, rst := 0x0 }
def F.MBX_ACK_VALID : Fld := { lo := 16, w := 1, ty := .ro, rst := 0x0 }
/-- MBX_x_ACK, M + 0x008; MBX_x_OUT_ACK, M + 0x00C; MBX_x_IRQ_EN, M + 0x010: R329. -/
def R.MBX_OUT_ACK (n : Nat) : Nat := 0x3000c + n * 0x1000
def F.MBX_OUT_ACK_RC : Fld := { lo := 0, w := 16, ty := .wo, rst := 0x0 }
/-- MBX_x_ACK, M + 0x008; MBX_x_OUT_ACK, M + 0x00C; MBX_x_IRQ_EN, M + 0x010: R329. -/
def R.MBX_IRQ_EN (n : Nat) : Nat := 0x30010 + n * 0x1000
def F.MBX_IRQ_EN_IN_DONE_EN : Fld := { lo := 0, w := 1, ty := .rw, rst := 0x1 }
def F.MBX_IRQ_EN_OUT_AVAIL_EN : Fld := { lo := 1, w := 1, ty := .rw, rst := 0x1 }
/-- MBX_x_DB_TODEV, M + 0x020; MBX_x_DB_TODEV_ACK, M + 0x024; MBX_x_DB_TOHOST, M + 0x028; MBX_x_DB_TOHOST_SET, M + 0x02C; MBX_x_DB_TODEV_MASK, M + 0x030; MBX_x_DB_TOHOST_MASK, M + 0x034: R329. -/
def R.MBX_DB_TODEV (n : Nat) : Nat := 0x30020 + n * 0x1000
def F.MBX_DB_TODEV_DB : Fld := { lo := 0, w := 32, ty := .w1s, rst := 0x0 }
/-- MBX_x_DB_TODEV, M + 0x020; MBX_x_DB_TODEV_ACK, M + 0x024; MBX_x_DB_TOHOST, M + 0x028; MBX_x_DB_TOHOST_SET, M + 0x02C; MBX_x_DB_TODEV_MASK, M + 0x030; MBX_x_DB_TOHOST_MASK, M + 0x034: R329. -/
def R.MBX_DB_TODEV_ACK (n : Nat) : Nat := 0x30024 + n * 0x1000
def F.MBX_DB_TODEV_ACK_DB : Fld := { lo := 0, w := 32, ty := .w1c, rst := 0x0 }
/-- MBX_x_DB_TODEV, M + 0x020; MBX_x_DB_TODEV_ACK, M + 0x024; MBX_x_DB_TOHOST, M + 0x028; MBX_x_DB_TOHOST_SET, M + 0x02C; MBX_x_DB_TODEV_MASK, M + 0x030; MBX_x_DB_TOHOST_MASK, M + 0x034: R329. -/
def R.MBX_DB_TOHOST (n : Nat) : Nat := 0x30028 + n * 0x1000
def F.MBX_DB_TOHOST_DB : Fld := { lo := 0, w := 32, ty := .w1c, rst := 0x0 }
/-- MBX_x_DB_TODEV, M + 0x020; MBX_x_DB_TODEV_ACK, M + 0x024; MBX_x_DB_TOHOST, M + 0x028; MBX_x_DB_TOHOST_SET, M + 0x02C; MBX_x_DB_TODEV_MASK, M + 0x030; MBX_x_DB_TOHOST_MASK, M + 0x034: R329. -/
def R.MBX_DB_TOHOST_SET (n : Nat) : Nat := 0x3002c + n * 0x1000
def F.MBX_DB_TOHOST_SET_DB : Fld := { lo := 0, w := 32, ty := .w1s, rst := 0x0 }
/-- MBX_x_DB_TODEV, M + 0x020; MBX_x_DB_TODEV_ACK, M + 0x024; MBX_x_DB_TOHOST, M + 0x028; MBX_x_DB_TOHOST_SET, M + 0x02C; MBX_x_DB_TODEV_MASK, M + 0x030; MBX_x_DB_TOHOST_MASK, M + 0x034: R329. -/
def R.MBX_DB_TODEV_MASK (n : Nat) : Nat := 0x30030 + n * 0x1000
def F.MBX_DB_TODEV_MASK_MASK : Fld := { lo := 0, w := 32, ty := .ro, rst := 0xffffffff }
/-- MBX_x_DB_TODEV, M + 0x020; MBX_x_DB_TODEV_ACK, M + 0x024; MBX_x_DB_TOHOST, M + 0x028; MBX_x_DB_TOHOST_SET, M + 0x02C; MBX_x_DB_TODEV_MASK, M + 0x030; MBX_x_DB_TOHOST_MASK, M + 0x034: R329. -/
def R.MBX_DB_TOHOST_MASK (n : Nat) : Nat := 0x30034 + n * 0x1000
def F.MBX_DB_TOHOST_MASK_MASK : Fld := { lo := 0, w := 32, ty := .rw, rst := 0xffffffff }
/-- MBX_x_OUT_CTRL, M + 0x03C: R329. -/
def R.MBX_OUT_CTRL (n : Nat) : Nat := 0x3003c + n * 0x1000
def F.MBX_OUT_CTRL_LEN : Fld := { lo := 0, w := 5, ty := .ro, rst := 0x8 }
def F.MBX_OUT_CTRL_OPCODE : Fld := { lo := 8, w := 8, ty := .ro, rst := 0x0 }
def F.MBX_OUT_CTRL_TAG : Fld := { lo := 16, w := 8, ty := .ro, rst := 0x0 }
def F.MBX_OUT_CTRL_FULL : Fld := { lo := 31, w := 1, ty := .ro, rst := 0x0 }
/-- MBX_x_DATA0–MBX_x_DATA15, M + 0x040 + 4 × k, k = 0 to 15: R329. -/
def R.MBX_DATA (n : Nat) (k : Nat) : Nat := 0x30040 + n * 0x1000 + k * 0x4
def F.MBX_DATA_WORD : Fld := { lo := 0, w := 32, ty := .rw, rst := 0x0 }
/-- MBX_CFG, 0x0003_3000: R329. -/
def R.MBX_CFG : Nat := 0x33000
def F.MBX_CFG_MODE_S : Fld := { lo := 0, w := 1, ty := .rwl, rst := 0x0 }
def F.MBX_CFG_MODE_I : Fld := { lo := 1, w := 1, ty := .rwl, rst := 0x0 }
def F.MBX_CFG_MODE_F : Fld := { lo := 2, w := 1, ty := .rwl, rst := 0x0 }
def F.MBX_CFG_LOCK : Fld := { lo := 31, w := 1, ty := .rwo, rst := 0x0 }

/-- The register rows of spec/12_host_access.md. -/
def Regs.acc : List RegSpec := [
  { base := 0x0, dims := [], flds := [F.CHIP_ID_ID], aon := true },
  { base := 0x4, dims := [], flds := [F.CHIP_REV_REV], aon := true },
  { base := 0x100, dims := [(0x4, 16)], flds := [F.CHIP_SEM_CODE], aon := true },
  { base := 0x140, dims := [], flds := [F.CHIP_SEM_VIEW0_HOLDER0, F.CHIP_SEM_VIEW0_HOLDER1, F.CHIP_SEM_VIEW0_HOLDER2, F.CHIP_SEM_VIEW0_HOLDER3, F.CHIP_SEM_VIEW0_HOLDER4, F.CHIP_SEM_VIEW0_HOLDER5, F.CHIP_SEM_VIEW0_HOLDER6, F.CHIP_SEM_VIEW0_HOLDER7], aon := true },
  { base := 0x144, dims := [], flds := [F.CHIP_SEM_VIEW1_HOLDER0, F.CHIP_SEM_VIEW1_HOLDER1, F.CHIP_SEM_VIEW1_HOLDER2, F.CHIP_SEM_VIEW1_HOLDER3, F.CHIP_SEM_VIEW1_HOLDER4, F.CHIP_SEM_VIEW1_HOLDER5, F.CHIP_SEM_VIEW1_HOLDER6, F.CHIP_SEM_VIEW1_HOLDER7], aon := true },
  { base := 0x200, dims := [], flds := [F.CHIP_VIOL_LOCK_VIOL, F.CHIP_VIOL_COUNT], aon := true },
  { base := 0x204, dims := [], flds := [F.CHIP_VIOL_ADDR_ADDR], aon := true },
  { base := 0x210, dims := [(0x4, 3)], flds := [F.CHIP_PORT_ERR_ERR, F.CHIP_PORT_ERR_PARTIAL, F.CHIP_PORT_ERR_FIRST_CODE, F.CHIP_PORT_ERR_LAST_CODE, F.CHIP_PORT_ERR_COUNT], aon := true },
  { base := 0x220, dims := [(0x4, 3)], flds := [F.CHIP_PORT_ADDR_ADDR], aon := true },
  { base := 0x230, dims := [], flds := [F.CHIP_PI_GRP_GRP_WRITES, F.CHIP_PI_GRP_GRP_ADDR, F.CHIP_PI_GRP_GRP_VALID], aon := true },
  { base := 0x300, dims := [], flds := [F.CHIP_PERM_INDEX_INDEX], aon := true },
  { base := 0x304, dims := [(0x4, 4)], flds := [F.CHIP_PERM_DATA_WORD], aon := true },
  { base := 0x318, dims := [], flds := [F.CHIP_PERM_STATUS_PERM_LOADED, F.CHIP_PERM_STATUS_PERM_ERR, F.CHIP_PERM_STATUS_WINDOWS], aon := true },
  { base := 0x30000, dims := [(0x1000, 3)], flds := [F.MBX_IN_CTRL_LEN, F.MBX_IN_CTRL_OPCODE, F.MBX_IN_CTRL_TAG, F.MBX_IN_CTRL_GO] },
  { base := 0x30004, dims := [(0x1000, 3)], flds := [F.MBX_STATUS_IN_FULL, F.MBX_STATUS_IN_DONE, F.MBX_STATUS_OUT_FULL, F.MBX_STATUS_OUT_AVAIL, F.MBX_STATUS_OUT_LOST, F.MBX_STATUS_MODE, F.MBX_STATUS_OUT_QUEUED] },
  { base := 0x30008, dims := [(0x1000, 3)], flds := [F.MBX_ACK_RC, F.MBX_ACK_VALID] },
  { base := 0x3000c, dims := [(0x1000, 3)], flds := [F.MBX_OUT_ACK_RC] },
  { base := 0x30010, dims := [(0x1000, 3)], flds := [F.MBX_IRQ_EN_IN_DONE_EN, F.MBX_IRQ_EN_OUT_AVAIL_EN] },
  { base := 0x30020, dims := [(0x1000, 3)], flds := [F.MBX_DB_TODEV_DB] },
  { base := 0x30024, dims := [(0x1000, 3)], flds := [F.MBX_DB_TODEV_ACK_DB] },
  { base := 0x30028, dims := [(0x1000, 3)], flds := [F.MBX_DB_TOHOST_DB] },
  { base := 0x3002c, dims := [(0x1000, 3)], flds := [F.MBX_DB_TOHOST_SET_DB] },
  { base := 0x30030, dims := [(0x1000, 3)], flds := [F.MBX_DB_TODEV_MASK_MASK] },
  { base := 0x30034, dims := [(0x1000, 3)], flds := [F.MBX_DB_TOHOST_MASK_MASK] },
  { base := 0x3003c, dims := [(0x1000, 3)], flds := [F.MBX_OUT_CTRL_LEN, F.MBX_OUT_CTRL_OPCODE, F.MBX_OUT_CTRL_TAG, F.MBX_OUT_CTRL_FULL] },
  { base := 0x30040, dims := [(0x1000, 3), (0x4, 16)], flds := [F.MBX_DATA_WORD] },
  { base := 0x33000, dims := [], flds := [F.MBX_CFG_MODE_S, F.MBX_CFG_MODE_I, F.MBX_CFG_MODE_F, F.MBX_CFG_LOCK], lockAt := some 0x33000 } ]

/-! ### spec/13_keepers_and_interrupts.md -/

/-- KIC_SRC_CFG1–KIC_SRC_CFG447, K + 4 × ID: R341. -/
def R.KIC_SRC_CFG (n : Nat) : Nat := 0x20004 + n * 0x4
def F.KIC_SRC_CFG_PRIO : Fld := { lo := 0, w := 4, ty := .rw, rst := 0x0 }
def F.KIC_SRC_CFG_TARGET : Fld := { lo := 4, w := 3, ty := .rw, rst := 0x7 }
def F.KIC_SRC_CFG_ASSERTED : Fld := { lo := 8, w := 1, ty := .ro, rst := 0x0 }
def F.KIC_SRC_CFG_PENDING : Fld := { lo := 9, w := 1, ty := .ro, rst := 0x0 }
def F.KIC_SRC_CFG_IN_SERVICE : Fld := { lo := 10, w := 1, ty := .ro, rst := 0x0 }
def F.KIC_SRC_CFG_ROUTED : Fld := { lo := 11, w := 2, ty := .ro, rst := 0x3 }
/-- KIC_CLAIMk, K + 0x1000 + 0x100 × k, and KIC_EOIk, K + 0x1004 + 0x100 × k, k = 0 to 2: R341. -/
def R.KIC_CLAIM (n : Nat) : Nat := 0x21000 + n * 0x100
def F.KIC_CLAIM_ID : Fld := { lo := 0, w := 10, ty := .ro, rst := 0x0 }
/-- KIC_CLAIMk, K + 0x1000 + 0x100 × k, and KIC_EOIk, K + 0x1004 + 0x100 × k, k = 0 to 2: R341. -/
def R.KIC_EOI (n : Nat) : Nat := 0x21004 + n * 0x100
def F.KIC_EOI_ID : Fld := { lo := 0, w := 10, ty := .wo, rst := 0x0 }
/-- KIC_MODEk, K + 0x1008 + 0x100 × k: R341. -/
def R.KIC_MODE (n : Nat) : Nat := 0x21008 + n * 0x100
def F.KIC_MODE_MODE : Fld := { lo := 0, w := 1, ty := .rw, rst := 0x1 }
def F.KIC_MODE_THRESH : Fld := { lo := 4, w := 4, ty := .rw, rst := 0xf }
/-- KIC_RPRIOk, K + 0x100C + 0x100 × k: R341. -/
def R.KIC_RPRIO (n : Nat) : Nat := 0x2100c + n * 0x100
def F.KIC_RPRIO_RUNNING : Fld := { lo := 0, w := 4, ty := .ro, rst := 0xf }
def F.KIC_RPRIO_DEPTH : Fld := { lo := 4, w := 4, ty := .ro, rst := 0x0 }
def F.KIC_RPRIO_TOP_ID : Fld := { lo := 8, w := 10, ty := .ro, rst := 0x0 }
def F.KIC_RPRIO_IN_SVC : Fld := { lo := 18, w := 10, ty := .ro, rst := 0x0 }
/-- KIC_PEND0–KIC_PEND13, K + 0x2000 + 4 × j, j = 0 to 13: R341. -/
def R.KIC_PEND (n : Nat) : Nat := 0x22000 + n * 0x4
def F.KIC_PEND_PEND : Fld := { lo := 0, w := 32, ty := .ro, rst := 0x0 }
/-- KIC_SWI, K + 0x2100, masked: R341. -/
def R.KIC_SWI : Nat := 0x22100
def F.KIC_SWI_SWI : Fld := { lo := 0, w := 3, ty := .rw, rst := 0x0 }
/-- KIC_STATUS, K + 0x2104: R341. -/
def R.KIC_STATUS : Nat := 0x22104
def F.KIC_STATUS_EOI_ERR : Fld := { lo := 0, w := 3, ty := .w1c, rst := 0x0 }
def F.KIC_STATUS_EOI_ERRS : Fld := { lo := 8, w := 8, ty := .ro, rst := 0x0 }
/-- KIC_KSTATUS, K + 0x2108: R341. -/
def R.KIC_KSTATUS : Nat := 0x22108
def F.KIC_KSTATUS_POWERED : Fld := { lo := 0, w := 3, ty := .ro, rst := 0x1 }
def F.KIC_KSTATUS_IN_SERVICE : Fld := { lo := 3, w := 3, ty := .ro, rst := 0x0 }
def F.KIC_KSTATUS_SWITCHING : Fld := { lo := 6, w := 3, ty := .ro, rst := 0x0 }
def F.KIC_KSTATUS_RESTARTED : Fld := { lo := 9, w := 3, ty := .w1c, rst := 0x0 }
def F.KIC_KSTATUS_FAULTS : Fld := { lo := 16, w := 8, ty := .ro, rst := 0x0 }

/-- The register rows of spec/13_keepers_and_interrupts.md. -/
def Regs.kic : List RegSpec := [
  { base := 0x20004, dims := [(0x4, 447)], flds := [F.KIC_SRC_CFG_PRIO, F.KIC_SRC_CFG_TARGET, F.KIC_SRC_CFG_ASSERTED, F.KIC_SRC_CFG_PENDING, F.KIC_SRC_CFG_IN_SERVICE, F.KIC_SRC_CFG_ROUTED] },
  { base := 0x21000, dims := [(0x100, 3)], flds := [F.KIC_CLAIM_ID] },
  { base := 0x21004, dims := [(0x100, 3)], flds := [F.KIC_EOI_ID] },
  { base := 0x21008, dims := [(0x100, 3)], flds := [F.KIC_MODE_MODE, F.KIC_MODE_THRESH] },
  { base := 0x2100c, dims := [(0x100, 3)], flds := [F.KIC_RPRIO_RUNNING, F.KIC_RPRIO_DEPTH, F.KIC_RPRIO_TOP_ID, F.KIC_RPRIO_IN_SVC] },
  { base := 0x22000, dims := [(0x4, 14)], flds := [F.KIC_PEND_PEND] },
  { base := 0x22100, dims := [], flds := [F.KIC_SWI_SWI], masked := true },
  { base := 0x22104, dims := [], flds := [F.KIC_STATUS_EOI_ERR, F.KIC_STATUS_EOI_ERRS] },
  { base := 0x22108, dims := [], flds := [F.KIC_KSTATUS_POWERED, F.KIC_KSTATUS_IN_SERVICE, F.KIC_KSTATUS_SWITCHING, F.KIC_KSTATUS_RESTARTED, F.KIC_KSTATUS_FAULTS] } ]

/-! ### spec/14_power_states.md -/

/-- PWR_STATUS, P + 0x000, AON: R358. -/
def R.PWR_STATUS : Nat := 0x10000
def F.PWR_STATUS_STATE : Fld := { lo := 0, w := 3, ty := .ro, rst := 0x0, grp := some .power }
def F.PWR_STATUS_TARGET : Fld := { lo := 4, w := 3, ty := .ro, rst := 0x0, grp := some .power }
def F.PWR_STATUS_ENTERING : Fld := { lo := 7, w := 1, ty := .ro, rst := 0x0, grp := some .power }
def F.PWR_STATUS_DP_IDLE : Fld := { lo := 8, w := 1, ty := .ro, rst := 0x0, grp := some .power }
def F.PWR_STATUS_HOLDOFF : Fld := { lo := 9, w := 1, ty := .ro, rst := 0x0, grp := some .power }
def F.PWR_STATUS_WAKE_HELD : Fld := { lo := 10, w := 1, ty := .ro, rst := 0x0, grp := some .power }
def F.PWR_STATUS_REASON : Fld := { lo := 12, w := 4, ty := .ro, rst := 0x0, grp := some .power }
def F.PWR_STATUS_BLOCK : Fld := { lo := 16, w := 5, ty := .ro, rst := 0x0, grp := some .power }
def F.PWR_STATUS_ENTRY_DONE : Fld := { lo := 24, w := 1, ty := .w1c, rst := 0x0, grp := some .power }
def F.PWR_STATUS_WAKE_EV : Fld := { lo := 25, w := 1, ty := .w1c, rst := 0x0, grp := some .power }
def F.PWR_STATUS_REFUSED : Fld := { lo := 26, w := 1, ty := .w1c, rst := 0x0, grp := some .power }
def F.PWR_STATUS_COMMIT_LOST : Fld := { lo := 27, w := 1, ty := .w1c, rst := 0x0, grp := some .power }
/-- PWR_CTRL, P + 0x004, AON: R358. -/
def R.PWR_CTRL : Nat := 0x10004
def F.PWR_CTRL_MAX_STATE : Fld := { lo := 0, w := 3, ty := .rwl, rst := 0x4, grp := some .power }
def F.PWR_CTRL_ENTRY_EN : Fld := { lo := 3, w := 1, ty := .rwl, rst := 0x1, grp := some .power }
def F.PWR_CTRL_LOCK : Fld := { lo := 31, w := 1, ty := .rwo, rst := 0x0, grp := some .power }
/-- PWR_DP_IDLE, P + 0x008, AON: R358. -/
def R.PWR_DP_IDLE : Nat := 0x10008
def F.PWR_DP_IDLE_DECLARE : Fld := { lo := 0, w := 1, ty := .w1s, rst := 0x0, grp := some .datapath }
def F.PWR_DP_IDLE_CANCEL : Fld := { lo := 1, w := 1, ty := .wo, rst := 0x0, grp := some .datapath }
/-- PWR_LTR0–PWR_LTR2, P + 0x010 + 4 × p, p = 0 Port S, 1 Port I, 2 Port F; PWR_LTR_EFF, P + 0x01C; all AON: R358. -/
def R.PWR_LTR (n : Nat) : Nat := 0x10010 + n * 0x4
def F.PWR_LTR_TOL : Fld := { lo := 0, w := 32, ty := .rw, rst := 0x0 }
/-- PWR_LTR0–PWR_LTR2, P + 0x010 + 4 × p, p = 0 Port S, 1 Port I, 2 Port F; PWR_LTR_EFF, P + 0x01C; all AON: R358. -/
def R.PWR_LTR_EFF : Nat := 0x1001c
def F.PWR_LTR_EFF_EFF : Fld := { lo := 0, w := 32, ty := .ro, rst := 0x0, grp := some .power }
/-- PWR_WAKE_EN, P + 0x020, AON: R358. -/
def R.PWR_WAKE_EN : Nat := 0x10020
def F.PWR_WAKE_EN_WAKE_N_EN : Fld := { lo := 0, w := 1, ty := .rwl, rst := 0x1, grp := some .power }
def F.PWR_WAKE_EN_TXDIS_EN : Fld := { lo := 1, w := 1, ty := .rwl, rst := 0x1, grp := some .power }
def F.PWR_WAKE_EN_PF_EN : Fld := { lo := 2, w := 1, ty := .rwl, rst := 0x1, grp := some .power }
def F.PWR_WAKE_EN_DB_S_EN : Fld := { lo := 3, w := 1, ty := .rwl, rst := 0x1, grp := some .power }
def F.PWR_WAKE_EN_DB_I_EN : Fld := { lo := 4, w := 1, ty := .rwl, rst := 0x1, grp := some .power }
def F.PWR_WAKE_EN_DB_F_EN : Fld := { lo := 5, w := 1, ty := .rwl, rst := 0x1, grp := some .power }
def F.PWR_WAKE_EN_PPS_EN : Fld := { lo := 6, w := 1, ty := .rwl, rst := 0x0, grp := some .power }
def F.PWR_WAKE_EN_LOCK : Fld := { lo := 31, w := 1, ty := .rwo, rst := 0x0, grp := some .power }
/-- PWR_WAKE_CAUSE, P + 0x024, AON: R358. -/
def R.PWR_WAKE_CAUSE : Nat := 0x10024
def F.PWR_WAKE_CAUSE_WAKE_N : Fld := { lo := 0, w := 1, ty := .w1c, rst := 0x0, grp := some .power }
def F.PWR_WAKE_CAUSE_TXDIS : Fld := { lo := 1, w := 1, ty := .w1c, rst := 0x0, grp := some .power }
def F.PWR_WAKE_CAUSE_LTR : Fld := { lo := 2, w := 1, ty := .w1c, rst := 0x0, grp := some .power }
def F.PWR_WAKE_CAUSE_DP_IDLE : Fld := { lo := 3, w := 1, ty := .w1c, rst := 0x0, grp := some .power }
def F.PWR_WAKE_CAUSE_PF : Fld := { lo := 4, w := 1, ty := .w1c, rst := 0x0, grp := some .power }
def F.PWR_WAKE_CAUSE_DB_S : Fld := { lo := 5, w := 1, ty := .w1c, rst := 0x0, grp := some .power }
def F.PWR_WAKE_CAUSE_DB_I : Fld := { lo := 6, w := 1, ty := .w1c, rst := 0x0, grp := some .power }
def F.PWR_WAKE_CAUSE_DB_F : Fld := { lo := 7, w := 1, ty := .w1c, rst := 0x0, grp := some .power }
def F.PWR_WAKE_CAUSE_PPS : Fld := { lo := 8, w := 1, ty := .w1c, rst := 0x0, grp := some .power }
/-- PWR_LEVEL, P + 0x030, AON: R358. -/
def R.PWR_LEVEL : Nat := 0x10030
def F.PWR_LEVEL_LINE : Fld := { lo := 0, w := 2, ty := .ro, rst := 0x3, grp := some .power }
def F.PWR_LEVEL_HOST : Fld := { lo := 2, w := 2, ty := .ro, rst := 0x3, grp := some .power }
def F.PWR_LEVEL_FEC : Fld := { lo := 4, w := 2, ty := .ro, rst := 0x3, grp := some .power }
def F.PWR_LEVEL_CIS : Fld := { lo := 6, w := 2, ty := .ro, rst := 0x1, grp := some .power }
def F.PWR_LEVEL_KEEP : Fld := { lo := 8, w := 2, ty := .ro, rst := 0x2, grp := some .power }
def F.PWR_LEVEL_VDD_LEVEL : Fld := { lo := 10, w := 2, ty := .ro, rst := 0x0, grp := some .power }
def F.PWR_LEVEL_WELL : Fld := { lo := 16, w := 16, ty := .ro, rst := 0xffff, grp := some .power }
/-- PWR_AVS_CFG, P + 0x034, AON: R358. -/
def R.PWR_AVS_CFG : Nat := 0x10034
def F.PWR_AVS_CFG_MODE : Fld := { lo := 0, w := 1, ty := .rwl, rst := 0x0, grp := some .power }
def F.PWR_AVS_CFG_TIMEOUT : Fld := { lo := 8, w := 8, ty := .rw, rst := 0x32, grp := some .power }
def F.PWR_AVS_CFG_LOCK : Fld := { lo := 31, w := 1, ty := .rwo, rst := 0x0, grp := some .power }
/-- PWR_AVS_REQ, P + 0x038, and PWR_AVS_ACK, P + 0x03C, AON: R358. -/
def R.PWR_AVS_REQ : Nat := 0x10038
def F.PWR_AVS_REQ_REQ_MV : Fld := { lo := 0, w := 10, ty := .ro, rst := 0x2ee, grp := some .power }
def F.PWR_AVS_REQ_TRIM : Fld := { lo := 16, w := 8, ty := .ro, rst := 0x0, grp := some .power }
/-- PWR_AVS_REQ, P + 0x038, and PWR_AVS_ACK, P + 0x03C, AON: R358. -/
def R.PWR_AVS_ACK : Nat := 0x1003c
def F.PWR_AVS_ACK_ACK_MV : Fld := { lo := 0, w := 10, ty := .rw, rst := 0x2ee, grp := some .power }
/-- PWR_AVS_STATUS, P + 0x040, AON: R358. -/
def R.PWR_AVS_STATUS : Nat := 0x10040
def F.PWR_AVS_STATUS_AVS_PEND : Fld := { lo := 0, w := 1, ty := .ro, rst := 0x0, grp := some .power }
def F.PWR_AVS_STATUS_AVS_TO : Fld := { lo := 1, w := 1, ty := .w1c, rst := 0x0, grp := some .power }
/-- PWR_CNT, P + 0x044, AON: R358. -/
def R.PWR_CNT : Nat := 0x10044
def F.PWR_CNT_ENTRIES : Fld := { lo := 0, w := 8, ty := .ro, rst := 0x0, grp := some .power }
def F.PWR_CNT_REFUSALS : Fld := { lo := 8, w := 8, ty := .ro, rst := 0x0, grp := some .power }
def F.PWR_CNT_WAKES : Fld := { lo := 16, w := 8, ty := .ro, rst := 0x0, grp := some .power }
def F.PWR_CNT_COMMIT_LOSTS : Fld := { lo := 24, w := 8, ty := .ro, rst := 0x0, grp := some .power }

/-- The register rows of spec/14_power_states.md. -/
def Regs.pwr : List RegSpec := [
  { base := 0x10000, dims := [], flds := [F.PWR_STATUS_STATE, F.PWR_STATUS_TARGET, F.PWR_STATUS_ENTERING, F.PWR_STATUS_DP_IDLE, F.PWR_STATUS_HOLDOFF, F.PWR_STATUS_WAKE_HELD, F.PWR_STATUS_REASON, F.PWR_STATUS_BLOCK, F.PWR_STATUS_ENTRY_DONE, F.PWR_STATUS_WAKE_EV, F.PWR_STATUS_REFUSED, F.PWR_STATUS_COMMIT_LOST], aon := true },
  { base := 0x10004, dims := [], flds := [F.PWR_CTRL_MAX_STATE, F.PWR_CTRL_ENTRY_EN, F.PWR_CTRL_LOCK], aon := true, lockAt := some 0x10004 },
  { base := 0x10008, dims := [], flds := [F.PWR_DP_IDLE_DECLARE, F.PWR_DP_IDLE_CANCEL], aon := true },
  { base := 0x10010, dims := [(0x4, 3)], flds := [F.PWR_LTR_TOL], aon := true },
  { base := 0x1001c, dims := [], flds := [F.PWR_LTR_EFF_EFF], aon := true },
  { base := 0x10020, dims := [], flds := [F.PWR_WAKE_EN_WAKE_N_EN, F.PWR_WAKE_EN_TXDIS_EN, F.PWR_WAKE_EN_PF_EN, F.PWR_WAKE_EN_DB_S_EN, F.PWR_WAKE_EN_DB_I_EN, F.PWR_WAKE_EN_DB_F_EN, F.PWR_WAKE_EN_PPS_EN, F.PWR_WAKE_EN_LOCK], aon := true, lockAt := some 0x10020 },
  { base := 0x10024, dims := [], flds := [F.PWR_WAKE_CAUSE_WAKE_N, F.PWR_WAKE_CAUSE_TXDIS, F.PWR_WAKE_CAUSE_LTR, F.PWR_WAKE_CAUSE_DP_IDLE, F.PWR_WAKE_CAUSE_PF, F.PWR_WAKE_CAUSE_DB_S, F.PWR_WAKE_CAUSE_DB_I, F.PWR_WAKE_CAUSE_DB_F, F.PWR_WAKE_CAUSE_PPS], aon := true },
  { base := 0x10030, dims := [], flds := [F.PWR_LEVEL_LINE, F.PWR_LEVEL_HOST, F.PWR_LEVEL_FEC, F.PWR_LEVEL_CIS, F.PWR_LEVEL_KEEP, F.PWR_LEVEL_VDD_LEVEL, F.PWR_LEVEL_WELL], aon := true },
  { base := 0x10034, dims := [], flds := [F.PWR_AVS_CFG_MODE, F.PWR_AVS_CFG_TIMEOUT, F.PWR_AVS_CFG_LOCK], aon := true, lockAt := some 0x10034 },
  { base := 0x10038, dims := [], flds := [F.PWR_AVS_REQ_REQ_MV, F.PWR_AVS_REQ_TRIM], aon := true },
  { base := 0x1003c, dims := [], flds := [F.PWR_AVS_ACK_ACK_MV], aon := true },
  { base := 0x10040, dims := [], flds := [F.PWR_AVS_STATUS_AVS_PEND, F.PWR_AVS_STATUS_AVS_TO], aon := true },
  { base := 0x10044, dims := [], flds := [F.PWR_CNT_ENTRIES, F.PWR_CNT_REFUSALS, F.PWR_CNT_WAKES, F.PWR_CNT_COMMIT_LOSTS], aon := true } ]

/-! ### spec/15_safety_and_self_test.md -/

/-- SAF_CFG, S + 0x000: R383. -/
def R.SAF_CFG : Nat := 0x50000
def F.SAF_CFG_SG_EN : Fld := { lo := 0, w := 4, ty := .rwl, rst := 0xf, grp := some .datapath }
def F.SAF_CFG_SG1_PERSIST : Fld := { lo := 8, w := 8, ty := .rwl, rst := 0x10, grp := some .datapath, lim := some (1, 255) }
def F.SAF_CFG_SG4_REPEAT : Fld := { lo := 16, w := 8, ty := .rwl, rst := 0x3, grp := some .datapath, lim := some (1, 255) }
def F.SAF_CFG_LOCK : Fld := { lo := 31, w := 1, ty := .rwo, rst := 0x0, grp := some .datapath }
/-- SAF_SG_STATUS, S + 0x004: R383. -/
def R.SAF_SG_STATUS : Nat := 0x50004
def F.SAF_SG_STATUS_TRIP : Fld := { lo := 0, w := 4, ty := .w1c, rst := 0x0, grp := some .datapath }
def F.SAF_SG_STATUS_SG1_EV : Fld := { lo := 4, w := 1, ty := .w1c, rst := 0x0, grp := some .datapath }
def F.SAF_SG_STATUS_SG4_RESTORE : Fld := { lo := 5, w := 1, ty := .w1c, rst := 0x0, grp := some .datapath }
def F.SAF_SG_STATUS_IN_SAFE : Fld := { lo := 8, w := 4, ty := .ro, rst := 0x0, grp := some .datapath }
/-- SAF_SG_REL, S + 0x008: R383. -/
def R.SAF_SG_REL : Nat := 0x50008
def F.SAF_SG_REL_REL1 : Fld := { lo := 0, w := 1, ty := .wo, rst := 0x0, grp := some .datapath }
def F.SAF_SG_REL_REL3 : Fld := { lo := 2, w := 1, ty := .wo, rst := 0x0, grp := some .datapath }
def F.SAF_SG_REL_REL4 : Fld := { lo := 3, w := 1, ty := .wo, rst := 0x0, grp := some .datapath }
/-- SAF_SG1_CNT, S + 0x00C: R383. -/
def R.SAF_SG1_CNT : Nat := 0x5000c
def F.SAF_SG1_CNT_SG1_TX : Fld := { lo := 0, w := 12, ty := .ro, rst := 0x0, grp := some .datapath }
def F.SAF_SG1_CNT_SG1_RX : Fld := { lo := 12, w := 12, ty := .ro, rst := 0x0, grp := some .datapath }
def F.SAF_SG1_CNT_SG1_PORT : Fld := { lo := 24, w := 3, ty := .ro, rst := 0x0, grp := some .datapath }
def F.SAF_SG1_CNT_SG1_DIR : Fld := { lo := 27, w := 1, ty := .ro, rst := 0x0, grp := some .datapath }
/-- SAF_SG1_SAFE, S + 0x028: R383. -/
def R.SAF_SG1_SAFE : Nat := 0x50028
def F.SAF_SG1_SAFE_TX_SAFE : Fld := { lo := 0, w := 8, ty := .ro, rst := 0x0, grp := some .datapath }
def F.SAF_SG1_SAFE_RX_SAFE : Fld := { lo := 8, w := 8, ty := .ro, rst := 0x0, grp := some .datapath }
/-- SAF_SG2_CFG, S + 0x010: R383. -/
def R.SAF_SG2_CFG : Nat := 0x50010
def F.SAF_SG2_CFG_SG2_LIMIT : Fld := { lo := 0, w := 10, ty := .rwl, rst := 0xfa, grp := some .timing, lim := some (50, 1000) }
def F.SAF_SG2_CFG_LOCK : Fld := { lo := 31, w := 1, ty := .rwo, rst := 0x0, grp := some .timing }
/-- SAF_SG2_STATUS, S + 0x014: R383. -/
def R.SAF_SG2_STATUS : Nat := 0x50014
def F.SAF_SG2_STATUS_PPS_ERR : Fld := { lo := 0, w := 16, ty := .ro, rst := 0x0, grp := some .datapath }
def F.SAF_SG2_STATUS_CAUSE : Fld := { lo := 16, w := 2, ty := .ro, rst := 0x0, grp := some .datapath }
/-- SAF_SG3_CTRL, S + 0x018: R383. -/
def R.SAF_SG3_CTRL : Nat := 0x50018
def F.SAF_SG3_CTRL_REQ : Fld := { lo := 0, w := 1, ty := .rw, rst := 0x0 }
def F.SAF_SG3_CTRL_SG3_MON : Fld := { lo := 16, w := 16, ty := .rwl, rst := 0x0, grp := some .datapath }
/-- SAF_SG3_STATUS, S + 0x01C: R383. -/
def R.SAF_SG3_STATUS : Nat := 0x5001c
def F.SAF_SG3_STATUS_TEST_OK : Fld := { lo := 0, w := 1, ty := .ro, rst := 0x0, grp := some .datapath }
def F.SAF_SG3_STATUS_PATH_FAIL : Fld := { lo := 1, w := 1, ty := .ro, rst := 0x0, grp := some .datapath }
def F.SAF_SG3_STATUS_TEST_FAILS : Fld := { lo := 8, w := 8, ty := .ro, rst := 0x0, grp := some .datapath }
def F.SAF_SG3_STATUS_TESTS : Fld := { lo := 16, w := 16, ty := .ro, rst := 0x0, grp := some .datapath }
/-- SAF_SG4_STATUS, S + 0x020, and SAF_SG4_ADDR, S + 0x024: R383. -/
def R.SAF_SG4_STATUS : Nat := 0x50020
def F.SAF_SG4_STATUS_RESTORES : Fld := { lo := 0, w := 16, ty := .ro, rst := 0x0, grp := some .datapath }
def F.SAF_SG4_STATUS_SCANS : Fld := { lo := 16, w := 16, ty := .ro, rst := 0x0, grp := some .datapath }
/-- SAF_SG4_STATUS, S + 0x020, and SAF_SG4_ADDR, S + 0x024: R383. -/
def R.SAF_SG4_ADDR : Nat := 0x50024
def F.SAF_SG4_ADDR_ADDR : Fld := { lo := 0, w := 32, ty := .ro, rst := 0x0, grp := some .datapath }
/-- SAF_MON_STATUS, S + 0x030: R383. -/
def R.SAF_MON_STATUS : Nat := 0x50030
def F.SAF_MON_STATUS_CLK_FAULT : Fld := { lo := 0, w := 1, ty := .w1c, rst := 0x0, grp := some .datapath }
def F.SAF_MON_STATUS_VOLT_FAULT : Fld := { lo := 1, w := 1, ty := .w1c, rst := 0x0, grp := some .datapath }
def F.SAF_MON_STATUS_CLK_ISLAND : Fld := { lo := 4, w := 4, ty := .ro, rst := 0x0, grp := some .datapath }
def F.SAF_MON_STATUS_VOLT_RAIL : Fld := { lo := 8, w := 4, ty := .ro, rst := 0x0, grp := some .datapath }
/-- SAF_WD_CFG, S + 0x034, and SAF_WD_KICK, S + 0x038: R383. -/
def R.SAF_WD_CFG : Nat := 0x50034
def F.SAF_WD_CFG_WD_MIN : Fld := { lo := 0, w := 8, ty := .rwl, rst := 0x5, grp := some .datapath }
def F.SAF_WD_CFG_WD_MAX : Fld := { lo := 8, w := 8, ty := .rwl, rst := 0x64, grp := some .datapath }
def F.SAF_WD_CFG_LOCK : Fld := { lo := 31, w := 1, ty := .rwo, rst := 0x0, grp := some .datapath }
/-- SAF_WD_CFG, S + 0x034, and SAF_WD_KICK, S + 0x038: R383. -/
def R.SAF_WD_KICK : Nat := 0x50038
def F.SAF_WD_KICK_KICK : Fld := { lo := 0, w := 3, ty := .wo, rst := 0x0 }
/-- SAF_LBIST_CTRL, S + 0x040: R383. -/
def R.SAF_LBIST_CTRL : Nat := 0x50040
def F.SAF_LBIST_CTRL_COMPAT : Fld := { lo := 0, w := 1, ty := .rw, rst := 0x0, grp := some .debug }
def F.SAF_LBIST_CTRL_GO : Fld := { lo := 1, w := 1, ty := .wo, rst := 0x0, grp := some .debug }
def F.SAF_LBIST_CTRL_NAK : Fld := { lo := 2, w := 1, ty := .w1c, rst := 0x0, grp := some .debug }
def F.SAF_LBIST_CTRL_WELL : Fld := { lo := 8, w := 3, ty := .rw, rst := 0x0, grp := some .debug }
def F.SAF_LBIST_CTRL_PUMP : Fld := { lo := 16, w := 6, ty := .rw, rst := 0x0, grp := some .debug }
/-- SAF_LBIST_STATUS, S + 0x044: R383. -/
def R.SAF_LBIST_STATUS : Nat := 0x50044
def F.SAF_LBIST_STATUS_SLICE_FAIL : Fld := { lo := 0, w := 1, ty := .w1c, rst := 0x0, grp := some .datapath }
def F.SAF_LBIST_STATUS_SLICE_LATE : Fld := { lo := 1, w := 1, ty := .w1c, rst := 0x0, grp := some .datapath }
def F.SAF_LBIST_STATUS_FAILS : Fld := { lo := 8, w := 8, ty := .ro, rst := 0x0, grp := some .datapath }
def F.SAF_LBIST_STATUS_LATES : Fld := { lo := 16, w := 8, ty := .ro, rst := 0x0, grp := some .datapath }
def F.SAF_LBIST_STATUS_PASSES : Fld := { lo := 24, w := 8, ty := .ro, rst := 0x0, grp := some .datapath }
/-- SAF_REPAIR_STATUS, S + 0x048, and SAF_FREP_CMD, S + 0x04C: R383. -/
def R.SAF_REPAIR_STATUS : Nat := 0x50048
def F.SAF_REPAIR_STATUS_REPAIR_EV : Fld := { lo := 0, w := 1, ty := .w1c, rst := 0x0, grp := some .datapath }
def F.SAF_REPAIR_STATUS_SPARE_OUT : Fld := { lo := 1, w := 1, ty := .w1c, rst := 0x0, grp := some .datapath }
def F.SAF_REPAIR_STATUS_SOFT_REPAIRS : Fld := { lo := 8, w := 8, ty := .ro, rst := 0x0, grp := some .datapath }
def F.SAF_REPAIR_STATUS_FUSE_USED : Fld := { lo := 16, w := 5, ty := .ro, rst := 0x0, grp := some .datapath }
/-- SAF_REPAIR_STATUS, S + 0x048, and SAF_FREP_CMD, S + 0x04C: R383. -/
def R.SAF_FREP_CMD : Nat := 0x5004c
def F.SAF_FREP_CMD_GO : Fld := { lo := 0, w := 1, ty := .wo, rst := 0x0, grp := some .debug }
def F.SAF_FREP_CMD_BUSY : Fld := { lo := 1, w := 1, ty := .ro, rst := 0x0, grp := some .debug }
def F.SAF_FREP_CMD_DONE : Fld := { lo := 2, w := 1, ty := .w1c, rst := 0x0, grp := some .debug }
def F.SAF_FREP_CMD_ERR : Fld := { lo := 3, w := 1, ty := .w1c, rst := 0x0, grp := some .debug }
def F.SAF_FREP_CMD_NOT_BURNT : Fld := { lo := 8, w := 8, ty := .ro, rst := 0x0, grp := some .debug }
/-- SAF_JNL_INDEX, S + 0x050, and SAF_JNL_STATUS, S + 0x054: R383. -/
def R.SAF_JNL_INDEX : Nat := 0x50050
def F.SAF_JNL_INDEX_NEXT : Fld := { lo := 0, w := 32, ty := .ro, rst := 0x0, grp := some .datapath }
/-- SAF_JNL_INDEX, S + 0x050, and SAF_JNL_STATUS, S + 0x054: R383. -/
def R.SAF_JNL_STATUS : Nat := 0x50054
def F.SAF_JNL_STATUS_LOST_EV : Fld := { lo := 0, w := 1, ty := .w1c, rst := 0x0, grp := some .datapath }
def F.SAF_JNL_STATUS_GAP_EV : Fld := { lo := 1, w := 1, ty := .w1c, rst := 0x0, grp := some .datapath }
def F.SAF_JNL_STATUS_ZERO_BUSY : Fld := { lo := 2, w := 1, ty := .ro, rst := 0x0, grp := some .datapath }
def F.SAF_JNL_STATUS_LOST : Fld := { lo := 16, w := 16, ty := .ro, rst := 0x0, grp := some .datapath }

/-- The register rows of spec/15_safety_and_self_test.md. -/
def Regs.saf : List RegSpec := [
  { base := 0x50000, dims := [], flds := [F.SAF_CFG_SG_EN, F.SAF_CFG_SG1_PERSIST, F.SAF_CFG_SG4_REPEAT, F.SAF_CFG_LOCK], aon := true, lockAt := some 0x50000 },
  { base := 0x50004, dims := [], flds := [F.SAF_SG_STATUS_TRIP, F.SAF_SG_STATUS_SG1_EV, F.SAF_SG_STATUS_SG4_RESTORE, F.SAF_SG_STATUS_IN_SAFE], aon := true },
  { base := 0x50008, dims := [], flds := [F.SAF_SG_REL_REL1, F.SAF_SG_REL_REL3, F.SAF_SG_REL_REL4], aon := true },
  { base := 0x5000c, dims := [], flds := [F.SAF_SG1_CNT_SG1_TX, F.SAF_SG1_CNT_SG1_RX, F.SAF_SG1_CNT_SG1_PORT, F.SAF_SG1_CNT_SG1_DIR], aon := true },
  { base := 0x50028, dims := [], flds := [F.SAF_SG1_SAFE_TX_SAFE, F.SAF_SG1_SAFE_RX_SAFE], aon := true },
  { base := 0x50010, dims := [], flds := [F.SAF_SG2_CFG_SG2_LIMIT, F.SAF_SG2_CFG_LOCK], aon := true, lockAt := some 0x50010 },
  { base := 0x50014, dims := [], flds := [F.SAF_SG2_STATUS_PPS_ERR, F.SAF_SG2_STATUS_CAUSE], aon := true },
  { base := 0x50018, dims := [], flds := [F.SAF_SG3_CTRL_REQ, F.SAF_SG3_CTRL_SG3_MON], aon := true, lockAt := some 0x50000 },
  { base := 0x5001c, dims := [], flds := [F.SAF_SG3_STATUS_TEST_OK, F.SAF_SG3_STATUS_PATH_FAIL, F.SAF_SG3_STATUS_TEST_FAILS, F.SAF_SG3_STATUS_TESTS], aon := true },
  { base := 0x50020, dims := [], flds := [F.SAF_SG4_STATUS_RESTORES, F.SAF_SG4_STATUS_SCANS], aon := true },
  { base := 0x50024, dims := [], flds := [F.SAF_SG4_ADDR_ADDR], aon := true },
  { base := 0x50030, dims := [], flds := [F.SAF_MON_STATUS_CLK_FAULT, F.SAF_MON_STATUS_VOLT_FAULT, F.SAF_MON_STATUS_CLK_ISLAND, F.SAF_MON_STATUS_VOLT_RAIL], aon := true },
  { base := 0x50034, dims := [], flds := [F.SAF_WD_CFG_WD_MIN, F.SAF_WD_CFG_WD_MAX, F.SAF_WD_CFG_LOCK], aon := true, lockAt := some 0x50034 },
  { base := 0x50038, dims := [], flds := [F.SAF_WD_KICK_KICK], aon := true },
  { base := 0x50040, dims := [], flds := [F.SAF_LBIST_CTRL_COMPAT, F.SAF_LBIST_CTRL_GO, F.SAF_LBIST_CTRL_NAK, F.SAF_LBIST_CTRL_WELL, F.SAF_LBIST_CTRL_PUMP], aon := true },
  { base := 0x50044, dims := [], flds := [F.SAF_LBIST_STATUS_SLICE_FAIL, F.SAF_LBIST_STATUS_SLICE_LATE, F.SAF_LBIST_STATUS_FAILS, F.SAF_LBIST_STATUS_LATES, F.SAF_LBIST_STATUS_PASSES], aon := true },
  { base := 0x50048, dims := [], flds := [F.SAF_REPAIR_STATUS_REPAIR_EV, F.SAF_REPAIR_STATUS_SPARE_OUT, F.SAF_REPAIR_STATUS_SOFT_REPAIRS, F.SAF_REPAIR_STATUS_FUSE_USED], aon := true },
  { base := 0x5004c, dims := [], flds := [F.SAF_FREP_CMD_GO, F.SAF_FREP_CMD_BUSY, F.SAF_FREP_CMD_DONE, F.SAF_FREP_CMD_ERR, F.SAF_FREP_CMD_NOT_BURNT], aon := true },
  { base := 0x50050, dims := [], flds := [F.SAF_JNL_INDEX_NEXT], aon := true },
  { base := 0x50054, dims := [], flds := [F.SAF_JNL_STATUS_LOST_EV, F.SAF_JNL_STATUS_GAP_EV, F.SAF_JNL_STATUS_ZERO_BUSY, F.SAF_JNL_STATUS_LOST], aon := true } ]

/-! ### spec/16_thermal_and_monitor_adc.md -/

/-- THM_CFG, T + 0x000, AON: R398. -/
def R.THM_CFG : Nat := 0x60000
def F.THM_CFG_THR : Fld := { lo := 0, w := 8, ty := .rwl, rst := 0x64, grp := some .power, lim := some (85, 105) }
def F.THM_CFG_EFFORT_MAN : Fld := { lo := 16, w := 7, ty := .rw, rst := 0x64, grp := some .debug, lim := some (40, 100) }
def F.THM_CFG_LOCK : Fld := { lo := 31, w := 1, ty := .rwo, rst := 0x0, grp := some .power }
/-- THM_BAND_LO, T + 0x004, and THM_BAND_HI, T + 0x008, AON: R398. -/
def R.THM_BAND_LO : Nat := 0x60004
def F.THM_BAND_LO_B1 : Fld := { lo := 0, w := 8, ty := .rwl, rst := 0xf6, grp := some .power }
def F.THM_BAND_LO_B2 : Fld := { lo := 8, w := 8, ty := .rwl, rst := 0xa, grp := some .power }
def F.THM_BAND_LO_B3 : Fld := { lo := 16, w := 8, ty := .rwl, rst := 0x23, grp := some .power }
def F.THM_BAND_LO_B4 : Fld := { lo := 24, w := 8, ty := .rwl, rst := 0x3c, grp := some .power }
/-- THM_BAND_LO, T + 0x004, and THM_BAND_HI, T + 0x008, AON: R398. -/
def R.THM_BAND_HI : Nat := 0x60008
def F.THM_BAND_HI_B5 : Fld := { lo := 0, w := 8, ty := .rwl, rst := 0x50, grp := some .power }
def F.THM_BAND_HI_B6 : Fld := { lo := 8, w := 8, ty := .rwl, rst := 0x5f, grp := some .power }
def F.THM_BAND_HI_B7 : Fld := { lo := 16, w := 8, ty := .rwl, rst := 0x69, grp := some .power }
def F.THM_BAND_HI_HYST : Fld := { lo := 24, w := 4, ty := .rwl, rst := 0x2, grp := some .power }
def F.THM_BAND_HI_LOCK : Fld := { lo := 31, w := 1, ty := .rwo, rst := 0x0, grp := some .power }
/-- THM_STATUS, T + 0x010, AON: R398. -/
def R.THM_STATUS : Nat := 0x60010
def F.THM_STATUS_T_MAX : Fld := { lo := 0, w := 11, ty := .ro, rst := 0x0, grp := some .power }
def F.THM_STATUS_EFFORT : Fld := { lo := 16, w := 7, ty := .ro, rst := 0x64, grp := some .power }
def F.THM_STATUS_INTERVAL : Fld := { lo := 24, w := 2, ty := .ro, rst := 0x0, grp := some .power }
def F.THM_STATUS_THROTTLE_EV : Fld := { lo := 26, w := 1, ty := .w1c, rst := 0x0, grp := some .power }
def F.THM_STATUS_FLOOR_EV : Fld := { lo := 27, w := 1, ty := .w1c, rst := 0x0, grp := some .power }
def F.THM_STATUS_BAND_EV : Fld := { lo := 28, w := 1, ty := .w1c, rst := 0x0, grp := some .power }
def F.THM_STATUS_SENS_FAULT : Fld := { lo := 29, w := 1, ty := .w1c, rst := 0x0, grp := some .power }
def F.THM_STATUS_NEAR_VENT : Fld := { lo := 30, w := 1, ty := .w1c, rst := 0x0, grp := some .power }
def F.THM_STATUS_VENTED : Fld := { lo := 31, w := 1, ty := .w1c, rst := 0x0, grp := some .power }
/-- THM_BANDS, T + 0x014, AON: R398. -/
def R.THM_BANDS : Nat := 0x60014
def F.THM_BANDS_WELL : Fld := { lo := 0, w := 24, ty := .ro, rst := 0x0, grp := some .power }
def F.THM_BANDS_HOST : Fld := { lo := 24, w := 3, ty := .ro, rst := 0x0, grp := some .power }
def F.THM_BANDS_CIS : Fld := { lo := 27, w := 3, ty := .ro, rst := 0x0, grp := some .power }
/-- THM_CNT, T + 0x018, AON: R398. -/
def R.THM_CNT : Nat := 0x60018
def F.THM_CNT_THR_SECONDS : Fld := { lo := 0, w := 16, ty := .ro, rst := 0x0, grp := some .power }
def F.THM_CNT_VENTS : Fld := { lo := 16, w := 8, ty := .ro, rst := 0x0, grp := some .power }
def F.THM_CNT_SENS_FAULTS : Fld := { lo := 24, w := 8, ty := .ro, rst := 0x0, grp := some .power }
/-- THM_SENS0–THM_SENS35, T + 0x040 + 4 × k, k = 0 to 35, AON: R398. -/
def R.THM_SENS (n : Nat) : Nat := 0x60040 + n * 0x4
def F.THM_SENS_TEMP : Fld := { lo := 0, w := 11, ty := .ro, rst := 0x0, grp := some .power }
def F.THM_SENS_VALID : Fld := { lo := 11, w := 1, ty := .ro, rst := 0x0, grp := some .power }
def F.THM_SENS_FAULT : Fld := { lo := 12, w := 1, ty := .ro, rst := 0x0, grp := some .power }
def F.THM_SENS_UNTRIMMED : Fld := { lo := 13, w := 1, ty := .ro, rst := 0x0, grp := some .power }
/-- MON_CTRL, M + 0x000, AON: R398. -/
def R.MON_CTRL : Nat := 0x70000
def F.MON_CTRL_CAL : Fld := { lo := 0, w := 1, ty := .wo, rst := 0x0, grp := some .power }
def F.MON_CTRL_LOWPWR : Fld := { lo := 1, w := 1, ty := .rw, rst := 0x0, grp := some .power }
def F.MON_CTRL_RUN : Fld := { lo := 2, w := 1, ty := .rw, rst := 0x1, grp := some .power }
/-- MON_SCAN_MASK, M + 0x004, AON: R398. -/
def R.MON_SCAN_MASK : Nat := 0x70004
def F.MON_SCAN_MASK_MASK : Fld := { lo := 0, w := 31, ty := .rw, rst := 0x10000, grp := some .power }
/-- MON_STATUS, M + 0x008, AON: R398. -/
def R.MON_STATUS : Nat := 0x70008
def F.MON_STATUS_CAL_BUSY : Fld := { lo := 0, w := 1, ty := .ro, rst := 0x0, grp := some .power }
def F.MON_STATUS_CAL_DONE : Fld := { lo := 1, w := 1, ty := .w1c, rst := 0x0, grp := some .power }
def F.MON_STATUS_CAL_BAD : Fld := { lo := 2, w := 1, ty := .w1c, rst := 0x0, grp := some .power }
def F.MON_STATUS_OVR_EV : Fld := { lo := 3, w := 1, ty := .w1c, rst := 0x0, grp := some .power }
def F.MON_STATUS_LIMIT_EV : Fld := { lo := 4, w := 1, ty := .w1c, rst := 0x0, grp := some .power }
def F.MON_STATUS_REF_EXT : Fld := { lo := 5, w := 1, ty := .ro, rst := 0x0, grp := some .power }
def F.MON_STATUS_SCANS : Fld := { lo := 8, w := 8, ty := .ro, rst := 0x0, grp := some .power }
def F.MON_STATUS_SCAN_US : Fld := { lo := 16, w := 16, ty := .ro, rst := 0x0, grp := some .power }
/-- MON_CAL, M + 0x00C, and MON_CAL_LP, M + 0x010, AON: R398. -/
def R.MON_CAL : Nat := 0x7000c
def F.MON_CAL_OFS : Fld := { lo := 0, w := 8, ty := .rw, rst := 0x0, grp := some .power }
def F.MON_CAL_GAIN : Fld := { lo := 8, w := 12, ty := .rw, rst := 0x800, grp := some .power }
/-- MON_CAL, M + 0x00C, and MON_CAL_LP, M + 0x010, AON: R398. -/
def R.MON_CAL_LP : Nat := 0x70010
def F.MON_CAL_LP_OFS : Fld := { lo := 0, w := 8, ty := .rw, rst := 0x0, grp := some .power }
def F.MON_CAL_LP_GAIN : Fld := { lo := 8, w := 12, ty := .rw, rst := 0x800, grp := some .power }
/-- MON_CAL_QUAL, M + 0x014, AON: R398. -/
def R.MON_CAL_QUAL : Nat := 0x70014
def F.MON_CAL_QUAL_OFS_RES : Fld := { lo := 0, w := 8, ty := .ro, rst := 0x0, grp := some .power }
def F.MON_CAL_QUAL_GAIN_RES : Fld := { lo := 8, w := 8, ty := .ro, rst := 0x0, grp := some .power }
/-- MON_CH0–MON_CH31, M + 0x040 + 4 × c, c = 0 to 31, AON: R398. -/
def R.MON_CH (n : Nat) : Nat := 0x70040 + n * 0x4
def F.MON_CH_AVG : Fld := { lo := 0, w := 4, ty := .rw, rst := 0x4, grp := some .power }
def F.MON_CH_SHIFT : Fld := { lo := 4, w := 4, ty := .rw, rst := 0x4, grp := some .power }
def F.MON_CH_LIMIT : Fld := { lo := 16, w := 12, ty := .rw, rst := 0xfff, grp := some .power }
/-- MON_RES0–MON_RES31, M + 0x100 + 4 × c, c = 0 to 31, AON: R398. -/
def R.MON_RES (n : Nat) : Nat := 0x70100 + n * 0x4
def F.MON_RES_VALUE : Fld := { lo := 0, w := 20, ty := .ro, rst := 0x0, grp := some .power }
def F.MON_RES_OVR : Fld := { lo := 20, w := 1, ty := .ro, rst := 0x0, grp := some .power }
def F.MON_RES_OVER : Fld := { lo := 21, w := 1, ty := .ro, rst := 0x0, grp := some .power }
def F.MON_RES_VALID : Fld := { lo := 22, w := 1, ty := .ro, rst := 0x0, grp := some .power }
def F.MON_RES_SEQ : Fld := { lo := 24, w := 8, ty := .ro, rst := 0x0, grp := some .power }

/-- The register rows of spec/16_thermal_and_monitor_adc.md. -/
def Regs.thm : List RegSpec := [
  { base := 0x60000, dims := [], flds := [F.THM_CFG_THR, F.THM_CFG_EFFORT_MAN, F.THM_CFG_LOCK], aon := true, lockAt := some 0x60000 },
  { base := 0x60004, dims := [], flds := [F.THM_BAND_LO_B1, F.THM_BAND_LO_B2, F.THM_BAND_LO_B3, F.THM_BAND_LO_B4], aon := true, lockAt := some 0x60008 },
  { base := 0x60008, dims := [], flds := [F.THM_BAND_HI_B5, F.THM_BAND_HI_B6, F.THM_BAND_HI_B7, F.THM_BAND_HI_HYST, F.THM_BAND_HI_LOCK], aon := true, lockAt := some 0x60008 },
  { base := 0x60010, dims := [], flds := [F.THM_STATUS_T_MAX, F.THM_STATUS_EFFORT, F.THM_STATUS_INTERVAL, F.THM_STATUS_THROTTLE_EV, F.THM_STATUS_FLOOR_EV, F.THM_STATUS_BAND_EV, F.THM_STATUS_SENS_FAULT, F.THM_STATUS_NEAR_VENT, F.THM_STATUS_VENTED], aon := true },
  { base := 0x60014, dims := [], flds := [F.THM_BANDS_WELL, F.THM_BANDS_HOST, F.THM_BANDS_CIS], aon := true },
  { base := 0x60018, dims := [], flds := [F.THM_CNT_THR_SECONDS, F.THM_CNT_VENTS, F.THM_CNT_SENS_FAULTS], aon := true },
  { base := 0x60040, dims := [(0x4, 36)], flds := [F.THM_SENS_TEMP, F.THM_SENS_VALID, F.THM_SENS_FAULT, F.THM_SENS_UNTRIMMED], aon := true },
  { base := 0x70000, dims := [], flds := [F.MON_CTRL_CAL, F.MON_CTRL_LOWPWR, F.MON_CTRL_RUN], aon := true },
  { base := 0x70004, dims := [], flds := [F.MON_SCAN_MASK_MASK], aon := true },
  { base := 0x70008, dims := [], flds := [F.MON_STATUS_CAL_BUSY, F.MON_STATUS_CAL_DONE, F.MON_STATUS_CAL_BAD, F.MON_STATUS_OVR_EV, F.MON_STATUS_LIMIT_EV, F.MON_STATUS_REF_EXT, F.MON_STATUS_SCANS, F.MON_STATUS_SCAN_US], aon := true },
  { base := 0x7000c, dims := [], flds := [F.MON_CAL_OFS, F.MON_CAL_GAIN], aon := true },
  { base := 0x70010, dims := [], flds := [F.MON_CAL_LP_OFS, F.MON_CAL_LP_GAIN], aon := true },
  { base := 0x70014, dims := [], flds := [F.MON_CAL_QUAL_OFS_RES, F.MON_CAL_QUAL_GAIN_RES], aon := true },
  { base := 0x70040, dims := [(0x4, 32)], flds := [F.MON_CH_AVG, F.MON_CH_SHIFT, F.MON_CH_LIMIT], aon := true },
  { base := 0x70100, dims := [(0x4, 32)], flds := [F.MON_RES_VALUE, F.MON_RES_OVR, F.MON_RES_OVER, F.MON_RES_VALID, F.MON_RES_SEQ], aon := true } ]

/-! ### chapter 17 of spec/ (security and debug) -/

/-- SEC_LC_STATUS, S + 0x000, AON: R413. -/
def R.SEC_LC_STATUS : Nat := 0x80000
def F.SEC_LC_STATUS_STATE : Fld := { lo := 0, w := 2, ty := .ro, rst := 0x0, grp := some .debug }
def F.SEC_LC_STATUS_LC_NOMAJ : Fld := { lo := 2, w := 1, ty := .ro, rst := 0x0, grp := some .debug }
def F.SEC_LC_STATUS_LC_INVALID : Fld := { lo := 3, w := 1, ty := .ro, rst := 0x0, grp := some .debug }
def F.SEC_LC_STATUS_RAW : Fld := { lo := 4, w := 4, ty := .ro, rst := 0x0, grp := some .debug }
def F.SEC_LC_STATUS_KEY_BLANK : Fld := { lo := 8, w := 1, ty := .ro, rst := 0x0, grp := some .debug }
def F.SEC_LC_STATUS_BURN_PENDING : Fld := { lo := 9, w := 1, ty := .ro, rst := 0x0, grp := some .debug }
def F.SEC_LC_STATUS_NEXT : Fld := { lo := 10, w := 2, ty := .ro, rst := 0x0, grp := some .debug }
/-- SEC_LC_CMD, S + 0x004, AON: R413. -/
def R.SEC_LC_CMD : Nat := 0x80004
def F.SEC_LC_CMD_TARGET : Fld := { lo := 0, w := 2, ty := .rw, rst := 0x0, grp := some .debug }
def F.SEC_LC_CMD_GO : Fld := { lo := 2, w := 1, ty := .wo, rst := 0x0, grp := some .debug }
def F.SEC_LC_CMD_BUSY : Fld := { lo := 3, w := 1, ty := .ro, rst := 0x0, grp := some .debug }
def F.SEC_LC_CMD_LC_DONE : Fld := { lo := 4, w := 1, ty := .w1c, rst := 0x0, grp := some .debug }
def F.SEC_LC_CMD_LC_ERR : Fld := { lo := 5, w := 1, ty := .w1c, rst := 0x0, grp := some .debug }
def F.SEC_LC_CMD_ERR_CODE : Fld := { lo := 8, w := 4, ty := .ro, rst := 0x0, grp := some .debug }
def F.SEC_LC_CMD_KEY : Fld := { lo := 16, w := 16, ty := .wo, rst := 0x0, grp := some .debug }
/-- SEC_DBG_CTRL, S + 0x010, AON: R413. -/
def R.SEC_DBG_CTRL : Nat := 0x80010
def F.SEC_DBG_CTRL_LEVEL : Fld := { lo := 0, w := 2, ty := .rw, rst := 0x0, grp := some .debug }
def F.SEC_DBG_CTRL_OPEN : Fld := { lo := 2, w := 1, ty := .wo, rst := 0x0, grp := some .debug }
def F.SEC_DBG_CTRL_CLOSE : Fld := { lo := 3, w := 1, ty := .wo, rst := 0x0, grp := some .debug }
def F.SEC_DBG_CTRL_WAKE : Fld := { lo := 4, w := 1, ty := .rw, rst := 0x0, grp := some .debug }
/-- SEC_DBG_STATUS, S + 0x014, AON: R413. -/
def R.SEC_DBG_STATUS : Nat := 0x80014
def F.SEC_DBG_STATUS_LEVEL : Fld := { lo := 0, w := 2, ty := .ro, rst := 0x0, grp := some .debug }
def F.SEC_DBG_STATUS_OPEN_BUSY : Fld := { lo := 2, w := 1, ty := .ro, rst := 0x0, grp := some .debug }
def F.SEC_DBG_STATUS_DBG_EV : Fld := { lo := 3, w := 1, ty := .w1c, rst := 0x0, grp := some .debug }
def F.SEC_DBG_STATUS_JTAG_REFUSED : Fld := { lo := 4, w := 1, ty := .w1c, rst := 0x0, grp := some .debug }
def F.SEC_DBG_STATUS_DP_DISABLED : Fld := { lo := 5, w := 1, ty := .ro, rst := 0x0, grp := some .debug }
def F.SEC_DBG_STATUS_SCAN_ACTIVE : Fld := { lo := 6, w := 1, ty := .ro, rst := 0x0, grp := some .debug }
def F.SEC_DBG_STATUS_OPENED_BY : Fld := { lo := 8, w := 2, ty := .ro, rst := 0x0, grp := some .debug }
def F.SEC_DBG_STATUS_OPENS : Fld := { lo := 16, w := 8, ty := .ro, rst := 0x0, grp := some .debug }

/-- The register rows of chapter 17 of spec/. -/
def Regs.sec : List RegSpec := [
  { base := 0x80000, dims := [], flds := [F.SEC_LC_STATUS_STATE, F.SEC_LC_STATUS_LC_NOMAJ, F.SEC_LC_STATUS_LC_INVALID, F.SEC_LC_STATUS_RAW, F.SEC_LC_STATUS_KEY_BLANK, F.SEC_LC_STATUS_BURN_PENDING, F.SEC_LC_STATUS_NEXT], aon := true },
  { base := 0x80004, dims := [], flds := [F.SEC_LC_CMD_TARGET, F.SEC_LC_CMD_GO, F.SEC_LC_CMD_BUSY, F.SEC_LC_CMD_LC_DONE, F.SEC_LC_CMD_LC_ERR, F.SEC_LC_CMD_ERR_CODE, F.SEC_LC_CMD_KEY], aon := true },
  { base := 0x80010, dims := [], flds := [F.SEC_DBG_CTRL_LEVEL, F.SEC_DBG_CTRL_OPEN, F.SEC_DBG_CTRL_CLOSE, F.SEC_DBG_CTRL_WAKE], aon := true },
  { base := 0x80014, dims := [], flds := [F.SEC_DBG_STATUS_LEVEL, F.SEC_DBG_STATUS_OPEN_BUSY, F.SEC_DBG_STATUS_DBG_EV, F.SEC_DBG_STATUS_JTAG_REFUSED, F.SEC_DBG_STATUS_DP_DISABLED, F.SEC_DBG_STATUS_SCAN_ACTIVE, F.SEC_DBG_STATUS_OPENED_BY, F.SEC_DBG_STATUS_OPENS], aon := true } ]

end Sys2Proof.Machine
end

