-- ==== Sys2Proof/Config.lean ====
section
/-!
DEFINITION. What the spec leaves open. Each constant is opaque: nothing in Lean can evaluate it or prove a value
of it, so a claim about the model holds whatever the open value is (notes/assumptions/2.md).
-/
namespace Sys2Proof.Config

/-- The k-th fresh value that the device produces where the spec states none. -/
opaque freeValue : Nat → Nat

/-- The fused coefficients, in 2^-32 ps, of the delay of a lane's analogue path, transmit or receive: the factor of each power of the
die temperature in °C (R227, notes/assumptions/132.md). -/
opaque pathCoef : Nat → Bool → Nat → Int

/-- The natural frequency, in 1e-9 rad/s, of the servo's loop of damping 0.9 at a bandwidth in mHz (R237, notes/assumptions/133.md). -/
opaque servoWn : Nat → Nat

/-- The fixed pipeline offset between a converter and the frame tracker, receive or transmit, in ps (R21). -/
opaque pipeOffset : Bool → Nat

/-- The fixed BIASMOD output delay and the group delay of a seep receive chain's selected responses, in ps (R215). -/
opaque biasDelay : Nat
opaque groupDelay : Nat → Nat → Nat

/-- The journal code of a fault for which R377 lists none, by its source and its mechanism or cause (R33, R39). -/
opaque faultCode : Nat → Nat → Nat

/-- The preliminary decision of pz_trec on a restored sample, as a level index modulo 4 (R95 does not define it). -/
opaque prelim : Int → Nat

/-- Kp and Ki of the timing loop for a gain code, a profile and, at 53.125 GBd, half the bandwidth, per unit of mean error, in 2^-32 of
1/128 UI (R96 gives the closed-loop bandwidths and the damping). -/
opaque trecKp : Nat → Nat → Bool → Int
opaque trecKi : Nat → Nat → Bool → Int

/-- The estimate of a sub-converter's offset, gain or skew, from what pz_ical gathered of all of them and the value in force, and the
quality figures of the epoch (R82 and R83 give neither computation). -/
opaque icalEst : List (List Int) → Nat → Nat → Int → Int
opaque icalFig : List (List Int) → Nat → Nat

/-- What the steering loop of a bandwidth in Hz has closed of its distance to the host lane after a time in 0.2 ns, in 1/65,536 (R74). -/
opaque steerGain : Nat → Nat → Nat

/-- The phase error in 1/256 of 1/128 UI that a block's sum of timing errors over its count stands for (R96 does not give the scale). -/
opaque phaseError : Int → Nat → Int

/-- The rate of a frequency slew in 1/65,536 of the bound of 1 ppm per ms (R178 gives the bound only). -/
opaque slewRate : Nat

/-- The offset of a host transmit lane in 0.01 ppm that the fill of its deframer's output buffer, in bits about the middle, steers it to
(R155, R178 give the range only). -/
opaque fillOffset : Int → Int

/-- The phase that a seep symbol of one turn has added a time after its start, in 2^-32 turns: the integral of the BT 0.5 Gaussian pulse with
the filter's delay, by the time in 1/65,536 of a symbol; and the cosine of a phase in 2^-32 turns, in 1/32,768. R191 and R193 give neither
the filter's length and delay nor the precision (notes/assumptions/149.md). -/
opaque seepPulse : Nat → Nat
opaque cosine : Nat → Int

/-- Where a bit of a port's lanes lies in the group of four KP4 codewords that the IEEE 802.3 PCS of the port's rate interleaves over
them: for a number of lanes and a place (lane × bits per lane + bit), 5,440 × codeword + bit (R186 names the standard only). -/
opaque kp4Bit : Nat → Nat → Nat

/-- The codeword that an RS(544,514) decoder finds from 544 symbols with the erased positions given, if it finds one (R165, R185). -/
opaque rsDecode : List Nat → List Nat → Option (List Nat)

/-- The line symbols of a Standard frame for its host bits, and the inner codeword and bit of R163 that a bit of a frame belongs to;
the codeword that the code's syndrome leads to from a test pattern (IEEE 802.3dj). -/
opaque stdSymbols : List Bool → List Nat
opaque stdBitAt : Nat → Option (Nat × Nat)
opaque stdCorrect : List Bool → Option (List Bool)

end Sys2Proof.Config
end

