-- ==== Sys2Proof/Machine/State.lean ====
section
/-!
DEFINITION. The state of the block: everything the spec gives it, as plain data, with the queue of waiting commands.
-/
namespace Sys2Proof.Machine

/-- The block's state. -/
structure State where
  regs : List (Nat × Word) := []
  act : List (Nat × Word) := []
  mem : List Host.Cell := []
  now : Nat := 0
  freeCtr : Nat := 0
  jq : List JEntry := []
  jLostPend : Nat := 0
  tod : TodSt := {}
  region : Vector RegionSt 5 := Vector.replicate 5 {}
  blocks : List BlockSt := []
  well : Vector WellSt 8 := Vector.replicate 8 {}
  line : Vector LineSt 8 := Vector.replicate 8 {}
  rx : Vector RxSt 8 := Vector.replicate 8 {}
  sig : Vector SigSt 8 := Vector.replicate 8 {}
  frm : Vector FrmSt 8 := Vector.replicate 8 {}
  cores : List DecWin := []
  atlas : Vector AtlasSt 8 := Vector.replicate 8 {}
  seepLn : Vector SeepLane 8 := Vector.replicate 8 {}
  seep : SeepSt := {}
  host : HostSt := {}
  cis : CisSt := {}
  light : Vector LightLane 8 := Vector.replicate 8 {}
  txdisHigh : Bool := true
  txdisOk : Bool := true
  vent : Bool := false
  inReset : Bool := false
  rails : Nat := 0
  pumps : PumpSection := {}
  stagedPumps : PumpSection := {}
  rpr : List RepairRec := []
  fuse : FuseSt := {}
  boot : BootSt := {}
  port : PortSt := {}
  mbx : Vector Mbx 3 := Vector.replicate 3 {}
  kic : KicSt := {}
  pwr : PwrSt := {}
  saf : SafSt := {}
  thm : ThmSt := {}
  mon : MonSt := {}
  sec : SecSt := {}
  resp : Vector (List Resp) 7 := Vector.replicate 7 []
  pending : List Instr := []
  deriving DecidableEq, Repr

/-- The block after reset (R10, R274, R426): RESET_N has just been released, every register holds its table's reset value, the cistern
and the journal list nothing, no command waits, and the cold start stands at its first step. Values for which the spec states no reset
value are those of notes/assumptions/4.md. -/
def State.reset : State := {}

/-- Why the block stops with a fault. -/
inductive Fault where
  /-- Raised by nobody: every access is answered with a code of R14, and every fault of the device is handled inside it (R33). Safe. -/
  | none
  deriving DecidableEq, Repr

/-- Why a command has no meaning. -/
inductive Refusal where
  /-- Raised by nobody now: the constructor names a command that has no meaning yet. Safe: the model stops. -/
  | notModelled (mnemonic : String)
  deriving DecidableEq, Repr

end Sys2Proof.Machine
end

