-- ==== Sys2Proof/Machine/Ops.lean ====
section
/-!
DEFINITION. The named operations over registers, the journal queue and the cistern's bytes that every meaning uses.
-/
namespace Sys2Proof.Machine

/-! ### Register map -/

/-- The register rows of the block that holds an address (R414). -/
def regRows (a : Nat) : List RegSpec :=
  if a < 0x10000 then Regs.acc ++ Regs.arc
  else if a < 0x20000 then Regs.pwr
  else if a < 0x30000 then Regs.kic
  else if a < 0x40000 then Regs.acc
  else if a < 0x50000 then Regs.bt
  else if a < 0x60000 then Regs.saf
  else if a < 0x80000 then Regs.thm
  else if a < 0x100000 then Regs.sec
  else if a < 0x200000 then Regs.tim
  else if a < 0x400000 then Regs.hst
  else if a < 0x800000 then Regs.cnv
  else if a < 0x1000000 then Regs.pmp ++ Regs.rx ++ Regs.frm
  else if a < 0x1100000 then Regs.frm
  else if a < 0x1200000 then Regs.sep
  else if a < 0x1300000 then Regs.atl
  else if a < 0x1400000 then Regs.cis
  else []

/-- The row that defines the register at an address, if there is one (R14, R418). -/
def specAt (a : Nat) : Option RegSpec := (regRows a).find? (·.covers a)

/-- IDs of R340 that no row lists: their configuration register reads 0 and ignores writes (R333). -/
def irqReserved (id : Nat) : Bool :=
  id == 0 || (25 ≤ id && id ≤ 31) || (160 ≤ id && id ≤ 223 && (id - 160) % 8 == 7) ||
  (377 ≤ id && id ≤ 379) || (388 ≤ id && id ≤ 391) ||
  (406 ≤ id && id ≤ 415) || (422 ≤ id && id ≤ 423) || (438 ≤ id)

/-- Reset value of LINE_TBPb (the table of R85). -/
def tbpReset (b : Nat) : Word :=
  match b with
  | 0 => 0x4652 | 1 => 0x4653 | 2 => 0x5763 | 3 => 0x5764
  | 4 => 0x5775 | 5 => 0x6886 | 6 => 0x6897 | _ => 0x79B9

/-- Reset value of PUMP_STATE of pump m in a well from which the image retires no pump (R66). -/
def pumpStateReset (m : Nat) : Word :=
  if m < 48 then word (0x9 + m * 0x100) else if m < 56 then word (0xA + (m - 48) * 0x100) else 0x8

/-- The value a register reads as while nothing has written it: its table's reset value (R10). A key above 2^32
names the copy of a common register in force on one lane (R29), and has the reset value of its register. -/
def resetWord (key : Nat) : Word :=
  let a := key % 0x100000000
  if 0x880000 ≤ a ∧ a < 0x1000000 ∧ a % 0x100000 ≥ 0x80000 ∧ a % 0x1000 = 0 then pumpStateReset (a / 0x1000 % 64)
  else if R.LINE_TBP 0 ≤ a ∧ a ≤ R.LINE_TBP 7 then tbpReset ((a - R.LINE_TBP 0) / 4)
  else if a = R.MON_CH 16 then 0x0FFF0048
  else match specAt a with
    | none => 0
    | some r =>
      if a < 0x21000 ∧ 0x20000 ≤ a ∧ irqReserved ((a - 0x20000) / 4) then 0
      else if 0x1100000 ≤ a ∧ a < 0x1108000 ∧ a % 0x1000 = 0 then r.rstWord ||| word (a / 0x1000 % 8 * 0x100)
      else r.rstWord

/-! ### Reading and setting registers -/

/-- The pending copy of a register: what a read at its address composes its answer from (R12). -/
def State.reg (s : State) (a : Nat) : Word := sget (resetWord a) a s.regs

/-- Sets the pending copy. -/
def State.setReg (s : State) (a : Nat) (w : Word) : State :=
  { s with regs := sput (resetWord a) a w s.regs }

/-- The active copy of a register's buffered fields (R12), or, at a key above 2^32, the copy in force on one lane. -/
def State.actReg (s : State) (k : Nat) : Word := sget (resetWord k) k s.act

/-- Sets the active copy. -/
def State.setActReg (s : State) (k : Nat) (w : Word) : State :=
  { s with act := sput (resetWord k) k w s.act }

/-- The key of the copy of common register `a` that is in force on lane `n` (R29). -/
def laneKey (a n : Nat) : Nat := a + (n + 1) * 0x100000000

/-- A field of a register's pending copy. -/
def State.fld (s : State) (a : Nat) (f : Fld) : Nat := f.get (s.reg a)

/-- A field as a flag. -/
def State.flag (s : State) (a : Nat) (f : Fld) : Bool := s.fld a f != 0

/-- A field of the active copy. -/
def State.actFld (s : State) (k : Nat) (f : Fld) : Nat := f.get (s.actReg k)

/-- Sets a field of the pending copy. -/
def State.setFld (s : State) (a : Nat) (f : Fld) (v : Nat) : State := s.setReg a (f.put (s.reg a) v)

/-- Sets a field of the active copy. -/
def State.setActFld (s : State) (k : Nat) (f : Fld) (v : Nat) : State := s.setActReg k (f.put (s.actReg k) v)

/-- Adds to a counter field that saturates at its largest value. -/
def State.addSat (s : State) (a : Nat) (f : Fld) (n : Nat) : State :=
  s.setFld a f (min f.max (s.fld a f + n))

/-- Adds to a counter field that wraps at its width. -/
def State.addWrap (s : State) (a : Nat) (f : Fld) (n : Nat) : State := s.setFld a f (s.fld a f + n)

/-- Clears the given bits of a field. -/
def State.clrBits (s : State) (a : Nat) (f : Fld) (bits : Nat) : State :=
  s.setFld a f (s.fld a f - Nat.land (s.fld a f) bits)

/-! ### The journal queue (R377, R378) -/

/-- The SOURCE byte of a journal entry for an interrupt source: region in [7:4], block index of R18 in [3:0]. -/
def irqSource (id : Nat) : Nat :=
  if 2 ≤ id ∧ id ≤ 6 then (id - 2) * 16
  else if id < 12 then 0x50
  else if id < 18 then 0x34
  else if id < 32 then 0x33
  else if id < 160 then (id - 32) / 16
  else if id < 224 then (if (id - 160) % 8 < 5 then (id - 160) / 8 else 0x08)
  else if id < 288 then 0x09
  else if id < 334 then 0x21
  else if id < 342 then 0x10 + (id - 334) / 4
  else if id = 342 then 0x10
  else if id = 343 then 0x08
  else if id < 360 then 0x10 + (id - 344) / 8
  else if id < 368 then 0x20
  else if id < 380 then 0x40
  else 0x50

/-- Whether an entry is written by a mechanism of R362 (FLAGS bit 0): the SAF sources, the sources of a keeper
fault, a counter disagreement and the protected-copy codes. -/
def safetyCode (code : Nat) : Bool :=
  (392 ≤ code && code ≤ 405) || (22 ≤ code && code ≤ 24) || code == 366 || (0x201 ≤ code && code ≤ 0x204)

/-- The entry that an event makes at the present time (R377). -/
def State.jEntry (s : State) (source code payload : Nat) : JEntry :=
  { ns := s.tod.a.ns, sec := s.tod.a.sec % 0x100000000, source := source,
    safety := safetyCode code, todInvalid := !s.flag R.TOD_STATUS F.TOD_STATUS_VALID, code := code,
    payload := payload }

/-- An event that finds the queue of 32 full is not journalled: it counts in LOST and sets LOST_EV (R378). -/
def State.jLose (s : State) : State :=
  let s := (s.addSat R.SAF_JNL_STATUS F.SAF_JNL_STATUS_LOST 1).setFld R.SAF_JNL_STATUS F.SAF_JNL_STATUS_LOST_EV 1
  { s with jLostPend := s.jLostPend + 1 }

/-- Puts an event in the journal queue (R378). The first entry after the queue has room again has code 0x0206. -/
def State.journalAt (s : State) (source code payload : Nat) : State :=
  if s.jq.length ≥ 32 then s.jLose
  else
    let e := s.jEntry source code payload
    if s.jLostPend = 0 then { s with jq := s.jq ++ [e] }
    else
      let s1 := { s with jq := s.jq ++ [s.jEntry 0x35 0x206 s.jLostPend], jLostPend := 0 }
      if s1.jq.length ≥ 32 then s1.jLose else { s1 with jq := s1.jq ++ [e] }

/-- Journals an interrupt source or a code of R377 under its block. -/
def State.journal (s : State) (code payload : Nat) : State := s.journalAt (irqSource code) code payload

/-- Hardware sets bits of a status field that is a member of interrupt source `id`; a bit that goes from 0 to 1
is journalled with the register after the set (R377). -/
def State.raise (s : State) (a : Nat) (f : Fld) (bits id : Nat) : State :=
  let old := s.fld a f
  let s' := s.setFld a f (Nat.lor old bits)
  if s'.fld a f = old then s' else s'.journal id (s'.reg a).toNat

/-- The ordinary case of `raise`: a one-bit flag. -/
def State.raise1 (s : State) (a : Nat) (f : Fld) (id : Nat) : State := s.raise a f 1 id

/-- A fresh free value of `w` bits: the open constant of Config at the counter, which advances. -/
def State.fresh (s : State) (w : Nat) : Nat × State :=
  (Config.freeValue s.freeCtr % 2 ^ w, { s with freeCtr := s.freeCtr + 1 })

/-- A fault that R33 and R39 ask to be journalled and for which R377 lists no code: its code, which stands for its mechanism or cause, and
its payload are open (notes/assumptions/83.md). -/
def State.journalFault (s : State) (source mech : Nat) : State :=
  let (p, s) := s.fresh 32
  s.journalAt source (Config.faultCode source mech % 65536) p

/-! ### Vectors of lanes, wells and ports -/

/-- Replaces one element of a vector by a function of it. -/
def vmod {α : Type} {k : Nat} (v : Vector α k) (i : Fin k) (g : α → α) : Vector α k := v.set i (g v[i])

/-- Applies an update for each lane 0 to 7 in order. -/
def forLanes (g : Fin 8 → State → State) (s : State) : State := (List.finRange 8).foldl (fun s n => g n s) s

/-- A Nat reduced to a lane index. -/
def lane (n : Nat) : Fin 8 := ⟨n % 8, Nat.mod_lt _ (by decide)⟩

/-- Bit `i` of a Nat. -/
def bitOf (x i : Nat) : Bool := x / 2 ^ i % 2 == 1

/-- A flag as a Nat. -/
def b2n (b : Bool) : Nat := if b then 1 else 0

/-- A signed value read from the low `w` bits of a Nat. -/
def signed (w v : Nat) : Int := if v % 2 ^ w < 2 ^ (w - 1) then (v % 2 ^ w : Nat) else (v % 2 ^ w : Nat) - (2 ^ w : Int)

/-- A signed value in `w` bits of two's complement. -/
def unsigned (w : Nat) (i : Int) : Nat := (i % (2 ^ w : Int)).toNat

/-- Brings an integer into a range. -/
def clampInt (lo hi x : Int) : Int := if x < lo then lo else if x > hi then hi else x

/-- Brings a Nat into a range. -/
def clampNat (lo hi x : Nat) : Nat := if x < lo then lo else if x > hi then hi else x

/-- A counter that saturates. -/
def satAdd (cap x n : Nat) : Nat := min cap (x + n)

/-! ### Bytes of the cistern -/

/-- Memory is in canonical form: addresses strictly rising, and no entry of 0, which is what an unlisted byte reads as. -/
def Memory.wf (m : List Host.Cell) : Bool := swf (fun _ => (0 : Byte)) m

/-- One byte of the cistern (R254); a byte that nothing has written reads 0. -/
def State.byte (s : State) (a : Nat) : Byte := sget 0 a s.mem

/-- Writes one byte of the cistern. -/
def State.setByte (s : State) (a : Nat) (b : Byte) : State := { s with mem := sput 0 a b s.mem }

/-- `k` bytes from address `a`, little-endian, as a number. -/
def State.bytesNat (s : State) (a : Nat) : Nat → Nat
  | 0 => 0
  | k + 1 => (s.byte a).toNat + 256 * s.bytesNat (a + 1) k

/-- Writes `k` bytes of a number from address `a`, little-endian. -/
def State.setBytesNat (s : State) (a v : Nat) : Nat → State
  | 0 => s
  | k + 1 => (s.setByte a (BitVec.ofNat 8 v)).setBytesNat (a + 1) (v / 256) k

/-- The words of the cistern from `lo` to `hi` have correct check bits again. -/
def unpoison (lo hi : Nat) (s : State) : State :=
  { s with cis := { s.cis with poison := s.cis.poison.filter fun w => decide (w < lo ∨ hi < w) } }

/-- Clears every byte from `lo` to `hi`, both included. -/
def State.clearBytes (s : State) (lo hi : Nat) : State :=
  { s with mem := s.mem.filter (fun c => decide (c.1 < lo ∨ hi < c.1)) }

end Sys2Proof.Machine
end

