-- ==== Sys2Proof/Machine/Light.lean ====
section
/-!
DEFINITION. Laser enable and DAC mute: R87 to R89 of spec/03_line_converters.md, and the safety-monitor request of
R366 of spec/15_safety_and_self_test.md that acts through the same path.
-/
namespace Sys2Proof.Machine

/-- The power state: 0 Active, 1 to 4 S1 to S4 (R348). -/
def pwrState (s : State) : Nat := s.fld R.PWR_STATUS F.PWR_STATUS_STATE

/-- The device is in S3 or S4. -/
def deepSleep (s : State) : Bool := decide (3 ≤ pwrState s)

/-- A monitor channel selected in SG3_MON is over its limit (R366). -/
def monRequest (s : State) : Bool :=
  (List.range 16).any fun c =>
    bitOf (s.fld R.SAF_SG3_CTRL F.SAF_SG3_CTRL_SG3_MON) c && s.flag (R.MON_RES c) F.MON_RES_OVER

/-- A safety-monitor request exists (R366): REQ, a selected monitor channel over its limit, or a rail outside its window. -/
def smRequest (s : State) : Bool :=
  s.flag R.SAF_SG3_CTRL F.SAF_SG3_CTRL_REQ || monRequest s || s.rails != 0

/-- SGk (k = 1 to 4) is in its safe state (R38). -/
def sgTripped (s : State) (k : Nat) : Bool :=
  bitOf (s.fld R.CHIP_FAULT_STATUS F.CHIP_FAULT_STATUS_SG_TRIPPED) (k - 1)

/-- LEN[n] is high. -/
def lenOut (s : State) (n : Nat) : Bool := bitOf (s.fld R.LINE_LEN_STATUS F.LINE_LEN_STATUS_LEN_OUT) n

/-- LEN_EN[n]. -/
def lenEn (s : State) (n : Nat) : Bool := bitOf (s.fld R.LINE_LEN_CTRL F.LINE_LEN_CTRL_LEN_EN) n

/-- The conditions of R87 that do not depend on the lane. -/
def lenAllowed (s : State) : Bool :=
  !s.inReset && s.txdisHigh && s.txdisOk && !sgTripped s 3 && !smRequest s && !s.vent

/-- MUTE[n] in force on the lane (R88). -/
def muteInForce (s : State) (n : Nat) : Bool := bitOf (s.actFld R.LINE_LEN_CTRL F.LINE_LEN_CTRL_MUTE) n

/-- A condition of R88 for muting the DAC of the lane holds, or the power state mutes it (R346), or a profile change that mutes every
DAC is in progress (R168). -/
def muteCond (s : State) (n : Fin 8) : Bool :=
  !lenOut s n || muteInForce s n || !s.flag (R.LINE_PLL_STATUS n) F.LINE_PLL_STATUS_LOCK ||
  !s.flag (R.LINE_FE_CFG n) F.LINE_FE_CFG_DAC_EN || !s.light[n].settled ||
  s.flag (R.LINE_CAL_STATUS n) F.LINE_CAL_STATUS_RUNNING || decide (2 ≤ pwrState s) ||
  (s.flag R.FEC_PROFILE F.FEC_PROFILE_BUSY && s.pwr.held.isNone)

/-- Mutes the DAC where R88 asks for it; unmuting waits for the transmit frame boundary. -/
def muteUpdate (n : Fin 8) (s : State) : State :=
  if muteCond s n then { s with light := vmod s.light n fun l => { l with muted := true } } else s

/-- At a transmit frame boundary the DAC unmutes when no condition of R88 holds. -/
def muteAtBoundary (n : Fin 8) (s : State) : State :=
  { s with light := vmod s.light n fun l => { l with muted := muteCond s n } }

/-- LEN[n] goes high and its settle time starts (R89, turn-on steps 3 and 4). -/
def lenRise (n : Fin 8) (s : State) : State :=
  let s := s.setFld R.LINE_LEN_STATUS F.LINE_LEN_STATUS_LEN_OUT (Nat.lor (s.fld R.LINE_LEN_STATUS F.LINE_LEN_STATUS_LEN_OUT) (2 ^ n.val))
  { s with light := vmod s.light n fun l => { l with settled := false, muted := true } }

/-- LEN[n] goes low and the DAC is muted; LEN_DROP[n] is set while LEN_EN[n] = 1 (R89). -/
def lenFall (n : Fin 8) (s : State) : State :=
  let s := s.clrBits R.LINE_LEN_STATUS F.LINE_LEN_STATUS_LEN_OUT (2 ^ n.val)
  let s := { s with light := vmod s.light n fun l => { l with settled := false, muted := true } }
  if lenEn s n then s.raise R.LINE_LEN_STATUS F.LINE_LEN_STATUS_LEN_DROP (2 ^ n.val) (160 + 8 * n + 4) else s

/-- Brings LEN[n] and the mute of the lane to what R87 and R88 ask for. -/
def lenLane (n : Fin 8) (s : State) : State :=
  let want := lenAllowed s && lenEn s n
  let s := if want && !lenOut s n then lenRise n s else if !want && lenOut s n then lenFall n s else s
  muteUpdate n s

/-- Applies R87 to R89 to every lane, and keeps the level and hold bits of LINE_LEN_STATUS. -/
def lenUpdate (s : State) : State :=
  let s := forLanes lenLane s
  let s := s.setFld R.LINE_LEN_STATUS F.LINE_LEN_STATUS_TXDIS_LVL (b2n s.txdisHigh)
  let s := s.setFld R.LINE_LEN_STATUS F.LINE_LEN_STATUS_SG3_HOLD (b2n (sgTripped s 3 || smRequest s))
  s.setFld R.LINE_LEN_STATUS F.LINE_LEN_STATUS_VENT_HOLD (b2n s.vent)

/-- A low TXDIS_N that the 15-sample qualifier accepts (R89). -/
def txdisAssert (s : State) : State := lenUpdate { s with txdisHigh := false, txdisOk := false }

/-- TXDIS_N rises: the count of TXDIS_FILT starts (R89). -/
def txdisDeassert (s : State) : State :=
  lenUpdate { s with txdisHigh := true, txdisOk := s.txdisHigh && s.txdisOk }

/-- TXDIS_N has been high for TXDIS_FILT (R89 step 2); nothing happens if it is low. -/
def txdisFiltExpiry (s : State) : State := lenUpdate { s with txdisOk := s.txdisHigh }

/-- LEN_SETTLE has elapsed since LEN[n] went high (R89 step 4). -/
def lenSettleExpiry (n : Fin 8) (s : State) : State :=
  if lenOut s n then { s with light := vmod s.light n fun l => { l with settled := true } } else s

end Sys2Proof.Machine
end

