-- ==== Sys2Proof/Machine/Chip.lean ====
section
/-!
DEFINITION. Faults that reach a region or the chip (R33, R36 to R39 of spec/01_architecture.md) and safety-goal trips
(R360, R361 of spec/15_safety_and_self_test.md).
-/
namespace Sys2Proof.Machine

/-- One second, ten seconds, one millisecond and one microsecond in the unit of `State.now`, 0.2 ns. -/
def cycSecond : Nat := 5000000000
def cyc10s : Nat := 50000000000
def cycMs : Nat := 5000000
def cycUs : Nat := 5000

/-- The times of a list that lie within the last `win` units of 0.2 ns. -/
def recent (now win : Nat) (l : List Nat) : List Nat := l.filter fun t => decide (now < t + win)

/-- The event to all hosts: to-host doorbell 31 of every port (R324). -/
def chipEvent (s : State) : State :=
  (List.range 3).foldl (fun s p =>
    s.setFld (R.MBX_DB_TOHOST p) F.MBX_DB_TOHOST_DB (Nat.lor (s.fld (R.MBX_DB_TOHOST p) F.MBX_DB_TOHOST_DB) 0x80000000)) s

/-- Asserts FAULT_N, which is low while CHIP_FAULT is 1, and raises the event to all hosts (R33, R38). -/
def assertFault (s : State) : State :=
  chipEvent (s.raise1 R.CHIP_FAULT_STATUS F.CHIP_FAULT_STATUS_CHIP_FAULT 1)

/-- The level of FAULT_N (R361). -/
def faultN (s : State) : Bool := !s.flag R.CHIP_FAULT_STATUS F.CHIP_FAULT_STATUS_CHIP_FAULT

/-- The level of SAFE_N: low while any bit of SG_TRIPPED is 1 (R361). -/
def safeN (s : State) : Bool := s.fld R.CHIP_FAULT_STATUS F.CHIP_FAULT_STATUS_SG_TRIPPED == 0

/-- CHIP_FAULT_STATUS.SAFE and SAF_SG_STATUS.IN_SAFE follow SG_TRIPPED (R361, R383). -/
def safeFollow (s : State) : State :=
  let t := s.fld R.CHIP_FAULT_STATUS F.CHIP_FAULT_STATUS_SG_TRIPPED
  (s.setFld R.CHIP_FAULT_STATUS F.CHIP_FAULT_STATUS_SAFE (b2n (t != 0))).setFld R.SAF_SG_STATUS F.SAF_SG_STATUS_IN_SAFE t

/-- The index of a region in CHIP_RERR0 to CHIP_RERR4. -/
def Region.idx : Region → Fin 5
  | .line => 0 | .host => 1 | .timing => 2 | .keep => 3 | .cistern => 4

/-- A region's fault escalates to the chip, and is journalled there also while CHIP_FAULT is 1 already (R33). -/
def chipEscalate (r : Region) (s : State) : State :=
  let s := if s.flag R.CHIP_FAULT_STATUS F.CHIP_FAULT_STATUS_CHIP_FAULT then s.journalFault 0x50 r.idx else s
  assertFault (s.setFld (R.CHIP_RERR r.idx) F.CHIP_RERR_ESCALATED 1)

/-- REGION_PEND follows the PEND fields of CHIP_RERRn (R38). -/
def pendFollow (s : State) : State :=
  s.setFld R.CHIP_FAULT_STATUS F.CHIP_FAULT_STATUS_REGION_PEND
    ((List.range 5).foldl (fun v r => v + s.fld (R.CHIP_RERR r) F.CHIP_RERR_PEND * 2 ^ r) 0)

/-- What a region's reaction acts on: for the Host region the faulty block's group, at bit 8 + group, else the lanes given (R36). -/
def reactionSet (r : Region) (block lanes : Nat) : Nat := if r = .host then 256 * 2 ^ (block % 2) else lanes

/-- A region fault (R33, R36, R38, R39): recorded in CHIP_RERRn and in the journal, also while PEND is 1 already; the reaction begins
for the lanes given, and the fault escalates to the chip at the REGION_REPEAT limit or when it affects a safety goal. -/
def regionFault (r : Region) (block cause lanes : Nat) (safety : Bool) (s : State) : State :=
  let a := R.CHIP_RERR r.idx
  let s := s.setFld a F.CHIP_RERR_LAST_BLOCK block
  let s := s.setFld a F.CHIP_RERR_CAUSE cause
  let s := s.addSat a F.CHIP_RERR_COUNT 1
  let s := if s.flag a F.CHIP_RERR_PEND then s.journalFault (16 * r.idx + block) cause else s
  let s := pendFollow (s.raise1 a F.CHIP_RERR_PEND (2 + r.idx))
  let fs := s.now :: recent s.now cyc10s s.region[r.idx].faults
  let s := { s with region := vmod s.region r.idx fun g =>
    { g with reacting := true, fresh := true, lanes := Nat.lor g.lanes (reactionSet r block lanes), faults := fs } }
  if safety || decide (s.fld R.CHIP_ESC_CFG F.CHIP_ESC_CFG_REGION_REPEAT ≤ fs.length) then chipEscalate r s else s

/-- Whether the goal's trip is enabled in SAF_CFG (R360). -/
def sgEnabled (s : State) (k : Nat) : Bool := bitOf (s.fld R.SAF_CFG F.SAF_CFG_SG_EN) (k - 1)

/-- TRIPk is set and the trip is journalled, also when TRIPk was already 1 (R360, R364). -/
def raiseTrip (k : Nat) (s : State) : State :=
  let s := s.setFld R.SAF_SG_STATUS F.SAF_SG_STATUS_TRIP (Nat.lor (s.fld R.SAF_SG_STATUS F.SAF_SG_STATUS_TRIP) (2 ^ (k - 1)))
  s.journal (391 + k) (s.reg R.SAF_SG_STATUS).toNat

/-- A trip of SGk (R360). The goal's own safe state is entered through SG_TRIPPED: the lasers and DACs for SG3
follow at once (R87). -/
def sgTrip (k : Nat) (s : State) : State :=
  if sgEnabled s k then
    let s := s.setFld R.CHIP_FAULT_STATUS F.CHIP_FAULT_STATUS_SG_TRIPPED
      (Nat.lor (s.fld R.CHIP_FAULT_STATUS F.CHIP_FAULT_STATUS_SG_TRIPPED) (2 ^ (k - 1)))
    let s := raiseTrip k (safeFollow s)
    lenUpdate (assertFault s)
  else s

/-- SGk leaves its safe state (R361). -/
def sgRelease (k : Nat) (s : State) : State :=
  lenUpdate (safeFollow (s.clrBits R.CHIP_FAULT_STATUS F.CHIP_FAULT_STATUS_SG_TRIPPED (2 ^ (k - 1))))

end Sys2Proof.Machine
end

