-- ==== Sys2Proof/Machine/Ports.lean ====
section
/-!
DEFINITION. Data ports and lanes of the port configuration in force (R148), line rates (R73) and the poison counters
(R166).
-/
namespace Sys2Proof.Machine

/-- Lanes per data port of a PORT_CFG code: 8, 4, 2, 1 and 1 (R148). -/
def lanesPerPort (cfg : Nat) : Nat := match cfg with | 0 => 8 | 1 => 4 | 2 => 2 | _ => 1

/-- PORT_CFG in force. -/
def portCfg (s : State) : Nat := s.fld R.FEC_PROFILE F.FEC_PROFILE_PORT_EFF

/-- The data port that uses a lane. -/
def portOfLane (s : State) (n : Nat) : Nat := n / lanesPerPort (portCfg s)

/-- The lowest lane of a data port. -/
def portLow (s : State) (p : Nat) : Nat := p * lanesPerPort (portCfg s)

/-- The data port exists in the port configuration in force. -/
def portExists (s : State) (p : Nat) : Bool := decide (portLow s p < 8)

/-- The lanes of a data port. -/
def lanesOfPort (s : State) (p : Nat) : List (Fin 8) :=
  (List.finRange 8).filter fun n => portOfLane s n == p

/-- The profile in force. -/
def profileEff (s : State) : Profile :=
  match s.fld R.FEC_PROFILE F.FEC_PROFILE_PROFILE_EFF with | 0 => .deep | 1 => .standard | _ => .spring

/-- A Deep port of 1×1600G or 2×800G is lane-spread (R148): its codeword counters count on its lowest lane. -/
def laneSpread (s : State) : Bool := decide (profileEff s = .deep) && decide (portCfg s ≤ 1)

/-- The lane whose codeword counters count for lane `n` (R172). -/
def counterLane (s : State) (n : Nat) : Nat := if laneSpread s then portLow s (portOfLane s n) else n

/-- The symbol rate of a RATE code in kBd (R73). -/
def rateKbd (rate : Nat) : Nat :=
  match rate with | 0 => 113900000 | 1 => 113437500 | 2 => 106250000 | _ => 53125000

/-- The RATE code of a profile and LEGACY setting (R148). -/
def rateOf (p : Profile) (legacy : Bool) : Nat :=
  match p with
  | .deep => 0
  | .standard => if legacy then 3 else 1
  | .spring => if legacy then 3 else 2

/-- The line rate of the lane, in kBd. -/
def laneRate (s : State) (n : Nat) : Nat := rateKbd (s.fld (R.LINE_PLL_CFG n) F.LINE_PLL_CFG_RATE)

/-- Updates what a lane's framing holds. -/
def modFrm (n : Fin 8) (g : FrmSt → FrmSt) (s : State) : State := { s with frm := vmod s.frm n g }

/-- The lane that leads its port: the port's lowest lane. -/
def leadLane (s : State) (n : Fin 8) : Fin 8 := lane (portLow s (portOfLane s n))

/-! ### Poison (R166) -/

/-- The bits that a lane carries of a group of four KP4 codewords, the least common unit of the standard's interleaving. -/
def groupBits (s : State) : Nat := 21760 / lanesPerPort (portCfg s)

/-- The codeword of the port, counted from where its monitor took lock, and the bit of it, that the bit `pos` places further on in a lane's
stream belongs to. -/
def kp4At (s : State) (n : Fin 8) (pos : Nat) : Nat × Nat :=
  let seg := groupBits s
  let k := Config.kp4Bit (lanesPerPort (portCfg s)) ((n.val - (leadLane s n).val) * seg + pos % seg)
  (4 * (pos / seg) + k / 5440 % 4, k % 5440)

/-- The symbols that poison inverts: 18k, k = 0 to 29. -/
def poisonSym (bit : Nat) : Bool := bit / 10 % 18 == 0 && decide (bit / 10 < 540)

/-- What is to be poisoned of a direction of the lane's stream. -/
def marksOf (s : State) (tx : Bool) (n : Fin 8) : List PMark := if tx then s.frm[n].txMarks else s.frm[n].rxMarks

/-- The place of a lane's stream at the poison point of a direction. -/
def posOf (s : State) (tx : Bool) (n : Fin 8) : Nat := if tx then s.frm[n].txPos else s.frm[n].rxPos

/-- The place from which the KP4 codewords of a direction are counted. -/
def baseOf (s : State) (tx : Bool) (n : Fin 8) : Nat := if tx then s.frm[n].txBase else s.frm[n].rxBase

/-- The monitor of a direction of the lane's port has codeword lock (R186). -/
def dirLocked (s : State) (tx : Bool) (n : Fin 8) : Bool :=
  s.flag (R.HOST_MON_STATUS (portOfLane s n) (if tx then 0 else 1)) F.HOST_MON_STATUS_LOCK

/-- The bit at `pos` lies in a KP4 codeword that the direction's monitor has counted. -/
def inCodewords (s : State) (tx : Bool) (n : Fin 8) (pos : Nat) : Bool := dirLocked s tx n && decide (baseOf s tx n ≤ pos)

/-- What is poisoned for the sake of the bit at `pos` of a lane's stream: its KP4 codeword, or without codeword lock its block of 5,440 bits
(R166). -/
def markAt (s : State) (tx : Bool) (n : Fin 8) (pos : Nat) : PMark :=
  if inCodewords s tx n pos then { base := baseOf s tx n, cw := (kp4At s n (pos - baseOf s tx n)).1, whole := false }
  else { base := 0, cw := pos / 5440, whole := true }

/-- Adds marks to a lane's stream. -/
def addMarks (tx : Bool) (l : List PMark) (k : Fin 8) (s : State) : State :=
  modFrm k (fun f => if tx then { f with txMarks := f.txMarks ++ l } else { f with rxMarks := f.rxMarks ++ l }) s

/-- Data of the lane's stream is to be poisoned: a KP4 codeword on every lane of its port, and each counts once, on the lane or on the
lowest lane of a lane-spread port (R34, R166). -/
def poisonMark (tx : Bool) (n : Fin 8) (l : List PMark) (s : State) : State :=
  let new := l.eraseDups.filter fun m => !(marksOf s tx n).contains m
  let s' := (lanesOfPort s (portOfLane s n)).foldl (fun t k =>
    addMarks tx ((new.filter fun m => !m.whole || k == n).map fun m => if m.whole then m else { m with base := baseOf s tx k }) k t) s
  s'.addSat (R.FEC_LN_POISON (counterLane s n)) (if tx then F.FEC_LN_POISON_POISON_TX else F.FEC_LN_POISON_POISON_RX) new.length

/-- What holds the `len` bits from `pos` on of a lane's stream is to be poisoned. -/
def poisonBits (tx : Bool) (n : Fin 8) (pos len : Nat) (s : State) : State :=
  poisonMark tx n ((List.range len).map fun i => markAt s tx n (pos + i)) s

/-- The next `k` KP4 codewords of the lane's port that are not poisoned yet, from the group at the poison point on; without codeword lock
blocks of the lane's stream. -/
def nextMarks (s : State) (tx : Bool) (n : Fin 8) (k : Nat) : List PMark :=
  let old := marksOf s tx n
  let pos := posOf s tx n
  let base := baseOf s tx n
  let mk (i : Nat) : PMark := if inCodewords s tx n pos then { base := base, cw := 4 * ((pos - base) / groupBits s) + i, whole := false }
    else { base := 0, cw := pos / 5440 + i, whole := true }
  (((List.range (k + old.length)).map mk).filter fun x => !old.contains x).take k

/-- Poisons `k` KP4 codewords toward the host, or toward the line. -/
def poisonRx (n k : Nat) (s : State) : State := poisonMark false (lane n) (nextMarks s false (lane n) k) s
def poisonTx (n k : Nat) (s : State) : State := poisonMark true (lane n) (nextMarks s true (lane n) k) s

/-- The bit of SAF_SG1_SAFE for a port and direction (0 toward the line, 1 toward the host). -/
def sg1Bit (p : Fin 8) (d : Fin 2) : Nat := p + 8 * d

/-- The port and direction is in the safe state of SG1. -/
def sg1Safe (s : State) (p : Fin 8) (d : Fin 2) : Bool := bitOf (s.reg R.SAF_SG1_SAFE).toNat (sg1Bit p d)

/-- While a port and direction is in the safe state of SG1, everything that passes its poison point is poisoned (R364). -/
def sg1Poison (tx : Bool) (n : Fin 8) (len : Nat) (s : State) : State :=
  if sg1Safe s (lane (portOfLane s n)) (if tx then 0 else 1) then poisonBits tx n (posOf s tx n) len s else s

/-- Whether a mark inverts the bit at `pos` of the lane's stream: the bits of a codeword's symbols 18k, or every bit of a block (R166). -/
def PMark.inverts (s : State) (n : Fin 8) (pos : Nat) (m : PMark) : Bool :=
  if m.whole then pos / 5440 == m.cw
  else decide (m.base ≤ pos) && (let q := kp4At s n (pos - m.base); q.1 == m.cw && poisonSym q.2)

/-- Whether the bit at `pos` is inverted. -/
def poisoned (s : State) (tx : Bool) (n : Fin 8) (pos : Nat) : Bool := (marksOf s tx n).any (·.inverts s n pos)

/-- The bits of a lane as they pass the poison point. -/
def throughPoison (s : State) (tx : Bool) (n : Fin 8) (l : List (Option Bool)) : List (Option Bool) :=
  if (marksOf s tx n).isEmpty then l
  else l.zipIdx.map fun p => if poisoned s tx n (posOf s tx n + p.2) then p.1.map (!·) else p.1

/-- The lane's stream has passed all that a mark inverts. -/
def PMark.passed (s : State) (pos : Nat) (m : PMark) : Bool :=
  decide ((if m.whole then 5440 * (m.cw + 1) else m.base + groupBits s * (m.cw / 4 + 1)) ≤ pos)

/-- Bits have passed: the lane's place moves on, and marks that it has passed are forgotten. -/
def passPoison (tx : Bool) (n : Fin 8) (k : Nat) (s : State) : State :=
  let pos := posOf s tx n + k
  let l := (marksOf s tx n).filter fun m => !m.passed s pos
  modFrm n (fun f => if tx then { f with txPos := pos, txMarks := l } else { f with rxPos := pos, rxMarks := l }) s

/-- The monitor of a direction sees bits of the lane's stream: it keeps those that follow its lock until it decodes them (R185, R187). -/
def monSees (tx : Bool) (n : Fin 8) (l : List (Option Bool)) (s : State) : State :=
  if dirLocked s tx n then
    modFrm n (fun f => if tx then { f with txSeen := f.txSeen ++ l } else { f with rxSeen := f.rxSeen ++ l }) s
  else s

/-! ### Host lanes (R174, R183, R184, R189) -/

/-- The test mode selected: 3 is taken as 0 (R190). -/
def hostTest (s : State) : Nat := let t := s.fld R.HOST_CTRL F.HOST_CTRL_TEST; if t = 3 then 0 else t

/-- The physical receive lane of logical lane i, and the physical transmit lane it drives (R174). -/
def rxMap (s : State) (i : Nat) : Fin 8 := lane (s.fld R.HOST_RX_MAP F.HOST_RX_MAP_MAP / 8 ^ i)
def txMap (s : State) (i : Nat) : Fin 8 := lane (s.fld R.HOST_TX_MAP F.HOST_TX_MAP_MAP / 8 ^ i)

/-- A host-lane group is being reinitialised, on its own or by its region (R35, R36). -/
def groupReacting (s : State) (g : Fin 2) : Bool :=
  (s.blocks.any fun b => b.block == .hostGroup g && b.reacting && decide (s.now < b.ends)) ||
  (s.region[(1 : Fin 5)].reacting && bitOf (s.region[(1 : Fin 5)].lanes / 256) g)

/-- What logical lane i sends to the host (R183, R184, R189): data, PRBS31 fill, electrical idle, nothing while its group is reinitialised,
the host island is off or a boundary-scan instruction drives its balls (R411), its receiver's own data in loopback, PRBS31 as a test, or
the frames of link training (R180). -/
inductive HostOut where
  | data | fill | idle | none | loopback | prbs | training
  deriving DecidableEq, Repr

/-- The transmit side of logical lane i (R180, R183, R184, R189). A lane trains while its physical lane is in TRAINING. -/
def hostOut (s : State) (i : Fin 8) : HostOut :=
  if s.sec.driven || decide (3 ≤ s.fld R.PWR_STATUS F.PWR_STATUS_STATE) then .none
  else if s.fld R.PWR_STATUS F.PWR_STATUS_STATE ≠ 0 then .idle
  else if groupReacting s (if (txMap s i).val < 4 then 0 else 1) then .none
  else if hostTest s = 1 then .loopback
  else if hostTest s = 2 then .prbs
  else if s.fld (R.HOST_LN_STATUS (txMap s i)) F.HOST_LN_STATUS_STATE = 3 then .training
  else if s.host.fail[i] then (if s.flag R.HOST_CTRL F.HOST_CTRL_RX_FAIL_ACTION then .idle else .fill)
  else .data

/-- The bits that arrived for logical lane i, of those that arrived at each physical lane: HOST_RX_MAP names the lane, and its RX_POL
inverts them (R174, R175). -/
def hostArrived (s : State) (l : List (List Bool)) (i : Fin 8) : List Bool :=
  ((l[(rxMap s i).val]?).getD []).map (xor (s.flag (R.HOST_LN_CFG (rxMap s i)) F.HOST_LN_CFG_RX_POL))

/-- Bits of line lane n leave toward the host transmitter (R166, R174): through the poison point, and into the deframer's output buffer
(R155); the physical lane that HOST_TX_MAP names sends them where it carries data, inverted by its TX_POL (R175, R184). -/
def toHost (n : Fin 8) (l : List (Option Bool)) (s : State) : State :=
  let s := sg1Poison false n l.length s
  let h := txMap s n
  let inv := s.flag (R.HOST_LN_CFG h) F.HOST_LN_CFG_TX_POL
  let data := decide (hostOut s n = .data)
  let sent := if data then (throughPoison s false n l).map (·.map (xor inv)) else []
  let lvl := if data then s.host.level[n] + 200000000 * l.length else s.host.level[n]
  passPoison false n l.length { s with host := { s.host with out := s.host.out.set h sent, level := s.host.level.set n lvl } }

/-- Adds a record to the repair export list; a 65th sets OVF and is not kept (R288). -/
def addRepair (r : RepairRec) (s : State) : State :=
  if s.rpr.length < 64 then
    let s := { s with rpr := s.rpr ++ [r] }
    s.setFld R.BOOT_RPR_COUNT F.BOOT_RPR_COUNT_COUNT s.rpr.length
  else s.setFld R.BOOT_RPR_COUNT F.BOOT_RPR_COUNT_OVF 1

end Sys2Proof.Machine
end

