-- ==== Sys2Proof/Machine/Ecc.lean ====
section
/-!
DEFINITION. The words of the cistern: poison, SECDED, remapping and the merge buffer (R259 to R263 of spec/10_cistern.md), which every
requester's read and write goes through.
-/
namespace Sys2Proof.Machine

/-- Updates the cistern controller. -/
def modCis (g : CisSt → CisSt) (s : State) : State := { s with cis := g s.cis }

/-- A flag of CIS_STATUS. -/
def cisFlag (s : State) (f : Fld) : Bool := s.flag R.CIS_STATUS f

/-- Raises event bit 16 + j of CIS_STATUS: interrupt source 368 + j (R273, R340). -/
def cisEvent (f : Fld) (s : State) : State := s.raise1 R.CIS_STATUS f (368 + (f.lo - 16))

/-! ### Remapping (R261) -/

/-- The remap entry in force for a line number. -/
def remapOf (s : State) (line : Nat) : Option Nat :=
  (List.range 8).find? fun k => s.flag (R.CIS_REMAP k) F.CIS_REMAP_VALID && s.fld (R.CIS_REMAP k) F.CIS_REMAP_LINE_ADDR == line

/-- The lowest free spare that has no fault of its own (R261). -/
def freeSpare (s : State) : Option Nat :=
  (List.range 8).find? fun k => !s.flag (R.CIS_REMAP k) F.CIS_REMAP_VALID && !s.cis.badSpares.contains k

/-- The spare that a line number names (R254). -/
def spareOf (line : Nat) : Option Nat := if 0x57FFFF8 ≤ line ∧ line < 0x5800000 then some (line - 0x57FFFF8) else none

/-- The entry in force that uses the spare at a line number. -/
def spareUse (s : State) (line : Nat) : Option Nat :=
  match spareOf line with
  | some k => if s.flag (R.CIS_REMAP k) F.CIS_REMAP_VALID then some (s.fld (R.CIS_REMAP k) F.CIS_REMAP_LINE_ADDR) else none
  | none => none

/-- The line whose data stand at a line number: a spare in use holds those of the line that it replaces. -/
def homeLine (s : State) (line : Nat) : Nat := (spareUse s line).getD line

/-- The number under which a word's poison is kept: that of its home line. -/
def homeWord (s : State) (w : Nat) : Nat := homeLine s (w / 4) * 4 + w % 4

/-- Creates a remap entry with its cause; with every spare in use only REMAP_FULL is left (R261). A line that is remapped
already has a faulty spare, and its entry moves to the next free one. -/
def remapCreate (line cause : Nat) (s : State) : State :=
  match freeSpare s with
  | none => s.setFld R.CIS_STATUS F.CIS_STATUS_REMAP_FULL 1
  | some k =>
    let s := match remapOf s line with
      | some o => modCis (fun c => { c with badSpares := o :: c.badSpares }) (s.setReg (R.CIS_REMAP o) 0)
      | none => s
    let a := R.CIS_REMAP k
    let s := ((s.setFld a F.CIS_REMAP_LINE_ADDR line).setFld a F.CIS_REMAP_CAUSE cause).setFld a F.CIS_REMAP_VALID 1
    let s := addRepair { typ := 1, unit := 0, loc := line } (cisEvent F.CIS_STATUS_REMAP_EV s)
    if (freeSpare s).isNone then s.setFld R.CIS_STATUS F.CIS_STATUS_REMAP_FULL 1 else s

/-- Marks a word as known-bad. -/
def poisonWord (w : Nat) (s : State) : State :=
  let w := homeWord s w
  if s.cis.poison.contains w then s else modCis (fun c => { c with poison := w :: c.poison }) s

/-- An entry for a line that holds data: the copy poisons the words that it finds uncorrectable, which are open
(notes/assumptions/147.md). -/
def remapCopy (line cause : Nat) (s : State) : State :=
  let (m, s) := s.fresh 4
  remapCreate line cause (([0, 1, 2, 3].filter (bitOf m)).foldl (fun s i => poisonWord (line * 4 + i) s) s)

/-- A line that the controller found faulty is remapped (R261). A fault of a spare line moves the entry that uses it; one that no entry
uses is not used later. -/
def remapFault (line cause : Nat) (s : State) : State :=
  match spareOf line, spareUse s line with
  | some k, none => modCis (fun c => { c with badSpares := k :: c.badSpares }) s
  | _, _ => remapCreate (homeLine s line) cause s

/-- The controller remaps on its own. -/
def autoRemap (s : State) : Bool := s.flag R.CIS_CFG F.CIS_CFG_AUTO_REMAP

/-- A fault of the line creates a remap entry, or moves one. -/
def willRemap (s : State) (line : Nat) : Bool :=
  autoRemap s && (freeSpare s).isSome && ((spareOf line).isNone || (spareUse s line).isSome)

/-! ### Poison and reads (R259, R260) -/

/-- A write of all 64 bits replaces the word, poison included. -/
def unpoisonWord (w : Nat) (s : State) : State := modCis (fun c => { c with poison := c.poison.filter (· != w) }) s

/-- A word carries the poison check byte, also seen at the address of a spare in use. -/
def poisonAt (s : State) (w : Nat) : Bool := s.cis.poison.contains (homeWord s w)

/-- A correctable error (R259). -/
def correctable (s : State) : State :=
  cisEvent F.CIS_STATUS_CE_EV (s.addSat R.CIS_ECC_CNT F.CIS_ECC_CNT_CE_COUNT 1)

/-- An uncorrectable word is recorded with its source (R259). -/
def uncorrectable (word src : Nat) (poisoned remapped : Bool) (s : State) : State :=
  let s := s.addSat R.CIS_ECC_CNT F.CIS_ECC_CNT_UE_COUNT 1
  let s := s.setFld R.CIS_UE_ADDR F.CIS_UE_ADDR_ADDR (word * 8)
  let s := s.setFld R.CIS_UE_INFO F.CIS_UE_INFO_SOURCE src
  let s := s.setFld R.CIS_UE_INFO F.CIS_UE_INFO_POISONED (b2n poisoned)
  let s := s.setFld R.CIS_UE_INFO F.CIS_UE_INFO_REMAPPED (b2n remapped)
  cisEvent F.CIS_STATUS_UE_EV s

/-- A first attempt that was uncorrectable counts toward the burst of R262. -/
def burstCount (s : State) : State :=
  modCis (fun c => { c with burst := s.now :: recent s.now cycMs c.burst }) s

/-- What a read of one word meets, before its line is remapped: whether it gives ECC, the cause of a remap if there is one, and the state
(R259, R261). A poisoned word is neither retried nor a reason to remap, and does not count toward the burst. -/
def meetWord (word src : Nat) (f : CisFault) (s : State) : Bool × Option Nat × State :=
  if poisonAt s word then (true, none, uncorrectable word src true false s)
  else match f with
    | .none => (false, none, s)
    | .single hard => (false, if hard then some 0 else none, correctable s)
    | .uncorr true hard => (false, if hard then some 0 else none, correctable (burstCount s))
    | .uncorr false _ => (true, some 1, uncorrectable word src false (willRemap s (word / 4)) (burstCount s))

/-- The line of a read is remapped (R261): `seen` are the words that the read took, `bad` those that gave ECC. The copy poisons every
uncorrectable word: those, and of the other words the ones that it finds uncorrectable itself, which are open. -/
def remapRead (line cause : Nat) (seen bad : List Nat) (s : State) : State :=
  if willRemap s line then
    let (m, s) := if 4 ≤ seen.length then (0, s) else s.fresh 4
    let worse := [0, 1, 2, 3].filter fun i => bad.contains i || (bitOf m i && !seen.contains i)
    remapFault line cause (worse.foldl (fun s i => poisonWord (line * 4 + i) s) s)
  else if autoRemap s then remapFault line cause s
  else s

/-- What meets a read of several words of one line, each with what it finds: the words that give ECC, the cause of a remap, and the state. -/
def meetWords (line src : Nat) (l : List (Nat × CisFault)) (s : State) : List Nat × Option Nat × State :=
  l.foldl (fun b p =>
    let (bad, c, t) := meetWord (line * 4 + p.1) src p.2 b.2.2
    (if bad then b.1 ++ [p.1] else b.1, b.2.1.orElse (fun _ => c), t)) ([], none, s)

/-- A read of several words of one line: those that give ECC, and the state. The line is remapped at most once. -/
def readLine (line src : Nat) (l : List (Nat × CisFault)) (s : State) : List Nat × State :=
  let (bad, c, s) := meetWords line src l s
  match c with
  | some c => (bad, remapRead line c (l.map (·.1)) bad s)
  | none => (bad, s)

/-- What a read of a 64-bit word gives: whether it is uncorrectable, and the state (R259, R261). -/
def readWord (word src : Nat) (f : CisFault) (s : State) : Bool × State :=
  let (bad, s) := readLine (word / 4) src [(word % 4, f)] s
  (!bad.isEmpty, s)

/-! ### Writes and the merge buffer (R263) -/

/-- The byte mask of word i of a line is complete. -/
def wordFull (mask i : Nat) : Bool := mask / 256 ^ i % 256 == 255
def wordTouched (mask i : Nat) : Bool := mask / 256 ^ i % 256 != 0

/-- The words of an entry that are written only in part: they are read when the entry leaves. -/
def partWords (mask : Nat) : List Nat := [0, 1, 2, 3].filter fun i => wordTouched mask i && !wordFull mask i

/-- An entry leaves the buffer: full words replace what was there, poison included; a partly written word is read, and the
read that `f` describes, or the word's poison, may leave it poisoned (R263). -/
def mergeLeave (e : MergeEntry) (f : Nat → CisFault) (s : State) : State :=
  let s := modCis (fun c => { c with merge := c.merge.filter fun x => x.line != e.line }) s
  let (bad, s) := readLine e.line 10 ((partWords e.mask).map fun i => (i, f i)) s
  let s := bad.foldl (fun s i => poisonWord (e.line * 4 + i) (cisEvent F.CIS_STATUS_RMW_UE s)) s
  ([0, 1, 2, 3].filter (wordFull e.mask)).foldl (fun s i => unpoisonWord (e.line * 4 + i) s) s

/-- What an open value says that a read finds. -/
def CisFault.ofNat : Nat → CisFault
  | 1 => .single false
  | 2 => .single true
  | 3 => .uncorr true
  | 4 => .uncorr true true
  | 5 => .uncorr false
  | _ => .none

/-- An entry leaves with no command of its own to say what its reads find: displaced by a new entry, or drained. That is open. -/
def mergePush (e : MergeEntry) (s : State) : State :=
  let (v, s) := if (partWords e.mask).isEmpty then (0, s) else s.fresh 12
  mergeLeave e (fun i => .ofNat (v / 8 ^ i % 8)) s

/-- Every entry leaves. -/
def mergeDrain (s : State) : State := s.cis.merge.foldl (fun s e => mergePush e s) s

/-- The bytes of a line that a write of `k` bytes at `a` covers. -/
def writeMask (line a k : Nat) : Nat :=
  (List.range 32).foldl (fun m i => if a ≤ line * 32 + i ∧ line * 32 + i < a + k then m + 2 ^ i else m) 0

/-- The part of a write in one line. -/
def mergeWrite (line mask : Nat) (s : State) : State :=
  match s.cis.merge.find? (fun e => e.line == line) with
  | some e =>
    let m := Nat.lor e.mask mask
    if m = 2 ^ 32 - 1 then mergePush { e with mask := m } s
    else modCis (fun c => { c with merge := c.merge.map fun x => if x.line = line then { x with mask := m } else x }) s
  | none =>
    if mask = 2 ^ 32 - 1 then mergePush { line := line, mask := mask } s
    else
      let s := match s.cis.merge with
        | e :: _ => if 16 ≤ s.cis.merge.length then mergePush e s else s
        | [] => s
      modCis (fun c => { c with merge := c.merge ++ [{ line := line, mask := mask }] }) s

/-- Bytes that stand in memory already pass through the merge buffer, as writes of `k` bytes at `a`. -/
def cisWritten (a k : Nat) (s : State) : State :=
  ((List.range ((a + k - 1) / 32 - a / 32 + 1)).map (a / 32 + ·)).foldl (fun s l => mergeWrite l (writeMask l a k) s) s

/-- Whole words from `lo` to `hi` have been written past the merge buffer: their check bits are right, and no entry of their lines is
left to write. -/
def wordsWritten (lo hi : Nat) (s : State) : State :=
  modCis (fun c => { c with merge := c.merge.filter fun e => decide (e.line * 32 < lo ∨ hi < e.line * 32) })
    (unpoison (lo / 8) (hi / 8) s)

/-- A posted write of `k` bytes of `v` at address `a` (R256, R263). -/
def cisStore (a k v : Nat) (s : State) : State := cisWritten a k (s.setBytesNat a v k)

/-- Bytes of a word that the merge buffer holds whole for the access: no memory word is read for them (R256). -/
def mergeHolds (s : State) (a k : Nat) : Bool :=
  match s.cis.merge.find? (fun e => e.line == a / 32) with
  | some e => Nat.land e.mask (writeMask (a / 32) a k) == writeMask (a / 32) a k
  | none => false

/-- A read of a whole 64-bit word by a requester: the merge buffer's copy where it holds it, else the memory's. -/
def fetchWord (word src : Nat) (f : CisFault) (s : State) : Bool × State :=
  if mergeHolds s (word * 8) 8 then (false, s) else readWord word src f s

/-- A number put into a strictly rising list. -/
def insertUp (w : Nat) : List Nat → List Nat
  | [] => [w]
  | x :: t => if w < x then w :: x :: t else if w = x then x :: t else x :: insertUp w t

/-- The words from `lo` to `hi` whose read meets something: those known to be bad, and those that `found` lists. -/
def metWords (lo hi : Nat) (found : List (Nat × CisFault)) (s : State) : List Nat :=
  ((s.cis.poison ++ found.map (·.1)).filter fun w => decide (lo ≤ w) && decide (w ≤ hi)).foldl (fun l w => insertUp w l) []

/-- A requester reads the words from `lo` to `hi` in order, of which `found` lists the faults: those that give ECC, and the state. -/
def fetchWords (src lo hi : Nat) (found : List (Nat × CisFault)) (s : State) : List Nat × State :=
  (metWords lo hi found s).foldl (fun b w =>
    let (bad, t) := fetchWord w src ((found.lookup w).getD .none) b.2
    (if bad then b.1 ++ [w] else b.1, t)) ([], s)

end Sys2Proof.Machine
end

