-- ==== Sys2Proof/Machine/Ldpc.lean ====
section
/-!
DEFINITION. The Deep inner code: the parity-check matrix and encoder of R157, the scrambler of R153, the header's check
of R151 and the decoder of R160, of spec/06_line_framing_and_inner_code.md.
-/
namespace Sys2Proof.Machine

/-- The shift of block (r, c) of H, where the block is not zero (R157). -/
def hShift (r c : Nat) : Option Nat :=
  if c < 60 then (if r = c % 4 then none else some ((5 * r + 3 * c + r * c) % 16))
  else if c = 60 then (match r with | 0 => some 1 | 1 => some 0 | 3 => some 1 | _ => none)
  else if r = c - 61 ∨ r = c - 60 then some 0 else none

/-- The codeword bits that check row i of block row r covers. -/
def checkBits (r i : Nat) : List Nat :=
  (List.range 64).filterMap fun c => (hShift r c).map fun sh => 16 * c + (i + sh) % 16

/-- The seep code's checks: the shift of block (r, c) of its matrix, where the block is not zero (R198). -/
def seepShift (r c : Nat) : Option Nat :=
  if c < 16 then (if r = c ∨ r = (c + 5) % 16 ∨ r = (c + 11) % 16 then some ((7 * r + 3 * c + r * c) % 32) else none)
  else if r = c - 16 ∨ (r = c - 15 ∧ c < 31) then some 0 else none

/-- A code as its decoder sees it: the number of check rows and the bits that each covers. -/
inductive InnerCode where
  | deep | seep
  deriving DecidableEq, Repr

/-- The number of check rows. -/
def InnerCode.rows : InnerCode → Nat
  | .deep => 64
  | .seep => 512

/-- The bits that a check row covers. -/
def InnerCode.check : InnerCode → Nat → List Nat
  | .deep, k => checkBits (k / 16) (k % 16)
  | .seep, k => (List.range 32).filterMap fun c => (seepShift (k / 32) c).map fun sh => 32 * c + (k % 32 + sh) % 32

/-- Whether a word of 1,024 bits satisfies every check. -/
def syndromeZero (c : InnerCode) (bits : Array Bool) : Bool :=
  (List.range c.rows).all fun k => !((c.check k).foldl (fun b j => xor b (bits.getD j false)) false)

/-- The information part of row i of block row r. -/
def infoPart (info : Array Bool) (r i : Nat) : Bool :=
  ((checkBits r i).filter (fun j => decide (j < 960))).foldl (fun b j => xor b (info.getD j false)) false

/-- The parity bits of 960 information bits (R157). -/
def ldpcParity (info : Array Bool) : List Bool :=
  let s (r i : Nat) : Bool := infoPart info r (i % 16)
  let p0 (i : Nat) : Bool := xor (xor (s 0 i) (s 1 i)) (xor (s 2 i) (s 3 i))
  let p1 (i : Nat) : Bool := xor (s 0 i) (p0 ((i + 1) % 16))
  let p2 (i : Nat) : Bool := xor (xor (s 1 i) (p0 i)) (p1 i)
  let p3 (i : Nat) : Bool := xor (s 2 i) (p2 i)
  let l := List.range 16
  l.map p0 ++ l.map p1 ++ l.map p2 ++ l.map p3

/-- The parity bits of 512 information bits under the seep code: p_0 = s_0 and p_r = s_r xor p_{r−1} (R198). -/
def seepParity (info : Array Bool) : List Bool :=
  let s (r i : Nat) : Bool :=
    ((InnerCode.seep.check (32 * r + i)).filter (fun j => decide (j < 512))).foldl (fun b j => xor b (info.getD j false)) false
  (List.range 16).flatMap fun r => (List.range 32).map fun i =>
    (List.range (r + 1)).foldl (fun b q => xor b (s q i)) false

/-- The lane seed of the scrambler (R153). -/
def scrSeed (n : Nat) : Nat := 0x7FFFFFFF - n * 0x01010101

/-- CRC-16 with polynomial x^16 + x^12 + x^5 + 1 and initial value 0xFFFF over a list of bits (R151). -/
def crc16 (bits : List Bool) : Nat :=
  bits.foldl (fun c b =>
    let top := xor (decide (c / 0x8000 % 2 = 1)) b
    let sh := c * 2 % 0x10000
    if top then Nat.xor sh 0x1021 else sh) 0xFFFF

/-! ### The decoder -/

/-- A decoder's working values: posteriors and check-to-bit messages, the messages by check row and position. -/
structure DecState where
  post : Array Int
  msg : Array (Array Int)
  s : State

/-- A check-to-bit magnitude scaled by NORM / 8. The spec names no rounding: an inexact value is the one below or
above, as the free value says. -/
def scaleMsg (norm m : Nat) (s : State) : Nat × State :=
  if norm * m % 8 = 0 then (norm * m / 8, s)
  else
    let (b, s) := s.fresh 1
    (norm * m / 8 + b, s)

/-- One check row of a layer (R160): bit-to-check values, their two smallest magnitudes and the product of their signs
give the new messages; posteriors saturate to 8 bits. The spec gives these messages no width: the model takes no minimum above 128, the
largest magnitude of a posterior (DESIGN CHOICE, notes/assumptions/146.md). -/
def checkRow (c : InnerCode) (norm k : Nat) (d : DecState) : DecState :=
  let bits := c.check k
  let old := d.msg.getD k #[]
  let v := bits.zipIdx.map fun p => d.post.getD p.1 0 - old.getD p.2 0
  let neg := v.foldl (fun b x => xor b (decide (x < 0))) false
  let minOf (skip : Nat) : Nat :=
    (v.zipIdx.filter (fun p => p.2 != skip)).foldl (fun m p => min m p.1.natAbs) 128
  let i1 := (v.zipIdx.foldl (fun (b : Nat × Nat) p => if p.1.natAbs < b.1 then (p.1.natAbs, p.2) else b) (1000, 0)).2
  let (m1, s) := scaleMsg norm (minOf 1000) d.s
  let (m2, s) := scaleMsg norm (minOf i1) s
  let new := v.zipIdx.map fun p =>
    let mag : Int := if p.2 = i1 then m2 else m1
    if xor neg (decide (p.1 < 0)) then -mag else mag
  let post := (bits.zip (v.zip new)).foldl
    (fun a q => a.setIfInBounds q.1 (clampInt (-128) 127 (q.2.1 + q.2.2))) d.post
  { post := post, msg := d.msg.setIfInBounds k new.toArray, s := s }

/-- One iteration: the block rows in order. -/
def iteration (c : InnerCode) (norm : Nat) (d : DecState) : DecState :=
  (List.range c.rows).foldl (fun d k => checkRow c norm k d) d

/-- The hard decisions of posteriors: bit 1 where the value is negative (R102). -/
def hard (a : Array Int) : Array Bool := a.map fun x => decide (x < 0)

/-- Up to `k` further iterations, `it` of them done, stopping early as R160 says. -/
def iterate (c : InnerCode) (w : DecWin) : Nat → Nat → DecState → Nat × DecState
  | 0, it, d => (it, d)
  | k + 1, it, d =>
    let d := iteration c w.norm d
    let it := it + 1
    if w.etEn && syndromeZero c (hard d.post) && decide (w.etMin ≤ it) &&
       d.post.all (fun x => decide (w.etThresh ≤ x.natAbs)) then (it, d)
    else iterate c w k it d

/-- The whole decoding of a window: the codeword that leaves, the iterations run, the bits corrected, and the state with
the free values drawn. -/
def ldpcDecode (c : InnerCode) (w : DecWin) (s : State) : CwOut × Nat × Nat × State :=
  let llr := ((w.llr ++ List.replicate 1024 0).take 1024).toArray
  let (it, d) := iterate c w w.cap 0 { post := llr, msg := (List.replicate c.rows #[]).toArray, s := s }
  let bits := hard d.post
  let conv := syndromeZero c bits
  let corr := ((bits.toList.zip (hard llr).toList).filter fun p => p.1 != p.2).length
  ({ conv := conv, bits := bits.toList, post := (d.post.map Int.natAbs).toList }, it, if conv then corr else 0, d.s)

end Sys2Proof.Machine
end

