-- ==== Sys2Proof/Machine/Kernels.lean ====
section
/-!
DEFINITION. The receive kernels as functions of samples (R93 to R104 of spec/04_receive_chain.md): baseline restoration, timing
error, equaliser, sequence detector, soft demapping, slicer and gradients, on one receive block of R43.
-/
namespace Sys2Proof.Machine

/-! ### Levels and rounding -/

/-- The PAM4 level of a level index, L(a) = 2a − 3 (R95). -/
def level (a : Nat) : Int := 2 * (a : Int) - 3

/-- The two bits of a level index under the Gray map, the first bit first (R102). -/
def grayBits (a : Nat) : Bool × Bool := (decide (2 ≤ a), decide (a = 1 ∨ a = 2))

/-- The level index whose bits are given (R102). -/
def grayLevel (b : Bool × Bool) : Nat := match b with | (false, false) => 0 | (false, true) => 1 | (true, true) => 2 | (true, false) => 3

/-- The quotient rounded to nearest; a half is rounded up (notes/assumptions/79.md). -/
def roundDiv (a : Int) (b : Nat) : Int := (2 * a + b) / (2 * (b : Int))

/-- The level index of a value sliced at three ascending thresholds; a value on a threshold lies above it
(notes/assumptions/79.md). -/
def slice (thr : List Int) (y : Int) : Nat := min 3 (thr.filter fun t => decide (t ≤ y)).length

/-- Sum of the products of two lists, as far as the shorter one goes. -/
def dot : List Int → List Int → Int
  | a :: s, b :: t => a * b + dot s t
  | _, _ => 0

/-! ### Baseline restoration (R94) -/

/-- The line fitted by least squares to estimates, given as the sums of 256 samples each, oldest first, at the sample that lies `q`
after the first sample of the oldest: numerator and denominator. -/
def blrLine (sums : List Int) (q : Int) : Int × Nat :=
  let l := sums.length
  match sums with
  | [] => (0, 1)
  | [a] => (a, 256)
  | _ =>
    let b := (sums.zipIdx.map fun p => (2 * (p.2 : Int) - ((l : Int) - 1)) * p.1).sum
    let m := l * l - 1
    (512 * (m : Int) * sums.sum + 6 * b * (2 * q - 255 - 256 * ((l : Int) - 1)), 512 * 256 * l * m)

/-- A sample less the baseline at its place, as a signed value of −64 to +63 (R94, R97). -/
def restore (sums : List Int) (q : Int) (v : Int) : Int :=
  let p := blrLine sums q
  clampInt (-64) 63 (roundDiv (v * p.2 - p.1) p.2)

/-- Sums of consecutive groups of 256 samples, `k` at most. -/
def sums256 : Nat → List Int → List Int
  | 0, _ => []
  | k + 1, l => if l.length < 256 then [] else (l.take 256).sum :: sums256 k (l.drop 256)

/-- The restored samples of a span that begins `t` samples after the frame, from the baseline estimates that are complete when the block
is dealt: `old` those of before the frame's first whole one, oldest first, `new` those since, and `part` the samples of the first of
them that precede the frame. With BLR_LEN = OFF, or no estimate yet, the middle of the code range is subtracted
(notes/assumptions/88.md). -/
def restoreSpan (len : Nat) (old new : List Int) (part : Nat) (t : Int) (codes : List Int) : List Int :=
  let all := old ++ new
  let l := min len all.length
  if l = 0 then codes.map fun v => clampInt (-64) 63 (v - 64)
  else
    let q0 : Int := t + part - 256 * ((all.length : Int) - l - old.length)
    let fit := all.drop (all.length - l)
    codes.zipIdx.map fun p => restore fit (q0 + p.2) p.1

/-! ### Feed-forward equaliser (R97) -/

/-- The equaliser's outputs over a span of restored samples, oldest first: `cr` is the coefficients with the last tap first. The sum
is rounded and shifted right by 4 bits, and saturates at ±32,767. -/
def ffeRun (cr : List Int) : List Int → List Int
  | [] => []
  | x :: t =>
    if (x :: t).length < cr.length then []
    else clampInt (-32767) 32767 ((dot cr (x :: t) + 8) / 16) :: ffeRun cr t

/-! ### The detection table (R98, R99) -/

/-- The target t of the three newest symbols (R98). -/
def targetOf (h1 h2 a0 a1 a2 : Nat) : Int := 64 * level a0 + h1 * level a1 + h2 * level a2

/-- A context's index in the detection table (R99). -/
def ctxIndex (a0 a1 a2 a3 a4 a5 : Nat) : Nat := a0 * 1024 + a1 * 256 + a2 * 64 + a3 * 16 + a4 * 4 + a5

/-- WTAB (R99). -/
def wtab (c : Nat) : Nat := match c with
  | 0 => 256 | 1 => 181 | 2 => 128 | 3 => 91 | 4 => 64 | 5 => 45 | 6 => 32 | _ => 23

/-- What a lookup gives: the mean, the weight, and whether the entry read was marked invalid, so that the nominal one is used. -/
structure Lookup where
  mean : Int
  weight : Nat
  inval : Bool
  deriving DecidableEq, Repr

/-- The entry that the detector uses for a context (R99, R100, R101). -/
def lookup (k : RxSet) (a0 a1 a2 a3 a4 a5 : Nat) : Lookup :=
  let nominal : Int := targetOf k.h1 k.h2 a0 a1 a2
  match k.det with
  | none => { mean := nominal, weight := 256, inval := false }
  | some t =>
    let w := (t[ctxIndex a0 a1 a2 a3 a4 a5]?).getD 0
    if w / 0x8000 % 2 = 1 then { mean := signed 12 w, weight := wtab (w / 0x1000 % 8), inval := false }
    else { mean := nominal, weight := 256, inval := true }

/-! ### Sequence detection (R100, R102) -/

/-- A decided symbol on a survivor, with the smallest metric difference so far for each of its two bits. -/
structure Decided where
  a : Nat
  d0 : Nat
  d1 : Nat
  deriving DecidableEq, Repr

/-- A state's survivor: its path metric, and its symbols, newest first. -/
structure Surv where
  m : Nat
  path : List Decided
  deriving DecidableEq, Repr

/-- The largest 16-bit metric. -/
def metricMax : Nat := 65535

/-- The survivors before the first symbol: every state is equally likely, with no history (notes/assumptions/80.md). -/
def survInit : List Surv :=
  (List.range 16).map fun p => { m := 0, path := [⟨p / 4, metricMax, metricMax⟩, ⟨p % 4, metricMax, metricMax⟩] }

/-- The j-th newest symbol of a survivor. -/
def Surv.sym (s : Surv) (j : Nat) : Nat := ((s.path[j]?).map (·.a)).getD 0

/-- The branch metric of R100 step 4. -/
def branchMetric (y m : Int) (w : Nat) : Nat := min metricMax (((y - m).natAbs ^ 2 * w) / 256)

/-- The tentative decision and the entry of a predecessor state (R100 steps 1 and 2). -/
def tentative (k : RxSet) (y : Int) (p : Surv) : Nat × Lookup :=
  let a := slice [-128, 0, 128] (y - k.h1 * level (p.sym 0) - k.h2 * level (p.sym 1))
  (a, lookup k a (p.sym 0) (p.sym 1) (p.sym 2) (p.sym 3) (p.sym 4))

/-- A losing path merges into the survivor with metric difference `d`: at each symbol that the two decide differently in a bit, that
bit's smallest difference follows (R102). -/
def mergeDelta (d : Nat) : List Decided → List Decided → List Decided
  | b :: bs, q :: qs =>
    let x := grayBits b.a
    let z := grayBits q.a
    { b with d0 := if x.1 = z.1 then b.d0 else min b.d0 d, d1 := if x.2 = z.2 then b.d1 else min b.d1 d } :: mergeDelta d bs qs
  | bs, _ => bs

/-- The survivor of one destination state: the smallest sum, ties to the predecessor with the lower index (R100); the other
predecessors merge into it. -/
def acs (v : Nat) (cand : List (Nat × Surv)) : Surv :=
  let best := cand.foldl (fun b c => match b with
    | none => some c
    | some x => if c.1 < x.1 then some c else some x) none
  match best with
  | none => { m := metricMax, path := [] }
  | some x =>
    let path := cand.foldl (fun p c => if c.2 = x.2 then p else mergeDelta (c.1 - x.1) p c.2.path) x.2.path
    { m := x.1, path := ⟨v, metricMax, metricMax⟩ :: path }

/-- One symbol of the trellis: state 4·a(k−1) + a(k−2), 16 predecessors, 4 branches each (R100). The result also says whether an
invalid entry was read. -/
def mlsdStep (k : RxSet) (y : Int) (sv : List Surv) : List Surv × Bool :=
  let t := sv.map fun p => (tentative k y p, p)
  let dest (v a1 : Nat) : Surv :=
    acs v (((t.drop (4 * a1)).take 4).map fun q =>
      (min metricMax (q.2.m + branchMetric y (q.1.2.mean + 128 * ((v : Int) - q.1.1)) q.1.2.weight), q.2))
  ((List.range 16).map fun d => dest (d / 4) (d % 4), t.any fun q => q.1.2.inval)

/-- Path metrics less the smallest one (R100). -/
def renorm (sv : List Surv) : List Surv :=
  let lo := (sv.map (·.m)).foldl min metricMax
  sv.map fun p => { p with m := p.m - lo }

/-- The trellis over equaliser outputs; `i` counts the symbols for the renormalisation every 16 symbols. -/
def mlsdRun (k : RxSet) (i : Nat) (inval : Bool) (sv : List Surv) : List Int → List Surv × Bool
  | [] => (sv, inval)
  | y :: t =>
    let (sv, b) := mlsdStep k y sv
    mlsdRun k (i + 1) (inval || b) (if (i + 1) % 16 = 0 then renorm sv else sv) t

/-- The decisions over a span, oldest first, from the best state at its end; the state with the lower index wins a tie. -/
def mlsd (k : RxSet) (ys : List Int) : List Decided × Bool :=
  let (sv, b) := mlsdRun k 0 false survInit ys
  let best := sv.foldl (fun (x : Surv) p => if p.m < x.m then p else x) ((sv[0]?).getD { m := 0, path := [] })
  ((best.path.take ys.length).reverse, b)

/-! ### Soft demapping (R102) -/

/-- The LLR of a bit decided `bit` with smallest metric difference `d`. -/
def llrOf (scale d : Nat) (bit : Bool) : Int :=
  let m : Nat := min ((2 * d * scale + 16) / 32) 31
  if bit then -(m : Int) else m

/-- The LLRs of a decided symbol, its first bit first. -/
def demap (scale : Nat) (d : Decided) : List Int :=
  [llrOf scale d.d0 (grayBits d.a).1, llrOf scale d.d1 (grayBits d.a).2]

/-! ### The pilot burst (R150, R152) -/

/-- The level index of the pilot symbol at a place of the Deep frame, if one stands there. -/
def pilotAt (p : Nat) : Option Nat :=
  if 128 ≤ p ∧ (p - 128) % 4104 < 8 then some (if (p - 128) % 4104 % 4 < 2 then 3 else 0) else none

/-! ### Timing error (R95) -/

/-- Whether the symbols qualify: opposite outer levels at k−1 and k, and for pattern set 0 the same levels before and after. -/
def trecTakes (patset a2 a1 a0 an : Nat) : Bool :=
  ((a1 == 0 && a0 == 3) || (a1 == 3 && a0 == 0)) && (patset == 1 || (a2 == a1 && an == a0))

/-- The sum of the timing errors of a block and their count, over samples with their preliminary decisions from two symbols before
the block to one after it. -/
def trecSum (patset : Nat) : List (Int × Nat) → Int × Nat
  | p2 :: p1 :: p0 :: pn :: t =>
    let r := trecSum patset (p1 :: p0 :: pn :: t)
    if trecTakes patset p2.2 p1.2 p0.2 pn.2
    then (r.1 + (p0.1 * level p1.2 - p1.1 * level p0.2), r.2 + 1) else r
  | _ => (0, 0)

/-! ### Gradients (R104) -/

/-- A 32-bit saturating accumulator, with whether it saturated (R40, R49). -/
def acc32 (x : Int) : Int × Bool := (clampInt (-2147483648) 2147483647 x, decide (x < -2147483648 ∨ 2147483647 < x))

/-- Sum of two lists element by element; the longer one's rest stays. -/
def addLists : List Int → List Int → List Int
  | a :: s, b :: t => (a + b) :: addLists s t
  | [], t => t
  | s, [] => s

/-- One sampled symbol: its error, its output, its decided level, and the samples that the taps saw, tap 0 first. -/
structure GradSample where
  e : Int
  y : Int
  a : Nat
  xs : List Int
  deriving DecidableEq, Repr

/-- A sampled symbol as sums. -/
def GradSample.sums (spring : Bool) (q : GradSample) : AdaptSums :=
  { n := 1, g := q.xs.map (· * q.e), errPow := q.e.natAbs ^ 2,
    lvlSum := if spring then (List.range 4).map fun j => if j = q.a then q.y else 0 else [],
    lvlCnt := if spring then (List.range 4).map fun j => if j = q.a then 1 else 0 else [] }

/-- Sum of sums. -/
def AdaptSums.add (a b : AdaptSums) : AdaptSums :=
  { n := a.n + b.n, g := addLists a.g b.g, errPow := a.errPow + b.errPow, lvlSum := addLists a.lvlSum b.lvlSum,
    lvlCnt := (addLists (a.lvlCnt.map Int.ofNat) (b.lvlCnt.map Int.ofNat)).map Int.toNat, skip := a.skip || b.skip }

/-- The sums of a block. -/
def gradBlock (spring : Bool) (l : List GradSample) : AdaptSums :=
  l.foldl (fun (a : AdaptSums) q => a.add (q.sums spring)) {}

/-- A pump's accumulators take a block's sums: 32 bits, saturating, with whether one saturated (R40, R49). -/
def AdaptSums.accumulate (a b : AdaptSums) : AdaptSums × Bool :=
  let t := a.add b
  ({ t with g := t.g.map fun x => (acc32 x).1, errPow := (acc32 t.errPow).1.toNat, lvlSum := t.lvlSum.map fun x => (acc32 x).1 },
   (t.g.any fun x => (acc32 x).2) || (acc32 t.errPow).2 || t.lvlSum.any fun x => (acc32 x).2)

/-! ### Interleave statistics (R47, R82) -/

/-- What pz_ical adds of a block that begins at a place of the frame, whose k-th sample comes from sub-converter k mod 64
(notes/assumptions/136.md). -/
def icalBlock (pos : Nat) (xs : List Int) : IcalAcc :=
  let per (g : Int × Nat → Int) : List Int :=
    (List.range 64).map fun k => ((xs.zipIdx.filter fun p => (pos + p.2) % 64 == k).map g).sum
  { cnt := per fun _ => 1, ofs := per (·.1), pow := per fun p => p.1 * p.1,
    skew := per fun p => if p.2 = 0 then 0 else p.1 * (xs.getD (p.2 + 1) 0 - xs.getD (p.2 - 1) 0) }

/-- Sum of two sets of accumulators. -/
def IcalAcc.add (a b : IcalAcc) : IcalAcc :=
  { cnt := addLists a.cnt b.cnt, ofs := addLists a.ofs b.ofs, pow := addLists a.pow b.pow, skew := addLists a.skew b.skew }

/-- The accumulators have 32 bits and saturate (R40). -/
def IcalAcc.accumulate (a b : IcalAcc) : IcalAcc :=
  let f (l : List Int) : List Int := l.map fun x => (acc32 x).1
  let t := a.add b
  { cnt := f t.cnt, ofs := f t.ofs, pow := f t.pow, skew := f t.skew }

/-! ### One receive block (R43, R62, R93) -/

/-- What a pump delivers for a block (R47). -/
structure BlkOut where
  span : List Int := []          -- the input span, as the crossbar delivers it (R40)
  x : List Int := []             -- restored samples of the block's symbols
  y : List Int := []             -- equaliser outputs
  dec : List (Option Nat) := []  -- decisions; none where the block was erased
  llr : List Int := []           -- two per symbol, in Deep and Standard
  err : Int := 0                 -- sum of timing errors
  cnt : Nat := 0
  sums : AdaptSums := {}
  ical : IcalAcc := {}
  inval : Bool := false          -- pz_mlsd16 read an entry marked invalid
  deriving DecidableEq, Repr

/-- Warm-up and tail symbols of a block (R43). -/
def RxSet.edge (k : RxSet) : Nat := if k.spring then 0 else 16

/-- Samples of the span before the block's first symbol: the warm-up and the taps that look back. -/
def RxSet.lead (k : RxSet) : Nat := k.edge + (k.coefs.length - 1 - k.pre)

/-- Samples of the span after the block's last symbol. -/
def RxSet.tail (k : RxSet) : Nat := k.edge + k.pre

/-- The kernels of a profile on one block of `b` symbols, from the restored samples of its span (R93). `prelim` is the preliminary
decision of R95, `known` the known symbol at a place from the block's start, `pos` the block's first symbol in the frame, `learn` whether
pz_grad samples a symbol of the frame, and `stats` whether pz_ical takes the block. -/
def rxBlock (k : RxSet) (prelim : Int → Nat) (known : Int → Option Nat) (pos b : Nat) (learn : Nat → Bool) (stats : Bool)
    (span : List Int) : BlkOut :=
  let xs := (span.drop k.lead).take b
  let tr := ((span.drop (k.lead - 2)).take (b + 3)).zipIdx.map fun p =>
    (p.1, (known ((p.2 + (2 - k.lead) : Nat) - 2)).getD (prelim p.1 % 4))
  let (err, cnt) := trecSum k.patset tr
  let ys := ffeRun k.coefs.reverse span
  let (dec, inval) :=
    if k.spring then (ys.map fun y => (⟨slice k.thr y, 0, 0⟩ : Decided), false) else mlsd k ys
  let y := (ys.drop k.edge).take b
  let d := (dec.drop k.edge).take b
  let prev (j i : Nat) : Nat := if i ≤ j + k.edge then ((dec[j + k.edge - i]?).map (·.a)).getD 0 else 0
  let picks := (List.range b).filter fun j => decide ((pos + j) % 2 ^ k.decim = 0 ∧ j < d.length) && learn (pos + j)
  let sums := gradBlock k.spring (picks.map fun j =>
    { e := (y[j]?).getD 0 - targetOf k.h1 k.h2 (prev j 0) (prev j 1) (prev j 2), y := (y[j]?).getD 0, a := prev j 0,
      xs := ((span.drop (j + k.edge)).take k.coefs.length).reverse })
  { x := xs, y := y, dec := d.map fun q => some q.a, llr := if k.spring then [] else d.flatMap (demap k.llr),
    err := err, cnt := cnt, sums := sums, ical := if stats then icalBlock pos xs else {}, inval := inval }

/-- An erased block of `b` symbols: zero LLRs, or symbols marked erased in Spring (R45). -/
def erasedBlock (spring : Bool) (b : Nat) : BlkOut :=
  { x := List.replicate b 0, y := List.replicate b 0, dec := List.replicate b none,
    llr := if spring then [] else List.replicate (2 * b) 0 }

/-! ### One transmit block (R43, R68, R136, R193) -/

/-- The word of a pre-distortion table: entries that are not listed hold OFS = 0 and VALID = 1 (R136). -/
def pdWord (l : List (Nat × Nat)) (p : Nat) : Nat := sget 0x8000 p l

/-- The level that pz_pdist gives a symbol, in 1/256 of a level unit, and whether its entry was marked invalid (R136). -/
def pdLevel (k : TxSet) (next a a1 a2 a3 : Nat) : Int × Bool :=
  let w := pdWord k.pd (next * 256 + a * 64 + a1 * 16 + a2 * 4 + a3)
  if !k.pdUse then (256 * level a, false)
  else if w / 0x8000 % 2 = 1 then (256 * level a + signed 12 w, false) else (256 * level a, true)

/-- The pre-distorted levels of symbols, from the fourth on to the last but one. -/
def pdRun (k : TxSet) : List Nat → List (Int × Bool)
  | a3 :: a2 :: a1 :: a :: next :: t => pdLevel k next a a1 a2 a3 :: pdRun k (a2 :: a1 :: a :: next :: t)
  | _ => []

/-- The FIR's sums over levels, from the fifth on to the last but two: `cr` is the taps, c+4 first (R136). -/
def firRun (cr : List Int) : List Int → List Int
  | [] => []
  | p :: t => if (p :: t).length < 7 then [] else dot cr (p :: t) :: firRun cr t

/-- The DAC code of a FIR sum in 1/16,384 of a level unit, with the seep term of depth `m` in 0.125% and envelope `env` in 1/32,768, and
whether it was clipped: the outer levels lie at 80% of the code range (R68, R193). -/
def dacCode (m : Nat) (env sum : Int) : Nat × Bool :=
  let c := roundDiv (127 * 49152000 + 101600 * sum + 381 * m * env) 98304000
  ((clampInt 0 127 c).toNat, decide (c < 0 ∨ 127 < c))

/-- A transmit block from its symbols with the seven before and the three after it: the codes, whether one was clipped, and whether an
invalid table entry was read. -/
def txBlock (k : TxSet) (m : Nat) (env : Int) (syms : List Nat) : List Nat × Bool × Bool :=
  let p := pdRun k syms
  let c := (firRun k.fir.reverse (p.map (·.1))).map (dacCode m env)
  (c.map (·.1), c.any (·.2), p.any (·.2))

/-- The hardwired PAM4 mapper: no pre-distortion and no FIR (R34). -/
def hwBlock (m : Nat) (env : Int) (syms : List Nat) : List Nat × Bool × Bool :=
  let c := syms.map fun a => dacCode m env (16384 * level a)
  (c.map (·.1), c.any (·.2), false)

/-! ### Cost of a block (R45, R47, R62) -/

/-- MAC and ACS that a receive block of a profile needs with the given taps, decimation and duty (R47, R62). -/
def blockWork (spring : Bool) (taps decim : Nat) : Nat × Nat :=
  if spring then
    let span := 64 + taps - 1
    (2 * span + 4 * 64 + 64 + taps * 64 + taps * (64 / 2 ^ decim), 0)
  else (2 * 200 + 4 * 128 + 128 + taps * 160 + 4 * 128 + taps * (128 / 2 ^ decim), 16 * 160)

/-- Well cycles that a block takes: MAC at 128 and ACS at 32 per cycle in the same bundles (R62). -/
def blockCycles (w : Nat × Nat) : Nat := max ((w.1 + 127) / 128) ((w.2 + 31) / 32)

/-- Samples per well cycle, in 1/1000: 64 at the full rate, 53.125/1.2 at the legacy rate (R45). -/
def samplesPerCycle (rate : Nat) : Nat := if rate = 3 then 44271 else 64000

/-- Well cycles of a block slot: N × symbols / s (R45). -/
def slotCycles (pumps symbols rate : Nat) : Nat := pumps * symbols * 1000 / samplesPerCycle rate

end Sys2Proof.Machine
end

