-- ==== Sys2Proof/Machine/Params.lean ====
section
/-!
DEFINITION. The pumps of a well by role, the recipes in its banks, and the parameter slots in force (R42, R47, R50, R52 of
spec/02_pumps_and_wells.md, R116 of spec/04_receive_chain.md, R137 of spec/05_pattern_atlas.md), with what a pump loads from well
local memory (R57).
-/
namespace Sys2Proof.Machine

/-- ROLE of pump m of well n: 0 spare, 1 receive, 2 transmit, 3 isolated (R42). -/
def pumpRole (s : State) (n m : Nat) : Nat := s.fld (R.PUMP_STATE n m) F.PUMP_STATE_ROLE

/-- The slot that pump m is bound to. -/
def pumpSlot (s : State) (n m : Nat) : Nat := s.fld (R.PUMP_STATE n m) F.PUMP_STATE_SLOT

/-- The pump is quarantined. -/
def pumpQuar (s : State) (n m : Nat) : Bool := s.flag (R.PUMP_STATE n m) F.PUMP_STATE_QUAR

/-- The pumps of a well in a role, ascending. -/
def pumpsIn (s : State) (n role : Nat) : List Nat := (List.range 64).filter fun m => pumpRole s n m == role

/-- Updates the memories of one pump. -/
def modPump (n : Fin 8) (m : Nat) (g : PumpMem → PumpMem) (s : State) : State :=
  { s with well := vmod s.well n fun w =>
      { w with pump := vmod w.pump (⟨m % 64, Nat.mod_lt _ (by decide)⟩ : Fin 64) g } }

/-- The memories of one pump. -/
def pumpMem (s : State) (n : Fin 8) (m : Nat) : PumpMem := s.well[n].pump[(⟨m % 64, Nat.mod_lt _ (by decide)⟩ : Fin 64)]

/-- The bank that a side of the well runs: receive for role 1, transmit for role 2. -/
def bankInForce (s : State) (n : Fin 8) (role : Nat) : Nat :=
  if role = 2 then s.well[n].txBank else s.fld (R.WELL_IBANK n) F.WELL_IBANK_ACTIVE

/-- The recipe that a bank of the well's recipe store holds. -/
def bankRecipe (s : State) (n : Fin 8) (bank : Nat) : Option Recipe :=
  if bank = 0 then s.well[n].bank0 else s.well[n].bank1

/-- The recipe that a pump's own bank holds with good parity (R53). -/
def PumpMem.code (p : PumpMem) (bank : Nat) : Option Recipe := if bank = 0 then p.code0 else p.code1

/-- Puts a recipe into a bank of a pump. -/
def PumpMem.setCode (bank : Nat) (r : Option Recipe) (p : PumpMem) : PumpMem :=
  if bank = 0 then { p with code0 := r } else { p with code1 := r }

/-- The recipe in force on the receive side. -/
def recipeInForce (s : State) (n : Fin 8) : Option Recipe := bankRecipe s n (bankInForce s n 1)

/-! ### Parameters (R47, R50, R52, R116, R137) -/

/-- A parameter of the transmit kernels. -/
def parTx (k : Nat) : Bool := decide (32 ≤ k ∧ k ≤ 39)

/-- The range and the kernel of a parameter of the shipped recipes (R47, R116, R137). R47 does not list BLR_LEN, TARGET_H1, TARGET_H2,
ANCHOR and SLICE_ADAPT; the kernels 1, 5, 9 and 7 that use them are the model's choice (notes/assumptions/81.md). -/
def slotRange (p : Profile) (k : Nat) : Option (Int × Int × Nat) :=
  match k with
  | 0 => some (3, if p = .spring then 15 else 41, 4)
  | 1 => some (0, if p = .spring then 4 else 12, 4)
  | 2 => some (2, 14, 9)
  | 3 => some (2, 14, 9)
  | 4 => some (0, 4, 8)
  | 5 => some (0, 5, 2)
  | 6 => some (0, 1, 2)
  | 7 => some (-16, 16, 2)
  | 8 => some (0, 1, 5)
  | 9 => some (1, 64, 6)
  | 10 => some (0, 64, 5)
  | 11 => some (0, 32, 5)
  | 12 => some (0, 3, 1)
  | 13 => some (0, 4, 3)
  | 14 => some (0, 1, 9)
  | 15 => some (0, 1, 7)
  | 39 => some (0, 1, 11)
  | _ => if 32 ≤ k ∧ k ≤ 38 then some (-128, 127, 12) else none

/-- A kernel runs in a profile (R93): the detector and soft demapping not in Spring, the slicer only there. -/
def kernelRuns (p : Profile) (kid : Nat) : Bool :=
  if kid = 5 ∨ kid = 6 then decide (p ≠ .spring) else if kid = 7 then decide (p = .spring) else true

/-- The default of a parameter of the shipped recipes, for a reach class (R115, R116, R137). -/
def parDefault (p : Profile) (reach k : Nat) : Int :=
  let sp := decide (p = .spring)
  match k with
  | 0 => if sp then (match reach with | 0 => 7 | 1 => 11 | _ => 15) else (match reach with | 0 => 21 | 1 => 31 | _ => 41)
  | 1 => if sp then (match reach with | 0 => 2 | _ => 3) else (match reach with | 0 => 4 | 1 => 6 | 2 => 8 | _ => 12)
  | 2 => 10
  | 3 => 6
  | 4 => 1
  | 5 => 3
  | 8 => 1
  | 9 => 16
  | 10 => match reach with | 0 => 0 | 1 => 16 | 2 => 32 | _ => 48
  | 11 => if reach = 3 then 16 else 0
  | 12 => 1
  | 14 => 1
  | 15 => 1
  | 34 => 64
  | 39 => 1
  | _ => 0

/-- The slot that the recipe in force on the parameter's side maps to it (R50); with no recipe in force, the slot of the shipped map
(R116, R137). -/
def slotOf (s : State) (n : Fin 8) (k : Nat) : Option Nat :=
  match bankRecipe s n (bankInForce s n (if parTx k then 2 else 1)) with
  | none => some k
  | some r => (r.slots.find? fun x => x.par == k).map (·.slot)

/-- A parameter as written and in force, read as a signed value. One that the recipe in force maps to no slot has the shipped default
of the reach class in force (notes/assumptions/82.md). -/
def paramRaw (s : State) (n : Fin 8) (k : Nat) : Int :=
  match slotOf s n k with
  | some j => signed 32 (s.actReg (R.WELL_PARAM n (j % 64))).toNat
  | none => parDefault (profileEff s) (s.fld (R.WELL_RX_STATUS n) F.WELL_RX_STATUS_REACH_EFF) k

/-- A parameter in force, clamped to its range (R47). -/
def param (s : State) (n : Fin 8) (k : Nat) : Int :=
  match slotRange (profileEff s) k with
  | some (lo, hi, _) => clampInt lo hi (paramRaw s n k)
  | none => paramRaw s n k

/-- A parameter in force as a Nat. -/
def paramN (s : State) (n : Fin 8) (k : Nat) : Nat := (param s n k).toNat

/-- FFE_PRE in force, below FFE_TAPS (R97, R116). -/
def ffePre (s : State) (n : Fin 8) : Nat := min (paramN s n 1) (s.rx[n].taps - 1)

/-- The target's memory in force; 0 in Spring (R98). -/
def targetH (s : State) (n : Fin 8) (k : Nat) : Nat := if profileEff s = .spring then 0 else paramN s n k

/-- A parameter in force that lies outside its range: beyond its limits, an even FFE_TAPS, or an FFE_PRE not below FFE_TAPS (R47,
R116). -/
def parBad (s : State) (n : Fin 8) (k : Nat) : Bool :=
  match slotRange (profileEff s) k with
  | none => false
  | some (lo, hi, _) =>
    let v := paramRaw s n k
    decide (v < lo) || decide (hi < v) || (k == 0 && decide (v % 2 = 0)) || (k == 1 && decide ((s.rx[n].taps : Int) ≤ v))

/-! ### Effort (R109) -/

/-- The divisor of sampling density that an effort asks for, as its log2 (R109). -/
def effortShift (e : Nat) : Nat := if e ≥ 100 then 0 else if e ≥ 50 then 1 else 2

/-- ADAPT_DECIM in force under the throttle, as log2 of the decimation, never beyond 1 in 64 (R109). -/
def decimInForce (s : State) (n : Fin 8) : Nat := min 6 (paramN s n 4 + 2 + effortShift s.rx[n].effort)

/-- ICAL_DUTY in force under the throttle, as log2 of its inverse, never below 1 in 16 (R109). -/
def icalDutyInForce (s : State) (n : Fin 8) : Nat := min 4 (paramN s n 13 + effortShift s.rx[n].effort)

/-! ### State and timing-loop settings of the chain (R95, R96, R110) -/

/-- State of the receive chain (WELLn_RX_STATUS.STATE): 0 IDLE, 1 TIMING, 2 ADAPT, 3 LOCKED, 4 HOLD. -/
def rxState (s : State) (n : Nat) : Nat := s.fld (R.WELL_RX_STATUS n) F.WELL_RX_STATUS_STATE

/-- Sets the state of the receive chain. -/
def setRxState (n v : Nat) (s : State) : State := s.setFld (R.WELL_RX_STATUS n) F.WELL_RX_STATUS_STATE v

/-- The loop's gain code: min(TREC_GAIN + 2, 5) in TIMING (R96). -/
def trecCode (s : State) (n : Fin 8) : Nat := if rxState s n = 1 then min (paramN s n 5 + 2) 5 else paramN s n 5

/-- The pattern set: 1 in TIMING (R110). -/
def trecPatset (s : State) (n : Fin 8) : Nat := if rxState s n = 1 then 1 else paramN s n 6

/-! ### What a pump loads from well local memory (R47, R57, R60) -/

/-- Coefficient i in force, in 1/64: the alias of WELLn_FFE_TAPk (R97, R118). -/
def coefInForce (s : State) (n i : Nat) : Int :=
  signed 8 ((s.actReg (R.WELL_FFE_TAP n (i / 4))).toNat / 2 ^ (8 * (i % 4)))

/-- The distilled table that the detector uses: one is installed, DET_USE = 1, and the profile has a detector (R101). -/
def detInUse (s : State) (n : Fin 8) : Option (List Nat) :=
  if param s n 8 = 1 ∧ profileEff s ≠ .spring then s.atlas[n].det else none

/-- Spring's thresholds in force: nominal with SLICE_ADAPT = 0 (R103, R116). -/
def thrInForce (s : State) (n : Fin 8) : List Int := if param s n 15 = 1 then s.rx[n].thr else [-128, 0, 128]

/-- BLR_LEN in estimates; 0 is OFF (R94, R116). -/
def blrLen (s : State) (n : Fin 8) : Nat := match paramN s n 12 with | 0 => 8 | 1 => 16 | 2 => 32 | _ => 0

/-- What the receive kernels run with on the lane. -/
def rxSetNow (s : State) (n : Fin 8) : RxSet :=
  { spring := decide (profileEff s = .spring), coefs := (List.range s.rx[n].taps).map (coefInForce s n), pre := ffePre s n,
    det := detInUse s n, h1 := targetH s n 10, h2 := targetH s n 11, thr := thrInForce s n, patset := trecPatset s n,
    decim := decimInForce s n, duty := icalDutyInForce s n, blr := blrLen s n, llr := paramN s n 9 }

/-- What the transmit kernels run with on the lane (R136, R137). -/
def txSetNow (s : State) (n : Fin 8) : TxSet :=
  { pdUse := param s n 39 == 1, pd := s.atlas[n].pd, fir := (List.range 7).map fun j => param s n (32 + j) }

/-- A pump that takes a slot loads the coefficients, the table and the parameters in force of its role, and starts with empty
gradient accumulators (R57). -/
def preload (n : Fin 8) (m role : Nat) (s : State) : State :=
  modPump n m (fun p => if role = 1 then { p with rx := rxSetNow s n, grad := {} } else { p with tx := txSetNow s n, grad := {} }) s

/-- Every receive pump exchanges its table and coefficient slots at one receive frame boundary (R47, R101). -/
def rxPumpsLoad (n : Fin 8) (s : State) : State :=
  let k := rxSetNow s n
  (pumpsIn s n 1).foldl (fun s m => modPump n m (fun p =>
    { p with rx := k, detNext := if k.det = p.rx.det then p.detNext else p.rx.det }) s) s

/-- Every transmit pump exchanges its table slots at one transmit frame boundary (R47). -/
def txPumpsLoad (n : Fin 8) (s : State) : State :=
  let k := txSetNow s n
  (pumpsIn s n 2).foldl (fun s m => modPump n m (fun p =>
    { p with tx := k, pdNext := if k.pd = p.tx.pd then p.pdNext else some p.tx.pd }) s) s

/-- The pending table slots of a side's pumps are filled from well local memory (R47). -/
def detSlotsFill (n : Fin 8) (t : Option (List Nat)) (s : State) : State :=
  (pumpsIn s n 1).foldl (fun s m => modPump n m (fun p => { p with detNext := t }) s) s
def pdSlotsFill (n : Fin 8) (t : List (Nat × Nat)) (s : State) : State :=
  (pumpsIn s n 2).foldl (fun s m => modPump n m (fun p => { p with pdNext := some t }) s) s

/-! ### Budget and slack (R45, R62, R63, R66) -/

/-- Symbols of a receive block (R43). -/
def rxBlockLen (s : State) : Nat := if profileEff s = .spring then 64 else 128

/-- The work of one receive block with the shipped kernels and the parameters in force (R62, R63). -/
def rxWork (s : State) (n : Fin 8) : Nat × Nat :=
  blockWork (decide (profileEff s = .spring)) s.rx[n].taps (decimInForce s n)

/-- RATE of the lane. -/
def laneRateCode (s : State) (n : Fin 8) : Nat := s.fld (R.LINE_PLL_CFG n) F.LINE_PLL_CFG_RATE

/-- Slack of the blocks of a role: what a block leaves of its slot; a transmit block of 64 symbols needs 8 MAC per symbol (R45, R62 to
R64). -/
def roleSlack (s : State) (n : Fin 8) (role : Nat) : Nat :=
  let k := (pumpsIn s n role).length
  let (b, w) := if role = 1 then (rxBlockLen s, rxWork s n) else (64, (512, 0))
  min 0xFFFF (slotCycles k b (laneRateCode s n) - blockCycles w)

/-- The slack of the blocks that a pump has had in its slot so far counts in the epoch's smallest (R66). -/
def noteSlack (n : Fin 8) (m : Nat) (s : State) : State :=
  let r := pumpRole s n m
  if r = 1 ∨ r = 2 then modPump n m (fun p => { p with slack := min p.slack (roleSlack s n r) }) s else s

end Sys2Proof.Machine
end

