-- ==== Sys2Proof/Machine/Line.lean ====
section
/-!
DEFINITION. Line converters and the analogue front end: R68 to R92 of spec/03_line_converters.md.
-/
namespace Sys2Proof.Machine

/-- Updates what a lane's converters hold. -/
def modLine (n : Fin 8) (g : LineSt → LineSt) (s : State) : State := { s with line := vmod s.line n g }

/-- Updates what a lane's receive chain holds. -/
def modRx (n : Fin 8) (g : RxSt → RxSt) (s : State) : State := { s with rx := vmod s.rx n g }

/-! ### Front-end classes and buffered converter fields (R90) -/

/-- Swing, full scale and peaking codes of a named front-end class (R90). -/
def feClass (c : Nat) : Nat × Nat × Nat :=
  match c with | 0 => (100, 1, 1) | 1 => (150, 3, 2) | _ => (225, 6, 3)

/-- FE_CLASS reads at its alias as the old class until both sides have it in force (R29). -/
def classFollow (n : Fin 8) (s : State) : State :=
  let l := s.line[n]
  if l.classTx = l.classRx then s.setActFld (R.LINE_FE_CFG n) F.LINE_FE_CFG_FE_CLASS l.classTx else s

/-- The transmit side's fields of LINE_FE_CFG at a transmit frame boundary. -/
def feTxApply (n : Fin 8) (s : State) : State :=
  let a := R.LINE_FE_CFG n
  let c := s.fld a F.LINE_FE_CFG_FE_CLASS
  let s := (s.setActFld a F.LINE_FE_CFG_SWING (s.fld a F.LINE_FE_CFG_SWING)).setActFld a F.LINE_FE_CFG_TX_POL (s.fld a F.LINE_FE_CFG_TX_POL)
  let s := classFollow n (modLine n (fun l => { l with classTx := c }) s)
  let swing := if c = 3 then clampNat 50 225 (s.actFld a F.LINE_FE_CFG_SWING) else (feClass c).1
  s.setFld (R.LINE_FE_STATUS n) F.LINE_FE_STATUS_SWING_EFF swing

/-- RX_POL at a receive frame boundary. -/
def fePolApply (n : Fin 8) (s : State) : State :=
  let a := R.LINE_FE_CFG n
  s.setActFld a F.LINE_FE_CFG_RX_POL (s.fld a F.LINE_FE_CFG_RX_POL)

/-- The receive side's EPOCH fields of LINE_FE_CFG at a receive epoch boundary. -/
def feRxApply (n : Fin 8) (s : State) : State :=
  let a := R.LINE_FE_CFG n
  let st := R.LINE_FE_STATUS n
  let c := s.fld a F.LINE_FE_CFG_FE_CLASS
  let s := (s.setActFld a F.LINE_FE_CFG_ADC_FS (s.fld a F.LINE_FE_CFG_ADC_FS)).setActFld a F.LINE_FE_CFG_PEAK (s.fld a F.LINE_FE_CFG_PEAK)
  let s := classFollow n (modLine n (fun l => { l with classRx := c }) s)
  let fs := if c = 3 then min 9 (s.actFld a F.LINE_FE_CFG_ADC_FS) else (feClass c).2.1
  let pk := if c = 3 then s.actFld a F.LINE_FE_CFG_PEAK else (feClass c).2.2
  (s.setFld st F.LINE_FE_STATUS_FS_EFF fs).setFld st F.LINE_FE_STATUS_PEAK_EFF pk

/-! ### Fields of common registers that act lane by lane (R29) -/

/-- A field that holds one value for several lanes comes into force on lane `n`; its alias changes once it is in
force on every lane of `lanes` (R29). -/
def laneApply (a : Nat) (f : Fld) (n : Fin 8) (lanes : List (Fin 8)) (s : State) : State :=
  let v := s.fld a f
  let s := s.setActFld (laneKey a n) f v
  if lanes.all fun k => s.actFld (laneKey a k) f == v then s.setActFld a f v else s

/-- A bit per lane comes into force on lane `n` (R29). -/
def laneBitApply (a : Nat) (f : Fld) (n : Fin 8) (s : State) : State :=
  let old := s.actFld a f
  let bit := 2 ^ n.val
  s.setActFld a f (old - Nat.land old bit + Nat.land (s.fld a f) bit)

/-! ### Temperature-band presets (R85, R86) -/

/-- One step toward a value. -/
def stepTo (x t : Nat) : Nat := if x < t then x + 1 else if t < x then x - 1 else x

/-- The receive-side fields of the presets come into force on the lane at its receive epoch boundary. -/
def tbpRxApply (n : Fin 8) (s : State) : State :=
  (List.range 8).foldl (fun s b =>
    [F.LINE_TBP_SAR_MARGIN, F.LINE_TBP_CMP_BIAS, F.LINE_TBP_PI_RT_PHASE].foldl
      (fun s f => laneApply (R.LINE_TBP b) f n (List.finRange 8) s) s) s

/-- The transmit-side field of the presets comes into force on the lane. -/
def tbpTxApply (n : Fin 8) (s : State) : State :=
  (List.range 8).foldl (fun s b => laneApply (R.LINE_TBP b) F.LINE_TBP_DAC_RT_PHASE n (List.finRange 8) s) s

/-- Band of well n as the temperature chapter reports it (R85, R386). -/
def laneBand (s : State) (n : Nat) : Nat := s.fld R.THM_BANDS F.THM_BANDS_WELL / 8 ^ n % 8

/-- A change of band takes effect at the epoch boundary of the side; during a foreground run, after the run (R86). -/
def bandApply (n : Fin 8) (rx : Bool) (s : State) : State :=
  if s.flag (R.LINE_CAL_STATUS n) F.LINE_CAL_STATUS_RUNNING then s
  else
    let b := laneBand s n
    modLine n (fun l => if rx then { l with bandRx := b } else { l with bandTx := b }) s

/-- The receive-side margins move one step toward the preset of the band in force (R86). -/
def presetRxStep (n : Fin 8) (s : State) : State :=
  let k := laneKey (R.LINE_TBP s.line[n].bandRx) n
  modLine n (fun l => { l with preset := { l.preset with
    sar := stepTo l.preset.sar (s.actFld k F.LINE_TBP_SAR_MARGIN),
    cmp := stepTo l.preset.cmp (s.actFld k F.LINE_TBP_CMP_BIAS),
    piRt := stepTo l.preset.piRt (s.actFld k F.LINE_TBP_PI_RT_PHASE) } }) s

/-- The transmit-side margin moves one step. -/
def presetTxStep (n : Fin 8) (s : State) : State :=
  let k := laneKey (R.LINE_TBP s.line[n].bandTx) n
  modLine n (fun l => { l with preset := { l.preset with
    dacRt := stepTo l.preset.dacRt (s.actFld k F.LINE_TBP_DAC_RT_PHASE) } }) s

/-! ### Interleave corrections (R82, R84) -/

/-- A correction as a LINE_ICAL word, every value brought into its field range (R82). -/
def icalWord (e : IcalEst) : Word :=
  let w := F.LINE_ICAL_OFFSET.put 0 (unsigned 8 (clampInt (-128) 127 e.ofs))
  let w := F.LINE_ICAL_GAIN.put w (clampInt 0 4095 e.gain).toNat
  F.LINE_ICAL_SKEW.put w (unsigned 8 (clampInt (-128) 127 e.skew))

/-- The correction of sub-converter k in force on the lane. -/
def icalInForce (s : State) (n k : Nat) : IcalEst :=
  let w := s.actReg (R.LINE_ICAL n k)
  { ofs := F.LINE_ICAL_OFFSET.sget w, gain := F.LINE_ICAL_GAIN.get w, skew := F.LINE_ICAL_SKEW.sget w }

/-- A correction of sub-converter k comes into force: both copies of its register hold it. -/
def setIcal (n k : Nat) (e : IcalEst) (s : State) : State :=
  (s.setReg (R.LINE_ICAL n k) (icalWord e)).setActReg (R.LINE_ICAL n k) (icalWord e)

/-- A whole correction set comes into force. -/
def setIcals (n : Fin 8) (l : List IcalEst) (s : State) : State :=
  (l.take 64).zipIdx.foldl (fun s p => setIcal n p.2 p.1 s) s

/-- Background calibration runs on the lane (R82, R84), and pz_ical has gathered statistics in the epoch. -/
def bgRuns (s : State) (n : Fin 8) : Bool :=
  decide (0 < s.sig[n].ical) &&
  s.flag (R.LINE_CAL_CFG n) F.LINE_CAL_CFG_BG_EN && s.flag (R.LINE_FE_STATUS n) F.LINE_FE_STATUS_SIG_DET &&
  !s.flag (R.LINE_CAL_CFG n) F.LINE_CAL_CFG_MANUAL && !s.flag (R.LINE_CAL_STATUS n) F.LINE_CAL_STATUS_RUNNING

/-- The correction set that the epoch's estimates give: offset and gain take their new estimates, and a skew moves by
at most SKEW_STEP_MAX, or is held with BG_SKEW_EN = 0 (R82). -/
def bgSet (s : State) (n : Fin 8) (est : List IcalEst) : List IcalEst :=
  let m : Int := max 1 (s.fld (R.LINE_CAL_CFG n) F.LINE_CAL_CFG_SKEW_STEP_MAX)
  let skewOn := s.flag (R.LINE_CAL_CFG n) F.LINE_CAL_CFG_BG_SKEW_EN
  (est.take 64).zipIdx.map fun p =>
    let old := icalInForce s n p.2
    { p.1 with skew := if skewOn then old.skew + clampInt (-m) m (p.1.skew - old.skew) else old.skew }

/-- What pz_ical gathered in the pumps' accumulators over the epoch; they restart (R82). -/
def icalGather (n : Fin 8) (s : State) : IcalAcc × State :=
  (pumpsIn s n 1).foldl (fun (p : IcalAcc × State) m =>
    (p.1.add (pumpMem p.2 n m).ical, modPump n m (fun q => { q with ical := {} }) p.2)) ({}, s)

/-- The estimates and the quality figures that the epoch's statistics give (R82, R83). -/
def icalStats (s : State) (n : Fin 8) (a : IcalAcc) : BgStats :=
  let l := [a.cnt, a.ofs, a.pow, a.skew]
  let f := Config.icalFig l
  { skewRes := f 0, spur := f 1, eyeW := f 2, ofsRes := f 3, gainRes := f 4,
    est := (List.range 64).map fun k =>
      let e := icalInForce s n k
      { ofs := Config.icalEst l k 0 e.ofs, gain := Config.icalEst l k 1 e.gain, skew := Config.icalEst l k 2 e.skew } }

/-- Background calibration at a receive epoch boundary (R82, R83): the pending set comes into force, the epoch's
statistics give the next one, and the quality figures are judged. A set that is pending when background calibration stops is dropped,
and the figures then stay as they are (notes/assumptions/94.md). -/
def bgEpoch (n : Fin 8) (s : State) : State :=
  let cs := R.LINE_CAL_STATUS n
  let (acc, s) := icalGather n s
  let b := icalStats s n acc
  let run := bgRuns s n
  let s := { s with sig := vmod s.sig n fun g => { g with ical := 0 } }
  let s := match s.line[n].bgPend with
    | some l => if run then (setIcals n l s).addWrap cs F.LINE_CAL_STATUS_BG_SETS 1 else s
    | none => s
  let s := modLine n (fun l => { l with bgPend := if run then some (bgSet s n b.est) else none }) s
  if run then
    let q0 := R.LINE_CAL_QUAL0 n
    let q1 := R.LINE_CAL_QUAL1 n
    let s := s.setFld q0 F.LINE_CAL_QUAL0_SKEW_RES (min 4095 b.skewRes)
    let s := s.setFld q0 F.LINE_CAL_QUAL0_SPUR (min 255 b.spur)
    let s := s.setFld q0 F.LINE_CAL_QUAL0_EYE_W (min 127 b.eyeW)
    let s := s.setFld q1 F.LINE_CAL_QUAL1_OFS_RES (min 255 b.ofsRes)
    let s := s.setFld q1 F.LINE_CAL_QUAL1_GAIN_RES (min 255 b.gainRes)
    let conv := decide (b.skewRes ≤ 50) && decide (b.ofsRes ≤ 25) && decide (b.gainRes ≤ 50)
    let s := s.setFld cs F.LINE_CAL_STATUS_BG_CONV (b2n conv)
    if conv then (modLine n (fun l => { l with bgBadCnt := 0 }) s).setFld cs F.LINE_CAL_STATUS_BG_BAD 0
    else if s.rx[n].effort = 100 then
      let c := s.line[n].bgBadCnt + 1
      let s := modLine n (fun l => { l with bgBadCnt := c }) s
      if max 1 (s.fld (R.LINE_CAL_CFG n) F.LINE_CAL_CFG_BG_TIMEOUT) * 16 ≤ c
      then s.raise1 cs F.LINE_CAL_STATUS_BG_BAD (160 + 8 * n + 3) else s
    else s
  else s

/-- Manual corrections written before a receive epoch boundary come into force together there (R92). -/
def icalApply (n : Fin 8) (s : State) : State :=
  if s.flag (R.LINE_CAL_CFG n) F.LINE_CAL_CFG_MANUAL then
    (List.range 64).foldl (fun s k => s.setActReg (R.LINE_ICAL n k) (s.reg (R.LINE_ICAL n k))) s
  else s

/-- Over-range samples of the epoch that ends: ADC_OVR is set at 0.1% or more (R70). -/
def overRange (n : Fin 8) (s : State) : State :=
  let g := s.sig[n]
  let s := { s with sig := vmod s.sig n fun g => { g with nSamp := 0, nOver := 0 } }
  if g.nSamp > 0 ∧ g.nSamp ≤ g.nOver * 1000 then s.setFld (R.LINE_FE_STATUS n) F.LINE_FE_STATUS_ADC_OVR 1 else s

/-! ### Calibration runs (R79 to R81, R84) -/

/-- The step mask's bit k−1. -/
def stepIn (steps k : Nat) : Bool := bitOf steps (k - 1)

/-- Whether step k met its pass limit (R79, R81). -/
def calPass (s : State) (k : Nat) (c : CalResult) : Bool :=
  let swing : Int := if s.flag R.LINE_TRACE F.LINE_TRACE_VREF_EXT_PRESENT then 30 else 60
  match k with
  | 1 => s.flag R.LINE_TRACE F.LINE_TRACE_REXT_OK && decide (-30 ≤ c.termErr) && decide (c.termErr ≤ 30)
  | 2 => decide (-swing ≤ c.swingErr) && decide (c.swingErr ≤ swing)
  | 3 => decide (c.ofsRes ≤ 25)
  | 4 => decide (c.gainRes ≤ 50)
  | 5 => decide (c.skewRes ≤ 50) && decide (40 ≤ c.spur)
  | _ => c.piOk

/-- The bad steps of a run, as a mask. -/
def calBad (s : State) (steps : Nat) (c : CalResult) : Nat :=
  (List.range 6).foldl (fun v i => if stepIn steps (i + 1) && !calPass s (i + 1) c then v + 2 ^ i else v) 0

/-- Step k ran and passed, so its corrections are used (R80). -/
def calUse (p : CalPend) (k : Nat) : Bool := stepIn p.steps k && !stepIn p.bad k

/-- The receive corrections of a run come into force (R80, R84). -/
def calApplyRx (n : Fin 8) (p : CalPend) (s : State) : State :=
  let s := modLine n (fun l => { l with trim := { l.trim with
    termRx := if calUse p 1 then p.res.trim.termRx else l.trim.termRx,
    pi := if calUse p 6 then p.res.trim.pi else l.trim.pi } }) s
  (p.res.ical.take 64).zipIdx.foldl (fun s q =>
    let old := icalInForce s n q.2
    setIcal n q.2 { ofs := if calUse p 3 then q.1.ofs else old.ofs,
                    gain := if calUse p 4 then q.1.gain else old.gain,
                    skew := if calUse p 5 then q.1.skew else old.skew } s) s

/-- The DAC corrections of a run come into force. -/
def calApplyTx (n : Fin 8) (p : CalPend) (s : State) : State :=
  modLine n (fun l => { l with trim := { l.trim with
    termTx := if calUse p 1 then p.res.trim.termTx else l.trim.termTx,
    dac := if calUse p 2 then p.res.trim.dac else l.trim.dac } }) s

/-- The factory values of a lane's converters, from their fuse word: the starting codes of the DAC's and the ADC's termination, the
current-source trim, and 64 signed coarse skews (R79). The word's layout is the model's (notes/assumptions/95.md). -/
def fusedTrim (w : Nat) : Trim :=
  { termTx := w % 256, termRx := w / 2 ^ 8 % 256, dac := w / 2 ^ 16 % 256,
    coarse := (List.range 64).map fun k => signed 8 (w / 2 ^ (24 + 8 * k)) }

/-- The figures that a run reports for the steps it included (R79). -/
def calFigures (n : Fin 8) (steps : Nat) (c : CalResult) (s : State) : State :=
  let q0 := R.LINE_CAL_QUAL0 n
  let q1 := R.LINE_CAL_QUAL1 n
  let s := if stepIn steps 1 then s.setFld q1 F.LINE_CAL_QUAL1_TERM_ERR (unsigned 8 (clampInt (-128) 127 c.termErr)) else s
  let s := if stepIn steps 2 then s.setFld q1 F.LINE_CAL_QUAL1_SWING_ERR (unsigned 8 (clampInt (-128) 127 c.swingErr)) else s
  let s := if stepIn steps 3 then s.setFld q1 F.LINE_CAL_QUAL1_OFS_RES (min 255 c.ofsRes) else s
  let s := if stepIn steps 4 then s.setFld q1 F.LINE_CAL_QUAL1_GAIN_RES (min 255 c.gainRes) else s
  if stepIn steps 5 then
    (s.setFld q0 F.LINE_CAL_QUAL0_SKEW_RES (min 4095 c.skewRes)).setFld q0 F.LINE_CAL_QUAL0_SPUR (min 255 c.spur)
  else s

/-- The end of a calibration sequence (R80): bad steps are marked, journalled and raised, those that use a fused trim without a
majority among them (R78, R278); RUNNING ends and DONE is set. At start-up all results come into force at once; after a foreground run they wait for the frame boundary of
their side (R84). -/
def calEnd (n : Fin 8) (startup : Bool) (steps : Nat) (c : CalResult) (s : State) : State :=
  let cs := R.LINE_CAL_STATUS n
  let bad := Nat.lor (calBad s steps c) (if bitOf s.fuse.noConv n then Nat.land steps 0x13 else 0)
  let p : CalPend := { steps := steps, bad := bad, res := c }
  let s := calFigures n steps c s
  let s := s.clrBits cs F.LINE_CAL_STATUS_BAD steps
  let s := (List.range 6).foldl (fun s i =>
    if stepIn bad (i + 1) then s.raise cs F.LINE_CAL_STATUS_BAD (2 ^ i) (160 + 8 * n + 2) else s) s
  let s := (s.setFld cs F.LINE_CAL_STATUS_RUNNING 0).setFld cs F.LINE_CAL_STATUS_DONE 1
  let s := if startup then calApplyTx n p (calApplyRx n p s)
           else modLine n (fun l => { l with calRx := some p, calTx := some p }) s
  modLine n (fun l => { l with bgBadCnt := 0, bgPend := none, calSteps := 0 }) s

/-- The lane carries traffic (R84): in Deep while its tracker is in LOCK, else while its receive chain is LOCKED. -/
def carriesTraffic (s : State) (n : Nat) : Bool :=
  if profileEff s = .deep then s.fld (R.WELL_FRM_STATUS n) F.WELL_FRM_STATUS_STATE == 2
  else s.fld (R.WELL_RX_STATUS n) F.WELL_RX_STATUS_STATE == 3

/-- Every selected lane is already running calibration, so GO returns BUSY (R84). -/
def calGoBusy (s : State) (lanes : Nat) : Bool :=
  decide (lanes % 256 ≠ 0) &&
  (List.range 8).all fun n => !bitOf lanes n || s.flag (R.LINE_CAL_STATUS n) F.LINE_CAL_STATUS_RUNNING

/-- A GO that returns BUSY starts nothing, and the selected lanes, all of which are running, have REFUSED set (R84). -/
def calGoMarks (lanes : Nat) (s : State) : State :=
  forLanes (fun n s => if bitOf lanes n then s.setFld (R.LINE_CAL_STATUS n) F.LINE_CAL_STATUS_REFUSED 1 else s) s

/-! ### Interpolator (R77, R78) -/

/-- While MANUAL = 1 the interpolator holds the code in LINE_PI_MAN; when MANUAL returns to 0 the timing loop starts from there (R78). The
manual code counts no wraps. -/
def piFollow (n : Fin 8) (s : State) : State :=
  if s.flag (R.LINE_PI n) F.LINE_PI_MANUAL then
    let code := s.fld (R.LINE_PI_MAN n) F.LINE_PI_MAN_CODE
    let ofs := param s n 7
    { s.setFld (R.LINE_PI n) F.LINE_PI_PHASE code with sig := vmod s.sig n fun g =>
        let p := g.pos - g.pos % 128 + code
        { g with pos := p, trecPhi := (p - ofs) * 4294967296 } }
  else s

/-! ### Frequencies (R73, R74) -/

/-- STEER_BW in Hz (R90, R92). -/
def steerBw (s : State) (n : Nat) : Nat := [500, 1000, 2000, 4000].getD (s.fld (R.LINE_PLL_CFG n) F.LINE_PLL_CFG_STEER_BW) 4000

/-- The steered offset in 1e-14 after `dt` units of 0.2 ns of a loop of a bandwidth in Hz toward a target; while it resumes it moves at most
1 ppm per ms (R74). -/
def steered (slew : Bool) (bw : Nat) (old target : Int) (dt : Nat) : Int :=
  let d := if dt = 0 then 0 else roundDiv ((target - old) * min 65536 (Config.steerGain bw dt) ) 65536
  let m : Int := (20 * dt : Nat)
  old + if slew then clampInt (-m) m d else d

/-- A frequency offset in 1e-14 after `dt` units of 0.2 ns of a slew toward a target: it moves at most 1 ppm per ms (R178). -/
def slewed (old target : Int) (dt : Nat) : Int :=
  let m : Int := (20 * dt * min 65536 Config.slewRate / 65536 : Nat)
  old + clampInt (-m) m (target - old)

/-- The multiplier of a lane PLL in steps of its 24-bit fraction, for a rate in kBd and an offset in 1e-14 (R73). -/
def pllMult (kbd : Nat) (ofs : Int) : Int :=
  roundDiv ((kbd : Int) * 2 ^ 24 * (10 ^ 14 + ofs)) (156250 * 10 ^ 14)

/-- The offset from nominal in 0.01 ppm that a multiplier gives. -/
def pllOffset (kbd : Nat) (mult : Int) : Int :=
  roundDiv ((mult * 156250 - (kbd : Int) * 2 ^ 24) * 10 ^ 8) (kbd * 2 ^ 24)

end Sys2Proof.Machine
end

