-- ==== Sys2Proof/Machine/Well.lean ====
section
/-!
DEFINITION. Pumps and wells: slots, spares, quarantine, takeover, restart, recipe loads, bank switches, rotation and
test slices (R42 to R66 of spec/02_pumps_and_wells.md, R371 to R374 of spec/15_safety_and_self_test.md).
-/
namespace Sys2Proof.Machine

/-- The spares in ascending m but for the one that a transmit slot's change of hands at the next transmit frame boundary
awaits (R56). -/
def spares (s : State) (n : Fin 8) : List Nat :=
  (pumpsIn s n 0).filter fun m => decide (s.well[n].move.map (·.spare) ≠ some m)

/-- The free spares in ascending m: the spares less those reserved for pending takeovers (R56, R58). -/
def freeSpares (s : State) (n : Fin 8) : List Nat := (spares s n).drop s.well[n].vacant.length

/-- A pump under test occupies the well (TEST_BUSY). -/
def testBusy (s : State) (n : Nat) : Bool := s.flag (R.WELL_POOL n) F.WELL_POOL_TEST_BUSY

/-- A pump's bank holds what the well's recipe store has for it (R53, R55). -/
def bankGood (s : State) (n : Fin 8) (bank m : Nat) : Bool :=
  (bankRecipe s n bank).isSome && decide ((pumpMem s n m).code bank = bankRecipe s n bank)

/-- BANK_VALID: a bank whose recipe is in the store is valid when every pump not isolated holds it, and not while it is loaded
(R53, R66). -/
def bankFollow (n : Fin 8) (s : State) : State :=
  [0, 1].foldl (fun (s : State) k =>
    if (bankRecipe s n k).isNone ∨ s.well[n].load.map (·.bank) = some k then s
    else
      let ok := (List.range 64).all fun m => pumpRole s n m == 3 || bankGood s n k m
      let v := s.fld (R.WELL_IBANK n) F.WELL_IBANK_BANK_VALID
      s.setFld (R.WELL_IBANK n) F.WELL_IBANK_BANK_VALID (v - Nat.land v (2 ^ k) + b2n ok * 2 ^ k)) s

/-- WELLn_POOL, the quarantine words and VARIANT_REDUCED follow the pump windows (R66). -/
def poolFollow (n : Fin 8) (s : State) : State :=
  let rx := (pumpsIn s n 1).length
  let tx := (pumpsIn s n 2).length
  let q (m : Nat) : Nat := b2n (pumpQuar s n m)
  let quar (lo : Nat) : Nat := (List.range 32).foldl (fun v k => v + q (lo + k) * 2 ^ k) 0
  let s1 := s.setFld (R.WELL_POOL n) F.WELL_POOL_RX_WORKING rx
  let s1 := s1.setFld (R.WELL_POOL n) F.WELL_POOL_TX_WORKING tx
  let s1 := s1.setFld (R.WELL_POOL n) F.WELL_POOL_SPARES (freeSpares s n).length
  let s1 := s1.setFld (R.WELL_POOL n) F.WELL_POOL_QUAR_COUNT ((List.range 64).filter fun m => pumpQuar s n m).length
  let s1 := s1.setFld (R.WELL_QUAR0 n) F.WELL_QUAR0_QUAR (quar 0)
  let s1 := s1.setFld (R.WELL_QUAR1 n) F.WELL_QUAR1_QUAR (quar 32)
  bankFollow n (s1.setFld (R.WELL_STATUS n) F.WELL_STATUS_VARIANT_REDUCED (b2n (decide (rx < 48 ∨ tx < 8))))

/-- Binds a pump to a slot, in the bank its side runs, with the inputs of R57 loaded (R42, R54). -/
def bindPump (n : Fin 8) (m : Nat) (v : Vacancy) (s : State) : State :=
  let a := R.PUMP_STATE n m
  let s1 := s.setFld a F.PUMP_STATE_ROLE v.role
  let s1 := s1.setFld a F.PUMP_STATE_SLOT v.slot
  preload n m v.role (s1.setFld a F.PUMP_STATE_BANK (bankInForce s n v.role))

/-- Isolates a pump (for test or quarantine). -/
def isolatePump (n : Fin 8) (m : Nat) (s : State) : State := (noteSlack n m s).setFld (R.PUMP_STATE n m) F.PUMP_STATE_ROLE 3

/-- Returns a pump as a free spare: its data memory cleared, or restored where a slice in compatibility mode saved it (R373), and both
banks rewritten from the recipe store (R59). -/
def pumpToSpare (n : Fin 8) (m : Nat) (untested restored : Bool) (s : State) : State :=
  let a := R.PUMP_STATE n m
  let s := s.setFld a F.PUMP_STATE_ROLE 0
  let s := s.setFld a F.PUMP_STATE_SLOT 0
  let s := s.setFld a F.PUMP_STATE_BANK (s.fld (R.WELL_IBANK n) F.WELL_IBANK_ACTIVE)
  let s := s.setFld a F.PUMP_STATE_UNTESTED (b2n untested)
  modPump n m (fun x =>
    if restored then { x with code0 := s.well[n].bank0, code1 := s.well[n].bank1 }
    else { code0 := s.well[n].bank0, code1 := s.well[n].bank1, slack := x.slack }) s

/-- Raises event bit `j` of WELLn_STATUS: interrupt source 32 + 16n + j (R340). -/
def wellEvent (n : Fin 8) (f : Fld) (j : Nat) (s : State) : State := s.raise1 (R.WELL_STATUS n) f (32 + 16 * n + j)

/-- Quarantines a pump (R58, R61): isolated, marked, and recorded in the export list unless a soft repair covers it. -/
def quarantine (n : Fin 8) (m : Nat) (record : Bool) (s : State) : State :=
  let s := (isolatePump n m s).setFld (R.PUMP_STATE n m) F.PUMP_STATE_QUAR 1
  let s := wellEvent n F.WELL_STATUS_QUARANTINE 1 (poolFollow n s)
  if record then addRepair { typ := 2, unit := n, loc := m } s else s

/-- The PUMP_ERR flag of a fault cause. -/
def PumpCause.fld : PumpCause → Fld
  | .ipar => F.PUMP_ERR_IPAR | .due => F.PUMP_ERR_DUE | .deadline => F.PUMP_ERR_DEADLINE
  | .sig => F.PUMP_ERR_SIG | .late2 => F.PUMP_ERR_LATE2

/-- Ends a slice in progress without a result: the pump is no longer under test. -/
def endSlice (n : Fin 8) (s : State) : State := s.setFld (R.WELL_POOL n) F.WELL_POOL_TEST_BUSY 0

/-- Cancels a pending switch: both sides run the bank that was in force before the request (R55). -/
def cancelSwitch (n : Fin 8) (s : State) : State :=
  match s.well[n].switch with
  | none => s
  | some w =>
    let s := (pumpsIn s n 1 ++ pumpsIn s n 2).foldl (fun s m => s.setFld (R.PUMP_STATE n m) F.PUMP_STATE_BANK w.before) s
    let s := s.setFld (R.WELL_IBANK n) F.WELL_IBANK_ACTIVE w.before
    let s := s.setFld (R.WELL_IBANK n) F.WELL_IBANK_SWITCH_PEND 0
    let s := { s with well := vmod s.well n fun x => { x with switch := none, txBank := w.before } }
    wellEvent n F.WELL_STATUS_SWITCH_CANCELLED 6 s

/-- A region reaction of the region is in progress (R37). -/
def reacting (s : State) (r : Region) : Bool := s.region[r.idx].reacting

/-- Counts a well fault toward WELL_REPEAT and escalates at the limit with CAUSE 0x2 (R33, R39). -/
def countWellFault (n : Fin 8) (s : State) : State :=
  let fs := s.now :: recent s.now cycSecond s.well[n].faults
  let s := { s with well := vmod s.well n fun w => { w with faults := fs } }
  if s.fld R.CHIP_ESC_CFG F.CHIP_ESC_CFG_WELL_REPEAT ≤ fs.length
  then regionFault .line n 2 (2 ^ n.val) false s else s

/-- A well fault's mechanism is recorded in the well's own error status and in the journal, whatever follows (R33, R37, R39). -/
def recordWellFault (n : Fin 8) (mech : WellMech) (s : State) : State :=
  ({ s with well := vmod s.well n fun w => { w with mech := some mech, faultCount := w.faultCount + 1 } } : State).journalFault n mech.num

/-- A well fault (R33, R37): a restart is scheduled at the next frame boundary, a takeover is replaced by it and a
pending switch is cancelled. A further fault during a restart is only recorded and counted, and a region reaction in progress
absorbs the fault once it is recorded. -/
def wellFault (n : Fin 8) (mech : WellMech) (s : State) : State :=
  let s := recordWellFault n mech s
  if reacting s .line then s
  else if s.well[n].restarting then (if mech = .pumpNoReserve then s else countWellFault n s)
  else
    let s := cancelSwitch n s
    let s := { s with well := vmod s.well n fun w => { w with restarting := true, hwMap := true, vacant := [], move := none } }
    countWellFault n s

/-- A rotation step whose transmit slot has not changed hands yet is skipped; its victim is the next one again (R56, R58). -/
def cancelMove (n : Fin 8) (s : State) : State :=
  { s with well := vmod s.well n fun w => { w with move := none, prevVictim := (w.prevVictim + 63) % 64 } }

/-- The spares that the pending takeovers leave: a takeover outranks a transmit slot's change of hands, which takes another free spare, or is
skipped for want of KEEP_SPARES + 1 of them (R56, R58). -/
def moveRepick (n : Fin 8) (s : State) : State :=
  match s.well[n].move with
  | none => s
  | some v =>
    let left := (pumpsIn s n 0).drop s.well[n].vacant.length
    if left.contains v.spare then s
    else match left with
      | sp :: _ =>
        if s.fld (R.WELL_ROT_CFG n) F.WELL_ROT_CFG_KEEP_SPARES + 1 ≤ left.length
        then { s with well := vmod s.well n fun w => { w with move := some { v with spare := sp } } }
        else (cancelMove n s).setFld (R.WELL_STATUS n) F.WELL_STATUS_ROT_STOPPED 1
      | [] => (cancelMove n s).setFld (R.WELL_STATUS n) F.WELL_STATUS_ROT_STOPPED 1

/-- A slot waits for a takeover by a free spare, or, with no free spare, the fault is a well fault (R33, R58). The spare of a rotation
step's transmit slot is free as long as that slot has not changed hands. -/
def awaitTakeover (n : Fin 8) (v : Vacancy) (s : State) : State :=
  if (pumpsIn s n 0).length ≤ s.well[n].vacant.length then wellFault n .pumpNoReserve s
  else poolFollow n (moveRepick n { s with well := vmod s.well n fun w => { w with vacant := w.vacant ++ [v] } })

/-- A pump fault (R32, R33, R37, R58): the pump is quarantined at detection, and the blocks dealt to it from block `blk` of the frame
on leave as erasures (R45). The lowest free spare is reserved for its slot; with no free spare the fault is a well fault, also when
the pump was the last spare that a slot waited for. During a restart it is recorded and handled at its end. -/
def pumpFault (n : Fin 8) (m : Fin 64) (c : PumpCause) (blk : Nat) (s : State) : State :=
  let s := s.raise1 (R.PUMP_ERR n m) c.fld (32 + 16 * n + 8)
  if s.well[n].restarting then
    { s with well := vmod s.well n fun w => { w with deferred := w.deferred ++ [(m.val, c)] } }
  else if pumpQuar s n m then s
  else
    let role := pumpRole s n m
    let slot := pumpSlot s n m
    let s := if role = 3 ∧ s.fld (R.WELL_POOL n) F.WELL_POOL_TEST_PUMP = m then endSlice n s else s
    let s := if (s.well[n].move.map fun v => v.spare == m.val || v.victim == m.val) = some true then cancelMove n s else s
    let s := quarantine n m true s
    if role = 1 ∨ role = 2 then awaitTakeover n { role := role, slot := slot, pump := m, start := blk } s
    else if role = 0 ∧ (pumpsIn s n 0).length < s.well[n].vacant.length then wellFault n .pumpNoReserve s
    else if role = 0 then poolFollow n (moveRepick n s) else s

/-- A takeover (R57, R58): the spare with the lowest m takes the slot of the oldest pump fault. Where a lower spare has become free between
the detection and the boundary, R58 does not say which of them takes the slot: DESIGN CHOICE, the lowest at the takeover
(notes/assumptions/137.md). -/
def pumpTakeover (n : Fin 8) (s : State) : State :=
  match s.well[n].vacant, spares s n with
  | v :: rest, m :: _ =>
    let s := { s with well := vmod s.well n fun w => { w with vacant := rest } }
    let s := poolFollow n (bindPump n m v s)
    (wellEvent n F.WELL_STATUS_TAKEOVER 0 s).addSat (R.WELL_CNT n) F.WELL_CNT_TAKEOVERS 1
  | _, _ => s

/-- A pump holds the slot. -/
def slotBound (s : State) (n : Nat) (v : Vacancy) : Bool :=
  (pumpsIn s n v.role).any fun m => pumpSlot s n m == v.slot

/-- All slots in the order in which a restart fills them: transmit slots first, then receive slots (R60). -/
def slotOrder : List Vacancy :=
  (List.range 8).map (fun k => { role := 2, slot := k }) ++ (List.range 48).map (fun k => { role := 1, slot := k })

/-- Fills slots left without a pump from the free spares in ascending m (R60, R61). -/
def fillSlots (n : Fin 8) (s : State) : State :=
  poolFollow n (slotOrder.foldl (fun s v =>
    if slotBound s n v then s
    else match pumpsIn s n 0 with
      | [] => s
      | m :: _ => bindPump n m v s) s)

/-- Abandons the slice in progress: the pump under test is re-initialised, marked untested and counted as a free spare;
a soft-repaired pump under re-test stays quarantined (R59, R374). A late slice before it still counts for the next one: R31's "twice
in a row" is taken over the slices that ran to an end (notes/assumptions/84.md). -/
def abandonSlice (n : Fin 8) (s : State) : State :=
  if testBusy s n then
    let m := s.fld (R.WELL_POOL n) F.WELL_POOL_TEST_PUMP
    let s := endSlice n s
    if pumpQuar s n m then s.setFld (R.PUMP_STATE n m) F.PUMP_STATE_UNTESTED 1
    else poolFollow n (pumpToSpare n m true false s)
  else s

/-- Sets the bank that every pump of a role runs. -/
def setBank (n : Fin 8) (role bank : Nat) (s : State) : State :=
  (pumpsIn s n role).foldl (fun s m => s.setFld (R.PUMP_STATE n m) F.PUMP_STATE_BANK bank) s

/-- The slots of one side that a load left pending come into force with that side's switch (R54, R66). -/
def paramsInForce (n : Fin 8) (rx : Bool) (s : State) : State :=
  let ks := s.well[n].held.filter fun k => parTx k != rx
  let s := ks.foldl (fun s k => s.setActReg (R.WELL_PARAM n k) (s.reg (R.WELL_PARAM n k))) s
  { s with well := vmod s.well n fun w => { w with held := w.held.filter fun k => parTx k == rx } }

/-- One side of the well changes to the target bank, with the default values of its parameters; the receive side brings the recipe's
reach class into force (R54, R66, R115, R169). -/
def sideToBank (n : Fin 8) (rx : Bool) (bank : Nat) (s : State) : State :=
  if rx then
    let s := paramsInForce n true ((setBank n 1 bank s).setFld (R.WELL_IBANK n) F.WELL_IBANK_ACTIVE bank)
    match bankRecipe s n bank with
    | none => s
    | some r =>
      if r.reach ≤ 3 then
        (s.setFld (R.WELL_RX_STATUS n) F.WELL_RX_STATUS_REACH_EFF r.reach).setFld (R.WELL_RX_STATUS n) F.WELL_RX_STATUS_REACH_NC 0
      else s.setFld (R.WELL_RX_STATUS n) F.WELL_RX_STATUS_REACH_NC 1
  else
    let s := setBank n 2 bank s
    paramsInForce n false { s with well := vmod s.well n fun w => { w with txBank := bank } }

/-- Both sides have switched: the alias of ACTIVE follows and the request ends (R53, R54). -/
def switchDone (n : Fin 8) (s : State) : State :=
  let s := s.setActFld (R.WELL_IBANK n) F.WELL_IBANK_ACTIVE (s.fld (R.WELL_IBANK n) F.WELL_IBANK_ACTIVE)
  let s := s.setFld (R.WELL_IBANK n) F.WELL_IBANK_SWITCH_PEND 0
  wellEvent n F.WELL_STATUS_SWITCH_DONE 4 { s with well := vmod s.well n fun w => { w with switch := none } }

/-- Refuses a switch with a reason (R55). When one side has switched already and the second is refused, the banks stay mixed as they are,
and the next request goes to the bank that the receive side does not run: R55 leaves this open (notes/assumptions/85.md). -/
def switchRefused (n : Fin 8) (reason : Nat) (s : State) : State :=
  let s := s.setFld (R.WELL_STATUS n) F.WELL_STATUS_REFUSE_REASON reason
  let s := s.setFld (R.WELL_IBANK n) F.WELL_IBANK_SWITCH_PEND 0
  wellEvent n F.WELL_STATUS_SWITCH_REFUSED 5 { s with well := vmod s.well n fun w => { w with switch := none } }

/-- A switch request (R54): absorbed into a pending one. -/
def switchRequest (n : Fin 8) (update : Bool) (s : State) : State :=
  match s.well[n].switch with
  | some w => { s with well := vmod s.well n fun x => { x with switch := some { w with update := w.update || update } } }
  | none =>
    let b := s.fld (R.WELL_IBANK n) F.WELL_IBANK_ACTIVE
    let s := s.setFld (R.WELL_IBANK n) F.WELL_IBANK_SWITCH_PEND 1
    { s with well := vmod s.well n fun x => { x with switch := some { target := 1 - b, before := b, update := update } } }

/-- The recipe's profile and lane-rate range match the lane's current configuration (R51). -/
def recipeMatches (s : State) (n : Nat) (r : Recipe) : Bool :=
  decide (r.profile = profileEff s) && decide (r.rateLo * 1000 ≤ laneRate s n) && decide (laneRate s n ≤ r.rateHi * 1000)

/-- The target bank is valid in every pump concerned (R55). -/
def bankValidFor (s : State) (n : Fin 8) (role bank : Nat) : Bool := (pumpsIn s n role).all fun m => bankGood s n bank m

/-- A boundary at least 256 well cycles after the request: one side checks the target bank and switches or refuses
(R54, R55). -/
def bankSwitchSide (n : Fin 8) (rx : Bool) (s : State) : State :=
  match s.well[n].switch with
  | none => s
  | some w =>
    if (if rx then w.rxDone else w.txDone) then s
    else
      let role := if rx then 1 else 2
      match bankRecipe s n w.target, bankRecipe s n (bankInForce s n role) with
      | none, _ => switchRefused n (if s.well[n].load.isSome then 3 else 1) s
      | some t, cur =>
        if s.well[n].load.isSome then switchRefused n 3 s
        else if !bankValidFor s n role w.target then switchRefused n 1 s
        else if !recipeMatches s n t then switchRefused n 4 s
        else if cur.isSome && decide (cur.map (·.sig) ≠ some t.sig) then
          if s.flag (R.WELL_RECIPE n) F.WELL_RECIPE_FORCE ||
             (w.update && s.flag R.BOOT_STAGE_CTRL F.BOOT_STAGE_CTRL_FORCE_WELL) then
            { s with well := vmod s.well n fun x => { x with restarting := true, forced := true, hwMap := true } }
          else switchRefused n 2 s
        else
          let s := sideToBank n rx w.target s
          let w' := if rx then { w with rxDone := true } else { w with txDone := true }
          let s := { s with well := vmod s.well n fun x => { x with switch := some w' } }
          if w'.rxDone && w'.txDone then switchDone n s else s

/-- The well restart at its frame boundary (R34, R55, R60). `cw` KP4 codewords carry the lane's data from detection to
the end of the restart, and `frames` frames hold the burst. The working pumps reload what is in force from well local memory. -/
def wellRestart (n : Fin 8) (cw frames : Nat) (s : State) : State :=
  if !s.well[n].restarting then s
  else
    let s := abandonSlice n s
    let s := if s.well[n].forced then
        match s.well[n].switch with
        | some w => switchDone n (sideToBank n false w.target (sideToBank n true w.target s))
        | none => s
      else s
    let s := fillSlots n { s with well := vmod s.well n fun w => { w with vacant := [], move := none } }
    let quiet := s.well[n].quiet
    let s := if quiet then s else
      let s := wellEvent n F.WELL_STATUS_BURST 3 (wellEvent n F.WELL_STATUS_RESTART 2 s)
      let s := s.addSat (R.WELL_CNT n) F.WELL_CNT_RESTARTS 1
      poisonRx n cw (s.addSat (R.WELL_CNT n) F.WELL_CNT_BURST_FRAMES frames)
    let s := (pumpsIn s n 1 ++ pumpsIn s n 2).foldl (fun s m => preload n m (pumpRole s n m) s) s
    let def' := s.well[n].deferred
    let s := { s with well := vmod s.well n fun w =>
      { w with restarting := false, forced := false, quiet := false, hwMap := false, deferred := [] } }
    let s := match recipeInForce s n with
      | some r =>
        if (pumpsIn s n 1).length < r.rxMin ∨ (pumpsIn s n 2).length < r.txMin
        then regionFault .line n 1 (2 ^ n.val) false s else s
      | none => s
    def'.foldl (fun s p => pumpFault n ⟨p.1 % 64, Nat.mod_lt _ (by decide)⟩ p.2 0 s) s

/-! ### Recipe loads (R50 to R53) -/

/-- A refused load sets LOAD_ERR and leaves both banks as they were (R51). -/
def loadErr (n : Fin 8) (s : State) : State := wellEvent n F.WELL_STATUS_LOAD_ERR 7 s

/-- The recipe fits the well's pumps (R51). -/
def recipeFits (s : State) (n : Fin 8) (r : Recipe) : Bool :=
  let rx := (pumpsIn s n 1).length
  let tx := (pumpsIn s n 2).length
  let sp := (freeSpares s n).length
  decide (r.rxMin ≤ rx + sp) && decide (r.txMin ≤ tx + sp) && decide (r.rxMin + r.txMin ≤ rx + tx + sp)

/-- The recipe with an index in a PUMP section. -/
def findRecipe (p : PumpSection) (sel : Nat) : Option Recipe := (p.recipes.find? fun x => x.1 == sel).map (·.2)

/-- A load of a recipe into the inactive bank begins: the bank is not valid while it is written (R53). -/
def beginLoad (n : Fin 8) (l : Load) (s : State) : State :=
  let s := s.setFld (R.WELL_IBANK n) F.WELL_IBANK_LOADING 1
  let s := s.clrBits (R.WELL_IBANK n) F.WELL_IBANK_BANK_VALID (2 ^ l.bank)
  { s with well := vmod s.well n fun w => { w with load := some l, pump := w.pump.map (PumpMem.setCode l.bank none) } }

/-- The inactive bank. -/
def otherBank (s : State) (n : Fin 8) : Nat := 1 - s.fld (R.WELL_IBANK n) F.WELL_IBANK_ACTIVE

/-- Starts a load into the inactive bank, or refuses it (R51, R53). -/
def startLoad (n : Fin 8) (p : PumpSection) (sel : Nat) (auto : Bool) (reach : Option Nat) (s : State) : State :=
  match findRecipe p sel with
  | none => loadErr n s
  | some r =>
    if p.intact && recipeMatches s n r && recipeFits s n r then
      beginLoad n { sel := sel, bank := otherBank s n, auto := auto, recipe := r, reach := reach } s
    else loadErr n s

/-- The effect of LOAD = 1 once BUSY and ownership are settled (R53). AUTO_SWITCH is sampled here, at the LOAD write: R66 does not say
whether the write or the completion decides (notes/assumptions/78.md). -/
def recipeLoad (n : Fin 8) (verified : Bool) (s : State) : State :=
  let a := R.WELL_RECIPE n
  let sel := s.fld a F.WELL_RECIPE_SEL
  let auto := s.flag a F.WELL_RECIPE_AUTO_SWITCH
  if s.flag a F.WELL_RECIPE_SRC then
    if verified then startLoad n s.stagedPumps sel auto none s else loadErr n s
  else startLoad n s.pumps sel auto none s

/-- The load completes (R53). `bad` names the pumps whose inactive bank failed parity while it was written: the bank is
then not valid in them. The recipe's default parameter values go into the pending copies, to take effect with the switch (R66). -/
def recipeLoadDone (n : Fin 8) (bad : List (Fin 64)) (s : State) : State :=
  match s.well[n].load with
  | none => s
  | some l =>
    let s := bad.foldl (fun s m => s.setFld (R.PUMP_ERR n m) F.PUMP_ERR_IPAR_INACTIVE 1) s
    let s := s.setFld (R.WELL_IBANK n) F.WELL_IBANK_LOADING 0
    let s := if l.bank = 0 then s.setFld (R.WELL_IBANK n) F.WELL_IBANK_SEL_BANK0 l.sel
             else s.setFld (R.WELL_IBANK n) F.WELL_IBANK_SEL_BANK1 l.sel
    let s := l.recipe.slots.foldl (fun s p => s.setReg (R.WELL_PARAM n (p.slot % 64)) (word p.dflt)) s
    let s := { s with well := vmod s.well n fun w =>
      { w with load := none, held := l.recipe.slots.map (·.slot % 64),
               bank0 := if l.bank = 0 then some l.recipe else w.bank0,
               bank1 := if l.bank = 0 then w.bank1 else some l.recipe } }
    let s := (List.range 64).foldl (fun s m =>
      if pumpRole s n m = 3 then s
      else modPump n m (PumpMem.setCode l.bank (if bad.any fun x => x.val == m then none else some l.recipe)) s) s
    let s := bankFollow n s
    if l.prof then
      let b := s.fld (R.WELL_IBANK n) F.WELL_IBANK_ACTIVE
      { s with well := vmod s.well n fun w =>
        { w with switch := some { target := l.bank, before := b }, restarting := true, forced := true, quiet := true } }
    else if l.auto then switchRequest n false s else s

/-! ### Rotation and test slices (R56, R59, R371 to R374) -/

/-- The first pump after `prev` in ascending m, wrapping, that is not quarantined (R56). -/
def nextVictim (s : State) (n : Fin 8) : Option Nat :=
  ((List.range 64).map fun i => (s.well[n].prevVictim + 1 + i) % 64).find? fun m => !pumpQuar s n m

/-- Starts the slice on a pump: isolated, under test. -/
def startSlice (n : Fin 8) (m : Nat) (s : State) : State :=
  let s := isolatePump n m s
  let s := s.setFld (R.WELL_POOL n) F.WELL_POOL_TEST_PUMP m
  let s := s.setFld (R.WELL_POOL n) F.WELL_POOL_TEST_BUSY 1
  let s := s.setFld (R.WELL_STATUS n) F.WELL_STATUS_ROT_STOPPED 0
  let save := if s.flag R.SAF_LBIST_CTRL F.SAF_LBIST_CTRL_COMPAT then some m else none
  poolFollow n { s with well := vmod s.well n fun w => { w with saved := save } }

/-- Epochs between rotation steps: ROT_EPOCHS in force within 2 to 16, and 8 at 53.125 GBd when it is greater (R56, R66). -/
def rotEpochs (s : State) (n : Fin 8) : Nat :=
  let k := clampNat 2 16 (s.actFld (R.WELL_ROT_CFG n) F.WELL_ROT_CFG_ROT_EPOCHS)
  if s.fld (R.LINE_PLL_CFG n) F.LINE_PLL_CFG_RATE = 3 then min 8 k else k

/-- The victim gives up its slot to the spare and is isolated for its slice (R56). -/
def handOver (n : Fin 8) (victim spare : Nat) (s : State) : State :=
  startSlice n victim (bindPump n spare { role := pumpRole s n victim, slot := pumpSlot s n victim } s)

/-- The step's choice of a victim (R56): skipped when the next in order is a reserved spare, and, with ROT_STOPPED, for want of
KEEP_SPARES + 1 free spares. A transmit slot changes hands at the next transmit frame boundary. -/
def rotatePick (n : Fin 8) (m : Nat) (s : State) : State :=
  let free := freeSpares s n
  if pumpRole s n m = 0 ∧ !free.contains m then s
  else if free.length < s.fld (R.WELL_ROT_CFG n) F.WELL_ROT_CFG_KEEP_SPARES + 1 then
    s.setFld (R.WELL_STATUS n) F.WELL_STATUS_ROT_STOPPED 1
  else
    let s := { s with well := vmod s.well n fun w =>
      { w with named := none, prevVictim := if w.named = some m then w.prevVictim else m } }
    match pumpRole s n m, free with
    | 0, _ => startSlice n m s
    | 2, sp :: _ => poolFollow n { s with well := vmod s.well n fun w =>
        { w with move := some { victim := m, spare := sp } } }
    | _, sp :: _ => handOver n m sp s
    | _, [] => s

/-- A rotation step that is due at this receive epoch boundary (R56, R373, R374). -/
def rotationStep (n : Fin 8) (s : State) : State :=
  if !s.well[n].rotDue then s
  else
    let s := { s with well := vmod s.well n fun w => { w with rotDue := false } }
    if !s.flag (R.WELL_ROT_CFG n) F.WELL_ROT_CFG_ROT_EN || testBusy s n || s.well[n].restarting || s.well[n].move.isSome then s
    else match s.well[n].retest with
    | m :: _ => startSlice n m s
    | [] =>
      let pick := match s.well[n].named with
        | some m => if pumpQuar s n m then nextVictim s n else some m
        | none => nextVictim s n
      match pick with
      | none => s
      | some m => rotatePick n m s

/-- A transmit slot changes hands at the first transmit frame boundary at or after the step (R56). -/
def moveBoundary (n : Fin 8) (s : State) : State :=
  match s.well[n].move with
  | none => s
  | some v =>
    let s := { s with well := vmod s.well n fun w => { w with move := none } }
    if pumpRole s n v.victim = 2 ∧ pumpRole s n v.spare = 0 then handOver n v.victim v.spare s else s

/-- A passing slice (R59, R372 to R374). -/
def slicePass (n : Fin 8) (m : Nat) (saved : Bool) (s : State) : State :=
  let wasQuar := pumpQuar s n m
  let s := pumpToSpare n m false saved s
  let s := (s.setFld (R.PUMP_STATE n m) F.PUMP_STATE_QUAR 0).setFld (R.PUMP_STATE n m) F.PUMP_STATE_TEST_PASS 1
  let s := poolFollow n (s.addWrap R.SAF_LBIST_STATUS F.SAF_LBIST_STATUS_PASSES 1)
  if wasQuar then addRepair { typ := 3, unit := n, loc := m } s else s

/-- A failing slice (R372, R374): SLICE_FAIL, FAILS, quarantine. -/
def sliceFail (n : Fin 8) (m : Nat) (record : Bool) (s : State) : State :=
  let s := s.setFld (R.PUMP_STATE n m) F.PUMP_STATE_TEST_PASS 0
  let s := (s.raise1 R.SAF_LBIST_STATUS F.SAF_LBIST_STATUS_SLICE_FAIL 400).addSat R.SAF_LBIST_STATUS F.SAF_LBIST_STATUS_FAILS 1
  quarantine n m record s

/-- A soft repair (R374): counted, and the pump waits quarantined for its re-test. -/
def softRepair (n : Fin 8) (m : Nat) (lastSpare : Bool) (s : State) : State :=
  let s := (s.raise1 R.SAF_REPAIR_STATUS F.SAF_REPAIR_STATUS_REPAIR_EV 402).addSat R.SAF_REPAIR_STATUS F.SAF_REPAIR_STATUS_SOFT_REPAIRS 1
  let s := if lastSpare then s.raise1 R.SAF_REPAIR_STATUS F.SAF_REPAIR_STATUS_SPARE_OUT 403 else s
  { s with well := vmod s.well n fun w => { w with retest := w.retest ++ [m] } }

/-- A test slice completes (R59, R371, R372, R374). -/
def testSliceDone (n : Fin 8) (r : SliceResult) (s : State) : State :=
  if !testBusy s n then s
  else
    let m := s.fld (R.WELL_POOL n) F.WELL_POOL_TEST_PUMP
    let saved := s.well[n].saved == some m
    let s := endSlice n s
    let s := { s with well := vmod s.well n fun w =>
      { w with late := w.late.filter (· != m), retest := w.retest.filter (· != m), saved := none } }
    match r with
    | .pass => slicePass n m saved s
    | .sigFail => sliceFail n m true (s.raise1 (R.PUMP_ERR n m) F.PUMP_ERR_SIG (32 + 16 * n + 8))
    | .softRepair last => sliceFail n m false (softRepair n m last s)
    | .memFail => sliceFail n m true s

/-- A slice not complete within 1.5 ms (R31, R32, R59, R374). -/
def testSliceTimeout (n : Fin 8) (s : State) : State :=
  if !testBusy s n then s
  else
    let m := s.fld (R.WELL_POOL n) F.WELL_POOL_TEST_PUMP
    let s := endSlice n s
    let s := (s.raise1 R.SAF_LBIST_STATUS F.SAF_LBIST_STATUS_SLICE_LATE 401).addSat R.SAF_LBIST_STATUS F.SAF_LBIST_STATUS_LATES 1
    let second := s.well[n].late.contains m
    let s := { s with well := vmod s.well n fun w =>
      { w with saved := none, late := if second then w.late.filter (· != m) else w.late ++ [m] } }
    if second then
      let s := s.raise1 (R.PUMP_ERR n m) F.PUMP_ERR_LATE2 (32 + 16 * n + 8)
      let s := { s with well := vmod s.well n fun w => { w with retest := w.retest.filter (· != m) } }
      quarantine n m true s
    else if pumpQuar s n m then s.setFld (R.PUMP_STATE n m) F.PUMP_STATE_UNTESTED 1
    else poolFollow n (pumpToSpare n m true false s)

/-- GO of SAF_LBIST_CTRL (R373): the named pump is the next victim of its well, or NAK is set. -/
def lbistGo (s : State) : State :=
  let n := lane (s.fld R.SAF_LBIST_CTRL F.SAF_LBIST_CTRL_WELL)
  let m := s.fld R.SAF_LBIST_CTRL F.SAF_LBIST_CTRL_PUMP
  if pumpQuar s n m then s.setFld R.SAF_LBIST_CTRL F.SAF_LBIST_CTRL_NAK 1
  else { s with well := vmod s.well n fun w => { w with named := some m } }

end Sys2Proof.Machine
end

