-- ==== Sys2Proof/Machine/Rx.lean ====
section
/-!
DEFINITION. Receive equalisation and detection: R96 to R118 of spec/04_receive_chain.md, and the kernel reports of R47
and R49 of spec/02_pumps_and_wells.md.
-/
namespace Sys2Proof.Machine

/-! ### Kernel reports (R49) -/

/-- The epoch leader: the pump in the working receive slot with the lowest index. -/
def epochLeader (s : State) (n : Nat) : Option Nat :=
  (pumpsIn s n 1).foldl (fun b m => match b with
    | none => some m
    | some k => if s.fld (R.PUMP_STATE n m) F.PUMP_STATE_SLOT < s.fld (R.PUMP_STATE n k) F.PUMP_STATE_SLOT then some m else b) none

/-- A kernel report: code and kernel number go to the pump's PUMP_ERR, and KWARN is set (R49). -/
def kernelReport (n m code kid : Nat) (s : State) : State :=
  let a := R.PUMP_ERR n m
  ((s.setFld a F.PUMP_ERR_KERR code).setFld a F.PUMP_ERR_KID kid).setFld a F.PUMP_ERR_KWARN 1

/-- A report of the epoch leader. -/
def leaderReport (n code kid : Nat) (s : State) : State :=
  match epochLeader s n with | some m => kernelReport n m code kid s | none => s

/-! ### Parameters out of range (R47) -/

/-- A parameter in force outside its range is reported with code 0x02 by the pumps that run its kernel, where the profile runs it and
the recipe uses it (R47, R52, R93). -/
def slotReport (n : Fin 8) (k : Nat) (s : State) : State :=
  match slotRange (profileEff s) k with
  | none => s
  | some (_, _, kid) =>
    if !parBad s n k || (slotOf s n k).isNone || !kernelRuns (profileEff s) kid then s
    else if kid = 9 then leaderReport n 2 9 s
    else (pumpsIn s n (if kid ≥ 11 then 2 else 1)).foldl (fun s m => kernelReport n m 2 kid s) s

/-! ### Timing recovery (R96) -/

/-- The timing loop is frozen: TREC_FREEZE, HOLD or the manual interpolator code (R78, R96, R112). -/
def trecFrozen (s : State) (n : Nat) : Bool :=
  s.flag (R.WELL_RX_CTRL n) F.WELL_RX_CTRL_TREC_FREEZE || rxState s n == 4 || s.flag (R.LINE_PI n) F.LINE_PI_MANUAL

/-- One receive frame of timing recovery with rms phase error `ph` in 1/128 UI: TREC_LOCK after 4 frames within 4/128 UI or beyond
8/128 UI (R96). A frame without a block that has a timing error leaves the figures as they are (notes/assumptions/86.md). -/
def trecFrame (n : Fin 8) (ph : Option Nat) (s : State) : State :=
  let st := R.WELL_RX_STATUS n
  let s := match ph with
    | none => s
    | some p =>
      let s := s.setFld (R.WELL_RX_TREC n) F.WELL_RX_TREC_PH_ERR_RMS (min 127 p)
      let good := if p ≤ 4 then s.rx[n].trecGood + 1 else 0
      let bad := if 8 < p then s.rx[n].trecBad + 1 else 0
      let s := if 4 ≤ good then s.setFld st F.WELL_RX_STATUS_TREC_LOCK 1
               else if 4 ≤ bad then s.setFld st F.WELL_RX_STATUS_TREC_LOCK 0 else s
      modRx n (fun r => { r with trecGood := min 4 good, trecBad := min 4 bad }) s
  let un := if s.flag st F.WELL_RX_STATUS_TREC_LOCK || rxState s n != 3 then 0 else s.rx[n].unlocked + 1
  modRx n (fun r => { r with unlocked := min 16 un }) s

/-! ### Coefficients (R97, R106, R111) -/

/-- The nearest multiple of 256 of a 16-bit coefficient, divided by 256 (R97). A coefficient half way between two
multiples is rounded as the free value says: the spec names no direction. -/
def round8 (c : Int) (s : State) : Int × State :=
  let q := c / 256
  let r := c % 256
  if r < 128 then (q, s) else if 128 < r then (q + 1, s)
  else
    let (b, s) := s.fresh 1
    (q + b, s)

/-- The 8-bit coefficients of a set. -/
def roundSet (l : List Int) (s : State) : List Int × State :=
  l.foldl (fun p c => let (v, s) := round8 c p.2; (p.1 ++ [v], s)) ([], s)

/-- The word of WELLn_FFE_TAPk for a set of 8-bit coefficients; taps above 40 have no field. -/
def tapWord (l : List Int) (k : Nat) : Word :=
  let t (j : Nat) : Nat := if 4 * k + j ≤ 40 then unsigned 8 ((l[4 * k + j]?).getD 0) else 0
  word (t 0 + t 1 * 0x100 + t 2 * 0x10000 + t 3 * 0x1000000)

/-- WELLn_FFE_TAPk shows the coefficients most recently computed. -/
def showTaps (n : Nat) (l : List Int) (s : State) : State :=
  (List.range 11).foldl (fun s k => s.setReg (R.WELL_FFE_TAP n k) (tapWord l k)) s

/-- The alias of WELLn_FFE_TAPk follows: the set shown is in force. -/
def tapsInForce (n : Nat) (s : State) : State :=
  (List.range 11).foldl (fun s k => s.setActReg (R.WELL_FFE_TAP n k) (s.reg (R.WELL_FFE_TAP n k))) s

/-- A set of `t` coefficients: those beyond are dropped and added taps start at 0 (R117). -/
def sizeSet (t : Nat) (l : List Int) : List Int := (l ++ List.replicate t 0).take t

/-- Tap i of WELLn_FFE_INITk. -/
def initTap (s : State) (n i : Nat) : Int :=
  let w := s.reg (R.WELL_FFE_INIT n (i / 4))
  signed 8 (w.toNat / 2 ^ (8 * (i % 4)) % 256)

/-- The initial set (R111): the preset of the recipe in force, or the INIT registers. The preset is held by absolute tap index: a written
FFE_PRE does not move it, which R111 leaves open (DESIGN CHOICE, notes/assumptions/139.md). -/
def initialSet (s : State) (n : Fin 8) : List Int :=
  let t := s.rx[n].taps
  let l := if s.flag (R.WELL_RX_CTRL n) F.WELL_RX_CTRL_INIT_SRC then (List.range t).map (initTap s n)
    else match recipeInForce s n with | some r => r.init | none => []
  (sizeSet t l).map (· * 256)

/-- Installs a coefficient set at once: in force, shown, and in the receive pumps. -/
def installSet (n : Fin 8) (l : List Int) (s : State) : State :=
  let (l8, s) := roundSet l s
  rxPumpsLoad n (tapsInForce n (showTaps n l8 (modRx n (fun r => { r with c16 := l, pend := none }) s)))

/-- The chain goes to step 2, TIMING, with the starting coefficients of R111: the last-good set for the first attempt
after a loss of lock or a HOLD with HOLD_KEEP = 1, else the initial set, as with a RESTART that is pending (R114, R117). -/
def startAttempt (n : Fin 8) (s : State) : State :=
  let keep := !s.rx[n].useInit && !s.rx[n].restartPend && s.flag (R.WELL_RX_CTRL n) F.WELL_RX_CTRL_HOLD_KEEP
  let l := match keep, s.rx[n].lastGood with
    | true, some g => sizeSet s.rx[n].taps g
    | _, _ => initialSet s n
  setRxState n 1 (installSet n l (modRx n (fun r =>
    { r with useInit := true, epochs := 0, lowFom := 0, unlocked := 0, startPend := false, restartPend := false }) s))

/-- A reacquiring change (R117): the attempt starts from the initial set; in IDLE or HOLD it only decides the next
attempt's starting set. -/
def reacquire (n : Fin 8) (s : State) : State :=
  let s := modRx n (fun r => { r with useInit := true, restartPend := false }) s
  if rxState s n = 0 ∨ rxState s n = 4 then s else startAttempt n s

/-- A RESTART or a loss of lock comes into effect at a receive frame boundary; together they make one restart, from the
initial set (R113, R114, R117). DESIGN CHOICE: neither a RESTART nor a reacquiring change of a parameter is the loss of lock that ends a
training run (R141; notes/assumptions/138.md). -/
def restartAtBoundary (n : Fin 8) (s : State) : State :=
  if s.rx[n].restartPend then reacquire n s
  else if s.rx[n].startPend then startAttempt n s
  else s

/-- FFE_TAPS changes (R117): the taps that remain keep their coefficients and added taps start at 0, in force, shown and pending. -/
def tapsResize (n : Fin 8) (taps : Nat) (s : State) : State :=
  let old := s.rx[n].taps
  let s := modRx n (fun r => { r with taps := taps, c16 := sizeSet taps r.c16, pend := r.pend.map (sizeSet taps),
                                      lastGood := r.lastGood.map (sizeSet taps) }) s
  let cut (l : List Int) : List Int := l.take (min old taps)
  let now := cut ((List.range 41).map (coefInForce s n))
  let shown := cut ((List.range 41).map fun i => signed 8 ((s.reg (R.WELL_FFE_TAP n (i / 4))).toNat / 2 ^ (8 * (i % 4))))
  showTaps n shown (tapsInForce n (showTaps n now s))

/-- A parameter in force is another one than in `old`, or another recipe brought it (R52). -/
def parChanged (n : Fin 8) (old s : State) (k : Nat) : Bool :=
  let role := if parTx k then 2 else 1
  paramRaw old n k != paramRaw s n k || bankInForce old n role != bankInForce s n role

/-- The parameters in force changed from those of `old` (R47, R116, R117): those out of range are reported, FFE_TAPS resizes the
set, an even FFE_TAPS is one of its odd neighbours, and a change of FFE_PRE, TARGET_H1 or TARGET_H2 reacquires. -/
def rxParamsFollow (n : Fin 8) (old : State) (s : State) : State :=
  let ks := (List.range 16).filter (parChanged n old s)
  let v := paramN s n 0
  let s := if ks.contains 0 then
      let (b, s) := if v % 2 = 1 then (0, s) else s.fresh 1
      let taps := if v % 2 = 1 then v else v - 1 + 2 * b
      if taps = s.rx[n].taps then s else tapsResize n taps s
    else s
  let s := ks.foldl (fun s k => slotReport n k s) s
  if ffePre old n = ffePre s n ∧ targetH old n 10 = targetH s n 10 ∧ targetH old n 11 = targetH s n 11 then s
  else reacquire n s

/-- Every parameter of one side is the same in two states; a slot that the recipe in force does not use is none (R52). -/
def sameParams (n : Fin 8) (rx : Bool) (old s : State) : Bool :=
  ((List.range 40).filter fun k => parTx k != rx).all fun k => !parChanged n old s k

/-- The pending values of one side's slots come into force at an epoch boundary, but for those that a load left to wait for the switch
(R29, R66, R116, R137). -/
def paramsTransfer (n : Fin 8) (rx : Bool) (s : State) : State :=
  ((List.range 64).filter fun k => parTx k != rx && !s.well[n].held.contains k).foldl
    (fun s k => s.setActReg (R.WELL_PARAM n k) (s.reg (R.WELL_PARAM n k))) s

/-- The receive slots at a receive epoch boundary: all but those of the transmit side. -/
def rxParamsApply (n : Fin 8) (s : State) : State :=
  let s' := paramsTransfer n true s
  if sameParams n true s s' then s' else rxParamsFollow n s s'

/-- The transmit parameters in force changed from those of `old`: those out of range are reported (R47, R137). -/
def txParamsFollow (n : Fin 8) (old s : State) : State :=
  (((List.range 8).map (· + 32)).filter (parChanged n old s)).foldl (fun s k => slotReport n k s) s

/-- The transmit slots at a transmit epoch boundary (R137). -/
def txParamsApply (n : Fin 8) (s : State) : State :=
  let s' := paramsTransfer n false s
  if sameParams n false s s' then s' else txParamsFollow n s s'

/-! ### Adaptation and figure of merit (R103 to R108) -/

/-- The figure of merit of n samples with error power e: 40·log10(128²·n/e), rounded, within 0 to 255 (R108). -/
def fomOf (n e : Nat) : Nat :=
  if n = 0 then 0
  else ((List.range 255).filter fun i => decide (10 ^ (2 * i + 1) * e ^ 80 ≤ (16384 * n) ^ 80)).length

/-- The integer square root, one bit at a time. -/
def isqrt (x : Nat) : Nat → Nat → Nat
  | 0, r => r
  | k + 1, r => isqrt x k (if (r + 2 ^ k) * (r + 2 ^ k) ≤ x then r + 2 ^ k else r)

/-- ERR_RMS: sqrt(e / n) in 1/16 equaliser unit. The spec gives no rounding, so an inexact root is the value below or
above, as the free value says. -/
def errRms (n e : Nat) (s : State) : Nat × State :=
  if n = 0 then (0, s)
  else
    let x := 256 * e / n
    let r := isqrt x 24 0
    if r * r * n = 256 * e then (min 65535 r, s)
    else
      let (b, s) := s.fresh 1
      (min 65535 (r + b), s)

/-- One tap of R106: the mean gradient truncated toward 0, shifted arithmetically, subtracted with saturation. -/
def adaptTap (c g : Int) (n mu : Nat) : Int := clampInt (-32768) 32767 (c - (Int.tdiv (g * 64) n) / 2 ^ mu)

/-- The set that R106 computes from the sums. -/
def adaptSet (s : State) (n : Fin 8) (a : AdaptSums) : List Int :=
  let mu := if rxState s n = 2 then paramN s n 3 else paramN s n 2
  let pre := ffePre s n
  let anchor := param s n 14 == 1 && decide (0 < pre)
  (sizeSet s.rx[n].taps s.rx[n].c16).zipIdx.map fun p =>
    if anchor && p.2 == pre - 1 then p.1 else adaptTap p.1 ((a.g[p.2]?).getD 0) a.n mu

/-- The stability limit of R106. -/
def stable (l : List Int) : Bool :=
  l.all (fun c => decide (c.natAbs ≤ 32512)) && decide ((l.map (·.natAbs)).sum ≤ 65536)

/-- The threshold between levels j and j+1: the midpoint of their mean outputs (R103); rounded down or up, as the free
value says. -/
def midThr (a : AdaptSums) (j : Nat) (old : Int) (s : State) : Int × State :=
  let c0 : Nat := (a.lvlCnt[j]?).getD 0
  let c1 : Nat := (a.lvlCnt[j + 1]?).getD 0
  if c0 = 0 ∨ c1 = 0 then (old, s)
  else
    let num : Int := (a.lvlSum[j]?).getD 0 * c1 + (a.lvlSum[j + 1]?).getD 0 * c0
    let den : Int := 2 * c0 * c1
    if num % den = 0 then (num / den, s)
    else
      let (b, s) := s.fresh 1
      (num / den + b, s)

/-- Spring's thresholds for the next epoch (R103): nominal with SLICE_ADAPT = 0. In HOLD pz_adapt skips (R112). -/
def adaptThr (n : Fin 8) (a : AdaptSums) (s : State) : State :=
  if rxState s n = 4 then s
  else if profileEff s = .spring ∧ param s n 15 ≠ 1 then modRx n (fun r => { r with thrPend := some [-128, 0, 128] }) s
  else if profileEff s = .spring ∧ !a.skip then
    let t := s.rx[n].thr
    let (t0, s) := midThr a 0 ((t[0]?).getD (-128)) s
    let (t1, s) := midThr a 1 ((t[1]?).getD 0) s
    let (t2, s) := midThr a 2 ((t[2]?).getD 128) s
    modRx n (fun r => { r with thrPend := some [t0, t1, t2] }) s
  else s

/-- ADAPT_EN in force. -/
def adaptEn (s : State) (n : Nat) : Bool := s.actFld (R.WELL_RX_CTRL n) F.WELL_RX_CTRL_ADAPT_EN == 1

/-- The coefficient part of pz_adapt (R106, R107): skipped, pending, or rejected with code 0x04. -/
def adaptCoeffs (n : Fin 8) (a : AdaptSums) (s : State) : State :=
  if a.n = 0 ∨ a.skip ∨ !adaptEn s n ∨ rxState s n = 4 then s
  else
    let l := adaptSet s n a
    if stable l then
      let (l8, s) := roundSet l s
      showTaps n l8 (modRx n (fun r => { r with pend := some l }) s)
    else
      let s := s.raise1 (R.WELL_RX_STATUS n) F.WELL_RX_STATUS_ADAPT_REJECT (32 + 16 * n + 14)
      leaderReport n 4 9 (s.addSat (R.WELL_RX_CNT n) F.WELL_RX_CNT_ADAPT_REJECTS 1)

/-- ADAPT_UPDATE_DONE: pz_adapt completes on the sums of the epoch before (R105, R106, R108). -/
def adaptUpdateDone (n : Fin 8) (s : State) : State :=
  if !s.rx[n].adaptRun then s
  else match s.rx[n].sums with
  | none => modRx n (fun r => { r with adaptRun := false }) s
  | some a =>
    let (rms, s) := errRms a.n a.errPow s
    let s := modRx n (fun r => { r with adaptRun := false, sums := none, figures := some (fomOf a.n a.errPow, rms) }) s
    adaptCoeffs n a (adaptThr n a s)

/-- The half-written pending set and its sums are dropped at the epoch's end, so WELLn_FFE_TAPk shows the set in force (R105). -/
def adaptDrop (n : Fin 8) (s : State) : State :=
  showTaps n ((List.range 41).map (coefInForce s n))
    (modRx n (fun r => { r with adaptRun := false, sums := none, pend := none, thrPend := none, figures := none }) s)

/-- FOM, FOM_AVG and ERR_RMS at an epoch boundary. The spec does not give FOM_AVG before 16 epochs, nor its rounding. -/
def fomUpdate (n : Fin 8) (fom rms : Nat) (s : State) : State :=
  let a := R.WELL_RX_FOM n
  let h := (fom :: s.rx[n].fomHist).take 16
  let (avg, s) := if h.length < 16 then s.fresh 8
    else if h.sum % 16 = 0 then (h.sum / 16, s)
    else let (b, s) := s.fresh 1; (h.sum / 16 + b, s)
  let s := modRx n (fun r => { r with fomHist := h, figures := none }) s
  ((s.setFld a F.WELL_RX_FOM_FOM fom).setFld a F.WELL_RX_FOM_FOM_AVG avg).setFld a F.WELL_RX_FOM_ERR_RMS rms

/-- The epoch in which pz_adapt runs is skipped: SIG_DET was 0 or the chain was in HOLD at some time of it or of the epoch of the sums
(R107), or the device sleeps (R346). -/
def adaptSkips (s : State) (n : Fin 8) : Bool :=
  s.rx[n].skip || (s.rx[n].sums.map (·.skip)) == some true || rxState s n == 4 || pwrState s != 0

/-- pz_adapt has not completed at the end of its epoch (R105, R107): late, counted and reported with code 0x06. -/
def adaptLate (n : Fin 8) (s : State) : State :=
  let s := s.raise1 (R.WELL_RX_STATUS n) F.WELL_RX_STATUS_ADAPT_LATE (32 + 16 * n + 13)
  let s := s.addSat (R.WELL_RX_CNT n) F.WELL_RX_CNT_ADAPT_LATES 1
  leaderReport n 6 9 (adaptDrop n s)

/-- A skipped epoch gives its figure of merit, from its sums where pz_adapt has not come to it, and no update (R107, R108). -/
def adaptSkip (n : Fin 8) (s : State) : State :=
  match s.rx[n].figures, s.rx[n].sums with
  | some (f, r), _ => adaptDrop n (fomUpdate n f r s)
  | none, some a =>
    let (rms, s) := errRms a.n a.errPow s
    adaptDrop n (fomUpdate n (fomOf a.n a.errPow) rms s)
  | none, none => adaptDrop n s

/-- The results of pz_adapt come into force at the boundary that ends their epoch, are late, or are skipped (R105, R107). A late epoch
leaves FOM as it was, and that FOM counts again toward LOL_EPOCHS: R108 does not say (notes/assumptions/87.md). In HOLD and in
a sleep state the coefficients in force stand (R112, R346). -/
def adaptBoundary (n : Fin 8) (s : State) : State :=
  if adaptSkips s n then adaptSkip n s
  else if s.rx[n].adaptRun then adaptLate n s
  else
    let s := match s.rx[n].figures with | some (f, r) => fomUpdate n f r s | none => s
    let s := match s.rx[n].thrPend with
      | some t => modRx n (fun r => { r with thr := t, thrPend := none }) s
      | none => s
    match s.rx[n].pend with
    | some l => tapsInForce n (modRx n (fun r => { r with c16 := l, pend := none }) s)
    | none => s

/-- The sums of the receive pumps, which restart from zero, go into well local memory (R48, R105). -/
def gatherSums (n : Fin 8) (s : State) : AdaptSums × State :=
  (List.range 64).foldl (fun (p : AdaptSums × State) m =>
    if pumpRole p.2 n m = 1 then (p.1.add (pumpMem p.2 n m).grad, modPump n m (fun q => { q with grad := {} }) p.2) else p) ({}, s)

/-- The sums of the ended epoch go to pz_adapt, and the new epoch begins (R105, R107). -/
def adaptNext (n : Fin 8) (s : State) : State :=
  let sk := !s.flag (R.LINE_FE_STATUS n) F.LINE_FE_STATUS_SIG_DET || rxState s n == 4 || pwrState s != 0
  let (a, s) := gatherSums n s
  modRx n (fun r => { r with sums := some { a with skip := r.skip }, adaptRun := true, skip := sk,
                             effort := s.fld R.THM_STATUS F.THM_STATUS_EFFORT }) s

/-! ### Acquisition (R110 to R113) -/

/-- FOM of the last epoch. -/
def fomNow (s : State) (n : Nat) : Nat := s.fld (R.WELL_RX_FOM n) F.WELL_RX_FOM_FOM

/-- ACQ_EPOCHS with 0 taken as 1, and ACQ_TIMEOUT not below it (R118). -/
def acqEpochs (s : State) (n : Nat) : Nat := max 1 (s.fld (R.WELL_RX_ACQ n) F.WELL_RX_ACQ_ACQ_EPOCHS)
def acqTimeout (s : State) (n : Nat) : Nat := max (acqEpochs s n) (s.fld (R.WELL_RX_ACQ n) F.WELL_RX_ACQ_ACQ_TIMEOUT)

/-- The acquisition state at a receive epoch boundary (R110 steps 4 and 5, R111, R113). An attempt that started at this boundary enters
ADAPT at the next one at the earliest. -/
def acqEpoch (n : Fin 8) (restarted : Bool) (s : State) : State :=
  let a := R.WELL_RX_STATUS n
  match rxState s n with
  | 1 =>
    if s.flag a F.WELL_RX_STATUS_TREC_LOCK && !restarted then setRxState n 2 (modRx n (fun r => { r with epochs := 0 }) s) else s
  | 2 =>
    let e := s.rx[n].epochs + 1
    let s := modRx n (fun r => { r with epochs := e }) s
    if acqEpochs s n ≤ e ∧ e ≤ acqTimeout s n ∧ s.fld (R.WELL_RX_ACQ n) F.WELL_RX_ACQ_LOCK_FOM ≤ fomNow s n then
      let s := setRxState n 3 (modRx n (fun r => { r with lowFom := 0, unlocked := 0, lastGood := some r.c16 }) s)
      s.raise1 a F.WELL_RX_STATUS_LOCKED_EV (32 + 16 * n + 9)
    else s
  | 3 =>
    let low := if fomNow s n < s.fld (R.WELL_RX_ACQ n) F.WELL_RX_ACQ_LOL_FOM then s.rx[n].lowFom + 1 else 0
    let good := decide (s.fld (R.WELL_RX_ACQ n) F.WELL_RX_ACQ_LOCK_FOM ≤ fomNow s n)
    modRx n (fun r => { r with lowFom := min 256 low, lastGood := if good then some r.c16 else r.lastGood }) s
  | _ => s

/-- The chain enters HOLD from any state but IDLE (R112). -/
def enterHold (n : Fin 8) (s : State) : State :=
  let s := modRx n (fun r => { r with skip := true }) s
  if rxState s n = 0 ∨ rxState s n = 4 then s
  else setRxState n 4 (modRx n (fun r => { r with useInit := false, startPend := false }) s)

/-- A profile change is in progress: its steps 2 to 5 (R168). -/
def profileBusy (s : State) : Bool := s.flag R.FEC_PROFILE F.FEC_PROFILE_BUSY && s.pwr.held.isNone

/-- The chain starts or resumes when SIG_DET and the PLL's lock are both there (R110, R112), the input is not isolated (R84), and no
profile change is before its step 6 (R168). -/
def rxResume (n : Fin 8) (s : State) : State :=
  if !profileBusy s && !s.flag (R.LINE_CAL_STATUS n) F.LINE_CAL_STATUS_RUNNING &&
     s.flag (R.LINE_FE_STATUS n) F.LINE_FE_STATUS_SIG_DET && s.flag (R.LINE_PLL_STATUS n) F.LINE_PLL_STATUS_LOCK &&
     s.flag (R.LINE_FE_CFG n) F.LINE_FE_CFG_ADC_EN then
    if rxState s n = 0 then startAttempt n (modRx n (fun r => { r with useInit := true }) s)
    else if rxState s n = 4 then startAttempt n s else s
  else s

/-- A failed attempt (R111): ACQ_FAIL is set and counted, and the chain returns to step 2 with the initial set. -/
def acqFail (n : Fin 8) (s : State) : State :=
  let s := s.raise1 (R.WELL_RX_STATUS n) F.WELL_RX_STATUS_ACQ_FAIL (32 + 16 * n + 11)
  let s := s.addSat (R.WELL_RX_CNT n) F.WELL_RX_CNT_ACQ_FAILS 1
  startAttempt n (modRx n (fun r => { r with useInit := true }) s)

/-- ACQ_TIMING_TIMEOUT: 2 ms in TIMING without TREC_LOCK. -/
def acqTimingTimeout (n : Fin 8) (s : State) : State :=
  if rxState s n = 1 ∧ !s.flag (R.WELL_RX_STATUS n) F.WELL_RX_STATUS_TREC_LOCK then acqFail n s else s

/-- ACQ_ADAPT_TIMEOUT: ACQ_TIMEOUT epochs in ADAPT without LOCKED. -/
def acqAdaptTimeout (n : Fin 8) (s : State) : State :=
  if rxState s n = 2 ∧ acqTimeout s n ≤ s.rx[n].epochs then acqFail n s else s

/-- HOLD_TIMEOUT: HOLD_TIME passed in HOLD, so the chain enters IDLE. -/
def holdTimeout (n : Fin 8) (s : State) : State :=
  if rxState s n = 4 then setRxState n 0 (modRx n (fun r => { r with useInit := true }) s) else s

/-- The condition of R113. -/
def lossOfLockCond (s : State) (n : Fin 8) : Bool :=
  decide (max 1 (s.fld (R.WELL_RX_LOL n) F.WELL_RX_LOL_LOL_EPOCHS) ≤ s.rx[n].lowFom) || decide (16 ≤ s.rx[n].unlocked)

/-- RX_LOSS_OF_LOCK (R113, R114): counted unless a RESTART takes effect at the same boundary. A SIGNAL_LOSS that waits behind it falls
in the same cycle, since no time passes while a command waits, and gives HOLD instead. -/
def rxLossOfLock (n : Fin 8) (s : State) : State :=
  if rxState s n = 3 ∧ lossOfLockCond s n ∧ !s.rx[n].startPend ∧ !s.pending.contains (.signalLoss n) then
    if s.rx[n].restartPend then s
    else
      let s := s.raise1 (R.WELL_RX_STATUS n) F.WELL_RX_STATUS_LOL (32 + 16 * n + 10)
      let s := s.addSat (R.WELL_RX_CNT n) F.WELL_RX_CNT_LOL_COUNT 1
      modRx n (fun r => { r with startPend := true, useInit := false }) s
  else s

/-- RESTART written: it takes effect at the next receive frame boundary (R117). -/
def rxRestartWritten (n : Fin 8) (s : State) : State := modRx n (fun r => { r with restartPend := true }) s

/-- The recipe that a REACH write selects (R115). -/
def reachRecipe (s : State) (n reach : Nat) : Option Nat :=
  if profileEff s = .spring ∧ reach = 3 then none
  else ((List.range 64).find? fun i => match findRecipe s.pumps i with
    | some r => recipeMatches s n r && r.reach == reach
    | none => false)

/-- A REACH write while a load or a switch is pending returns BUSY (R115). -/
def reachBusy (s : State) (n : Nat) : Bool :=
  s.flag (R.WELL_IBANK n) F.WELL_IBANK_LOADING || s.flag (R.WELL_IBANK n) F.WELL_IBANK_SWITCH_PEND

/-- REACH_SELECT: writes SEL and loads the class's recipe with AUTO_SWITCH = 1, or sets REACH_ERR (R52, R115). -/
def reachSelect (n : Fin 8) (s : State) : State :=
  let r := s.fld (R.WELL_RX_CTRL n) F.WELL_RX_CTRL_REACH
  match reachRecipe s n r with
  | some i =>
    let a := R.WELL_RECIPE n
    let s := ((s.setFld a F.WELL_RECIPE_SEL i).setFld a F.WELL_RECIPE_SRC 0).setFld a F.WELL_RECIPE_AUTO_SWITCH 1
    startLoad n s.pumps i true (some r) s
  | none => s.raise1 (R.WELL_RX_STATUS n) F.WELL_RX_STATUS_REACH_ERR (32 + 16 * n + 12)

/-- What a change of bank or of the parameters in force on a side has for the kernels (R47, R55, R116, R117). -/
def sideParamsFollow (n : Fin 8) (rx : Bool) (old s : State) : State :=
  if sameParams n rx old s then s
  else if rx then rxPumpsLoad n (rxParamsFollow n old s) else txPumpsLoad n (txParamsFollow n old s)

/-- BANK_SWITCH_SIDE with the effect of the new recipe's parameters on the side's kernels (R55, R117). -/
def bankSwitchStep (n : Fin 8) (rx : Bool) (s : State) : State := sideParamsFollow n rx s (bankSwitchSide n rx s)

end Sys2Proof.Machine
end

