-- ==== Sys2Proof/Machine/Signal.lean ====
section
/-!
DEFINITION. The sample streams of a lane: how the well controller cuts them into blocks and deals these to the pumps, what the pumps make
of a frame, the timing loop, and the DAC codes (R22, R23, R43 to R45, R68, R70, R77, R93 to R104 of spec/).
-/
namespace Sys2Proof.Machine

/-- Updates what a lane's well holds of its sample streams. -/
def modSig (n : Fin 8) (g : SigSt → SigSt) (s : State) : State := { s with sig := vmod s.sig n g }

/-- `k` fresh free values of `w` bits. -/
def freshList (w : Nat) : Nat → State → List Nat × State
  | 0, s => ([], s)
  | k + 1, s =>
    let (v, s) := s.fresh w
    let (l, s) := freshList w k s
    (v :: l, s)

/-! ### Dealing blocks (R43, R45, R58) -/

/-- A slot in the dealing order: its pump, and the first block of the frame that leaves as erasures where that pump is faulty. -/
structure Deal where
  pump : Nat
  bad : Option Nat
  deriving DecidableEq, Repr

/-- The slots of a role in ascending order: those with a working pump, and those whose faulty pump awaits its takeover. -/
def dealOrder (s : State) (n : Fin 8) (role : Nat) : List Deal :=
  (List.range 48).filterMap fun k =>
    match s.well[n].vacant.find? fun v => v.role == role && v.slot == k with
    | some v => some { pump := v.pump, bad := some v.start }
    | none => ((pumpsIn s n role).find? fun m => pumpSlot s n m == k).map fun m => { pump := m, bad := none }

/-- The slot that block `i` of a frame goes to, if its results are not erased; `next` is the place of the frame's first block. -/
def dealTo (order : List Deal) (next i : Nat) : Option Nat :=
  match order[(next + i) % order.length]? with
  | none => none
  | some d => match d.bad with
    | none => some d.pump
    | some b => if i < b then some d.pump else none

/-- The frame's blocks have been dealt: the order goes on from there, and from now on every block of a faulty pump is erased (R58). -/
def dealt (n : Fin 8) (role blocks : Nat) (s : State) : State :=
  let l := (dealOrder s n role).length
  { s with well := vmod s.well n fun w =>
      { w with rxNext := if role = 1 then (w.rxNext + blocks) % max 1 l else w.rxNext,
               txNext := if role = 2 then (w.txNext + blocks) % max 1 l else w.txNext,
               vacant := w.vacant.map fun v => if v.role = role then { v with start := 0 } else v } }

/-! ### Receive blocks (R43, R93, R94) -/

/-- SIG_DET at a symbol of the frame that ends: as it is now, less its changes since, whose places `cuts` gives (R104). -/
def sigDetAt (s : State) (n : Nat) (cuts : List Nat) (p : Nat) : Bool :=
  xor (s.flag (R.LINE_FE_STATUS n) F.LINE_FE_STATUS_SIG_DET) (decide ((cuts.filter fun c => decide (p < c)).length % 2 = 1))

/-- The known symbol at a place of the frame: a pilot, in Deep once the tracker has frame lock (R95); no frame ends with one. -/
def knownSym (s : State) (n : Nat) (p : Int) : Option Nat :=
  if profileEff s = .deep ∧ s.fld (R.WELL_FRM_STATUS n) F.WELL_FRM_STATUS_STATE = 2 ∧ 0 ≤ p then pilotAt p.toNat else none

/-- The codes of a span that begins `t` samples after the frame's first one; before and beyond what has been taken the middle of the code
range stands (notes/assumptions/80.md). -/
def spanCodes (hist codes : List Int) (t : Int) (len : Nat) : List Int :=
  let pre := List.replicate (64 - hist.length) 64 ++ hist.reverse
  (((pre ++ codes).drop (t + pre.length).toNat ++ List.replicate len 64).take len)

/-- What the pump of a block delivers for it (R43 to R45, R93). pz_ical takes one block in its duty's inverse (R109). -/
def rxBlockOut (s : State) (n : Fin 8) (k : RxSet) (b i : Nat) (codes : List Int) (cuts : List Nat) : BlkOut :=
  let g := s.sig[n]
  let part := g.part.length
  let take := (part + i * b + b + k.tail) / 256
  let new := sums256 take (g.part.reverse ++ codes)
  let t : Int := (i * b : Nat) - (k.lead : Int)
  let span := spanCodes g.hist codes t (k.lead + b + k.tail)
  { rxBlock k Config.prelim (fun j => knownSym s n ((i * b : Nat) + j)) (i * b) b (sigDetAt s n cuts)
      (decide (i % 2 ^ k.duty = 0)) (restoreSpan k.blr g.est.reverse new part t span) with span := span }

/-- Block i of a frame is dealt: every one, but in S1 only those that hold header or pilot symbols, or in Standard and Spring every
16th (R346). -/
def blockDealt (s : State) (i : Nat) : Bool :=
  pwrState s == 0 ||
  (if profileEff s = .deep then i == 0 || (List.range 128).any fun j => (pilotAt (128 * i + j)).isSome else i % 16 == 0)

/-- How many of the first i blocks of a frame are dealt. -/
def dealtBefore (s : State) (i : Nat) : Nat := ((List.range i).filter (blockDealt s)).length

/-- The blocks of a frame, each with its pump; an erased block, one that is not dealt, and every block while the well restarts, has none
(R34, R45). -/
def rxBlocks (s : State) (n : Fin 8) (codes : List Int) (cuts : List Nat) (blocks : Nat) : List (Option Nat × BlkOut) :=
  let b := rxBlockLen s
  let order := dealOrder s n 1
  (List.range blocks).map fun i =>
    match (if s.well[n].restarting || !blockDealt s i then none else dealTo order s.well[n].rxNext (dealtBefore s i)) with
    | some m => (some m, rxBlockOut s n (pumpMem s n m).rx b i codes cuts)
    | none => (none, erasedBlock (decide (profileEff s = .spring)) b)

/-- What a block leaves in its pump: its input span in a block buffer (R40), the gradient sums, the interleave statistics, and the reports
of R49. -/
def rxBlockPump (n : Fin 8) (p : Option Nat × BlkOut) (s : State) : State :=
  match p.1 with
  | none => s
  | some m =>
    let (g, sat) := (pumpMem s n m).grad.accumulate p.2.sums
    let s := modPump n m (fun q =>
      { q with bufA := p.2.span, bufB := q.bufA, grad := g, ical := q.ical.accumulate p.2.ical }) s
    let s := if p.2.inval then kernelReport n m 3 5 s else s
    if sat then kernelReport n m 1 8 s else s

/-! ### The timing loop (R77, R96) -/

/-- The loop's integrator, phase and interpolator place. -/
structure Loop where
  i : Int
  phi : Int
  pos : Int
  deriving DecidableEq, Repr

/-- One block's update of the loop: `ofs` is TREC_PHASE_OFS, and the interpolator moves at most one step per 16 symbols. R96 gives neither
the precision of I and φ nor a rounding: DESIGN CHOICE, they are kept in 2^-32 of 1/128 UI, and Kp·e and Ki·e are rounded to the nearest,
halves up, at each block (notes/assumptions/140.md). -/
def loopBlock (kp ki ofs : Int) (b : Nat) (l : Loop) (e : Int × Nat) : Loop :=
  let l := if e.2 = 0 then l else
    let i := l.i + roundDiv (ki * e.1) e.2
    { l with i := i, phi := l.phi + roundDiv (kp * e.1) e.2 + i }
  let aim := roundDiv (l.phi + ofs * 4294967296) 4294967296
  let m : Int := b / 16
  { l with pos := l.pos + clampInt (-m) m (aim - l.pos) }

/-- The rms phase error of a frame's blocks in 1/128 UI, rounded up (notes/assumptions/79.md); none without a block that has an error. -/
def phaseRms (l : List (Int × Nat)) : Option Nat :=
  let l := l.filter fun e => e.2 != 0
  if l.isEmpty then none
  else
    let sq := (l.map fun e => (Config.phaseError e.1 e.2).natAbs ^ 2).sum
    some (((List.range 128).find? fun p => decide (sq ≤ (256 * p) ^ 2 * l.length)).getD 128)

/-- The interpolator's code and the count of its wraps follow its place (R77). -/
def piShow (n : Fin 8) (old new : Int) (s : State) : State :=
  let a := R.LINE_PI n
  let w := s.fld a F.LINE_PI_WRAPS + new / 128 - old / 128
  (s.setFld a F.LINE_PI_PHASE (new % 128).toNat).setFld a F.LINE_PI_WRAPS (unsigned 16 w)

/-- The timing loop over a frame's blocks, unless it is frozen, and the lock decision (R78, R96). -/
def trecRun (n : Fin 8) (b : Nat) (errs : List (Int × Nat)) (s : State) : State :=
  let g := s.sig[n]
  let s := if trecFrozen s n then s
    else
      let legacy := decide (s.fld (R.LINE_PLL_CFG n) F.LINE_PLL_CFG_RATE = 3)
      let c := trecCode s n
      let p := s.fld R.FEC_PROFILE F.FEC_PROFILE_PROFILE_EFF
      let l := errs.foldl (loopBlock (Config.trecKp c p legacy) (Config.trecKi c p legacy) (param s n 7) b) ⟨g.trecI, g.trecPhi, g.pos⟩
      let s := piShow n g.pos l.pos (modSig n (fun g => { g with trecI := l.i, trecPhi := l.phi, pos := l.pos }) s)
      let ppm := clampInt (-32768) 32767 (roundDiv (l.i * 100000000) (4294967296 * 128 * b))
      s.setFld (R.WELL_RX_TREC n) F.WELL_RX_TREC_FREQ (unsigned 16 ppm)
  trecFrame n (phaseRms errs) s

/-! ### A receive frame (R23 steps 1 to 3) -/

/-- The receive frame that ends, from its samples and the first ones after it: the pumps' results, their sums, the baseline estimates,
the over-range counts and the timing loop. -/
def rxFrame (n : Fin 8) (samples ahead : List Nat) (cuts : List Nat) (s : State) : State :=
  let b := rxBlockLen s
  let blocks := samples.length / b
  let codes := (samples ++ ahead).map Int.ofNat
  let out := rxBlocks s n codes cuts blocks
  let s := out.foldl (fun s p => rxBlockPump n p s) s
  let s := dealt n 1 (dealtBefore s blocks) (trecRun n b (out.map fun p => (p.2.err, p.2.cnt)) s)
  let duty := 2 ^ icalDutyInForce s n
  modSig n (fun g =>
    let taken := g.part.reverse ++ samples.map Int.ofNat
    let k := taken.length / 256
    { g with est := ((sums256 k taken).reverse ++ g.est).take 32, part := (taken.drop (256 * k)).reverse,
             hist := ((samples.map Int.ofNat).reverse ++ g.hist).take 64,
             decPrev := (g.decPrev ++ g.dec).drop ((g.decPrev ++ g.dec).length - 127),
             x := out.flatMap (·.2.x), y := out.flatMap (·.2.y), dec := out.flatMap (·.2.dec), llr := out.flatMap (·.2.llr),
             nSamp := g.nSamp + samples.length, nOver := g.nOver + (samples.filter fun c => c == 0 || c == 127).length,
             ical := g.ical + ((List.range blocks).filter fun i => i % duty == 0).length }) s

/-- The bits of decided symbols under the Gray map, the first bit first; those of an erased symbol are open (R45, R102). -/
def decBits : List (Option Nat) → State → List Bool × State
  | [], s => ([], s)
  | some a :: t, s =>
    let (l, s) := decBits t s
    ((grayBits a).1 :: (grayBits a).2 :: l, s)
  | none :: t, s =>
    let (v, s) := s.fresh 2
    let (l, s) := decBits t s
    (bitOf v 1 :: bitOf v 0 :: l, s)

/-! ### A transmit frame (R22 steps 6 and 7) -/

/-- The frequency deviation in Hz that a symbol's label stands for (R192). -/
def seepDeviation (modeL : Bool) (label : Nat) : Int :=
  if modeL then (if label = 0 then -1000 else 1000) else 31250 * (grayLevel (decide (2 ≤ label), decide (label % 2 = 1)) : Int) - 46875

/-- A symbol in units of 0.2 ns: 16 µs in Seep-A, 250 µs in Seep-L (R191). -/
def seepSymbol (modeL : Bool) : Nat := if modeL then 1250000 else 80000

/-- The turn that a symbol adds to the phase, in quarters: its deviation times its length, with h = 0.5 (R191, R192). -/
def seepQuarter (modeL : Bool) (label : Nat) : Int := seepDeviation modeL label * (seepSymbol modeL : Int) * 4 / 5000000000

/-- The frequency of sub-carrier q in Hz (R191). -/
def seepCarrier (q : Nat) : Nat := 1000000 + 250000 * q

/-- A symbol's pulse is complete after this many symbols (notes/assumptions/149.md). -/
def pulseSymbols : Nat := 4

/-- The phase φ of a sub-carrier, in 2^-32 turns: `base` and what its symbols, in quarter turns and the first `t` units ago, have added. -/
def seepPhi (modeL : Bool) (base : Nat) (syms : List Int) (t : Nat) : Nat :=
  let d := seepSymbol modeL
  let add := (syms.zipIdx.map fun p =>
    let x := t - p.2 * d
    if t < p.2 * d then 0
    else if pulseSymbols * d ≤ x then p.1 * 2 ^ 30
    else p.1 * (Config.seepPulse (x * 65536 / d) : Int) / 4).sum
  (((base : Int) + add) % 2 ^ 32).toNat

/-- The symbols of a sub-carrier that may still add to its phase: those kept of the frame before, and the frame's. -/
def seepSyms (s : State) (n : Fin 8) (q : Nat) : List Int :=
  let l := s.seepLn[n]
  let m := s.flag (R.SEEP_LN_STATUS n) F.SEEP_LN_STATUS_TX_MODE
  (l.tail.getD q []) ++ (l.labels.getD q []).map (seepQuarter m)

/-- φ of a sub-carrier of the lane, `ahead` units of 0.2 ns from now. -/
def seepPhase (s : State) (n : Fin 8) (q ahead : Nat) : Nat :=
  let l := s.seepLn[n]
  let m := s.flag (R.SEEP_LN_STATUS n) F.SEEP_LN_STATUS_TX_MODE
  seepPhi m (l.phase.getD q 0) (seepSyms s n q) (s.now - l.startAt + ahead + (l.tail.getD q []).length * seepSymbol m)

/-- The seep envelope s(t) of the frame in transmission, in 1/32,768, `ahead` units of 0.2 ns from now: ¼ Σ cos(2π f_q t + φ_q) in Seep-A,
cos(2π × 1.00 MHz × t + φ) in Seep-L; 0 with no frame (R193). -/
def seepEnvelope (s : State) (n : Fin 8) (ahead : Nat) : Int :=
  let k := s.seepLn[n].labels.length
  let sum := ((List.range k).map fun q =>
    Config.cosine ((seepCarrier q * (s.now + ahead) * 2 ^ 32 / 5000000000 + seepPhase s n q ahead) % 2 ^ 32)).sum
  clampInt (-32768) 32768 (roundDiv sum (max 1 k))

/-- The seep envelope at the start of the symbols 4,096·i of the frame that ends (R193). The frame's start is taken at the present time
(notes/assumptions/91.md). -/
def envPoint (s : State) (n : Fin 8) (i : Nat) : Int := seepEnvelope s n (i * 4096 * 5000000 / max 1 (laneRate s n))

/-- The envelope of transmit block j, interpolated linearly (R193). -/
def envBlock (s : State) (n : Fin 8) (j : Nat) : Int :=
  let i := j / 64
  let a := envPoint s n i
  a + roundDiv ((envPoint s n (i + 1) - a) * (j % 64 : Nat)) 64

/-- The symbols of block j with `pre` before and `post` after it; level index 0 stands where nothing was sent. -/
def txSpan (before syms : List Nat) (j pre post : Nat) : List Nat :=
  let all := List.replicate (7 - before.length) 0 ++ before.reverse ++ syms
  ((all.drop (7 + 64 * j - pre)) ++ List.replicate (pre + 64 + post) 0).take (pre + 64 + post)

/-- The DAC codes of block j: through the hardwired mapper during a restart, from its pump, or open where the slot's pump is faulty
(R34, R45, R58). -/
def txBlockOut (n : Fin 8) (depth : Nat) (syms : List Nat) (j : Nat) (s : State) : List Nat × State :=
  let before := s.sig[n].before
  let env := envBlock s n j
  let note (clip : Bool) (s : State) : State := if clip then s.setFld (R.LINE_FE_STATUS n) F.LINE_FE_STATUS_DAC_CLIP 1 else s
  if s.well[n].hwMap then
    let o := hwBlock depth env (txSpan before syms j 0 0)
    (o.1, note o.2.1 s)
  else match dealTo (dealOrder s n 2) s.well[n].txNext j with
    | none => freshList 7 64 s
    | some m =>
      let span := txSpan before syms j 7 3
      let o := txBlock (pumpMem s n m).tx depth env span
      let s := modPump n m (fun q => { q with bufA := span.map Int.ofNat, bufB := q.bufA }) s
      (o.1, note o.2.1 (if o.2.2 then kernelReport n m 3 11 s else s))

/-- The DAC codes of the blocks from the j-th on. -/
def txBlocks (n : Fin 8) (depth : Nat) (syms : List Nat) (j : Nat) : Nat → State → List Nat × State
  | 0, s => ([], s)
  | k + 1, s =>
    let (c, s) := txBlockOut n depth syms j s
    let (l, s) := txBlocks n depth syms (j + 1) k s
    (c ++ l, s)

/-- The transmit frame that ends: its symbols, the first three of the next, and the seep depth in force in 0.125% (0 with the channel
off) give its DAC codes, which TX_POL inverts (R90, R92). -/
def txFrame (n : Fin 8) (syms next : List Nat) (depth : Nat) (s : State) : State :=
  let blocks := syms.length / 64
  let (codes, s) := txBlocks n depth (syms ++ next.take 3) 0 blocks s
  let s := dealt n 2 blocks s
  let inv := s.actFld (R.LINE_FE_CFG n) F.LINE_FE_CFG_TX_POL == 1
  modSig n (fun g => { g with sent := syms, before := (syms.reverse ++ g.before).take 7,
                              dac := if inv then codes.map (127 - ·) else codes }) s

end Sys2Proof.Machine
end

