-- ==== Sys2Proof/Machine/Frame.lean ====
section
/-!
DEFINITION. Line framing, frame lock, justification, the decoder pool, outer-code termination and poison: R148 to R172
of spec/06_line_framing_and_inner_code.md.
-/
namespace Sys2Proof.Machine

/-- State of the frame tracker: 0 HUNT, 1 CONFIRM, 2 LOCK, 3 virtual frame. -/
def frmState (s : State) (n : Nat) : Nat := s.fld (R.WELL_FRM_STATUS n) F.WELL_FRM_STATUS_STATE

/-- The lane is its port's lowest lane. -/
def isLead (s : State) (n : Fin 8) : Bool := leadLane s n == n

/-- The lowest lanes of the ports of the configuration in force. -/
def leadLanes (s : State) : List (Fin 8) := (List.finRange 8).filter (isLead s)

/-- The device runs its data path: Active or S1 (R346). -/
def dataOn (s : State) : Bool := decide (pwrState s ≤ 1)

/-- The lanes that one codeword is spread over, lane `n` among them: those of a lane-spread port, else the lane itself (R158). -/
def spreadLanes (s : State) (n : Fin 8) : List (Fin 8) := if laneSpread s then lanesOfPort s (portOfLane s n) else [n]

/-- The first of them. -/
def spreadLead (s : State) (n : Fin 8) : Fin 8 := if laneSpread s then leadLane s n else n

/-! ### The Deep frame (R150 to R153, R157, R158) -/

/-- `k` outputs of the generator s_k = s_{k−31} xor s_{k−28} and its next state; bit i of the state is the i-th next output
(R153, R184). -/
def lfsr31 : Nat → Nat → List Bool × Nat
  | 0, g => ([], g)
  | k + 1, g =>
    let (l, h) := lfsr31 k (g / 2 + (g + g / 8) % 2 * 2 ^ 30)
    (bitOf g 0 :: l, h)

/-- The far lane identity (R131): in Deep the lane that the last good header names (R156), whose seed descrambles (R153). -/
def farLane (s : State) (n : Nat) : Nat :=
  if profileEff s = .deep then s.fld (R.WELL_FRM_STATUS n) F.WELL_FRM_STATUS_FAR_LANE else n

/-- The scrambling bits of a frame that lane `n` sends (R153). -/
def scramble (n : Nat) : List Bool := (lfsr31 131072 (scrSeed n)).1

/-- Pairs of bits as level indices, the first bit the most significant (R102, R151). -/
def bitsToSyms : List Bool → List Nat
  | a :: b :: t => grayLevel (a, b) :: bitsToSyms t
  | _ => []

/-- Bits hi to 0 of a number, the most significant first (R151). -/
def msbBits (w v : Nat) : List Bool := (List.range w).map fun i => bitOf v (w - 1 - i)

/-- The pilot burst (R152). -/
def pilotBurst : List Nat := [3, 3, 0, 0, 3, 3, 0, 0]

/-- A segment of the frame: the pilot burst and the 64 slots behind it (R150). -/
def segments : Nat → List Bool → List Nat
  | 0, _ => []
  | k + 1, l => pilotBurst ++ bitsToSyms (l.take 8192) ++ segments k (l.drop 8192)

/-- The symbols of a frame: the header, which is not scrambled, then 16 segments of scrambled codeword bits (R150, R151, R153). -/
def frameSyms (n header : Nat) (bits : List Bool) : List Nat :=
  bitsToSyms (msbBits 256 header) ++ segments 16 ((bits.zip (scramble n)).map fun p => xor p.1 p.2)

/-- The place of codeword bit x of a lane's frame among the frame's bits, two per symbol (R150). -/
def slotBit (x : Nat) : Nat := 2 * (136 + 4104 * (x / 8192) + 64 * (x / 128 % 64)) + x % 128

/-- Where bit b of codeword `i` lies when codewords are spread over `l` lanes: the lane, and the bit among its codeword bits (R158). -/
def cwPlace (l i b : Nat) : Nat × Nat := (b % l, i * (1024 / l) + b / l)

/-- The information bits of codeword `i` from the payloads of its lanes, in codeword order (R158). -/
def cwInfo (pay : List (Array Bool)) (i : Nat) : Array Bool :=
  ((List.range 960).map fun b =>
    ((pay[b % pay.length]?).getD #[]).getD (i * (960 / pay.length) + b / pay.length) false).toArray

/-- A codeword: its information bits and its parity bits (R157). -/
def cwEncode (info : Array Bool) : Array Bool := info ++ (ldpcParity info).toArray

/-- The codeword bits of each lane of a frame, from the lanes' payloads (R158). -/
def laneBits (pay : List (Array Bool)) : List (List Bool) :=
  let l := pay.length
  let cw : Array (Array Bool) := ((List.range (128 * l)).map fun i => cwEncode (cwInfo pay i)).toArray
  (List.range l).map fun k => (List.range 131072).map fun x =>
    (cw.getD (x / (1024 / l)) #[]).getD (l * (x % (1024 / l)) + k) false

/-! ### Justification (R154) -/

/-- B and J for the frame that starts: `host` bits arrived during the frame before, `fill` is the buffer's fill (R154). -/
def justCount (host fill : Nat) : Int := 122880 - ((host : Int) + Int.tdiv ((fill : Int) - 1024) 16)

/-- The host bits of a lane during a frame: a PRBS31 fill in place of those of a host lane that has failed (R184), and in S1 (R346). -/
def hostBits (n : Fin 8) (l : List Bool) (s : State) : List Bool × State :=
  if s.host.fill[n] || pwrState s != 0 then
    let (p, g) := lfsr31 l.length s.frm[n].prbs
    (p, modFrm n (fun f => { f with prbs := g }) s)
  else (l, s)

/-- The payload of the frame that ends, of `b` host bits, and the buffer that stays (R154): bits leave the buffer through the poison
point. Bits that the buffer lacks are open, and the codewords that miss them are poisoned. Before the first frame the buffer is filled
to its middle (notes/assumptions/112.md). -/
def takePayload (n : Fin 8) (b : Option Nat) (l : List Bool) (s : State) : List Bool × State :=
  let buf := s.frm[n].txBuf ++ l
  match b with
  | none => ([], modFrm n (fun f => { f with txBuf := buf.drop (buf.length - 1024) }) s)
  | some b =>
    let s := sg1Poison true n b s
    let out := throughPoison s true n ((buf.take b).map some)
    let s := passPoison true n out.length (modFrm n (fun f => { f with txBuf := buf.drop b }) s)
    let miss := b - buf.length
    let s := if miss = 0 then s else poisonBits true n s.frm[n].txPos miss s
    let (v, s) := freshList 1 miss s
    (out.map (·.getD false) ++ v.map (· == 1), s)

/-- The payloads of the lanes of a port, each with its host bits; the monitor sees those that the host sent (R185). -/
def takePayloads (b : Option Nat) : List (Fin 8 × List Bool) → State → List (List Bool) × State
  | [], s => ([], s)
  | p :: t, s =>
    let (l, s) := hostBits p.1 p.2 (monSees true p.1 (p.2.map some) s)
    let (x, s) := takePayload p.1 b l s
    let (r, s) := takePayloads b t s
    (x :: r, s)

/-- The buffer slips (R154): JUST_OVF, and the codewords that contain the slipped bits are poisoned. How many bits stay is open. -/
def justSlip (lead : Fin 8) (lanes : List (Fin 8)) (s : State) : State :=
  let s := s.raise1 (R.FEC_LN_JUST lead) F.FEC_LN_JUST_JUST_OVF (160 + 8 * lead + 5)
  let (keep, s) := s.fresh 11
  lanes.foldl (fun s n =>
    let buf := s.frm[n].txBuf
    let drop := buf.length - keep
    let s := poisonBits true n s.frm[n].txPos drop s
    passPoison true n drop (modFrm n (fun f => { f with txBuf := buf.drop drop }) s)) s

/-- J of the frame that starts, set by the controller of the first of its lanes from the host bits that arrived there and the fill of
its buffer, and the slip (R154). -/
def justNext (lead : Fin 8) (lanes : List (Fin 8)) (host : Nat) (short : Bool) (s : State) : State :=
  let fill := s.frm[lead].txBuf.length
  let want := justCount host (min 2048 fill)
  let j := (clampInt 0 255 want).toNat
  let s := modFrm lead (fun f => { f with bPrev := some (122880 - j) }) s
  if want ≠ j ∧ (short ∨ fill = 0 ∨ 2048 ≤ fill) then justSlip lead lanes s
  else s

/-- J of a frame that has ended counts in its epoch and shows as J_TX on every lane that sent it (R172). -/
def justShow (lead : Fin 8) (lanes : List (Fin 8)) (s : State) : State :=
  match s.frm[lead].bPrev with
  | none => s
  | some b =>
    let j := 122880 - b
    let s := modFrm lead (fun f => { f with jMin := min f.jMin j, jMax := max f.jMax j }) s
    lanes.foldl (fun s (k : Fin 8) => s.setFld (R.FEC_LN_JUST k) F.FEC_LN_JUST_J_TX j) s

/-- J_MIN and J_MAX of the lanes of a framer at a transmit epoch boundary (R172). -/
def justEpoch (lead : Fin 8) (lanes : List (Fin 8)) (s : State) : State :=
  let f := s.frm[lead]
  if f.bPrev = none then s
  else
    let s := lanes.foldl (fun s k =>
      (s.setFld (R.FEC_LN_JUST k) F.FEC_LN_JUST_J_MIN f.jMin).setFld (R.FEC_LN_JUST k) F.FEC_LN_JUST_J_MAX f.jMax) s
    modFrm lead (fun f => { f with jMin := 255, jMax := 0 }) s

/-- The symbols of the Deep frame that ends on the lanes of a framer, from the bits that arrived at the physical host lanes during it; J of
the next one follows (R22, R154). `header` gives each lane's header for J. -/
def deepFrame (lead : Fin 8) (lanes : List (Fin 8)) (host : List (List Bool)) (header : Fin 8 → Nat → Nat) (s : State) :
    List (List Nat) × State :=
  let b := s.frm[lead].bPrev
  let s := justShow lead lanes s
  let come := (hostArrived s host lead).length
  let had := s.frm[lead].txBuf.length + come
  let (pay, s) := takePayloads b (lanes.map fun k => (k, hostArrived s host k)) s
  let bits := laneBits (pay.map List.toArray)
  let syms := (lanes.zip bits).map fun p => frameSyms p.1 (header p.1 (122880 - b.getD 122880)) p.2
  (syms, justNext lead lanes come (decide (had < b.getD 0)) s)

/-- The symbols of the frame that ends on one lane in Standard and in Spring: what the standard makes of the host bits, or the host
symbols as they are (R163, R164). -/
def plainFrame (n : Fin 8) (host : List (List Bool)) (s : State) : List Nat × State :=
  let come := hostArrived s host n
  let (l, s) := hostBits n come (monSees true n (come.map some) s)
  let s := sg1Poison true n l.length s
  let out := throughPoison s true n (l.map some)
  let s := passPoison true n out.length s
  let bits := out.map (·.getD false)
  (if profileEff s = .standard then (Config.stdSymbols bits).map (· % 4) else bitsToSyms bits, s)

/-! ### Settings of the decoder and of termination at a receive frame boundary -/

/-- Termination in force on the lane's port (R165): in Deep, where OCT_EN of the port is in force. -/
def octOn (s : State) (n : Nat) : Bool :=
  decide (profileEff s = .deep) && bitOf (s.actFld R.FEC_OCT_CFG F.FEC_OCT_CFG_OCT_EN) (portOfLane s n)

/-- OCT_EFF follows (R165, R172). -/
def octFollow (s : State) : State :=
  forLanes (fun n s => s.setFld (R.FEC_LN_OCT n) F.FEC_LN_OCT_OCT_EFF (b2n (octOn s n))) s

/-- The place in the lane's receive stream of the bit that comes in next (R165). -/
def rxEnd (s : State) (n : Fin 8) : Nat := s.frm[n].rxPos + s.frm[n].oct.length

/-- What is poisoned because it lies on both sides of the place where the lane's payload now goes another way (R170): the KP4 codewords of
the group that is cut, or without codeword lock the block. -/
def splitMarks (s : State) (n : Fin 8) : List PMark :=
  let p := rxEnd s n
  if inCodewords s false n p then
    let base := baseOf s false n
    if (p - base) % groupBits s = 0 then []
    else (List.range 4).map fun i => { base := base, cw := 4 * ((p - base) / groupBits s) + i, whole := false }
  else if p % 5440 = 0 then [] else [markAt s false n p]

/-- The first `k` payload bits of a lane that wait for termination go on as they are. -/
def octPass (n : Fin 8) (k : Nat) (s : State) : State :=
  toHost n ((s.frm[n].oct.take k).map fun x => some x.bit) (modFrm n (fun f => { f with oct := f.oct.drop k, octNext := 0 }) s)

/-- The payload of a port that waits for termination goes on as it is. -/
def octFlush (n : Fin 8) (s : State) : State :=
  (lanesOfPort s (portOfLane s n)).foldl (fun s k => octPass k s.frm[k].oct.length s) s

/-- Termination has come into force on the lane's port, or out of it: the KP4 codewords that span the change are poisoned (R170). -/
def octChange (n : Fin 8) (old : Bool) (s : State) : State :=
  if octOn s n = old then s else octFlush n (poisonMark false n (splitMarks s n) s)

/-- The FRAME fields of FEC_DEC_CFG and FEC_OCT_CFG on the lane (R29, R172). -/
def fecRxApply (n : Fin 8) (s : State) : State :=
  let s := [F.FEC_DEC_CFG_ITER_CAP, F.FEC_DEC_CFG_ET_EN, F.FEC_DEC_CFG_ET_MIN_ITER, F.FEC_DEC_CFG_ET_THRESH,
      F.FEC_DEC_CFG_NORM, F.FEC_DEC_CFG_CHASE_P].foldl
    (fun s f => laneApply R.FEC_DEC_CFG f n (List.finRange 8) s) s
  if !isLead s n then s
  else
    let p : Fin 8 := lane (portOfLane s n)
    let old := octOn s n
    let s := [F.FEC_OCT_CFG_ERASE_THRESH, F.FEC_OCT_CFG_ERASE_MAX, F.FEC_OCT_CFG_UNCORR_POISON].foldl
      (fun s f => laneApply R.FEC_OCT_CFG f n (leadLanes s) s) s
    octChange n old (octFollow (laneBitApply R.FEC_OCT_CFG F.FEC_OCT_CFG_OCT_EN p s))

/-- The iteration cap that the effort permits (R162). -/
def capEff (cap effort : Nat) : Nat := min (clampNat 1 12 cap) (max 4 (12 * effort / 100))

/-- CAP_EFF and the iteration figures at a receive epoch boundary (R162, R172). ITER_AVG's rounding is open. -/
def fecRxEpoch (n : Fin 8) (s : State) : State :=
  let lanes := if laneSpread s then (if isLead s n then lanesOfPort s (portOfLane s n) else []) else [n]
  let cap := capEff (s.actFld (laneKey R.FEC_DEC_CFG n) F.FEC_DEC_CFG_ITER_CAP) (s.fld R.THM_STATUS F.THM_STATUS_EFFORT)
  let s := lanes.foldl (fun s k => s.setFld (R.FEC_LN_ITER k) F.FEC_LN_ITER_CAP_EFF cap) s
  let f := s.frm[n]
  let (avg, s) := if f.iterCnt = 0 then (0, s)
    else if 16 * f.iterSum % f.iterCnt = 0 then (16 * f.iterSum / f.iterCnt, s)
    else let (b, s) := s.fresh 1; (16 * f.iterSum / f.iterCnt + b, s)
  let s := (s.setFld (R.FEC_LN_ITER n) F.FEC_LN_ITER_ITER_AVG avg).setFld (R.FEC_LN_ITER n) F.FEC_LN_ITER_ITER_MAX f.iterMax
  modFrm n (fun f => { f with iterSum := 0, iterCnt := 0, iterMax := 0 }) s

/-! ### The Deep header and the frame tracker (R151, R155, R156) -/

/-- Bits lo to hi of a header, bit 0 being the first sent and the most significant of the 256. -/
def hdrField (h lo hi : Nat) : Nat := h / 2 ^ (255 - hi) % 2 ^ (hi + 1 - lo)

/-- The SYNC word (R151). -/
def syncWord : Nat := 0x7C1F83E0C3A55A3C

/-- How many of the low `k` bits of a number are 1. -/
def popcount (x k : Nat) : Nat := ((List.range k).filter fun i => bitOf x i).length

/-- The SYNC bits that differ. -/
def syncDiff (h : Nat) : Nat := popcount (Nat.xor (hdrField h 0 63) syncWord) 64

/-- HCRC agrees with bits 64 to 239 (R151). -/
def hcrcOk (h : Nat) : Bool :=
  crc16 ((List.range 176).map fun i => bitOf h (255 - (64 + i))) == hdrField h 240 255

/-- Bitwise majority of three numbers. -/
def maj3 (a b c : Nat) : Nat := Nat.lor (Nat.lor (Nat.land a b) (Nat.land a c)) (Nat.land b c)

/-- J by bitwise majority of its three copies (R155). -/
def hdrJ (h : Nat) : Nat := maj3 (hdrField h 96 103) (hdrField h 104 111) (hdrField h 112 119)

/-- The timing-marker flag by majority, taken as 0 where HCRC fails (R156). -/
def hdrTmf (h : Nat) : Bool := hcrcOk h && decide (2 ≤ popcount (hdrField h 120 122) 3)

/-- A header as a lane sends it (R151). -/
def mkHeader (fcnt j : Nat) (tmf : Bool) (ln port cfg : Nat) : Nat :=
  let t := if tmf then 7 else 0
  let j := j % 256
  let body := ((((fcnt % 2 ^ 32 * 2 ^ 24 + (j * 0x10000 + j * 0x100 + j)) * 8 + t) * 32) * 8 + ln % 8) * 8 + port % 8
  let body := (body * 4 + cfg % 4) * 2 ^ 104
  let crc := crc16 ((List.range 176).map fun i => bitOf body (175 - i))
  syncWord * 2 ^ 192 + body * 2 ^ 16 + crc

/-- Loss of frame lock (R156): LOF is set and counted, and the tracker hunts. -/
def lossOfFrame (n : Fin 8) (s : State) : State :=
  let st := R.WELL_FRM_STATUS n
  let s := s.raise1 st F.WELL_FRM_STATUS_LOF (32 + 16 * n + 15)
  let s := s.addSat (R.WELL_FRM_CNT n) F.WELL_FRM_CNT_LOF_COUNT 1
  modFrm n (fun f => { f with confirm := 0, misses := 0, fcnt := none, tmf := false }) (s.setFld st F.WELL_FRM_STATUS_STATE 0)

/-- The lane's tracker loses what it has at once: LOF if it was in LOCK (R75). -/
def trackerDrop (n : Fin 8) (s : State) : State :=
  match frmState s n with
  | 2 => lossOfFrame n s
  | 1 => s.setFld (R.WELL_FRM_STATUS n) F.WELL_FRM_STATUS_STATE 0
  | _ => s

/-- LANE, PORT and CFG of a header that SYNC matches, where its HCRC is good (R156). -/
def headerFar (n : Fin 8) (h : Nat) (s : State) : State :=
  let st := R.WELL_FRM_STATUS n
  if hcrcOk h then
    let s := s.setFld st F.WELL_FRM_STATUS_FAR_LANE (hdrField h 128 130)
    let s := s.setFld st F.WELL_FRM_STATUS_FAR_PORT (hdrField h 131 133)
    s.setFld st F.WELL_FRM_STATUS_FAR_CFG (hdrField h 134 135)
  else s

/-- The header of a frame in LOCK: HCRC, FCNT sequence, TMF and J (R155, R156). -/
def headerFields (n : Fin 8) (h : Nat) (s : State) : State :=
  let st := R.WELL_FRM_STATUS n
  let cnt := R.WELL_FRM_CNT n
  let ok := hcrcOk h
  let s := if ok then headerFar n h s
    else (s.setFld st F.WELL_FRM_STATUS_CRC_ERR 1).addSat cnt F.WELL_FRM_CNT_CRC_ERRS 1
  let fcnt := hdrField h 64 95
  let s := match s.frm[n].fcnt with
    | some p => if fcnt = (p + 1) % 2 ^ 32 then s else s.addSat cnt F.WELL_FRM_CNT_FCNT_ERRS 1
    | none => s
  let prev := s.fld st F.WELL_FRM_STATUS_J_RX
  let j := hdrJ h
  let jump := max 1 (s.fld (R.WELL_FRM_CFG n) F.WELL_FRM_CFG_JUMP_MAX)
  let subst := !ok && decide (jump < (max j prev) - (min j prev))
  let s := if subst then s.setFld st F.WELL_FRM_STATUS_J_SUBST 1 else s.setFld st F.WELL_FRM_STATUS_J_RX j
  modFrm n (fun f => { f with fcnt := some fcnt, tmf := hdrTmf h }) s

/-- A skew of the lane against its port's earliest lane (R159): beyond 2,048 symbols DESKEW_ERR is set. -/
def deskew (n : Fin 8) (skew : Nat) (s : State) : State :=
  if laneSpread s then
    let s := s.setFld (R.FEC_LN_ITER n) F.FEC_LN_ITER_SKEW (min 0xFFFF skew)
    if 2048 < skew then s.raise1 (R.FEC_LN_JUST n) F.FEC_LN_JUST_DESKEW_ERR (160 + 8 * n + 6) else s
  else s

/-- The decided symbols of the last receive frame with the 127 before it. -/
def decided (s : State) (n : Fin 8) : List (Option Nat) := s.sig[n].decPrev ++ s.sig[n].dec

/-- The 256 bits at a place of the decided symbols, the first most significant (R151, R156). -/
def headerAt (n : Fin 8) (i : Nat) (s : State) : Nat × State :=
  let (l, s) := decBits (((decided s n).drop i).take 128) s
  ((l ++ List.replicate (256 - l.length) false).foldl (fun v b => 2 * v + b2n b) 0, s)

/-- Where the tracker looks: anywhere in HUNT, where the match of HUNT was one or more frames later in CONFIRM, and at the frame's start
in LOCK (R156). -/
def headerPlace (s : State) (n : Fin 8) (pos : Nat) : Nat :=
  match frmState s n with
  | 0 => pos
  | 1 => s.frm[n].hdrPos + s.sig[n].decPrev.length - 127
  | _ => s.sig[n].decPrev.length

/-- LOCK is reached (R107, R156): receive frames are counted by the header, the epoch in progress ends at the realigned boundary, and the
codewords of the frame in hand are taken only if it begins with the header. -/
def frameLocked (n : Fin 8) (h place : Nat) (s : State) : State :=
  let st := R.WELL_FRM_STATUS n
  let s := (s.setFld st F.WELL_FRM_STATUS_STATE 2).setFld st F.WELL_FRM_STATUS_FLOCK_EV 1
  let whole := decide (place = s.sig[n].decPrev.length)
  let s := headerFields n h (modFrm n (fun f => { f with misses := 0, fcnt := none, cwNext := if whole then f.cwNext else 1024 }) s)
  modLine n (fun l => { l with rxCnt := hdrField h 64 95, realign := true }) s

/-- FRAME_HEADER_RECEIVE: the 256 bits at the place that the tracker examines among the decided symbols (R156). -/
def frameHeader (n : Fin 8) (pos skew : Nat) (s : State) : State :=
  if profileEff s ≠ .deep ∨ !s.line[n].rxRun then s
  else
    let st := R.WELL_FRM_STATUS n
    let place := headerPlace s n pos
    let (h, s) := headerAt n place s
    let hit := decide (syncDiff h ≤ s.fld (R.WELL_FRM_CFG n) F.WELL_FRM_CFG_SYNC_TOL)
    match frmState s n with
    | 0 =>
      if hit then headerFar n h (modFrm n (fun f => { f with confirm := 0, hdrPos := place + 127 - s.sig[n].decPrev.length }) (s.setFld st F.WELL_FRM_STATUS_STATE 1))
      else s
    | 1 =>
      if !hit then s.setFld st F.WELL_FRM_STATUS_STATE 0
      else
        let c := s.frm[n].confirm + 1
        let s := modFrm n (fun f => { f with confirm := c }) s
        if c < max 1 (s.fld (R.WELL_FRM_CFG n) F.WELL_FRM_CFG_CONFIRM_N) then headerFar n h s
        else deskew n skew (frameLocked n h place s)
    | 2 =>
      let m := if hit then 0 else s.frm[n].misses + 1
      let s := deskew n skew (headerFields n h (modFrm n (fun f => { f with misses := m }) s))
      if max 2 (s.fld (R.WELL_FRM_CFG n) F.WELL_FRM_CFG_LOF_N) ≤ m then lossOfFrame n s else s
    | _ => s

/-! ### Decoding (R159 to R163) -/

/-- Every lane that a codeword is spread over has frame lock, and their last frames are the same one: receive frames are counted by FCNT
from the lock on (R107, R159). -/
def framesAligned (s : State) (n : Fin 8) : Bool :=
  let c := s.line[spreadLead s n].rxCnt % 2 ^ 32
  (spreadLanes s n).all fun k => frmState s k == 2 && s.line[k].rxCnt % 2 ^ 32 == c

/-- No lane is skewed beyond the deskew range (R159). -/
def deskewOk (s : State) (n : Fin 8) : Bool :=
  !laneSpread s || (spreadLanes s n).all fun k => decide (s.fld (R.FEC_LN_ITER k) F.FEC_LN_ITER_SKEW ≤ 2048)

/-- The lane's inner decoder has codeword lock: in Deep, frame lock on every lane of a lane-spread port, and no skew beyond
the deskew range (R122, R159). -/
def cwLock (s : State) (n : Fin 8) : Bool :=
  match profileEff s with
  | .deep => ((spreadLanes s n).all fun k => frmState s k == 2) && deskewOk s n
  | .standard => s.frm[n].stdLock
  | .spring => false

/-- ET_MIN_ITER, NORM and CHASE_P as they are taken (R171, R172). -/
def normOf (v : Nat) : Nat := if v = 0 then 8 else max 4 v

/-- The descrambled LLRs of codeword `i` of the last receive frame (R102, R153, R158). -/
def cwLlr (s : State) (n : Fin 8) (i : Nat) : List Int :=
  let lanes := spreadLanes s n
  let src := lanes.map fun (k : Fin 8) => (s.sig[k].llr.toArray, (scramble (farLane s k)).toArray)
  (List.range 1024).map fun b =>
    let (l, x) := cwPlace lanes.length i b
    let (a, g) := (src[l]?).getD (#[], #[])
    let v := a.getD (slotBit x) 0
    if g.getD x false then -v else v

/-- Payload bits of a lane go on past the monitor: to termination where it is in force, else to the host; what holds them is poisoned where
`bad` (R155, R159, R165, R185). -/
def deliver (n : Fin 8) (bad : Bool) (l : List PayBit) (s : State) : State :=
  let s := monSees false n (l.map fun x => some x.bit) (if bad then poisonBits false n (rxEnd s n) l.length s else s)
  if octOn s n then modFrm n (fun f => { f with oct := f.oct ++ l }) s
  else toHost n (l.map fun x => some x.bit) s

/-- Bits of a lane with no termination on their way go on past the monitor to the host (R163, R164, R185). -/
def deliverPlain (n : Fin 8) (l : List (Option Bool)) (s : State) : State := toHost n l (monSees false n l s)

/-- The information bits of codeword `i` of a frame without their stuffed ones, on each lane (R154, R155, R158). -/
def deframe (n : Fin 8) (i carried : Nat) (bad : Bool) (info : List PayBit) (s : State) : State :=
  let lanes := spreadLanes s n
  let l := lanes.length
  lanes.zipIdx.foldl (fun s q =>
    let mine := (info.zipIdx.filter fun b => decide (b.2 % l = q.2 ∧ i * (960 / l) + b.2 / l < carried)).map (·.1)
    deliver q.1 bad mine s) s

/-- A codeword has left its decoder: on each lane that carried it, it is kept for the atlas engine with the number of its frame there,
until the frame after the next has come in (R123, R161). -/
def cwKeep (lanes : List (Fin 8)) (frames : List Nat) (idx : Nat) (out : CwOut) (s : State) : State :=
  (lanes.zip frames).foldl (fun s p =>
    modFrm p.1 (fun f => { f with outs :=
      (f.outs.filter fun x => decide (f.frameNo ≤ x.frame + 2)) ++ [{ frame := p.2, idx := idx, out := out }] }) s) s

/-- The host bits that each lane of the last receive frame carries (R154). In a lane-spread port the J of its lowest lane holds for every
lane, whatever majority another lane's header gives: the model's choice (notes/assumptions/129.md). -/
def carriedBits (s : State) (n : Nat) : Nat := 122880 - s.fld (R.WELL_FRM_STATUS n) F.WELL_FRM_STATUS_J_RX

/-- The next Deep codeword is assembled (R158 to R161): a core takes it for its window. With the port skewed beyond the deskew range its
information bits go to the host as received, poisoned. -/
def deepAssembled (n : Fin 8) (s : State) : State :=
  let k := spreadLead s n
  let i := s.frm[k].cwNext
  if 128 * (spreadLanes s n).length ≤ i ∨ !framesAligned s n then s
  else
    let llr := (cwLlr s k i).map (clampInt (-31) 31)
    let s := modFrm k (fun f => { f with cwNext := i + 1 }) s
    if !deskewOk s n then
      deframe k i (carriedBits s k) true ((llr.take 960).map fun (x : Int) => ({ bit := decide (x < 0) } : PayBit)) s
    else if s.cores.length < 128 then
      let a := laneKey R.FEC_DEC_CFG k
      { s with cores := s.cores ++ [{
          lane := k, frames := (spreadLanes s n).map fun (j : Fin 8) => s.frm[j].frameNo, idx := i, carried := carriedBits s k, llr := llr,
          cap := s.fld (R.FEC_LN_ITER k) F.FEC_LN_ITER_CAP_EFF,
          etEn := s.actFld a F.FEC_DEC_CFG_ET_EN == 1,
          etMin := max 1 (s.actFld a F.FEC_DEC_CFG_ET_MIN_ITER),
          etThresh := s.actFld a F.FEC_DEC_CFG_ET_THRESH,
          norm := normOf (s.actFld a F.FEC_DEC_CFG_NORM) }] }
    else s

/-! ### The Standard inner code (R163) -/

/-- CHASE_P as it is taken: 2 to 5 (R171). -/
def chaseP (s : State) (n : Nat) : Nat := clampNat 2 5 (s.actFld (laneKey R.FEC_DEC_CFG n) F.FEC_DEC_CFG_CHASE_P)

/-- The `p` least reliable of 128 bits; of equal ones the first. -/
def leastReliable (p : Nat) (llr : List Int) : List Nat :=
  ((List.range 64).flatMap fun v => (llr.zipIdx.filter fun x => x.1.natAbs == v).map (·.2)).take p

/-- The Chase decoder: 2^P test patterns on the least reliable bits, each decoded by the code's syndrome, and of the valid codewords the
one of least soft distance; of equal ones the first. -/
def chaseDecode (p : Nat) (llr : List Int) : Option (List Bool) :=
  let weak := leastReliable p llr
  let hard := llr.map fun x => decide (x < 0)
  let test (t : Nat) : List Bool := hard.zipIdx.map fun x => match weak.findIdx? (· == x.2) with
    | some j => xor x.1 (bitOf t j)
    | none => x.1
  let dist (c : List Bool) : Nat := ((c.zip (hard.zip llr)).map fun x => if x.1 = x.2.1 then 0 else x.2.2.natAbs).sum
  (((List.range (2 ^ p)).filterMap fun t => Config.stdCorrect (test t)).foldl (fun (b : Option (Nat × List Bool)) c => match b with
    | none => some (dist c, c)
    | some x => if dist c < x.1 then some (dist c, c) else some x) none).map (·.2)

/-- The LLRs of Standard codeword `i` of the lane's last frame: the place of each of its bits is the standard's (R163). -/
def stdLlr (s : State) (n : Fin 8) (i : Nat) : List Int :=
  let at' := s.sig[n].llr.zipIdx.filterMap fun x => match Config.stdBitAt x.2 with
    | some (c, b) => if c = i then some (b, x.1) else none
    | none => none
  (List.range 128).map fun b => ((at'.find? fun x => x.1 == b).map (·.2)).getD 0

/-- The next Standard codeword passes the fixed pipeline (R163): its first 120 bits are information and go to the host. -/
def stdAssembled (n : Fin 8) (s : State) : State :=
  let i := s.frm[n].cwNext
  let llr := stdLlr s n i
  let hard := llr.map fun x => decide (x < 0)
  let got := chaseDecode (chaseP s n) llr
  let bits := got.getD hard
  let s := modFrm n (fun f => { f with cwNext := i + 1, stdLock := true }) (s.addWrap (R.FEC_LN_CW n) F.FEC_LN_CW_CODEWORDS 1)
  let s := if got.isSome
    then s.addWrap (R.FEC_LN_BITS n) F.FEC_LN_BITS_CORR_BITS ((bits.zip hard).filter fun x => x.1 != x.2).length
    else s.addWrap (R.FEC_LN_NC n) F.FEC_LN_NC_NONCONV 1
  let s := cwKeep [n] [s.frm[n].frameNo] i { conv := got.isSome, bits := bits, post := llr.map Int.natAbs } s
  deliverPlain n ((bits.take 120).map some) s

/-- CODEWORD_ASSEMBLED (R161, R163): the next codeword of the last receive frame is assembled. The decoders run in Active only
(R346). -/
def codewordAssembled (n : Fin 8) (s : State) : State :=
  if pwrState s ≠ 0 then s
  else match profileEff s with
  | .deep => deepAssembled n s
  | .standard => if s.sig[n].llr.isEmpty then s else stdAssembled n s
  | .spring => s

/-- In Spring the decisions of a receive frame go to the host as they are; a bit of an erased symbol is marked (R164). -/
def springFrame (n : Fin 8) (s : State) : State :=
  if profileEff s = .spring then
    deliverPlain n (s.sig[n].dec.flatMap fun a => match a with
      | some a => [some (grayBits a).1, some (grayBits a).2]
      | none => [none, none]) s
  else s

/-- A receive frame has come in: its codewords are taken from the first on. -/
def frameArrived (n : Fin 8) (s : State) : State :=
  springFrame n (modFrm n (fun f => { f with frameNo := f.frameNo + 1, cwNext := 0 }) s)

/-- DECODE_WINDOW_END: the oldest window of the lane ends, and its codeword leaves converged, or with hard decisions and
counted in NONCONV; its payload is deframed (R155, R160, R161). -/
def decodeWindowEnd (n : Fin 8) (s : State) : State :=
  match s.cores.find? (fun w => w.lane == n.val) with
  | none => s
  | some w =>
    let s := { s with cores := s.cores.eraseP fun w => w.lane == n.val }
    let (out, it, corr, s) := ldpcDecode .deep w s
    let s := s.addWrap (R.FEC_LN_CW n) F.FEC_LN_CW_CODEWORDS 1
    let s := if out.conv then s.addWrap (R.FEC_LN_BITS n) F.FEC_LN_BITS_CORR_BITS corr
             else s.addWrap (R.FEC_LN_NC n) F.FEC_LN_NC_NONCONV 1
    let s := modFrm n (fun f => { f with iterSum := f.iterSum + it, iterCnt := f.iterCnt + 1, iterMax := max f.iterMax it }) s
    let info := ((out.bits.zip out.post).take 960).map fun x => ({ bit := x.1, weak := if out.conv then none else some x.2 } : PayBit)
    deframe n w.idx w.carried false info (cwKeep (spreadLanes s n) w.frames w.idx out s)

/-! ### Outer-code termination (R165) -/

/-- The symbols erased: those below ERASE_THRESH, the least reliable first, at most ERASE_MAX (R165). Symbols of one
reliability are taken in their order in the codeword. -/
def erasures (thresh cap : Nat) (l : List (Nat × Nat)) : List Nat :=
  let c := l.filter fun p => decide (p.2 < thresh)
  let byRel := (List.range 256).flatMap fun v => (c.filter fun p => p.2 == v).map (·.1)
  byRel.take cap

/-- Where the bits of codeword `c` of a group lie over the `l` lanes of a port: lane and bit, for bits 0 to 5,439 (R186). -/
def kp4Places (l c : Nat) : List (Nat × Nat) :=
  let seg := 21760 / l
  let mine := (List.range 21760).filter fun p => Config.kp4Bit l p / 5440 == c
  (List.range 5440).map fun b => match mine.find? fun p => Config.kp4Bit l p % 5440 == b with
    | some p => (p / seg, p % seg)
    | none => (l, 0)

/-- The bits at places of the lanes of a port. -/
def kp4Bits {α : Type} (places : List (Nat × Nat)) (lanes : List (Array α)) (dflt : α) : List α :=
  places.map fun p => ((lanes[p.1]?).getD #[]).getD p.2 dflt

/-- The 544 ten-bit symbols of a list of bits. -/
def rsSymbols : Nat → List Bool → List Nat
  | 0, _ => []
  | k + 1, l => (l.take 10).foldl (fun v b => 2 * v + b2n b) 0 :: rsSymbols k (l.drop 10)

/-- An RS symbol's reliability: the smallest posterior magnitude among its bits in non-converged codewords (R165). -/
def rsWeak : Nat → Nat → List PayBit → List (Nat × Nat)
  | 0, _, _ => []
  | k + 1, q, l =>
    match (l.take 10).filterMap (·.weak) with
    | [] => rsWeak k (q + 1) (l.drop 10)
    | w :: t => (q, t.foldl min w) :: rsWeak k (q + 1) (l.drop 10)

/-- Bounded-distance decoding with erasures: a codeword that differs from what was received in `e` symbols that are not erased is
accepted when 2e + ρ ≤ 30 (R165). The result is the codeword and how many symbols it changes. -/
def octDecode (syms er : List Nat) : Option (List Nat × Nat) :=
  match Config.rsDecode syms er with
  | none => none
  | some c =>
    let diff := ((syms.zip c).zipIdx.filter fun x => x.1.1 != x.1.2).map (·.2)
    let e := (diff.filter fun q => !er.contains q).length
    if c.length = 544 ∧ (c.all fun v => decide (v < 1024)) ∧ 2 * e + er.length ≤ 30 then some (c, diff.length) else none

/-- Replaces the bits of a codeword in the waiting payload of the port's lanes. -/
def octStore (lanes : List (Fin 8)) (places : List (Nat × Nat)) (bits : List Bool) (s : State) : State :=
  (places.zip bits).foldl (fun s p => match lanes[p.1.1]? with
    | none => s
    | some n => modFrm n (fun f => { f with oct := f.oct.modify p.1.2 fun x => { x with bit := p.2 } }) s) s

/-- A group of waiting codewords goes on to the host. -/
def octRelease (n : Fin 8) (s : State) : State :=
  let k := groupBits s
  (lanesOfPort s (portOfLane s n)).foldl (fun s i => octPass i k s) s

/-- How many bits that wait on a lane precede the first whole group of codewords: those before the place where the monitor took lock, and
the rest of a group that has begun (R165, R186). -/
def octLead (s : State) (n : Fin 8) : Nat :=
  let pos := s.frm[n].rxPos
  let base := s.frm[n].rxBase
  if pos < base then base - pos else (groupBits s - (pos - base) % groupBits s) % groupBits s

/-- One codeword of the waiting group under termination (R165, R166). -/
def octOne (n : Fin 8) (c : Nat) (s : State) : State :=
  let lanes := lanesOfPort s (portOfLane s n)
  let places := kp4Places lanes.length c
  let bits := kp4Bits places (lanes.map fun i => s.frm[i].oct.toArray) { bit := false }
  let k := laneKey R.FEC_OCT_CFG n
  let er := erasures (s.actFld k F.FEC_OCT_CFG_ERASE_THRESH) (min 30 (s.actFld k F.FEC_OCT_CFG_ERASE_MAX)) (rsWeak 544 0 bits)
  match octDecode (rsSymbols 544 (bits.map (·.bit))) er with
  | some (cw, corr) =>
    octStore lanes places (cw.flatMap (msbBits 10)) (s.addWrap (R.FEC_LN_OCT n) F.FEC_LN_OCT_OCT_CORR_SYM corr)
  | none =>
    let s := s.addSat (R.FEC_LN_OCT n) F.FEC_LN_OCT_OCT_UNCORR 1
    let base := baseOf s false n
    if s.actFld k F.FEC_OCT_CFG_UNCORR_POISON = 1
    then poisonMark false n [{ base := base, cw := 4 * ((posOf s false n - base) / groupBits s) + c, whole := false }] s else s

/-- Every lane of the port has a whole group of codewords waiting for termination. -/
def octWhole (s : State) (n : Fin 8) : Bool :=
  (lanesOfPort s (portOfLane s n)).all fun i => decide (groupBits s ≤ s.frm[i].oct.length)

/-- OCT_CODEWORD on the lane that leads a port (R165): the next codeword of the group that waits, counted from where the
receive-direction monitor took lock; bits that precede it, and without codeword lock a whole group, pass undecoded. -/
def octCodeword (n : Fin 8) (s : State) : State :=
  if !(octOn s n && isLead s n) then s
  else if dirLocked s false n then
    let s := (lanesOfPort s (portOfLane s n)).foldl (fun s i => if octLead s i = 0 then s else octPass i (octLead s i) s) s
    if octWhole s n then
      let c := s.frm[n].octNext
      let s := modFrm n (fun f => { f with octNext := c + 1 }) (octOne n c s)
      if 3 ≤ c then octRelease n s else s
    else s
  else if octWhole s n then octRelease n s else s

/-! ### Profile selection (R148, R149, R169) -/

/-- The combination of codes is one of the accepted ones (R148). -/
def comboOk (prof : Nat) (legacy : Bool) (cfg : Nat) : Bool :=
  match prof with
  | 0 => !legacy && decide (cfg ≤ 3)
  | 1 => if legacy then cfg == 4 else decide (cfg ≤ 3)
  | 2 => if legacy then cfg == 4 else decide (cfg ≤ 3)
  | _ => false

/-- The profile of a code. -/
def profOf (code : Nat) : Profile := match code with | 0 => .deep | 1 => .standard | _ => .spring

/-- A recipe names the profile and covers the rate in kBd (R50). -/
def recipeCovers (p : Profile) (kbd : Nat) (r : Recipe) : Bool :=
  decide (r.profile = p) && decide (r.rateLo * 1000 ≤ kbd) && decide (kbd ≤ r.rateHi * 1000)

/-- The recipe that a profile change loads: the class in force, else the lowest class present, 0xF above 3; of one class
the lowest index (R169). -/
def profileRecipe (ps : PumpSection) (p : Profile) (kbd reach : Nat) : Option (Nat × Recipe) :=
  let ok := (List.range 64).filterMap fun i => match findRecipe ps i with
    | some r => if recipeCovers p kbd r then some (i, r) else none
    | none => none
  match ok.find? (fun x => x.2.reach == reach) with
  | some x => some x
  | none => ([0, 1, 2, 3, 0xF].findSome? fun c => ok.find? (fun x => x.2.reach == c))

end Sys2Proof.Machine
end

