-- ==== Sys2Proof/Machine/Seep.lean ====
section
/-!
DEFINITION. The seep channel: frames, cells, messages, queues, routing, requests and replies, and the gateway (R191 to
R219 of spec/08_seep_channel.md).
-/
namespace Sys2Proof.Machine

/-- Updates what a lane of the seep channel holds. -/
def modSeep (n : Fin 8) (g : SeepLane → SeepLane) (s : State) : State := { s with seepLn := vmod s.seepLn n g }

/-- The lane's transmit pumps run: the device is in Active or S1 and the lane PLL is locked. -/
def txPumpsRun (s : State) (n : Fin 8) : Bool :=
  decide (pwrState s ≤ 1) && s.flag (R.LINE_PLL_STATUS n) F.LINE_PLL_STATUS_LOCK

/-- The lane's seep channel is enabled. -/
def seepEn (s : State) (n : Nat) : Bool := s.flag (R.SEEP_LN_CFG n) F.SEEP_LN_CFG_EN

/-- The lane transmits Seep-L. -/
def seepTxL (s : State) (n : Nat) : Bool := s.flag (R.SEEP_LN_STATUS n) F.SEEP_LN_STATUS_TX_MODE

/-- The device's node number. -/
def seepNode (s : State) : Nat := s.fld R.SEEP_NODE F.SEEP_NODE_NODE

/-! ### Depth, filters and the input (R193, R201, R202, R218) -/

/-- The depth in force in 0.125% units (R193, R218). -/
def seepDepth (s : State) (n : Nat) : Nat :=
  match s.actFld (R.SEEP_LN_CFG n) F.SEEP_LN_CFG_DEPTH_CLASS with
  | 0 => 12 | 1 => 24 | 2 => 48 | _ => clampNat 4 64 (s.actFld (R.SEEP_LN_CFG n) F.SEEP_LN_CFG_DEPTH)

/-! The stages of the receive chain whose numbers R200 and R201 give. -/

/-- fs1, the CIC's output rate, in kSa/s. -/
def seepFs1 (s : State) (n : Nat) : Nat :=
  if s.fld (R.LINE_PLL_CFG n) F.LINE_PLL_CFG_RATE = 3 then 6485
  else match profileEff s with | .deep => 6952 | .standard => 6924 | .spring => 6485

/-- The mixer's frequency of sub-carrier q, from f_q − fs1/4 to 0 Hz, in kHz; 0 Hz on the RSSI input. -/
def seepMixer (s : State) (n : Fin 8) (q : Nat) : Int :=
  if s.flag (R.SEEP_LN_STATUS n) F.SEEP_LN_STATUS_INPUT then 0 else (seepCarrier q / 1000 : Nat) - (seepFs1 s n : Int) / 4

/-- Samples of a block sum: 256, or 128 at 53.125 GBd. -/
def seepBlock (s : State) (n : Nat) : Nat := if s.fld (R.LINE_PLL_CFG n) F.LINE_PLL_CFG_RATE = 3 then 128 else 256

/-- Five integrators, each adding the one before. -/
def integrate (x : Int) : List Int → List Int
  | [] => []
  | a :: t => (a + x) :: integrate (a + x) t

/-- Five combs: the output, and the values they hold. -/
def comb (x : Int) : List Int → Int × List Int
  | [] => (x, [])
  | a :: t => let (y, l) := comb (x - a) t; (y, x :: l)

/-- One block sum enters the CIC, which delivers every 64th output. -/
def cicStep (t : Tee) (x : Int) : Tee :=
  let i := integrate x t.int
  if t.cnt + 1 < 64 then { t with int := i, cnt := t.cnt + 1 }
  else
    let (y, c) := comb (i.getLastD 0) t.comb
    { t with int := i, comb := c, cnt := 0, out := t.out ++ [y] }

/-- The sums of consecutive groups of `k` samples, and the samples left over. -/
def blockSums (k : Nat) : Nat → List Int → List Int × List Int
  | 0, l => ([], l)
  | f + 1, l =>
    if l.length < k ∨ k = 0 then ([], l)
    else let (b, r) := blockSums k f (l.drop k); ((l.take k).sum :: b, r)

/-- The samples of a line frame reach the summing stages of the seep chains that listen to the lane (R44, R200). -/
def seepTee (k : Fin 8) (samples : List Nat) (s : State) : State :=
  forLanes (fun n s =>
    if !seepEn s n ∨ s.actFld (R.SEEP_LN_CFG n) F.SEEP_LN_CFG_IN_LANE ≠ k.val ∨ s.flag (R.SEEP_LN_STATUS n) F.SEEP_LN_STATUS_INPUT then s
    else
      let t := s.seepLn[n].tee
      let (b, r) := blockSums (seepBlock s k) samples.length (t.part ++ samples.map Int.ofNat)
      modSeep n (fun l => { l with tee := b.foldl cicStep { t with part := r, out := [] } }) s) s

/-- The stages whose responses are selected, in the order HB1, HB2, CHAN_A, CHAN_L, RESAMP, SLEEP_DEC. -/
inductive FiltStage where
  | hb1 | hb2 | chanA | chanL | resamp | sleepDec
  deriving DecidableEq, Repr

/-- The ROM indexes of a stage (R201). -/
def FiltStage.valid : FiltStage → Nat → Bool
  | .hb1, i => i == 0 || i == 1 || i == 6
  | .hb2, i => i == 2 || i == 3 || i == 7
  | .chanA, i => decide (8 ≤ i ∧ i ≤ 15)
  | .chanL, i => decide (16 ≤ i ∧ i ≤ 23)
  | .resamp, i => decide (24 ≤ i ∧ i ≤ 27)
  | .sleepDec, i => decide (4 ≤ i ∧ i ≤ 5)

/-- The default response of a stage (R201). -/
def FiltStage.dflt : FiltStage → Nat
  | .hb1 => 0 | .hb2 => 2 | .chanA => 11 | .chanL => 19 | .resamp => 26 | .sleepDec => 4

/-- The selections in force on the lane. -/
def filtSel (s : State) (n : Nat) : List (FiltStage × Nat) :=
  let a := R.SEEP_LN_FILT0 n
  let b := R.SEEP_LN_FILT1 n
  [(.hb1, s.actFld a F.SEEP_LN_FILT0_HB1), (.hb2, s.actFld a F.SEEP_LN_FILT0_HB2),
   (.chanA, s.actFld a F.SEEP_LN_FILT0_CHAN_A), (.chanL, s.actFld a F.SEEP_LN_FILT0_CHAN_L),
   (.resamp, s.actFld b F.SEEP_LN_FILT1_RESAMP), (.sleepDec, s.actFld b F.SEEP_LN_FILT1_SLEEP_DEC)]

/-- The response in force of a stage: a selection that is not one of the stage's is its default (R201). -/
def filtEff (p : FiltStage × Nat) : Nat := if p.1.valid p.2 then p.2 else p.1.dflt

/-- Taps of a response of the ROM; of the resampler's, those of one phase (R201). -/
def filtTaps (i : Nat) : Nat :=
  match i with
  | 0 => 31 | 1 => 47 | 2 => 63 | 3 => 95 | 4 => 63 | 5 => 95 | 6 => 1 | 7 => 1
  | 24 => 8 | 25 => 12 | 26 => 16 | 27 => 24
  | i => if i < 16 then 33 + 4 * (i - 8) else 127 + 16 * (i - 16)

/-- Settling of a response of the ROM, in outputs of its stage (R201). -/
def filtSettle (i : Nat) : Nat :=
  match i with
  | 0 => 8 | 1 => 12 | 2 => 16 | 3 => 24 | 4 => 32 | 5 => 48 | 6 => 0 | 7 => 0
  | 24 => 4 | 25 => 6 | 26 => 8 | 27 => 12
  | i => if i < 16 then 17 + 2 * (i - 8) else 4 + (i - 16 + 1) / 2

/-- The stages of a branch in order, each with the rate of its outputs in kSa/s; the resampler's last (R200). -/
def branchStages (s : State) (n : Fin 8) (low rssi : Bool) : List (FiltStage × Nat) :=
  let fs1 := seepFs1 s (s.actFld (R.SEEP_LN_CFG n) F.SEEP_LN_CFG_IN_LANE)
  let r := if rssi then 1000 else fs1 / 4
  (if rssi then [(.sleepDec, 4000), (.hb1, 2000), (.hb2, 1000)] else [(.hb1, fs1 / 2), (.hb2, r)]) ++
    (if low then [(.chanL, r / 16), (.resamp, 64)] else [(.chanA, r), (.resamp, 1000)])

/-- The resampler outputs of a branch that depend on an output within the settling count of a stage from `st` on, less the phase at which
they fall: the settling times follow one another (notes/assumptions/150.md). -/
def unsettledOut (s : State) (n : Fin 8) (low rssi : Bool) (st : Option FiltStage) : Nat :=
  let all := branchStages s n low rssi
  let l : List (FiltStage × Nat) := match st with | some st => all.dropWhile (fun p => p.1 != st) | none => all
  let out := if low then 64 else 1000
  -- in 1e-6 of an output
  (l.map fun p => filtSettle (filtEff (p.1, ((filtSel s n).lookup p.1).getD 0)) * out * 1000000 / p.2).sum / 1000000

/-- A switch restarts the receive stages from `st` on, from the first one where it is none: their outputs are unsettled (R202). The branch
counted is the one in use, but for a switch in a stage of another. At which phase the resampler's outputs fall is open; with the default
responses there are at most 32, or 16 in Seep-L. -/
def seepUnsettle (n : Fin 8) (st : Option FiltStage) (s : State) : State :=
  let a := R.SEEP_LN_STATUS n
  let rssi := s.flag a F.SEEP_LN_STATUS_INPUT
  let low := st == some .chanL || (st != some .chanA && (rssi || s.flag a F.SEEP_LN_STATUS_RX_MODE))
  let s := if st.isNone then modSeep n (fun l => { l with tee := {} }) s else s
  let (b, s) := s.fresh 1
  let k := unsettledOut s n low rssi st + b
  let k := if (filtSel s n).all (fun p => filtEff p == p.1.dflt) then min k (if low then 16 else 32) else k
  (s.setFld a F.SEEP_LN_STATUS_UNSETTLED 1).setFld a F.SEEP_LN_STATUS_UNSET_LEN (min 255 k)

/-- The first stage of the running chain whose response has changed: the decimator runs on the RSSI input only, and of the channel filters
the Seep-A branches' does not. -/
def switchedStage (old new : List (FiltStage × Nat)) (rssi : Bool) : Option FiltStage :=
  [FiltStage.sleepDec, .hb1, .hb2, .chanA, .chanL, .resamp].find? fun st =>
    old.lookup st != new.lookup st && (if rssi then st != .chanA else st != .sleepDec)

/-- The SEEP fields of the lane come into force (R12, R201, R202). -/
def seepApply (n : Fin 8) (s : State) : State :=
  let regs := [R.SEEP_LN_CFG n, R.SEEP_LN_FILT0 n, R.SEEP_LN_FILT1 n, R.SEEP_LN_BM n]
  let sel (s : State) := (filtSel s n).map fun p => (p.1, filtEff p)
  let inLane (s : State) := s.actFld (R.SEEP_LN_CFG n) F.SEEP_LN_CFG_IN_LANE
  let old := sel s
  let oldLane := inLane s
  let oldRaw := filtSel s n
  let s := regs.foldl (fun s a => s.setActReg a (s.reg a)) s
  let s := s.setFld (R.SEEP_LN_STATUS n) F.SEEP_LN_STATUS_UNSETTLED 0
  let s := if decide (filtSel s n ≠ oldRaw) && (filtSel s n).any (fun p => !p.1.valid p.2)
    then s.raise1 (R.SEEP_LN_STATUS n) F.SEEP_LN_STATUS_FILT_ERR (288 + 5 * n + 4) else s
  let rssi := s.flag (R.SEEP_LN_STATUS n) F.SEEP_LN_STATUS_INPUT
  if inLane s ≠ oldLane ∧ !rssi then seepUnsettle n none s
  else match switchedStage old (sel s) rssi with
    | some st => seepUnsettle n (some st) s
    | none => s

/-- BIASMOD's voltage from its midpoint in 1/8 mV: held at the midpoint while the transmit pumps run, else the scaled envelope within
±400 mV (R193). -/
def biasmod (s : State) (n : Fin 8) : Int :=
  if txPumpsRun s n || !seepEn s n then 0
  else clampInt (-3200) 3200
    (roundDiv (seepDepth s n * s.actFld (R.SEEP_LN_BM n) F.SEEP_LN_BM_BM_SCALE * seepEnvelope s n 0) 32768)

/-- BIASMOD's excursion beyond ±400 mV is clipped and sets BM_CLIP; it is driven while a frame is sent and the transmit pumps do not run,
from the moment they stop (R193). -/
def biasClip (n : Fin 8) (s : State) : State :=
  if seepEn s n && !txPumpsRun s n && !s.seepLn[n].labels.isEmpty && decide (3200 < seepDepth s n * s.actFld (R.SEEP_LN_BM n) F.SEEP_LN_BM_BM_SCALE)
  then s.raise1 (R.SEEP_LN_STATUS n) F.SEEP_LN_STATUS_BM_CLIP (288 + 5 * n + 3) else s

/-! ### Queue (R209) -/

/-- The cells of a message (R204, R205). -/
def cellCount (m : SMsg) : Nat := (8 + m.payload.length + 59) / 60

/-- TXQ_LEVEL follows the queue. -/
def txqFollow (n : Fin 8) (s : State) : State :=
  s.setFld (R.SEEP_LN_STATUS n) F.SEEP_LN_STATUS_TXQ_LEVEL (min 63 s.seepLn[n].q.length)

/-- Messages dropped from the queue: TXQ_DROPS counts them. -/
def countDrops (n : Fin 8) (k : Nat) (s : State) : State := s.addSat (R.SEEP_LN_CNT1 n) F.SEEP_LN_CNT1_TXQ_DROPS k

/-- A message dropped for want of room sets TXQ_DROP and is counted (R209). -/
def txqDrop (n : Fin 8) (s : State) : State :=
  countDrops n 1 (s.raise1 (R.SEEP_LN_STATUS n) F.SEEP_LN_STATUS_TXQ_DROP (288 + 5 * n + 2))

/-- The queue without its newest class-3 message that has not been started, if it holds one (R209). -/
def displace (q : List QMsg) : Option (List QMsg) :=
  match q.reverse.findIdx? (fun e => e.cls == 3 && e.sent == 0) with
  | some i => some (q.reverse.eraseIdx i).reverse
  | none => none

/-- Queues a message on a lane (R207, R209). -/
def seepQueue (n : Fin 8) (cls : Nat) (m : SMsg) (due : Option Nat) (s : State) : State :=
  let e : QMsg := { cls := cls, msg := m, due := due }
  if !seepEn s n then countDrops n 1 s
  else if s.seepLn[n].q.length < 32 then txqFollow n (modSeep n (fun l => { l with q := l.q ++ [e] }) s)
  else if cls = 3 then txqDrop n s
  else match displace s.seepLn[n].q with
    | some q => txqFollow n (txqDrop n (modSeep n (fun l => { l with q := q ++ [e] }) s))
    | none => txqDrop n s

/-- The next cell: of the message already started, else of the first message of the lowest class (R209). -/
def nextCell (q : List QMsg) : Option Nat :=
  match q.findIdx? (fun e => decide (0 < e.sent)) with
  | some i => some i
  | none => [1, 2, 3].findSome? fun c => q.findIdx? (fun e => e.cls == c)

/-- Takes a cell from the queue: the cell, and the queue after it. -/
def takeCell (q : List QMsg) : Option (QMsg × List QMsg) :=
  match nextCell q with
  | none => none
  | some i => match q[i]? with
    | none => none
    | some e => some (e, if e.sent + 1 < cellCount e.msg then q.set i { e with sent := e.sent + 1 } else q.eraseIdx i)

/-- A cell is queued again ahead of all others of its class (R194, R217); after a restart (`once`) only if it has not been before. -/
def untakeCell (once : Bool) (c : QMsg) (q : List QMsg) : List QMsg :=
  if once ∧ c.sent < c.again then q
  else
  let c := if once then { c with again := c.sent + 1 } else c
  match q.findIdx? (fun e => decide (e.msg = c.msg ∧ e.cls = c.cls ∧ e.sent = c.sent + 1)) with
  | some i => c :: q.eraseIdx i
  | none => c :: q

/-- The frame in transmission ends: its phase stays for what follows. After its last symbol the tails of its last symbols go on; abandoned
before, the phase stands where it is (R193). Nothing of those tails is left where no frame of the same mode follows (`next`). -/
def frameClose (next : Bool) (n : Fin 8) (s : State) : State :=
  let l := s.seepLn[n]
  let m := s.flag (R.SEEP_LN_STATUS n) F.SEEP_LN_STATUS_TX_MODE
  let whole := decide ((l.labels.getD 0 []).length * seepSymbol m ≤ s.now - l.startAt)
  let cut (q : Nat) : Nat := (seepSyms s n q).length - (if next then pulseSymbols else 0)
  let past (q : Nat) : Nat :=
    if whole then (((l.phase.getD q 0 : Nat) + ((seepSyms s n q).take (cut q)).sum * 2 ^ 30 : Int) % 2 ^ 32).toNat
    else seepPhase s n q 0
  if l.labels.isEmpty then s
  else modSeep n (fun x => { x with
    labels := [],
    phase := (List.range l.labels.length).map past ++ l.phase.drop l.labels.length,
    tail := if whole then (List.range l.labels.length).map fun q => (seepSyms s n q).drop (cut q) else [] }) s

/-- The frame in progress is abandoned, and its cells are queued again. -/
def requeueFrame (once : Bool) (n : Fin 8) (s : State) : State :=
  let s := frameClose false n s
  match s.seepLn[n].cur with
  | .cells l =>
    txqFollow n (modSeep n (fun x => { x with cur := .none, q := l.reverse.foldl (fun q c => untakeCell once c q) x.q }) s)
  | _ => modSeep n (fun x => { x with cur := .none }) s

/-! ### Routing (R206, R207) -/

/-- A message dropped under R206 sets NOROUTE. -/
def noRoute (s : State) : State :=
  (s.raise1 R.SEEP_STATUS F.SEEP_STATUS_NOROUTE 332).addSat R.SEEP_CNT F.SEEP_CNT_DROPPED 1

/-- A message discarded under R208 sets BAD_MSG. -/
def badMsg (s : State) : State :=
  (s.raise1 R.SEEP_STATUS F.SEEP_STATUS_BAD_MSG 333).addSat R.SEEP_CNT F.SEEP_CNT_DROPPED 1

/-- The lane of the first enabled route that matches (R206). -/
def routeLane (s : State) (dst : Nat) : Option (Fin 8) :=
  (List.range 16).findSome? fun k =>
    let a := R.SEEP_ROUTE k
    let m := s.fld a F.SEEP_ROUTE_MASK
    if s.flag a F.SEEP_ROUTE_EN && Nat.land dst m == Nat.land (s.fld a F.SEEP_ROUTE_BASE) m
    then some (lane (s.fld a F.SEEP_ROUTE_LANE)) else none

/-- A message of the device's own goes out by the route table (R207). -/
def sendRouted (cls : Nat) (m : SMsg) (s : State) : State :=
  match routeLane s m.dst with
  | some n => if seepEn s n then seepQueue n cls m none s else noRoute s
  | none => noRoute s

/-- A message for a chosen lane when link-local, else by the route table (R207, R216). -/
def sendMsg (n : Fin 8) (cls : Nat) (m : SMsg) (s : State) : State :=
  if m.dst = 0 then (if seepEn s n then seepQueue n cls m none s else noRoute s) else sendRouted cls m s

/-- The message is for this device (R206). -/
def consumed (s : State) (m : SMsg) : Bool := m.dst == 0 || (decide (seepNode s ≠ 0) && m.dst == seepNode s)

/-- The types of R208, and those that are link-local. -/
def mtypeKnown (t : Nat) : Bool := [1, 2, 3, 4, 5, 6, 7, 8, 9, 0x10, 0x11, 0x20, 0x21, 0x22].contains t
def mtypeLocal (t : Nat) : Bool := [0x10, 0x11, 0x20, 0x21, 0x22].contains t

/-- Takes the oldest received message that satisfies `p` from the lane's inbox. -/
def takeMsg (n : Fin 8) (p : SMsg → Bool) (s : State) : Option (SMsg × Option Nat × State) :=
  let l := s.seepLn[n]
  match l.inbox.findIdx? p with
  | none => none
  | some i => match l.inbox[i]? with
    | none => none
    | some m => some (m, (l.inFrames[i]?).getD (some 0),
        modSeep n (fun l => { l with inbox := l.inbox.eraseIdx i, inFrames := l.inFrames.eraseIdx i }) s)

/-- SEEP_FORWARD (R206): the oldest message for another node is sent on, or dropped. Every drop sets NOROUTE, whose description names
any drop under R206 (notes/assumptions/104.md). -/
def seepForward (n : Fin 8) (s : State) : State :=
  match takeMsg n (fun m => !consumed s m) s with
  | none => s
  | some (m, _, s) =>
    if seepNode s = 0 ∨ !s.flag (R.SEEP_LN_CFG n) F.SEEP_LN_CFG_FWD_EN ∨ m.hops = 0 then noRoute s
    else match routeLane s m.dst with
      | none => noRoute s
      | some k =>
        if k = n ∨ !seepEn s k then noRoute s
        else
          -- a full queue drops it (R209): it is not forwarded then
          let s := if s.seepLn[k].q.length < 32 then s.addWrap R.SEEP_CNT F.SEEP_CNT_FORWARDED 1 else s
          seepQueue k 3 { m with hops := m.hops - 1 } none s

/-! ### Requests and replies (R207, R210) -/

/-- The reply type of a request type (R208); a PD_UPDATE is answered with PD_ACK. -/
def replyType (t : Nat) : Nat :=
  match t with | 1 => 3 | 2 => 4 | 5 => 6 | 8 => 9 | 0x21 => 0x22 | _ => 0x20

/-- A reply to a request (R207). A link-local reply's HOPS is open. -/
def mkReply (q : SReq) (rc : Nat) (payload : List Nat) (s : State) : SMsg × State :=
  let (h, s) := if q.dst = 0 then s.fresh 4 else (15, s)
  ({ dst := if q.dst = 0 then 0 else q.src, hops := h, src := seepNode s, rc := rc, mtype := replyType q.mtype,
     tid := q.tid, payload := payload }, s)

/-- A request waits for its reply, `frames` transmit frames after its own ended; one that was answered TIMEOUT meanwhile waits for
nothing, and its late result is discarded (R210). -/
def pushReq (n : Fin 8) (m : SMsg) (frames : Option Nat) (reply : Option (Nat × List Nat)) (s : State) : State :=
  match frames with
  | none => s
  | some k =>
    let q : SReq := { lane := n, mtype := m.mtype, src := m.src, dst := m.dst, tid := m.tid, frames := k, reply := reply }
    { s with seep := { s.seep with reqs := s.seep.reqs ++ [q] } }

/-- A request reaches K2 with the reply that serving it prepared. -/
def addReq (n : Fin 8) (m : SMsg) (frames : Option Nat) (rc : Nat) (payload : List Nat) (s : State) : State :=
  pushReq n m frames (some (rc, payload)) s

/-- Takes the oldest request of a lane that satisfies `p`. -/
def takeReq (n : Nat) (p : SReq → Bool) (s : State) : Option (SReq × State) :=
  match s.seep.reqs.find? (fun q => q.lane == n && p q) with
  | none => none
  | some q => some (q, { s with seep := { s.seep with reqs := s.seep.reqs.eraseP (fun q => q.lane == n && p q) } })

/-- PF_REPLY_READY (R210): the oldest prepared reply of the lane is queued in class 1. -/
def pfReplyReady (n : Fin 8) (s : State) : State :=
  match takeReq n (fun q => q.reply.isSome) s with
  | some (q, s) =>
    let r := q.reply.getD (0, [])
    let (m, s) := mkReply q r.1 r.2 s
    seepQueue n 1 m (some (2 - q.frames)) s
  | none => s

/-- A deadline frame starts. -/
def frameDue (k : Option Nat) : Bool := match k with | some k => decide (1 ≤ k) | none => false

/-- The message of a PD_ACK's request. -/
def pdRequest : SMsg := { dst := 0, hops := 0, src := 0, rc := 0, mtype := 0xFF, tid := 0, payload := [] }

/-- The oldest request whose deadline frame starts: one that K2 has taken, one that still waits for it, or an update whose last segment
does; the last two stay to be served, with no further reply. -/
def takeLate (n : Fin 8) (s : State) : Option (SReq × State) :=
  let l := s.seepLn[n]
  let req (m : SMsg) : SReq := { lane := n, mtype := m.mtype, src := m.src, dst := m.dst, tid := m.tid, frames := 1 }
  let isReq (m : SMsg) : Bool := consumed s m && [1, 2, 5, 8, 0x21].contains m.mtype
  match takeReq n (fun q => decide (1 ≤ q.frames)) s with
  | some r => some r
  | none => match (l.inbox.zip l.inFrames).findIdx? (fun p => frameDue p.2 && isReq p.1) with
    | some i => (l.inbox[i]?).map fun m => (req m, modSeep n (fun l => { l with inFrames := l.inFrames.set i none }) s)
    | none => match l.segs.findIdx? (fun g => frameDue g.frames && (g.low || g.seg == (if l.compact then 15 else 79))) with
      | some i => (l.segs[i]?).map fun g => (req pdRequest, modSeep n (fun l => { l with segs := l.segs.set i { g with frames := none } }) s)
      | none => none

/-- PF_REPLY_DEADLINE (R210, R217): the deadline frame of the oldest request starts before its reply is queued. -/
def pfReplyDeadline (n : Fin 8) (s : State) : State :=
  match takeLate n s with
  | none => s
  | some (q, s) =>
    if !lenOut s n then s
    else
      let (m, s) := mkReply q 8 [] s
      let s := seepQueue n 1 m (some 0) s
      let s := s.raise1 (R.SEEP_LN_STATUS n) F.SEEP_LN_STATUS_REPLY_LATE (288 + 5 * n + 1)
      s.addSat (R.SEEP_LN_CNT1 n) F.SEEP_LN_CNT1_LATE_REPLIES 1

/-- WAKE_REQ_RECEIVE (R214). -/
def wakeReqReceive (n : Fin 8) (s : State) : State :=
  match takeMsg n (fun m => m.mtype == 8 && consumed s m) s with
  | none => s
  | some (m, fr, s) =>
    if s.flag R.SEEP_CFG F.SEEP_CFG_PF_WAKE_EN then
      let s := s.setFld R.SEEP_WAKE F.SEEP_WAKE_WAKE_LANE n
      let s := s.setFld R.SEEP_WAKE F.SEEP_WAKE_WAKE_NODE m.src
      addReq n m fr 0 [] (s.raise1 R.SEEP_WAKE F.SEEP_WAKE_WAKE_PEND 328)
    else addReq n m fr 4 [] s

/-! ### Transmit frames (R194, R195, R209, R217) -/

/-- The mode that R194 asks for: true for Seep-L. -/
def wantL (s : State) (n : Fin 8) : Bool :=
  deepSleep s || s.actFld (R.SEEP_LN_CFG n) F.SEEP_LN_CFG_FORCE_L == 1 ||
  (s.seepLn[n].gotFrame && s.flag (R.SEEP_LN_STATUS n) F.SEEP_LN_STATUS_RX_MODE)

/-- A change from Seep-L to Seep-A takes effect at once: the frame in progress is abandoned and its cells queued again
(R194). -/
def seepToA (n : Fin 8) (s : State) : State :=
  if seepEn s n && seepTxL s n && !wantL s n
  then (requeueFrame false n s).setFld (R.SEEP_LN_STATUS n) F.SEEP_LN_STATUS_TX_MODE 0 else s

/-- Queued replies pass their deadline frames while LEN is low and are then discarded (R217). -/
def ageReplies (low : Bool) (q : List QMsg) : List QMsg :=
  (q.map fun e => { e with due := e.due.map (· - 1) }).filter fun e => !(low && e.cls == 1 && e.due == some 0)

/-- The lane's queue ages by one frame; the discarded replies are dropped messages (R217, TXQ_DROPS). -/
def queueAges (n : Fin 8) (low : Bool) (s : State) : State :=
  let q := ageReplies low s.seepLn[n].q
  txqFollow n (countDrops n (s.seepLn[n].q.length - q.length) (modSeep n (fun l => { l with q := q }) s))

/-- An update in transport on the lane may send its next segment: PD_SEND_EN = 1, Seep-A, and no training run (R132, R141). -/
def pdWaits (s : State) (n : Fin 8) : Bool :=
  match s.atlas[n].tx with
  | some t => decide (t.next < t.segs) && !seepTxL s n && s.flag (R.ATL_LANE_CFG n) F.ATL_LANE_CFG_PD_SEND_EN && s.atlas[n].train.isNone
  | none => false

/-- The last record of an update has been sent: PD_SENT, and the wait for its PD_ACK begins (R132, R134). -/
def bulkSent (n : Fin 8) (t : PdTx) (s : State) : State :=
  let s := s.setFld (R.ATL_STATUS n) F.ATL_STATUS_PD_SENT 1
  let s := s.setFld (R.ATL_PD_STATE n) F.ATL_PD_STATE_TX_UPD t.upd
  { s with atlas := vmod s.atlas n fun a => { a with tx := none, ackWait := some 0 } }

/-- Sends the next PD_BULK segment (R211). -/
def sendBulk (n : Fin 8) (s : State) : State :=
  match s.atlas[n].tx with
  | none => s
  | some t =>
    let g : Seg := { seg := t.next, upd := t.upd, frag := if t.next ≤ 7 then t.ext / 4 ^ t.next % 4 else 0,
                     data := t.stream / 2 ^ (1024 * (t.segs - 1 - t.next)) % 2 ^ 1024 }
    let s := modSeep n (fun l => { l with cur := .bulk g, msgRun := 0 }) s
    let s := s.addWrap (R.SEEP_LN_TXCNT n) F.SEEP_LN_TXCNT_BULK_FRAMES 1
    let t' := { t with next := t.next + 1 }
    if t'.next = t.segs then bulkSent n t' s
    else { s with atlas := vmod s.atlas n fun a => { a with tx := some t' } }

/-- Fills a MSG frame with up to `k` cells. -/
def fillCells : Nat → List QMsg → List QMsg × List QMsg
  | 0, q => ([], q)
  | k + 1, q => match takeCell q with
    | none => ([], q)
    | some (c, q) => let (l, q) := fillCells k q; (c :: l, q)

/-- The content of the frame that starts (R209). -/
def frameContent (n : Fin 8) (s : State) : State :=
  let l := s.seepLn[n]
  let pd := pdWaits s n
  let cls1 := l.q.any (fun e => e.cls == 1)
  let s := s.addWrap (R.SEEP_LN_TXCNT n) F.SEEP_LN_TXCNT_TX_FRAMES 1
  let s := modSeep n (fun l => { l with fseq := (l.fseq + 1) % 256 }) s
  if pd && (l.q.isEmpty || (decide (4 ≤ l.msgRun) && !cls1)) then sendBulk n s
  else if l.q.isEmpty then modSeep n (fun l => { l with cur := .idle, msgRun := 0 }) s
  else
    let (cells, q) := fillCells (if seepTxL s n then 1 else 2) l.q
    txqFollow n (modSeep n (fun l => { l with cur := .cells cells, q := q, msgRun := if pd then l.msgRun + 1 else 0 }) s)

/-- The bytes of a message (R205). -/
def msgBytes (m : SMsg) : List Nat :=
  let a := m.dst * 16 + m.hops
  let b := m.src * 16 + m.rc
  [a / 256, a % 256, b / 256, b % 256, m.mtype, m.tid, m.payload.length / 256, m.payload.length % 256] ++ m.payload

/-- The 512 bits of a cell from its header and the 480 bits behind it (R204). -/
def cellBits (header : Nat) (body : List Bool) : List Bool :=
  let b := msbBits 16 header ++ body
  b ++ msbBits 16 (crc16 b)

/-- A message's cell `sent` (R204). The bytes that a cell does not use are open. -/
def msgCell (c : QMsg) (s : State) : List Bool × State :=
  let b := ((msgBytes c.msg).drop (60 * c.sent)).take 60
  let head := (if c.sent = 0 then 0x8000 else 0) + (if c.sent + 1 = cellCount c.msg then 0x4000 else 0) + c.sent % 64 * 256 + b.length
  let (pad, s) := s.fresh (8 * (60 - b.length))
  (cellBits head (b.flatMap (msbBits 8) ++ msbBits (8 * (60 - b.length)) pad), s)

/-- The information bits of the cells of a MSG frame, and padding cells where the frame has room for more (R204). -/
def cellsBits : Nat → List QMsg → State → List Bool × State
  | 0, _, s => ([], s)
  | k + 1, [], s =>
    let (pad, s) := s.fresh 480
    let (r, s) := cellsBits k [] s
    (cellBits 0 (msbBits 480 pad) ++ r, s)
  | k + 1, c :: t, s =>
    let (b, s) := msgCell c s
    let (r, s) := cellsBits k t s
    (b ++ r, s)

/-- The information bits of the frame in transmission (R195, R197, R204, R211). -/
def frameInfo (modeL : Bool) (c : SFrame) (s : State) : List Bool × State :=
  match c with
  | .none => ([], s)
  | .idle => (List.replicate (if modeL then 512 else 1024) false, s)
  | .cells l => cellsBits (if modeL then 1 else 2) l s
  | .bulk g => (msbBits 1024 g.data, s)

/-- The frame tag (R197). -/
def frameTag (modeL : Bool) (fseq : Nat) (c : SFrame) : Nat :=
  let typ := match c with | .cells _ => 1 | .bulk _ => 2 | _ => 0
  match c with
  | .bulk g => typ + g.seg % 128 * 8 + g.upd % 65536 * 1024 + g.frag % 4 * 2 ^ 26
  | _ => typ + (if modeL then fseq % 8 else fseq % 256) * 8

/-- `k` output bits of the PRBS9 x^9 + x^5 + 1 from a state whose bit i is the i-th next output (R196). -/
def prbs9 : Nat → Nat → List Bool
  | 0, _ => []
  | k + 1, g => bitOf g 0 :: prbs9 k (g / 2 + (g + g / 16) % 2 * 256)

/-- The training bits of a tag value of m + 1 bits (R196). -/
def trainBits (m v : Nat) : List Bool :=
  (prbs9 (2 ^ m) 511).zipIdx.map fun p =>
    (List.range m).foldl (fun b k => xor b (bitOf v (k + 1) && bitOf p.2 k)) (xor p.1 (bitOf v 0))

/-- Pairs of bits as two-bit labels, the first bit the most significant. -/
def pairLabels : List Bool → List Nat
  | a :: b :: t => (2 * b2n a + b2n b) :: pairLabels t
  | _ => []

/-- A codeword of the seep code: its information bits and its parity bits (R198). -/
def seepEncode (info : List Bool) : List Bool := info ++ seepParity info.toArray

/-- The symbol labels of a Seep-A frame, one list per sub-carrier: 32 training symbols and 256 data symbols (R195, R196). -/
def labelsA (tag : Nat) (info : List Bool) : List (List Nat) :=
  let c0 := (seepEncode (info.take 512)).toArray
  let c1 := (seepEncode (info.drop 512)).toArray
  (List.range 4).map fun q =>
    pairLabels (trainBits 6 (tag / 2 ^ (7 * q) % 128)) ++
    (List.range 256).map fun j => 2 * b2n (c0.getD (4 * j + q) false) + b2n (c1.getD (4 * j + q) false)

/-- The symbols of a Seep-L frame (R195, R196). -/
def labelsL (tag : Nat) (info : List Bool) : List (List Nat) :=
  [(trainBits 5 (tag % 64) ++ seepEncode info).map b2n]

/-- The frame is encoded and its transmission begins (R195). -/
def frameSend (n : Fin 8) (s : State) : State :=
  let l := s.seepLn[n]
  let m := seepTxL s n
  let (info, s) := frameInfo m l.cur s
  let tag := frameTag m l.fseq l.cur
  modSeep n (fun l => { l with labels := if m then labelsL tag info else labelsA tag info, startAt := s.now }) s

/-- Nothing is sent: the envelope rests. -/
def frameOff (n : Fin 8) (s : State) : State := modSeep n (fun l => { l with cur := .none }) (frameClose false n s)

/-- The lane on which an EVENT goes out (R213). -/
def eventLane (s : State) : Option (Fin 8) :=
  let p := s.fld R.SEEP_PF_PEER F.SEEP_PF_PEER_PEER
  if p = 0 then some (lane (s.fld R.SEEP_PF_PEER F.SEEP_PF_PEER_LANE)) else routeLane s p

/-- Counters that advance with the lane's transmit frames: requests' deadlines, the EVENT repeat, the wait for a PD_ACK in
Seep-A, and a training request's answer. -/
def frameCounts (n : Fin 8) (s : State) : State :=
  let s := modSeep n (fun l => { l with inFrames := l.inFrames.map (·.map (· + 1)),
                                        segs := l.segs.map fun g => { g with frames := g.frames.map (· + 1) } }) s
  let ev := eventLane s == some n
  let reqs := s.seep.reqs.map fun (q : SReq) => if q.lane = n.val then { q with frames := q.frames + 1 } else q
  let evFrames := if ev then s.seep.evFrames + 1 else s.seep.evFrames
  let l := seepTxL s n
  let s := { s with seep := { s.seep with reqs := reqs, evFrames := evFrames } }
  { s with atlas := vmod s.atlas n fun a =>
      { a with ackWait := if l then a.ackWait else a.ackWait.map (· + 1),
               train := a.train.map fun t => { t with frames := t.frames + 1 } } }

/-- SEEP_TX_FRAME_START (R12, R194, R209, R217). -/
def seepTxFrame (n : Fin 8) (s : State) : State :=
  if !seepEn s n then s
  else
    let s := seepApply n s
    let s := frameClose (wantL s n == seepTxL s n && lenOut s n) n s
    let s := s.setFld (R.SEEP_LN_STATUS n) F.SEEP_LN_STATUS_TX_MODE (b2n (wantL s n))
    let low := !lenOut s n
    let s := frameCounts n s
    let s := queueAges n low s
    if low then frameOff n s else biasClip n (frameSend n (frameContent n s))

/-! ### Receive frames (R196 to R199, R203, R204) -/

/-- A frame that is not decoded (R196, R197, R202). -/
def lostFrame (n : Fin 8) (s : State) : State := s.addSat (R.SEEP_LN_CNT1 n) F.SEEP_LN_CNT1_LOST 1

/-- The lane's receive chain is fed: from RSSI in S3 and S4, else from the ADC of IN_LANE, which is powered with its PLL locked (R200). -/
def seepFed (s : State) (n : Nat) : Bool :=
  let k := s.actFld (R.SEEP_LN_CFG n) F.SEEP_LN_CFG_IN_LANE
  deepSleep s || (s.flag (R.LINE_FE_CFG k) F.LINE_FE_CFG_ADC_EN && s.flag (R.LINE_PLL_STATUS k) F.LINE_PLL_STATUS_LOCK)

/-- The best of a sub-carrier's candidates and its margin over the second-best; of equal ones the first (R196). -/
def bestCandidate (l : List Nat) : Nat × Nat :=
  let b := l.zipIdx.foldl (fun (b : Nat × Nat) p => if b.2 < p.1 then (p.2, p.1) else b) (0, (l[0]?).getD 0)
  let second := (l.zipIdx.filter fun p => p.2 != b.1).foldl (fun m p => max m p.1) 0
  (b.1, b.2 - second)

/-- The tag that the correlators find (R196). -/
def foundTag (f : SRxFrame) : Nat :=
  if f.modeL then (bestCandidate ((f.corr[0]?).getD [])).1 % 64
  else (List.range 4).foldl (fun v q => v + (bestCandidate ((f.corr[q]?).getD [])).1 % 128 * 2 ^ (7 * q)) 0

/-- Every sub-carrier's best candidate exceeds the second-best by TAG_MARGIN (R196). -/
def tagAccepted (margin : Nat) (f : SRxFrame) : Bool :=
  (f.corr.take (if f.modeL then 1 else 4)).all fun l => decide (margin ≤ (bestCandidate l).2)

/-- SEEP_RX_FRAME (R196, R200, R202, R203): an expected frame, found or not, its tag accepted or rejected. In sync a training is looked for
within 2 outputs of the expected place, which the found one moves; out of sync anywhere. -/
def seepRxFrame (n : Fin 8) (f : SRxFrame) (s : State) : State :=
  if !seepEn s n || (deepSleep s && !f.modeL) then s
  else
    let s := { s with atlas := vmod s.atlas n fun a => { a with rx := a.rx.map fun r => { r with idle := r.idle + 1 } } }
    -- a frame that is lost takes a cell of the message that comes in with it (R204)
    let miss (s : State) := modSeep n (fun l => { l with rxTag := none, asm := none, missed := min 3 (l.missed + 1) }) s
    let sync := s.flag (R.SEEP_LN_STATUS n) F.SEEP_LN_STATUS_RX_SYNC
    if !f.found || !seepFed s n || (sync && decide (2 < f.place.natAbs)) then miss s
    else if f.unsettled || !tagAccepted (s.actFld (R.SEEP_LN_FILT1 n) F.SEEP_LN_FILT1_TAG_MARGIN) f then
      miss (lostFrame n s)
    else
      let st := R.SEEP_LN_STATUS n
      let s := s.setFld st F.SEEP_LN_STATUS_RX_SYNC 1
      let ok := decide (foundTag f % 8 ≤ 2)
      let s := if ok then s.setFld st F.SEEP_LN_STATUS_RX_MODE (b2n f.modeL) else s
      seepToA n (modSeep n (fun l =>
        { l with missed := 0, rxTag := some (f.modeL, foundTag f), loose := f.loose, gotFrame := l.gotFrame || ok }) s)

/-- SEEP_SYNC_LOSS (R203): three consecutive expected frames brought no accepted tag. -/
def seepSyncLoss (n : Fin 8) (s : State) : State :=
  if s.flag (R.SEEP_LN_STATUS n) F.SEEP_LN_STATUS_RX_SYNC ∧ 3 ≤ s.seepLn[n].missed then
    let s := s.setFld (R.SEEP_LN_STATUS n) F.SEEP_LN_STATUS_RX_SYNC 0
    let s := s.raise1 (R.SEEP_LN_STATUS n) F.SEEP_LN_STATUS_SYNC_LOSS (288 + 5 * n)
    s.addSat (R.SEEP_LN_CNT1 n) F.SEEP_LN_CNT1_SYNC_LOSSES 1
  else s

/-- A number from bits, the most significant first. -/
def bitsNat (l : List Bool) : Nat := l.foldl (fun v b => 2 * v + b2n b) 0

/-- The bytes of a cell's payload. -/
def bitsBytes (l : List Bool) : Nat → List Nat
  | 0 => []
  | k + 1 => bitsNat (l.take 8) :: bitsBytes (l.drop 8) k

/-- A message from its bytes (R205). -/
def parseMsg (b : List Nat) : Option SMsg :=
  match b with
  | b0 :: b1 :: b2 :: b3 :: t :: tid :: l1 :: l0 :: payload =>
    if payload.length = l1 * 256 + l0 then
      some { dst := b0 * 16 + b1 / 16, hops := b1 % 16, src := b2 * 16 + b3 / 16, rc := b3 % 16, mtype := t, tid := tid,
             payload := payload }
    else none
  | _ => none

/-- A complete message reaches the inbox, or is discarded when it is consumed and of no listed type, or of a link-local type with a DST
(R206, R208). -/
def deliverMsg (n : Fin 8) (late : Nat) (b : List Nat) (s : State) : State :=
  match parseMsg b with
  | none => s
  | some m =>
    if (consumed s m && !mtypeKnown m.mtype) || (mtypeLocal m.mtype && decide (m.dst ≠ 0)) then badMsg s
    else modSeep n (fun l => { l with inbox := l.inbox ++ [m], inFrames := l.inFrames ++ [some late] }) s

/-- One cell of 512 bits, or a lost one (R204). -/
def rxCell (n : Fin 8) (late : Nat) (c : Option (List Bool)) (s : State) : State :=
  let lost := modSeep n (fun l => { l with asm := none }) s
  match c with
  | none => lost
  | some bits =>
    let h := bitsNat (bits.take 16)
    let first := bitOf h 15
    let last := bitOf h 14
    let frag := h / 256 % 64
    let len := h % 256
    if crc16 (bits.take 496) ≠ bitsNat (bits.drop 496) then lost
    else if len = 0 ∧ !first ∧ !last then s
    else if len = 0 ∨ 60 < len then lost
    else
      let b := (bitsBytes (bits.drop 16) 60).take len
      let next := if first then (if frag = 0 then some (b, 1) else none) else match s.seepLn[n].asm with
        | some (a, k) => if k = frag then some (a ++ b, k + 1) else none
        | none => none
      match next with
      | none => lost
      | some (a, k) =>
        if last then deliverMsg n late a (modSeep n (fun l => { l with asm := none }) s)
        else modSeep n (fun l => { l with asm := some (a, k) }) s

/-- A codeword of a seep frame, decoded (R199): its 512 information bits, or none where it failed. -/
def seepCodeword (n : Fin 8) (llr : List Int) (s : State) : Option (List Bool) × State :=
  let it := clampNat 4 32 (s.actFld (R.SEEP_LN_FILT1 n) F.SEEP_LN_FILT1_ITER)
  let (out, _, _, s) := ldpcDecode .seep
    { lane := n, llr := llr.map (clampInt (-31) 31), cap := it, etEn := true, etMin := 1, etThresh := 0, norm := 6 } s
  if out.conv then (some (out.bits.take 512), s)
  else
    let s := s.setFld (R.SEEP_LN_STATUS n) F.SEEP_LN_STATUS_CW_FAIL 1
    (none, s.addSat (R.SEEP_LN_CNT0 n) F.SEEP_LN_CNT0_CW_FAILS 1)

/-- A codeword's LLRs with 0 for the bits of unsettled data symbols (R195, R202). -/
def settledLlr (modeL : Bool) (loose : List Nat) (llr : List Int) : List Int :=
  llr.zipIdx.map fun p => if loose.contains (if modeL then p.2 else p.2 / 4) then 0 else p.1

/-- The LLR of a bit by max-log over the labels' distances: the nearest label with the bit 1 less the nearest with 0 (R102, R203). -/
def maxLog (modeL : Bool) (w : Nat) (d : List Nat) : Int :=
  let v (i : Nat) : Nat := d.getD i 0
  if modeL then (v 1 : Int) - v 0
  else if w = 0 then (min (v 2) (v 3) : Nat) - (min (v 0) (v 1) : Nat)
  else (min (v 1) (v 3) : Nat) - (min (v 0) (v 2) : Nat)

/-- The LLRs of codeword w: coded bit b lies on sub-carrier b mod 4, in data symbol b / 4 (R195, R203). -/
def demodLlr (modeL : Bool) (w : Nat) (d : SDemod) : List Int :=
  (List.range 1024).map fun b =>
    maxLog modeL w (if modeL then (d.dist.getD 0 []).getD b [] else (d.dist.getD (b % 4) []).getD (b / 4) [])

/-- −EVM in 0.25 dB from Σ|z − g·ref|² and Σ|g·ref|²: 40 log10 of their ratio, rounded down or up as the free value says. A figure that its
field does not hold is open (R203, notes/assumptions/151.md). -/
def evmFigure (e r : Nat) (s : State) : Nat × State :=
  let k := ((List.range 256).filter fun k => decide (10 ^ k * e ^ 40 ≤ r ^ 40)).length
  if e = 0 ∨ k = 0 ∨ 256 ≤ k then s.fresh 8
  else if 10 ^ (k - 1) * e ^ 40 = r ^ 40 then (k - 1, s)
  else
    let (b, s) := s.fresh 1
    (k - 1 + b, s)

/-- The figures of the sub-carriers: over the training, and over the data symbols whose codewords converged (R203). -/
def evmFigures (modeL conv : Bool) (d : SDemod) (s : State) : List Nat × State :=
  (List.range (if modeL then 1 else 4)).foldl (fun p q =>
    let t := d.train.getD q (0, 0)
    let x := if conv then d.data.getD q (0, 0) else (0, 0)
    let (v, s) := evmFigure (t.1 + x.1) (t.2 + x.2) p.2
    (p.1 ++ [v], s)) ([], s)

/-- SEEP_FRAME_DECODED (R197, R199, R202, R203, R204, R211): the frame's codewords finish decoding. `late` transmit frames of the lane
began between the frame's end and now. -/
def seepDecoded (n : Fin 8) (d : SDemod) (late : Nat) (s : State) : State :=
  match s.seepLn[n].rxTag with
  | none => s
  | some (modeL, tag) =>
    let loose := s.seepLn[n].loose
    let s := modSeep n (fun l => { l with rxTag := none, loose := [] }) s
    let (c0, s) := seepCodeword n (settledLlr modeL loose (demodLlr modeL 0 d)) s
    let (c1, s) := if modeL then (none, s) else seepCodeword n (settledLlr modeL loose (demodLlr modeL 1 d)) s
    let s := s.addWrap (R.SEEP_LN_CNT0 n) F.SEEP_LN_CNT0_RX_FRAMES 1
    let (evm, s) := evmFigures modeL (c0.isSome && (modeL || c1.isSome)) d s
    let e (k : Nat) : Nat := evm.getD k 0
    let s := s.setReg (R.SEEP_LN_EVM n) (word (e 0 + e 1 * 0x100 + e 2 * 0x10000 + e 3 * 0x1000000))
    match tag % 8 with
    | 0 => s
    | 1 =>
      let s := rxCell n late c0 s
      if modeL then s else rxCell n late c1 s
    | 2 =>
      match modeL, c0, c1 with
      | false, some a, some b =>
        let seg : Seg := { seg := tag / 8 % 128, upd := tag / 1024 % 65536, frag := tag / 2 ^ 26 % 4, data := bitsNat (a ++ b),
                           frames := some late }
        -- bit 3 of the extension, which segment 1 carries, is FORMAT (R211)
        modSeep n (fun l => { l with segs := l.segs ++ [seg], compact := if seg.seg = 1 then bitOf seg.frag 1 else l.compact }) s
      | true, _, _ => modSeep n (fun l =>
          { l with segs := l.segs ++ [{ seg := 0, upd := 0, frag := 0, data := 0, low := true, frames := some late }] }) s
      | _, _, _ => s
    | _ => lostFrame n s

/-! ### The gateway (R216) -/

/-- RX_COUNT and RX_AVAIL follow the receive FIFO. -/
def gwFollow (s : State) : State :=
  let k := s.seep.gwRx.length
  let s := s.setFld R.SEEP_GW_CTL F.SEEP_GW_CTL_RX_COUNT k
  if k = 0 then s.setFld R.SEEP_GW_CTL F.SEEP_GW_CTL_RX_AVAIL 0 else s.raise1 R.SEEP_GW_CTL F.SEEP_GW_CTL_RX_AVAIL 329

/-- Word k of a list of bytes, the first byte most significant. -/
def byteWord (b : List Nat) (k : Nat) : Nat :=
  (List.range 4).foldl (fun v j => v * 256 + (b[4 * k + j]?).getD 0) 0

/-- The message in the transmit buffer, with SRC overwritten by SEEP_NODE; none when LEN exceeds 248. -/
def gwMessage (s : State) : Option SMsg :=
  let bytes := s.seep.gwTx.toList.flatMap fun w =>
    [w.toNat / 0x1000000, w.toNat / 0x10000 % 256, w.toNat / 256 % 256, w.toNat % 256]
  let b (k : Nat) : Nat := (bytes[k]?).getD 0
  let len := b 6 * 256 + b 7
  if 248 < len then none
  else some { dst := b 0 * 16 + b 1 / 16, hops := b 1 % 16, src := seepNode s, rc := b 3 % 16, mtype := b 4, tid := b 5,
              payload := (bytes.drop 8).take len }

/-- GATEWAY_GO (R216): the message is queued or dropped within the step, so TX_BUSY is 0 again at its end. -/
def gwGo (s : State) : State :=
  match gwMessage s with
  | none => s.raise1 R.SEEP_GW_CTL F.SEEP_GW_CTL_GW_ERR 330
  | some m =>
    let s := if [1, 2, 5, 8, 0x21].contains m.mtype
      then { s with seep := { s.seep with gwReqs := s.seep.gwReqs ++ [(replyType m.mtype, m.dst, m.tid)] } } else s
    sendMsg (lane (s.fld R.SEEP_GW_CTL F.SEEP_GW_CTL_LANE)) 3 m s

/-- The message answers a gateway request. -/
def gwMatches (m : SMsg) (q : Nat × Nat × Nat) : Bool :=
  q.1 == m.mtype && q.2.2 == m.tid && (q.2.1 == 0 || q.2.1 == m.src)

/-- GATEWAY_RX_MESSAGE (R208, R216): a reply or EVENT enters the FIFO; a reply without its request is discarded. -/
def gwReceive (n : Fin 8) (s : State) : State :=
  match takeMsg n (fun m => consumed s m && [3, 4, 6, 7, 9].contains m.mtype) s with
  | none => s
  | some (m, _, s) =>
    if m.mtype ≠ 7 ∧ !s.seep.gwReqs.any (gwMatches m) then badMsg s
    else
      let s := if m.mtype = 7 then s else { s with seep := { s.seep with gwReqs := s.seep.gwReqs.eraseP (gwMatches m) } }
      if s.seep.gwRx.length < 4 then gwFollow { s with seep := { s.seep with gwRx := s.seep.gwRx ++ [m] } }
      else s.raise1 R.SEEP_GW_CTL F.SEEP_GW_CTL_RX_OVF 331

/-- GATEWAY_POP (R216): the oldest message leaves and RXIDX is 0; ignored when the FIFO is empty. -/
def gwPop (s : State) : State :=
  match s.seep.gwRx with
  | [] => s
  | _ :: t => (gwFollow { s with seep := { s.seep with gwRx := t } }).setFld R.SEEP_GW_RXIDX F.SEEP_GW_RXIDX_IDX 0

/-- The word of the transmit buffer at TXIDX. -/
def gwTxWord (s : State) : Word :=
  s.seep.gwTx[s.fld R.SEEP_GW_TXIDX F.SEEP_GW_TXIDX_IDX % 64]'(Nat.mod_lt _ (by decide))

/-- The word of the oldest received message at RXIDX, 0 when there is none. -/
def gwRxWord (s : State) : Word :=
  match s.seep.gwRx with
  | [] => 0
  | m :: _ => word (byteWord (msgBytes m) (s.fld R.SEEP_GW_RXIDX F.SEEP_GW_RXIDX_IDX))

/-- A data access advances its index, wrapping at 64. -/
def gwTxNext (s : State) : State := s.addWrap R.SEEP_GW_TXIDX F.SEEP_GW_TXIDX_IDX 1
def gwRxNext (s : State) : State := s.addWrap R.SEEP_GW_RXIDX F.SEEP_GW_RXIDX_IDX 1

/-- A write of SEEP_GW_TXDATA. -/
def gwTxWrite (w : Word) (s : State) : State :=
  let i := s.fld R.SEEP_GW_TXIDX F.SEEP_GW_TXIDX_IDX % 64
  gwTxNext { s with seep := { s.seep with gwTx := s.seep.gwTx.set i w (Nat.mod_lt _ (by decide)) } }

/-! ### Enabling, restart and input (R202, R217) -/

/-- A change of EN on the lane (R13, R217). Requests that K2 has taken stay: their replies are dropped and counted when they are due
(R207). -/
def seepEnable (n : Fin 8) (on : Bool) (s : State) : State :=
  if on then
    let s := seepApply n s
    s.setFld (R.SEEP_LN_STATUS n) F.SEEP_LN_STATUS_TX_MODE (b2n (wantL s n))
  else
    let k := s.seepLn[n].q.length
    let s := countDrops n k (modSeep n (fun l => { l with
      q := [], cur := .none, msgRun := 0, tee := {}, gotFrame := false, missed := 0, rxTag := none, loose := [], asm := none, inbox := [],
      inFrames := [], segs := [] }) (frameClose false n s))
    let st := R.SEEP_LN_STATUS n
    let s := { s with atlas := vmod s.atlas n fun a => { a with rx := none, reject := none } }
    txqFollow n ((s.setFld st F.SEEP_LN_STATUS_RX_SYNC 0).setFld st F.SEEP_LN_STATUS_RX_MODE 0)

/-- A seep-block restart (R35, R217): the frames in progress are lost in both directions, and the cells of the one being sent are
queued again. -/
def seepRestart (s : State) : State :=
  forLanes (fun n s => if seepEn s n then modSeep n (fun l => { l with rxTag := none, asm := none }) (requeueFrame true n s) else s) s

/-- The receive input moves between the ADC and RSSI (R200, R202). -/
def seepInput (rssi : Bool) (s : State) : State :=
  forLanes (fun n s =>
    let st := R.SEEP_LN_STATUS n
    if s.flag st F.SEEP_LN_STATUS_INPUT = rssi then s
    else seepUnsettle n none (s.setFld st F.SEEP_LN_STATUS_INPUT (b2n rssi))) s

end Sys2Proof.Machine
end

