-- ==== Sys2Proof/Machine/Atlas.lean ====
section
/-!
DEFINITION. The pattern atlas, distillation, pre-distortion updates and line-side training (R119 to R147 of
spec/05_pattern_atlas.md).
-/
namespace Sys2Proof.Machine

/-- Updates what a lane of the atlas engine holds. -/
def modAtl (n : Fin 8) (g : AtlasSt → AtlasSt) (s : State) : State := { s with atlas := vmod s.atlas n g }

/-! ### Entries (R119 to R121) -/

/-- The entries of an atlas. -/
def atlasSize : Nat := 1048576

/-- The cistern address of entry `i` of lane `n` (R120). -/
def atlasAddr (n i : Nat) : Nat := 0x40000000 + n * 0x800000 + i * 8

/-- An entry from its 8 bytes (R120). -/
def entryOf (v : Nat) : AEntry :=
  { mean := signed 16 v, spread := v / 2 ^ 16 % 2 ^ 16, count := v / 2 ^ 32 % 2 ^ 32 }

/-- The 8 bytes of an entry. -/
def entryBytes (e : AEntry) : Nat := unsigned 16 e.mean + e.spread % 2 ^ 16 * 2 ^ 16 + e.count % 2 ^ 32 * 2 ^ 32

/-- The invalid marker (R121). -/
def invalidEntry : AEntry := { mean := -32768, spread := 0xFFFF, count := 0 }

/-- The entry as the cistern holds it. -/
def atlasRead (s : State) (n i : Nat) : AEntry := entryOf (s.bytesNat (atlasAddr n i) 8)

/-- Writes an entry to the cistern: a whole SECDED word, which gets correct check bits (R120, R121, R263). -/
def atlasWrite (n i : Nat) (e : AEntry) (s : State) : State := cisStore (atlasAddr n i) 8 (entryBytes e) s

/-- An entry whose read is uncorrectable is replaced by the invalid marker (R121). -/
def invalidate (n : Fin 8) (i : Nat) (s : State) : State :=
  let s := s.raise1 (R.ATL_STATUS n) F.ATL_STATUS_INVAL (224 + 8 * n + 1)
  atlasWrite n i invalidEntry (s.addSat (R.ATL_CNT2 n) F.ATL_CNT2_INVALS 1)

/-! ### Learning (R122 to R126) -/

/-- Bit n of a field of a common ATL register. -/
def atlBit (s : State) (a : Nat) (f : Fld) (n : Nat) : Bool := bitOf (s.fld a f) n

/-- The lane's atlas is being cleared. -/
def atlClearing (s : State) (n : Nat) : Bool := atlBit s R.ATL_CLEAR F.ATL_CLEAR_BUSY n

/-- The lane is frozen. -/
def atlFrozen (s : State) (n : Nat) : Bool := atlBit s R.ATL_FREEZE F.ATL_FREEZE_FREEZE n

/-- SRC = 1: the restored sample is learned. -/
def atlSrc (s : State) (n : Nat) : Bool := s.flag (R.ATL_LANE_CFG n) F.ATL_LANE_CFG_SRC

/-- The conditions of R122 but for freezing; learning pauses in every state but Active (R346). -/
def atlasOn (s : State) (n : Fin 8) : Bool :=
  atlBit s R.ATL_CTRL F.ATL_CTRL_LEARN_EN n && decide (profileEff s ≠ .spring) && rxState s n == 3 && cwLock s n &&
  !atlClearing s n && decide (pwrState s = 0)

/-- All conditions of R122 hold: what LEARNING reads. -/
def learning (s : State) (n : Fin 8) : Bool := atlasOn s n && !atlFrozen s n && !s.atlas[n].resume

/-- AVG_SHIFT as it is taken: 4 to 10 (R146). -/
def avgShift (s : State) : Nat := clampNat 4 10 (s.fld R.ATL_CFG F.ATL_CFG_AVG_SHIFT)

/-- MIN_COUNT in updates: 0 is taken as 16 (R146, R147). -/
def minCount (s : State) : Nat := 16 * max 1 (s.fld R.ATL_CFG F.ATL_CFG_MIN_COUNT)

/-- Division rounded to the nearest, half away from zero (R124). -/
def divRound (a : Int) (n : Nat) : Int :=
  if 0 ≤ a then (2 * a + n) / (2 * n) else -((2 * (-a) + n) / (2 * n))

/-- One update of an entry with a sample in 1/16 units (R124). -/
def entryUpdate (shift : Nat) (y : Int) (e : AEntry) : AEntry :=
  if e.count = 0 then { mean := y, spread := 0, count := 1 }
  else
    let c := min 0xFFFFFFFF (e.count + 1)
    let k := min c (2 ^ shift)
    let d := y - e.mean
    { mean := e.mean + divRound d k, spread := (e.spread + divRound (d.natAbs - e.spread) k).toNat, count := c }

/-- A sample as it is learned (R124). -/
def learnSample (x : Int) : Int := clampInt (-32767) 32767 (16 * x)

/-- A sample excluded from learning (R123, R142). -/
def atlExclude (n : Fin 8) (s : State) : State := s.addWrap (R.ATL_CNT1 n) F.ATL_CNT1_EXCLUDED 1

/-- The interval to the next pick: uniformly distributed from half the mean to one and a half times it, the mean being 4,096 symbols times
the divisor of the effort in force (R122, R126). -/
def pickInterval (n : Fin 8) (s : State) : Nat × State :=
  let k := 2 ^ effortShift s.atlas[n].effort
  let (v, s) := s.fresh 32
  (2048 * k + v % (4096 * k + 1), s)

/-- ATLAS_SAMPLE_PICK (R122): the sample at the place picked in the last receive frame is held until the decoder releases its context, and
the next place is drawn. Beyond the frame's end nothing is picked yet. -/
def atlasPick (n : Fin 8) (s : State) : State :=
  let p := s.atlas[n].pick
  let g := s.sig[n]
  match (if atlSrc s n then g.x else g.y)[p]? with
  | none => s
  | some v =>
    let (d, s) := pickInterval n s
    let h : Held := { frame := s.frm[n].frameNo, pos := p, y := learnSample v, erased := decide ((g.dec[p]?).join = none) }
    modAtl n (fun a => { a with pick := p + d, held := if atlasOn s n then a.held ++ [h] else a.held }) s

/-- A receive frame has come in behind one of `len` symbols: the next pick is counted from the new one's start. -/
def atlasFrame (n : Fin 8) (len : Nat) (s : State) : State := modAtl n (fun a => { a with pick := a.pick - len }) s

/-! ### The corrected context of a sample (R123) -/

/-- What is known of a received symbol: its level index, that it is none that learning takes, or that it is not released yet. -/
inductive CtxSym where
  | known (a : Nat)
  | excluded
  | waiting
  deriving DecidableEq, Repr

/-- A symbol whose two bits are bits b and b + 1 of codeword `idx` of a frame, or of two codewords; `flip` is what the scrambler adds. -/
def cwSym (s : State) (n : Fin 8) (frame : Nat) (hi lo : Nat × Nat) (flip : Bool × Bool) : CtxSym :=
  let find (i : Nat) : Option CwDone := s.frm[n].outs.find? fun c => c.frame == frame && c.idx == i
  match find hi.1, find lo.1 with
  | some h, some l =>
    if h.out.conv && l.out.conv then
      .known (grayLevel (xor ((h.out.bits[hi.2]?).getD false) flip.1, xor ((l.out.bits[lo.2]?).getD false) flip.2))
    else .excluded
  | _, _ => if frame + 2 ≤ s.frm[n].frameNo then .excluded else .waiting

/-- The corrected decision at a place of a receive frame (R123): a pilot, a symbol of an inner codeword, or one that excludes a sample. -/
def ctxSym (s : State) (n : Fin 8) (scr : Array Bool) (frame p : Nat) : CtxSym :=
  match profileEff s with
  | .deep =>
    if p < 128 then .excluded
    else match pilotAt p with
      | some a => .known a
      | none =>
        let l := (spreadLanes s n).length
        let j := n.val - (spreadLead s n).val
        let x := (p - 128) / 4104 * 8192 + 2 * ((p - 128) % 4104 - 8)
        let at' (x : Nat) : Nat × Nat := (x / (1024 / l), l * (x % (1024 / l)) + j)
        cwSym s n frame (at' x) (at' (x + 1)) (scr.getD x false, scr.getD (x + 1) false)
  | .standard => match Config.stdBitAt (2 * p), Config.stdBitAt (2 * p + 1) with
    | some a, some b => cwSym s n frame a b (false, false)
    | _, _ => .excluded
  | .spring => .excluded

/-- The symbols of a held sample's context, a_k, a_k−1 to a_k−5, then a_k+1 to a_k+4 (R119). -/
def ctxSyms (s : State) (n : Fin 8) (h : Held) : List CtxSym :=
  let len := s.sig[n].y.length
  let scr := if profileEff s = .deep then (scramble (farLane s n)).toArray else #[]
  let at' (d : Int) : CtxSym :=
    let p : Int := h.pos + d
    if p < 0 then ctxSym s n scr (h.frame - 1) (p + len).toNat
    else if (len : Int) ≤ p then (if s.frm[n].frameNo = h.frame then .waiting else ctxSym s n scr (h.frame + 1) (p - len).toNat)
    else ctxSym s n scr h.frame p.toNat
  [at' 0, at' (-1), at' (-2), at' (-3), at' (-4), at' (-5), at' 1, at' 2, at' 3, at' 4]

/-- The index of the entry of a context whose symbols are all known (R119). -/
def ctxEntry : List CtxSym → Option Nat
  | [] => some 0
  | c :: t => match c, ctxEntry t with
    | .known a, some i => some (a * 4 ^ t.length + i)
    | _, _ => none

/-- An update applied in the cache, whose entry becomes the most recently used. -/
def cacheHit (n : Fin 8) (i : Nat) (y : Int) (s : State) : State :=
  let sh := avgShift s
  let s := s.addWrap (R.ATL_CNT0 n) F.ATL_CNT0_UPDATES 1
  let c := s.atlas[n].cache
  let hit := (c.filter fun c => c.idx == i).map fun c => { c with e := entryUpdate sh y c.e, dirty := true }
  modAtl n (fun a => { a with cache := hit ++ c.filter (fun c => c.idx != i) }) s

/-- Makes room in the set of entry `i`: with four ways in use, by entries or by misses that are outstanding, the least recently used
entry is evicted, and written back if it has changed (R125). -/
def cacheEvict (n : Fin 8) (i : Nat) (s : State) : State :=
  let set := s.atlas[n].cache.filter fun c => c.idx % 1024 == i % 1024
  let out := s.atlas[n].misses.filter fun m => m.idx % 1024 == i % 1024 && m.idx != i
  if set.length + out.length < 4 then s
  else match set.getLast? with
    | none => s
    | some c =>
      let s := if c.dirty then atlasWrite n c.idx c.e s else s
      modAtl n (fun a => { a with cache := a.cache.filter fun x => x.idx != c.idx }) s

/-- An update whose context was released: it hits the cache, waits in a miss slot, starts a miss, or is dropped (R125). -/
def atlasApply (n : Fin 8) (i : Nat) (y : Int) (s : State) : State :=
  let a := s.atlas[n]
  if a.cache.any (fun c => c.idx == i) then cacheHit n i y s
  else if a.misses.any (fun m => m.idx == i) then
    modAtl n (fun a => { a with misses := a.misses.map fun m => if m.idx = i then { m with waiting := m.waiting ++ [y] } else m }) s
  else if 16 ≤ a.misses.length then s.addSat (R.ATL_CNT1 n) F.ATL_CNT1_DROPPED 1
  else modAtl n (fun a => { a with misses := a.misses ++ [{ idx := i, waiting := [y] }] }) (cacheEvict n i s)

/-- ATLAS_UPDATE (R123, R124): the oldest held sample updates its entry when the decoder has released the corrected decisions of its whole
context, or is excluded; until then it is held. Between the end of a freeze or a restart of the engine and the next epoch boundary it is
excluded, and counted as such (R142, R145, notes/assumptions/144.md). -/
def atlasUpdate (n : Fin 8) (s : State) : State :=
  match s.atlas[n].held with
  | [] => s
  | h :: rest =>
    let drop (s : State) : State := modAtl n (fun a => { a with held := rest }) s
    let ctx := ctxSyms s n h
    if h.erased || ctx.contains .excluded || atlFrozen s n || s.atlas[n].resume then atlExclude n (drop s)
    else match ctxEntry ctx with
      | none => s
      | some i => if atlasOn s n then atlasApply n i h.y (drop s) else drop s

/-- The atlas engine reads an entry's word from the cistern: an uncorrectable one is invalidated, a poisoned one too (R121, R259, R260). -/
def entryFetch (n : Fin 8) (i : Nat) (f : CisFault) (s : State) : State :=
  let (bad, s) := fetchWord (atlasAddr n i / 8) 5 f s
  if bad then invalidate n i s else s

/-- The cistern's interface retrains, and the engine's requests wait (R36); after a failed training there is nothing to wait for (R258). -/
def atlasStalls (s : State) : Bool := reacting s .cistern && !cisFlag s F.CIS_STATUS_UNAVAILABLE

/-- ATLAS_MISS_FILL (R121, R125): the read of a missed entry returns, and its waiting updates are applied in order. While the cistern
retrains, the read stalls (R36). -/
def atlasFill (n : Fin 8) (i : Nat) (f : CisFault) (s : State) : State :=
  if atlasStalls s || cisFlag s F.CIS_STATUS_UNAVAILABLE then s
  else match s.atlas[n].misses.find? (fun m => m.idx == i) with
  | none => s
  | some m =>
    let s := entryFetch n i f s
    let e := m.waiting.foldl (fun e y => entryUpdate (avgShift s) y e) (atlasRead s n i)
    let s := (cacheEvict n i s).addWrap (R.ATL_CNT0 n) F.ATL_CNT0_UPDATES m.waiting.length
    modAtl n (fun a => { a with misses := a.misses.filter (fun m => m.idx != i),
                                cache := { idx := i, e := e, dirty := true } :: a.cache }) s

/-- The changed entries of the cache are written back. -/
def cacheWriteBack (n : Fin 8) (s : State) : State :=
  let s := s.atlas[n].cache.foldl (fun s c => if c.dirty then atlasWrite n c.idx c.e s else s) s
  modAtl n (fun a => { a with cache := a.cache.map fun c => { c with dirty := false } }) s

/-- The entry as a coherent reader sees it: from the cache if present, else from the cistern (R127, R143). -/
def atlasEntry (s : State) (n : Fin 8) (i : Nat) : AEntry :=
  match s.atlas[n].cache.find? (fun c => c.idx == i) with
  | some c => c.e
  | none => atlasRead s n i

/-! ### Clearing, freezing and reading (R142 to R145) -/

/-- Restarts the settle count; the result of a run in progress, whose period began before, is not sent (R134). -/
def settleRestart (n : Fin 8) (s : State) : State :=
  modAtl n (fun a => { a with settle := some 0, whole := false, run := a.run.map fun r => { r with canSend := false } }) s

/-- A clear of the lane begins (R145); no further effect while one runs. -/
def atlasClear (n : Fin 8) (s : State) : State :=
  if atlClearing s n then s
  else
    let s := s.setFld R.ATL_CLEAR F.ATL_CLEAR_BUSY (Nat.lor (s.fld R.ATL_CLEAR F.ATL_CLEAR_BUSY) (2 ^ n.val))
    let s := s.setFld (R.ATL_STATUS n) F.ATL_STATUS_CLEAR_BUSY 1
    let s := if s.atlas[n].run.isSome then s.setFld (R.ATL_STATUS n) F.ATL_STATUS_DIST_ABORT 1 else s
    modAtl n (fun a => { a with cache := [], misses := [], held := [], run := none }) s

/-- The clear of the lanes that a write of ATL_CLEAR names (R145). -/
def atlasClearLanes (lanes : Nat) (s : State) : State :=
  forLanes (fun n s => if bitOf lanes n then atlasClear n s else s) s

/-- ATLAS_CLEAR_DONE: every entry is empty. -/
def atlasClearDone (n : Fin 8) (s : State) : State :=
  if !atlClearing s n then s
  else
    let s := wordsWritten (atlasAddr n 0) (atlasAddr n 0 + 0x7FFFFF) (s.clearBytes (atlasAddr n 0) (atlasAddr n 0 + 0x7FFFFF))
    let s := s.clrBits R.ATL_CLEAR F.ATL_CLEAR_BUSY (2 ^ n.val)
    settleRestart n (s.setFld (R.ATL_STATUS n) F.ATL_STATUS_CLEAR_BUSY 0)

/-- A change of FREEZE[n] (R142). -/
def atlasFreeze (n : Fin 8) (on : Bool) (s : State) : State :=
  if on then s
  else modAtl n (fun a => { a with resume := true }) (s.setFld (R.ATL_STATUS n) F.ATL_STATUS_FROZEN 0)

/-- ATLAS_FROZEN (R142): the frozen lane's cache is written back, once the updates that wait for a read have been applied. -/
def atlasFrozen (n : Fin 8) (s : State) : State :=
  if atlFrozen s n && s.atlas[n].misses.isEmpty then (cacheWriteBack n s).setFld (R.ATL_STATUS n) F.ATL_STATUS_FROZEN 1 else s

/-- A write of ATL_RD_INDEX starts a coherent read (R143). -/
def atlasReadStart (n : Fin 8) (s : State) : State :=
  let i := s.fld (R.ATL_RD_INDEX n) F.ATL_RD_INDEX_INDEX
  modAtl n (fun a => { a with rd := some i }) (s.setFld (R.ATL_RD_INDEX n) F.ATL_RD_INDEX_BUSY 1)

/-- ATLAS_READ_DONE (R143): an uncorrectable entry is invalidated, and the marker is shown. While the cistern retrains, the read
stalls (R36); after a failed training it returns TIMEOUT, and what the data registers then show is open (R258). -/
def atlasReadDone (n : Fin 8) (f : CisFault) (s : State) : State :=
  if atlasStalls s then s
  else match s.atlas[n].rd with
  | none => s
  | some i =>
    let cached := s.atlas[n].cache.any fun c => c.idx == i
    let gone := !cached && cisFlag s F.CIS_STATUS_UNAVAILABLE
    let s := if cached || gone then s else entryFetch n i f s
    let (v, s) := if gone then s.fresh 64 else (entryBytes (atlasEntry s n i), s)
    let s := (s.setReg (R.ATL_RD_DATA0 n) (word v)).setReg (R.ATL_RD_DATA1 n) (word (v / 2 ^ 32))
    modAtl n (fun a => { a with rd := none }) (s.setFld (R.ATL_RD_INDEX n) F.ATL_RD_INDEX_BUSY 0)

/-! ### The detection table (R98, R99, R101, R147) -/

/-- The nominal entry of detection index d (R99). -/
def nominalEntry (h1 h2 d : Nat) : Nat :=
  0x8000 + unsigned 12 (targetOf h1 h2 (d / 1024 % 4) (d / 256 % 4) (d / 64 % 4))

/-- The detection entry in force (R101, R147). -/
def detEntry (s : State) (n : Fin 8) (d : Nat) : Nat :=
  match s.flag (R.WELL_RX_STATUS n) F.WELL_RX_STATUS_DET_ACTIVE, s.atlas[n].det with
  | true, some t => (t[d]?).getD 0
  | _, _ => nominalEntry (targetH s n 10) (targetH s n 11) d

/-- DET_ACTIVE follows DET_USE in force and the installed table; DET_USE has no effect in Spring (R101, R116). -/
def detFollow (n : Fin 8) (s : State) : State :=
  let on := s.atlas[n].det.isSome && param s n 8 == 1 && decide (profileEff s ≠ .spring)
  s.setFld (R.WELL_RX_STATUS n) F.WELL_RX_STATUS_DET_ACTIVE (b2n on)

/-- A read of ATL_DET_DATA: the entry, and the index advances (R147). -/
def detRead (s : State) (n : Fin 8) : Nat := detEntry s n (s.fld (R.ATL_DET_INDEX n) F.ATL_DET_INDEX_INDEX)
def detNext (n : Fin 8) (s : State) : State := s.addWrap (R.ATL_DET_INDEX n) F.ATL_DET_INDEX_INDEX 1

/-! ### Distillation (R127 to R130) -/

/-- The periods between runs under an effort (R127). -/
def distEvery (e : Nat) : Nat := if e ≥ 100 then 1 else if e ≥ 50 then 2 else 4

/-- A run starts with the period on the lane (R127): `idx` is the period's index. None starts while the lane's atlas is being cleared, which
would abort it: R127 does not say (notes/assumptions/89.md). -/
def distStart (n : Fin 8) (idx : Nat) (s : State) : State :=
  let e := s.fld R.THM_STATUS F.THM_STATUS_EFFORT
  let go := atlBit s R.ATL_CTRL F.ATL_CTRL_DIST_EN n && !atlSrc s n && decide (profileEff s ≠ .spring) &&
    !atlClearing s n && idx % distEvery e == 0 && dataOn s
  let a := s.atlas[n]
  let ps := max 1 (s.fld (R.ATL_PD_CFG n) F.ATL_PD_CFG_PD_SETTLE)
  let can := match a.settle with | some k => decide (ps ≤ k) | none => false
  let r : DistRun := { h1 := targetH s n 10, h2 := targetH s n 11, canSend := can }
  modAtl n (fun a => { a with run := if go then some r else none, whole := true }) s

/-- The entries streamed in epoch k of a period: the first, and how many (R127). -/
def streamRange (k : Nat) : Nat × Nat :=
  if k ≤ 1003 then (1028 * k, 1028) else if k ≤ 1019 then (1028 * 1004 + 1029 * (k - 1004), 1029) else (0, 0)

/-- The entries of a range that are neither empty nor absent, in index order, as the stream delivers them. -/
def streamEntries (s : State) (n : Fin 8) (lo cnt : Nat) : List (Nat × AEntry) :=
  let a0 := atlasAddr n lo
  let here := s.mem.filter fun c => decide (a0 ≤ c.1 ∧ c.1 < a0 + 8 * cnt)
  let inMem (i : Nat) : Bool := here.any fun c => c.1 / 8 == atlasAddr n i / 8
  let cached (i : Nat) : Bool := s.atlas[n].cache.any fun c => c.idx == i
  if here.isEmpty && s.atlas[n].cache.isEmpty then []
  else ((List.range cnt).map (· + lo)).filterMap fun i =>
    if inMem i || cached i then
      let e := atlasEntry s n i
      if e.count = 0 then none else some (i, e)
    else none

/-- The stream of the epoch that ended: entries whose read is uncorrectable are invalidated (R121, R127). `found` lists what the reads of
entries find. -/
def distStream (n : Fin 8) (k : Nat) (found : List (Nat × CisFault)) (s : State) : State :=
  match s.atlas[n].run with
  | none => s
  | some r =>
    let (lo, cnt) := streamRange k
    let w0 := atlasAddr n 0 / 8
    let met := if cnt = 0 then [] else metWords (w0 + lo) (w0 + lo + cnt - 1) (found.map fun p => (w0 + p.1, p.2)) s
    let s := met.foldl (fun s w =>
      let i := w - w0
      if s.atlas[n].cache.any (fun c => c.idx == i) then s else entryFetch n i ((found.lookup i).getD .none) s) s
    modAtl n (fun a => { a with run := some { r with stream := r.stream ++ streamEntries s n lo cnt } }) s

/-- A rational rounded to the nearest integer; exactly half way, the free value says which way: the spec names none. -/
def roundQ (num : Int) (den : Nat) (s : State) : Int × State :=
  if den = 0 then (0, s)
  else
    let q := (2 * num + den) / (2 * den)
    if (2 * num + den) % (2 * den) = 0 then
      let (b, s) := s.fresh 1
      (q - b, s)
    else (q, s)

/-- The pooled figures of a group of entries: W, Σ w·MEAN and Σ w·(SPREAD + |MEAN − M|)·W, the last scaled by W so that it
is exact (R128). -/
def pooled (cap : Nat) (l : List AEntry) : Nat × Int × Nat :=
  let wt (e : AEntry) := min e.count cap
  let w := (l.map wt).sum
  let m := (l.map fun e => (wt e : Int) * e.mean).sum
  let sp := (l.map fun e => wt e * (e.spread * w + ((w : Int) * e.mean - m).natAbs)).sum
  (w, m, sp)

/-- S as a fraction over W², compared with another. -/
def spreadLt (a b : Nat × Nat) : Bool := decide (a.1 * (b.2 * b.2) < b.1 * (a.2 * a.2))

/-- WCLASS: 4·log2(S / S_REF), rounded, 0 to 7 (R128). A ratio of 0 to 0 gives an open value. -/
def wclass (x ref : Nat × Nat) (s : State) : Nat × State :=
  let a := x.1 * (ref.2 * ref.2)
  let b := ref.1 * (x.2 * x.2)
  if a = 0 ∧ b = 0 then s.fresh 3
  else (((List.range 7).filter fun i => decide (2 ^ (2 * i + 1) * b ^ 8 ≤ a ^ 8)).length, s)

/-- The detection table of a stream, the number of thin entries, and S_REF (R128). With every entry thin there is no smallest spread, and
S_REF is open (notes/assumptions/90.md). -/
def distDetect (cap minc h1 h2 : Nat) (st : List (Nat × AEntry)) (s : State) : Option (List Nat) × Nat × Nat × State :=
  let groups := (List.range 4096).map fun d => pooled cap ((st.filter fun p => p.1 / 256 == d).map (·.2))
  let thick := groups.filter fun g => decide (16 * minc ≤ g.1)
  let ref : Option (Nat × Nat) := thick.foldl (fun b g => match b with
    | none => some (g.2.2, g.1)
    | some r => if spreadLt (g.2.2, g.1) r then some (g.2.2, g.1) else some r) none
  match ref with
  | none => let (v, s) := s.fresh 16; (none, 4096, v, s)
  | some r =>
    let (tab, s) := groups.zipIdx.foldl (fun (p : List Nat × State) g =>
      let (w, m, sp) := g.1
      if w < 16 * minc then (p.1 ++ [nominalEntry h1 h2 g.2], p.2)
      else
        let (mean, s) := roundQ m (16 * w) p.2
        let (wc, s) := wclass (sp, w) r s
        (p.1 ++ [0x8000 + wc * 0x1000 + unsigned 12 (clampInt (-2048) 2047 mean)], s)) ([], s)
    let (sr, s) := roundQ r.1 (r.2 * r.2) s
    (some tab, 4096 - thick.length, min 0xFFFF sr.toNat, s)

/-- The pre-distortion context of an atlas index (R129). -/
def pdContext (i : Nat) : Nat :=
  (i / 64 % 4) * 256 + (i / 4 ^ 9 % 4) * 64 + (i / 4 ^ 8 % 4) * 16 + (i / 4 ^ 7 % 4) * 4 + i / 4 ^ 6 % 4

/-- PD_GAIN and PD_STEP_MAX as they are taken (R135, R147). -/
def pdGain (s : State) (n : Nat) : Nat := clampNat 1 10 (s.fld (R.ATL_PD_CFG n) F.ATL_PD_CFG_PD_GAIN)
def pdStep (s : State) (n : Nat) : Nat := max 1 (s.fld (R.ATL_PD_CFG n) F.ATL_PD_CFG_PD_STEP_MAX)

/-- One record of the corrections (R129): Δ, r, the pooled spread and W of a context. With W = 0 the means r and S are open; a value beyond
its field is brought to the field's limit (notes/assumptions/90.md). -/
def distRecord (cap minc gain step h1 h2 : Nat) (p : Nat) (l : List AEntry) (s : State) : PdRec × Nat × State :=
  let (w, m, sp) := pooled cap l
  let t := 16 * targetOf h1 h2 (p / 64 % 4) (p / 16 % 4) (p / 4 % 4)
  let num := m - t * w
  if w = 0 then
    let (r, s) := s.fresh 16
    let (sd, s) := s.fresh 16
    ({ delta := 0, r := signed 16 r, spread := sd, w := 0 }, 0, s)
  else
    let (d, s) := roundQ (gain * num) (64 * w) s
    let (r, s) := roundQ num w s
    let (sd, s) := roundQ sp (w * w) s
    let thin := decide (w < 64 * minc)
    let delta := if thin then 0 else -(clampInt (-(step : Int)) step d)
    ({ delta := delta, r := clampInt (-32768) 32767 r, spread := min 0xFFFF sd.toNat, w := min 0xFFFFFFFF w },
      if thin then 0 else w, s)

/-- RESID_RMS: the rms of r over the contexts that are not thin (R129), rounded down or up as the free value says, and open when every
context is thin (notes/assumptions/90.md). -/
def residRms (l : List (Int × Nat)) (s : State) : Nat × State :=
  -- each (Σ w r, W); the mean of squares as a sum of fractions over a common denominator
  let ok := l.filter fun p => decide (0 < p.2)
  if ok.isEmpty then s.fresh 16
  else
    let q := ok.foldl (fun (b : Nat × Nat) p => (b.1 * (p.2 * p.2) + p.1.natAbs * p.1.natAbs * b.2, b.2 * (p.2 * p.2))) (0, 1)
    let x := q.1 / (q.2 * ok.length)
    let r := isqrt x 17 0
    if r * r * (q.2 * ok.length) = q.1 then (min 0xFFFF r, s)
    else
      let (b, s) := s.fresh 1
      (min 0xFFFF (r + b), s)

/-- The records of all contexts and RESID_RMS. -/
def distCorrect (cap minc gain step h1 h2 : Nat) (st : List (Nat × AEntry)) (s : State) : List PdRec × Nat × State :=
  let out := (List.range 1024).foldl (fun (b : List PdRec × List (Int × Nat) × State) p =>
    let l := (st.filter fun x => pdContext x.1 == p).map (·.2)
    let (w, m, _) := pooled cap l
    let t := 16 * targetOf h1 h2 (p / 64 % 4) (p / 16 % 4) (p / 4 % 4)
    let (rec, wt, s) := distRecord cap minc gain step h1 h2 p l b.2.2
    (b.1 ++ [rec], b.2.1 ++ [(m - t * w, wt)], s)) ([], [], s)
  let (rms, s) := residRms out.2.1 out.2.2
  (out.1, rms, s)

/-- DISTIL_DONE (R128, R129): pz_distil completes its sums on the entries streamed in the period. -/
def distilDone (n : Fin 8) (s : State) : State :=
  match s.atlas[n].run with
  | none => s
  | some r =>
    let k := s.line[n].rxEpochs % 1024
    if k < 1020 ∨ 1023 ≤ k ∨ r.result.isSome then s
    else
      let cap := 2 ^ avgShift s
      let (det, thin, sref, s) := distDetect cap (minCount s) r.h1 r.h2 r.stream s
      let (recs, rms, s) := distCorrect cap (minCount s) (pdGain s n) (pdStep s n) r.h1 r.h2 r.stream s
      let s := if det.isSome then detSlotsFill n det s else s
      modAtl n (fun a => { a with run := some { r with
        result := some { det := det, thin := thin, sRef := sref, recs := recs, resid := rms } } }) s

/-- A late run drops its sums, sets DIST_LATE and is counted (R127). -/
def distDrop (n : Fin 8) (s : State) : State :=
  let s := s.raise1 (R.ATL_STATUS n) F.ATL_STATUS_DIST_LATE (224 + 8 * n)
  let s := s.addSat (R.ATL_CNT2 n) F.ATL_CNT2_DIST_LATES 1
  leaderReport n 6 10 (modAtl n (fun a => { a with run := none }) s)

/-- A run whose phase 2 is not complete at the start of epoch 1,023 is late (R127). -/
def distLate (n : Fin 8) (s : State) : State :=
  match s.atlas[n].run with
  | some r => if r.result.isSome then s else distDrop n s
  | none => s

/-! ### Pre-distortion updates sent (R131, R132, R134) -/

/-- The record bits of an update, in order of P, the first most significant (R131, R211). -/
def recStream (full : Bool) (l : List PdRec) : Nat :=
  l.foldl (fun v r =>
    if full then v * 2 ^ 80 + unsigned 16 r.delta * 2 ^ 64 + unsigned 16 r.r * 2 ^ 48 + r.spread % 2 ^ 16 * 2 ^ 32 + r.w % 2 ^ 32
    else v * 2 ^ 16 + unsigned 16 r.delta) 0

/-- PD_UPDATE_SEND (R131, R132): the corrections of a completed run are queued for transport. -/
def pdSend (n : Fin 8) (recs : List PdRec) (s : State) : State :=
  let full := !s.flag (R.ATL_PD_CFG n) F.ATL_PD_CFG_PD_FORMAT
  let u := s.atlas[n].updNext
  let ext := fomNow s n * 0x100 + pdGain s n * 0x10 + (if full then 0 else 8) + farLane s n % 8
  let t : PdTx := { upd := u, ext := ext, segs := if full then 80 else 16, stream := recStream full recs }
  modAtl n (fun a => { a with tx := some t, settle := none, updNext := if u = 65535 then 1 else u + 1 }) s

/-- PD_TX_LATE (R132): PD_TX_PERIODS periods have passed before the last record was sent. -/
def pdTxAge (n : Fin 8) (s : State) : State :=
  match s.atlas[n].tx with
  | none => s
  | some t =>
    let k := t.periods + 1
    if max 1 (s.fld (R.ATL_PD_CFG n) F.ATL_PD_CFG_PD_TX_PERIODS) ≤ k then
      let s := s.raise1 (R.ATL_STATUS n) F.ATL_STATUS_PD_TX_LATE (224 + 8 * n + 2)
      let s := s.addSat (R.ATL_CNT2 n) F.ATL_CNT2_PD_TX_LATES 1
      settleRestart n (modAtl n (fun a => { a with tx := none }) s)
    else modAtl n (fun a => { a with tx := some { t with periods := k } }) s

/-- The conditions of R132 and R141 for sending. -/
def pdMaySend (s : State) (n : Fin 8) : Bool :=
  s.flag (R.ATL_LANE_CFG n) F.ATL_LANE_CFG_PD_SEND_EN && seepEn s n && !seepTxL s n && s.atlas[n].tx.isNone &&
  s.atlas[n].train.isNone

/-- DISTILLATION_BOUNDARY (R130, R132, R134): a completed run is installed and published, an update ages or is sent, the
settle periods are counted, and the next run starts. -/
def distBoundary (n : Fin 8) (s : State) : State :=
  let s := pdTxAge n s
  let run := s.atlas[n].run
  let s := match run with
    | some { result := some r, canSend := can, .. } =>
      let s := match r.det with
        | some t => modAtl n (fun a => { a with det := some t }) s
        | none => s
      let s := (s.setFld (R.ATL_DIST n) F.ATL_DIST_THIN r.thin).setFld (R.ATL_DIST n) F.ATL_DIST_S_REF r.sRef
      let s := s.setFld (R.ATL_PD_QUAL n) F.ATL_PD_QUAL_RESID_RMS r.resid
      let s := detFollow n (s.setFld (R.ATL_STATUS n) F.ATL_STATUS_DIST_DONE 1)
      if can && pdMaySend s n && s.atlas[n].settle.isSome then pdSend n r.recs s else s
    | _ => s
  let s := modAtl n (fun a => { a with settle := if a.whole then a.settle.map (· + 1) else a.settle }) s
  distStart n (s.line[n].rxEpochs / 1024) s

/-- PD_ACK_RECEIVE (R134, R208): a PD_ACK of any status restarts the settle count; one with no update to answer is
discarded. -/
def pdAckReceive (n : Fin 8) (s : State) : State :=
  match takeMsg n (fun m => m.mtype == 0x20) s with
  | none => s
  | some (m, _, s) =>
    let upd := (m.payload[0]?).getD 0 * 256 + (m.payload[1]?).getD 0
    let cur := match s.atlas[n].tx with
      | some t => t.upd
      | none => s.fld (R.ATL_PD_STATE n) F.ATL_PD_STATE_TX_UPD
    if (s.atlas[n].ackWait.isSome || s.atlas[n].tx.isSome) && (m.payload.isEmpty || upd == cur) then
      settleRestart n (modAtl n (fun a => { a with ackWait := none }) (s.setFld (R.ATL_STATUS n) F.ATL_STATUS_PD_ACKED 1))
    else badMsg s

/-- PD_NOACK_TIMEOUT (R134): 16 Seep-A frames after the last record without a PD_ACK. -/
def pdNoAck (n : Fin 8) (s : State) : State :=
  match s.atlas[n].ackWait with
  | some k =>
    if 16 ≤ k then
      settleRestart n (modAtl n (fun a => { a with ackWait := none }) (s.raise1 (R.ATL_STATUS n) F.ATL_STATUS_PD_NOACK (224 + 8 * n + 3)))
    else s
  | none => s

/-! ### Pre-distortion tables and updates received (R133, R136, R138) -/

/-- Adds a correction to a context (R133). -/
def pdAdd (l : List (Nat × Nat)) (p : Nat) (d : Int) : List (Nat × Nat) :=
  sput 0x8000 p (0x8000 + unsigned 12 (clampInt (-256) 256 (signed 12 (pdWord l p) + d))) l

/-- A PD_ACK is prepared as the reply to an update received on a lane, `frames` transmit frames after the segment that led to it (R133,
R210). -/
def pdAck (n : Fin 8) (upd status far : Nat) (frames : Option Nat) (s : State) : State :=
  addReq n pdRequest frames 0 [upd / 256, upd % 256, status, far] s

/-- An update received on the lane is discarded, with the reply DISCARDED (R133). R133 does not say whose PD_DISCARD is set: DESIGN CHOICE,
that of the lane which received it, and that of the target lane where an update is refused (notes/assumptions/142.md). -/
def pdDiscard (n : Fin 8) (upd far : Nat) (ignore : Bool) (frames : Option Nat) (s : State) : State :=
  let s := s.raise1 (R.ATL_STATUS n) F.ATL_STATUS_PD_DISCARD (224 + 8 * n + 5)
  pdAck n upd 2 far frames (modAtl n (fun a => { a with rx := none, reject := if ignore then some upd else none }) s)

/-- The fields of a stored record bit stream. -/
def recDelta (full : Bool) (stream p : Nat) : Int :=
  if full then signed 16 (stream / 2 ^ (80 * (1023 - p) + 64)) else signed 16 (stream / 2 ^ (16 * (1023 - p)))
def recField (stream p lo w : Nat) : Nat := stream / 2 ^ (80 * (1023 - p) + lo) % 2 ^ w

/-- The contents of a FULL update are kept for views 2 to 5 (R147). -/
def pdKeepViews (k : Fin 8) (stream : Nat) (s : State) : State :=
  let tab (lo w : Nat) : List (Nat × Nat) :=
    (List.range 1024).filterMap fun p => let v := recField stream p lo w; if v = 0 then none else some (p, v)
  modAtl k (fun a => { a with farR := tab 48 16, farSpread := tab 32 16, farW := tab 0 32 }) s

/-- A complete update is applied, answered DUPLICATE, or refused (R133). -/
def pdComplete (n : Fin 8) (r : PdRx) (frames : Option Nat) (s : State) : State :=
  let s := modAtl n (fun a => { a with rx := none }) s
  let k := lane (r.ext % 8)
  let full := !bitOf r.ext 3
  let s := s.setFld (R.ATL_PD_QUAL k) F.ATL_PD_QUAL_FAR_FOM (r.ext / 256)
  let s := if full then pdKeepViews k r.stream s else s
  if s.flag (R.ATL_LANE_CFG k) F.ATL_LANE_CFG_PD_SRC ∨ deepSleep s then
    pdAck n r.upd 3 k frames (s.raise1 (R.ATL_STATUS k) F.ATL_STATUS_PD_DISCARD (224 + 8 * k + 5))
  else if r.upd = s.fld (R.ATL_PD_STATE k) F.ATL_PD_STATE_RX_UPD then pdAck n r.upd 1 k frames s
  else
    let pend := (List.range 1024).foldl (fun l p => pdAdd l p (recDelta full r.stream p)) s.atlas[k].pdPend
    let s := pdSlotsFill k pend (modAtl k (fun a => { a with pdDue := true, pdPend := pend }) s)
    let s := s.setFld (R.ATL_PD_STATE k) F.ATL_PD_STATE_RX_UPD r.upd
    pdAck n r.upd 0 k frames (s.raise1 (R.ATL_STATUS k) F.ATL_STATUS_PD_APPLIED (224 + 8 * k + 4))

/-- One segment in order (R211). -/
def pdSegment (n : Fin 8) (g : Seg) (r : PdRx) (s : State) : State :=
  let ext := if g.seg ≤ 7 then r.ext + g.frag * 4 ^ g.seg else r.ext
  let r := { r with ext := ext, next := g.seg + 1, stream := r.stream * 2 ^ 1024 + g.data, idle := 0 }
  let total := if bitOf r.ext 3 then 16 else 80
  if 8 ≤ r.next ∧ total ≤ r.next then pdComplete n r g.frames s else modAtl n (fun a => { a with rx := some r }) s

/-- An update that arrives in Seep-L is refused (R141). Its frame names neither its number nor its lane: both are open in the reply, and the
lane that received it shows PD_DISCARD (notes/assumptions/92.md). -/
def pdRefuseL (n : Fin 8) (frames : Option Nat) (s : State) : State :=
  let (u, s) := s.fresh 16
  let (k, s) := s.fresh 8
  pdAck n u 3 k frames (s.raise1 (R.ATL_STATUS n) F.ATL_STATUS_PD_DISCARD (224 + 8 * n + 5))

/-- PD_BULK_SEGMENT_RECEIVE (R133, R141, R211): the oldest received segment reaches K2. -/
def pdBulkReceive (n : Fin 8) (s : State) : State :=
  match s.seepLn[n].segs with
  | [] => s
  | g :: rest =>
    let s := modSeep n (fun l => { l with segs := rest }) s
    let start (s : State) : State :=
      if g.seg = 0 then pdSegment n g ({ upd := g.upd } : PdRx) (modAtl n (fun a => { a with reject := none }) s)
      else if s.atlas[n].reject = some g.upd then s
      else pdDiscard n g.upd 0 true g.frames s
    if g.low then pdRefuseL n g.frames s
    else match s.atlas[n].rx with
    | none => start s
    | some r =>
      if g.upd ≠ r.upd then
        let s := pdDiscard n r.upd (r.ext % 8) true g.frames s
        if g.seg = 0 then start s else modAtl n (fun a => { a with reject := some g.upd }) s
      else if g.seg ≠ r.next then pdDiscard n r.upd (r.ext % 8) true g.frames s
      else pdSegment n g r s

/-- PD_UPDATE_STALL (R133): 8 seep frames passed with no record of the update in progress. -/
def pdStall (n : Fin 8) (s : State) : State :=
  match s.atlas[n].rx with
  | some r => if 8 ≤ r.idle then pdDiscard n r.upd (r.ext % 8) true (some 0) s else s
  | none => s

/-- PD_TABLE_APPLY (R133): the pending table comes into force in all transmit pumps. -/
def pdTableApply (n : Fin 8) (s : State) : State :=
  if s.atlas[n].pdDue then txPumpsLoad n (modAtl n (fun a => { a with pd := a.pdPend, pdDue := false }) s) else s

/-- ATL_PD_APPLY (R138): ignored while PD_SRC = 0. -/
def pdApplyWritten (n : Fin 8) (s : State) : State :=
  if s.flag (R.ATL_LANE_CFG n) F.ATL_LANE_CFG_PD_SRC then s.setFld (R.ATL_PD_APPLY n) F.ATL_PD_APPLY_PEND 1 else s

/-- A waiting APPLY takes effect at the transmit frame boundary (R138). -/
def pdApplyBoundary (n : Fin 8) (s : State) : State :=
  if s.flag (R.ATL_PD_APPLY n) F.ATL_PD_APPLY_PEND then
    modAtl n (fun a => { a with pd := a.pdPend }) (s.setFld (R.ATL_PD_APPLY n) F.ATL_PD_APPLY_PEND 0)
  else s

/-- The value of ATL_PD_DATA in VIEW (R147). -/
def pdView (s : State) (n : Fin 8) : Nat :=
  let a := s.atlas[n]
  let p := s.fld (R.ATL_PD_INDEX n) F.ATL_PD_INDEX_INDEX
  match s.fld (R.ATL_PD_INDEX n) F.ATL_PD_INDEX_VIEW with
  | 0 => pdWord a.pd p
  | 1 => pdWord a.pdPend p
  | 2 => sget 0 p a.farR
  | 3 => sget 0 p a.farSpread
  | 4 => sget 0 p a.farW % 2 ^ 16
  | 5 => sget 0 p a.farW / 2 ^ 16
  | _ => 0

/-- An access of ATL_PD_DATA advances the index. -/
def pdNext (n : Fin 8) (s : State) : State := s.addWrap (R.ATL_PD_INDEX n) F.ATL_PD_INDEX_INDEX 1

/-- ATL_PD_DATA may be written: VIEW 1 with PD_SRC = 1 (R147). -/
def pdWritable (s : State) (n : Nat) : Bool :=
  s.fld (R.ATL_PD_INDEX n) F.ATL_PD_INDEX_VIEW == 1 && s.flag (R.ATL_LANE_CFG n) F.ATL_LANE_CFG_PD_SRC

/-- A write of ATL_PD_DATA: OFS is brought to its limits and the reserved bits read 0 (R136, R146). -/
def pdWrite (n : Fin 8) (v : Nat) (s : State) : State :=
  let p := s.fld (R.ATL_PD_INDEX n) F.ATL_PD_INDEX_INDEX
  let w := v / 2 ^ 15 % 2 * 2 ^ 15 + unsigned 12 (clampInt (-256) 256 (signed 12 v))
  pdNext n (modAtl n (fun a => { a with pdPend := sput 0x8000 p w a.pdPend }) s)

/-- The tables of the lane after a change of RATE or profile (R136, R145). -/
def tablesReset (n : Fin 8) (s : State) : State :=
  detFollow n (modAtl n (fun a => { a with det := none, pd := [], pdPend := [], pdDue := false }) s)

/-! ### Training (R139 to R141) -/

/-- A tap's pending value: slots 32 to 38 are c−2 to c+4 (R137). -/
def tapPending (s : State) (n j : Nat) : Int := signed 32 (s.reg (R.WELL_PARAM n (32 + j))).toNat

/-- Writes a tap's pending value. -/
def setTap (n j : Nat) (v : Int) (s : State) : State := s.setReg (R.WELL_PARAM n (32 + j)) (word (unsigned 32 v))

/-- The presets of R139, taps c−2 to c+4. -/
def firPreset (p : Nat) : List Int :=
  match p with
  | 1 => [0, 0, 64, 0, 0, 0, 0]
  | 2 => [0, 0, 56, -8, 0, 0, 0]
  | 3 => [0, -4, 52, -8, 0, 0, 0]
  | _ => [0, -4, 48, -12, 0, 0, 0]

/-- The sum of the taps' magnitudes with tap j replaced. -/
def tapSum (s : State) (n j : Nat) (v : Int) : Nat :=
  ((List.range 7).map fun i => if i = j then v.natAbs else (tapPending s n i).natAbs).sum

/-- One tap of a TAP_REQ: its status (0 UPDATED, 1 AT_LIMIT, 2 HELD) and the state (R139). -/
def tapStep (n j code : Nat) (s : State) : Nat × State :=
  if code = 0 ∨ code = 3 then (2, s)
  else
    let v := tapPending s n j + (if code = 1 then 1 else -1)
    if v < -128 ∨ 127 < v ∨ (80 < tapSum s n j v ∧ tapSum s n j (tapPending s n j) < tapSum s n j v) then (1, s)
    else (0, setTap n j v s)

/-- The taps of a TAP_REQ in order, with their statuses. -/
def tapSteps (n codes : Nat) (s : State) : List Nat × State :=
  (List.range 7).foldl (fun p j =>
    let (st, s) := tapStep n j (codes / 4 ^ (7 - j) % 4) p.2
    (p.1 ++ [st], s)) ([], s)

/-- TAP_REQ_RECEIVE (R139, R141): K2 applies the request to the pending slots of the far lane named and prepares its
TAP_STATUS. A request in Seep-L is refused. -/
def tapReqReceive (n : Fin 8) (s : State) : State :=
  match takeMsg n (fun m => m.mtype == 0x21) s with
  | none => s
  | some (m, fr, s) =>
    let b (i : Nat) : Nat := (m.payload[i]?).getD 0
    let k := lane (b 0)
    let s := s.setFld (R.ATL_PD_QUAL k) F.ATL_PD_QUAL_FAR_FOM (b 1)
    let refuse := !s.flag (R.ATL_LANE_CFG k) F.ATL_LANE_CFG_TAP_REMOTE_EN ||
      s.flag (R.SEEP_LN_STATUS n) F.SEEP_LN_STATUS_RX_MODE
    let (st, s) :=
      if refuse then ([3, 3, 3, 3, 3, 3, 3], s)
      else if 1 ≤ b 2 ∧ b 2 ≤ 4 then
        ([0, 0, 0, 0, 0, 0, 0], (firPreset (b 2)).zipIdx.foldl (fun s p => setTap k p.2 p.1 s) s)
      else tapSteps k (b 3 * 256 + b 4) s
    let s := if st.contains 0 then s.setFld (R.ATL_STATUS k) F.ATL_STATUS_TAP_APPLIED 1 else s
    let code := st.zipIdx.foldl (fun v p => v + p.1 * 4 ^ (7 - p.2)) 0
    let vals := (List.range 7).map fun j => unsigned 8 (tapPending s k j)
    addReq n m fr 0 ([b 0, code / 256, code % 256] ++ vals) s

/-- The order of taps in a pass, as tap numbers of c−2 to c+4: c+1, c−1, c+2, c−2, c+3, c+4, c0 (R140). -/
def trainOrder (i : Nat) : Nat := match i with | 0 => 3 | 1 => 1 | 2 => 4 | 3 => 0 | 4 => 5 | 5 => 6 | _ => 2

/-- Sends a TAP_REQ with a preset or one tap's code (R139, R208). -/
def sendTapReq (n : Fin 8) (preset code : Nat) (s : State) : State :=
  let (h, s) := s.fresh 4
  let (t, s) := s.fresh 8
  let m : SMsg := { dst := 0, hops := h, src := seepNode s, rc := 0, mtype := 0x21, tid := t,
                    payload := [farLane s n, fomNow s n, preset, code / 256, code % 256] }
  seepQueue n 3 m none (modAtl n (fun a => { a with train := a.train.map fun r => { r with tid := t } }) s)

/-- Sets the run's record. -/
def setTrain (n : Fin 8) (t : Option TrainRun) (s : State) : State := modAtl n (fun a => { a with train := t }) s

/-- A run ends, done or failed (R140): its flag, its state and the settle count (R134). -/
def trainEnd (n : Fin 8) (ok : Bool) (s : State) : State :=
  let a := R.ATL_STATUS n
  let s := setTrain n none s
  let mode := s.fld (R.ATL_TRAIN n) F.ATL_TRAIN_TRAIN_MODE
  let s := s.setFld (R.ATL_TRAIN n) F.ATL_TRAIN_TRAIN_STATE (if !ok then 3 else if 2 ≤ mode ∧ rxState s n = 3 then 4 else 2)
  let s := if ok then s.raise1 a F.ATL_STATUS_TRAIN_DONE (224 + 8 * n + 6)
           else s.raise1 a F.ATL_STATUS_TRAIN_FAIL (224 + 8 * n + 7)
  settleRestart n s

/-- Requests the step that the run stands at. -/
def trainRequest (n : Fin 8) (t : TrainRun) (up : Bool) (phase : TrainPhase) (s : State) : State :=
  let code := (if up then 1 else 2) * 4 ^ (7 - trainOrder t.i)
  sendTapReq n 0 code (setTrain n (some { t with phase := phase, waiting := true, frames := 0 }) s)

/-- A training run starts (R140); ignored while one runs (R141). -/
def trainStart (n : Fin 8) (s : State) : State :=
  if s.atlas[n].train.isSome then s
  else
    let s := s.setFld (R.ATL_TRAIN n) F.ATL_TRAIN_TRAIN_STATE 1
    sendTapReq n 1 0 (setTrain n (some {}) s)

/-- The run goes to the next tap, the next pass or its end, after the direction in hand ended (R140). -/
def trainAdvance (n : Fin 8) (t : TrainRun) (s : State) : State :=
  if !t.moved && t.up then trainRequest n { t with up := false } false .step s
  else if t.i < 6 then
    let t := { t with i := t.i + 1, up := true, moved := false }
    trainRequest n t true .step s
  else
    let passes := max 1 (s.fld (R.ATL_TRAIN n) F.ATL_TRAIN_TRAIN_MAX_PASSES)
    if t.kept = 0 ∨ passes ≤ t.pass + 1 then trainEnd n true s
    else trainRequest n { t with pass := t.pass + 1, i := 0, up := true, moved := false, kept := 0 } true .step s

/-- The run starts a measurement: the rest of the epoch in progress, TRAIN_SKIP complete epochs, then TRAIN_EPOCHS (R140). -/
def trainMeasure (n : Fin 8) (t : TrainRun) (phase : TrainPhase) (s : State) : State :=
  let a := R.ATL_TRAIN n
  let skip := max 1 (s.fld a F.ATL_TRAIN_TRAIN_SKIP)
  let left := max 1 (s.fld a F.ATL_TRAIN_TRAIN_EPOCHS)
  setTrain n (some { t with phase := phase, waiting := false, sum := 0, cnt := 0, skip := skip + 1, left := left }) s

/-- What the answer to a request, or its absence (none), does to the run (R140). -/
def trainAnswer (n : Fin 8) (t : TrainRun) (st : Option Nat) (s : State) : State :=
  match t.phase with
  | .preset => trainMeasure n t .base s
  | .step => match st with
    | some 0 => trainMeasure n t .trial s
    | some 3 => trainEnd n false s
    | some _ => trainAdvance n t s
    | none => trainEnd n false s
  | .revert => trainAdvance n t s
  | _ => s

/-- TAP_STATUS_RECEIVE (R140, R208, R210): a status with RC = TIMEOUT is no reply, and one whose TID is not the request's matches none. -/
def tapStatusReceive (n : Fin 8) (s : State) : State :=
  match takeMsg n (fun m => m.mtype == 0x22) s with
  | none => s
  | some (m, _, s) =>
    match s.atlas[n].train with
    | some t =>
      if !t.waiting ∨ m.tid ≠ t.tid then badMsg s
      else if m.rc = 8 then s
      else
        let code := (m.payload[1]?).getD 0 * 256 + (m.payload[2]?).getD 0
        trainAnswer n t (some (code / 4 ^ (7 - trainOrder t.i) % 4)) s
    | none => badMsg s

/-- TAP_REQ_TIMEOUT (R140): no TAP_STATUS within 4 seep frames. -/
def tapReqTimeout (n : Fin 8) (s : State) : State :=
  match s.atlas[n].train with
  | some t => if t.waiting ∧ 4 ≤ t.frames then trainAnswer n t none s else s
  | none => s

/-- A receive epoch of a measurement (R140). -/
def trainEpoch (n : Fin 8) (s : State) : State :=
  match s.atlas[n].train with
  | some t =>
    if t.waiting then s
    else if 0 < t.skip then setTrain n (some { t with skip := t.skip - 1 }) s
    else if 0 < t.left then
      setTrain n (some { t with left := t.left - 1, sum := t.sum + fomNow s n, cnt := t.cnt + 1 }) s
    else s
  | none => s

/-- TRAIN_MEASURE_DONE (R140): the base is set, or the trial is kept or reverted. -/
def trainMeasureDone (n : Fin 8) (s : State) : State :=
  match s.atlas[n].train with
  | none => s
  | some t =>
    if t.waiting ∨ 0 < t.skip ∨ 0 < t.left then s
    else match t.phase with
      | .base => trainRequest n { t with bSum := t.sum, bCnt := t.cnt, i := 0, up := true } true .step s
      | .trial =>
        let gain := s.fld (R.ATL_TRAIN n) F.ATL_TRAIN_TRAIN_MIN_GAIN
        if t.sum * t.bCnt < (t.bSum + gain * t.bCnt) * t.cnt then trainRequest n t (!t.up) .revert s
        else trainRequest n { t with bSum := t.sum, bCnt := t.cnt, moved := true, kept := t.kept + 1 } t.up .step s
      | _ => s

/-- The chain entered LOCKED: settle periods restart, and training runs under ONCE or CONTINUOUS (R134, R141). -/
def atlasLocked (n : Fin 8) (s : State) : State :=
  let s := settleRestart n s
  if s.fld (R.ATL_TRAIN n) F.ATL_TRAIN_TRAIN_MODE = 0 then s else trainStart n s

/-- A loss of lock ends a run as failed (R141). -/
def atlasUnlocked (n : Fin 8) (s : State) : State := if s.atlas[n].train.isSome then trainEnd n false s else s

/-- TRAIN_INTERVAL_EXPIRY (R141). -/
def trainInterval (n : Fin 8) (s : State) : State :=
  if 2 ≤ s.fld (R.ATL_TRAIN n) F.ATL_TRAIN_TRAIN_MODE ∧ rxState s n = 3 then trainStart n s else s

/-! ### Epochs and faults -/

/-- The atlas at a receive epoch boundary that ends epoch k of the period (R126, R127, R142). -/
def atlasEpoch (n : Fin 8) (k : Nat) (found : List (Nat × CisFault)) (s : State) : State :=
  let s := distStream n k found s
  let s := if k = 1022 then distLate n s else s
  let e := s.fld R.THM_STATUS F.THM_STATUS_EFFORT
  trainEpoch n (modAtl n (fun a => { a with resume := if atlFrozen s n then a.resume else false, effort := e }) s)

/-- A change in force of FFE_PRE or the target clears the atlas with CLEAR_ON_RETARGET = 1 (R145). -/
def atlasRetarget (n : Fin 8) (old : State) (s : State) : State :=
  if ffePre old n = ffePre s n ∧ targetH old n 10 = targetH s n 10 ∧ targetH old n 11 = targetH s n 11 then s
  else if s.flag R.ATL_CFG F.ATL_CFG_CLEAR_ON_RETARGET then atlasClear n s else s

/-- An atlas-engine restart (R35, R145): the caches are discarded, and learning restarts at the next epoch boundary. -/
def atlasRestart (s : State) : State :=
  forLanes (fun n s => modAtl n (fun a => { a with cache := [], misses := [], held := [], resume := true }) s) s

/-- A well restart during a run makes the run late (R127). -/
def atlasWellRestart (n : Fin 8) (s : State) : State := if s.atlas[n].run.isSome then distDrop n s else s

end Sys2Proof.Machine
end

