-- ==== Sys2Proof/Machine/HostSide.lean ====
section
/-!
DEFINITION. Host lanes, lane mapping, link training, failures of either side and KP4 monitoring (R173 to R190 of
spec/07_host_lanes.md).
-/
namespace Sys2Proof.Machine

/-- Updates what a physical host lane holds. -/
def modHost (n : Fin 8) (g : HostLane → HostLane) (s : State) : State :=
  { s with host := { s.host with lanes := vmod s.host.lanes n g } }

/-- State of a physical lane: 0 DOWN, 1 SIGNAL, 2 LOCKED, 3 TRAINING, 4 ACTIVE, 5 TEST. -/
def hostState (s : State) (n : Nat) : Nat := s.fld (R.HOST_LN_STATUS n) F.HOST_LN_STATUS_STATE

/-- Sets the state of a physical lane. -/
def setHostState (n v : Nat) (s : State) : State := s.setFld (R.HOST_LN_STATUS n) F.HOST_LN_STATUS_STATE v

/-- The lane is enabled. -/
def hostEn (s : State) (n : Nat) : Bool := s.flag (R.HOST_LN_CFG n) F.HOST_LN_CFG_EN

/-- The logical lane that a physical receive lane feeds. -/
def logicalOf (s : State) (h : Fin 8) : Option (Fin 8) := (List.finRange 8).find? fun i => rxMap s i == h

/-! ### Failures of either side (R184) and codeword lock (R186) -/

/-- Line lane i receives host data: its physical lane is enabled and ACTIVE (R184). -/
def hostDelivers (s : State) (i : Nat) : Bool := hostEn s (rxMap s i) && hostState s (rxMap s i) == 4

/-- Line lane i can deliver data: its chain is LOCKED, and in Deep its port decodes (R184). -/
def lineDelivers (s : State) (i : Fin 8) : Bool :=
  rxState s i == 3 && (decide (profileEff s ≠ .deep) || cwLock s i)

/-- Line lane i loses its data at once: its chain is not LOCKED, or a lane of its port has no frame lock. A skew beyond the deskew range
ends its data at its next receive frame boundary, so that what has been received till then goes to the host poisoned (R159, R184;
notes/assumptions/130.md). -/
def lineLost (s : State) (i : Fin 8) : Bool :=
  rxState s i != 3 || (decide (profileEff s = .deep) && !((spreadLanes s i).all fun k => frmState s k == 2))

/-- Register base index of a monitor. -/
def monIdx (p : Fin 8) (d : Fin 2) : Fin 16 := ⟨2 * p.val + d.val, by omega⟩

/-- Updates a monitor's counters. -/
def modMon (p : Fin 8) (d : Fin 2) (g : MonCnt → MonCnt) (s : State) : State :=
  { s with host := { s.host with mon := vmod s.host.mon (monIdx p d) g } }

/-- A monitor has codeword lock. -/
def monLocked (s : State) (p : Fin 8) (d : Fin 2) : Bool := s.flag (R.HOST_MON_STATUS p d) F.HOST_MON_STATUS_LOCK

/-- The counts of consecutive markers, found and missed, start again. -/
def monRestart (p : Fin 8) (d : Fin 2) (s : State) : State :=
  modMon p d (fun m => { m with good := List.replicate 8 0, bad := List.replicate 8 0 }) s

/-- What the monitor of a direction has seen and not decoded is dropped, and its next codeword is the first of a group. -/
def monEmpty (p : Fin 8) (d : Fin 2) (s : State) : State :=
  (lanesOfPort s p).foldl (fun s i => modFrm i (fun f => if d = 0 then { f with txSeen := [] } else { f with rxSeen := [] }) s)
    (modMon p d (fun m => { m with next := 0 }) s)

/-- A monitor loses codeword lock (R186). -/
def monLose (p : Fin 8) (d : Fin 2) (s : State) : State :=
  if !monLocked s p d then s
  else
    let a := R.HOST_MON_STATUS p d
    let s := s.setFld a F.HOST_MON_STATUS_LOCK 0
    let s := s.raise1 a F.HOST_MON_STATUS_LOCK_LOSS (344 + 2 * p + d)
    monEmpty p d (monRestart p d (s.addSat a F.HOST_MON_STATUS_LOSS_COUNT 1))

/-- A lane of the port fails in the direction (R186). In the test modes no monitor runs, so each loses its lock (R185; log 96). -/
def portFails (s : State) (p : Fin 8) (d : Fin 2) : Bool :=
  decide (hostTest s ≠ 0) || (lanesOfPort s p).any fun i => if d = 0 then !hostDelivers s i else !lineDelivers s i

/-! ### Steering of the line, and the host transmit clocks (R74, R174, R178) -/

/-- STEER_LANE: in Standard and Spring the receive map's field (R174); in Deep the register as it was left. -/
def steerLane (s : State) (n : Nat) : Nat :=
  if profileEff s = .deep then s.fld (R.LINE_PLL_CFG n) F.LINE_PLL_CFG_STEER_LANE else rxMap s n

/-- The offset in 1e-14 that the steering of a line lane aims at: that of its host lane, within ±250 ppm (R74). -/
def steerTarget (s : State) (n : Nat) : Int :=
  clampInt (-25000) 25000 (signed 16 (s.fld (R.HOST_LN_STATUS (steerLane s n)) F.HOST_LN_STATUS_FREQ_OFS)) * 1000000

/-- The steered offset now: in Deep 0, while STEER_HOLD = 1 as it was, else on its way to the target (R73, R74). -/
def steerNow (s : State) (n : Fin 8) : Int :=
  let l := s.line[n]
  if profileEff s = .deep then 0
  else if s.flag (R.LINE_PLL_STATUS n) F.LINE_PLL_STATUS_STEER_HOLD then l.steer
  else steered l.steerSlew (steerBw s n) l.steer (steerTarget s n) (s.now - l.steerAt)

/-- FREQ_OFS: what the multiplier in force gives; 0 before the lane PLL has been started (R92). -/
def freqOfs (s : State) (n : Fin 8) : Int :=
  let kbd := laneRate s n
  if s.line[n].pllOn then clampInt (-32768) 32767 (pllOffset kbd (pllMult kbd (steerNow s n))) else 0

/-- The source of a line lane's steering is there: its host lane is enabled with CDR lock (R74, R184). -/
def steerSource (s : State) (n : Nat) : Bool :=
  s.flag (R.HOST_LN_CFG (steerLane s n)) F.HOST_LN_CFG_EN && s.flag (R.HOST_LN_STATUS (steerLane s n)) F.HOST_LN_STATUS_CDR_LOCK

/-- Steering of every line lane freezes, goes on or resumes (R74, R184). -/
def steerFollow (s : State) : State :=
  forLanes (fun n s =>
    let hold := s.line[n].pllOn && decide (profileEff s ≠ .deep) && !steerSource s n
    let v := steerNow s n
    (modLine n (fun l => { l with steer := v, steerAt := s.now,
                                  steerSlew := hold || l.steerSlew && decide (v ≠ steerTarget s n) }) s).setFld (R.LINE_PLL_STATUS n) F.LINE_PLL_STATUS_STEER_HOLD
      (b2n hold)) s

/-- The offset in 1e-14 that the transmit clock of logical lane i aims at (R178): in Deep what the fill of the deframer's output buffer
asks for, else the recovered symbol rate of the line lane. -/
def hostTxTarget (s : State) (i : Fin 8) : Int :=
  if profileEff s = .deep then clampInt (-30000) 30000 (Config.fillOffset (s.host.level[i] / 200000000)) * 1000000
  else steerNow s i + signed 16 (s.fld (R.WELL_RX_TREC i) F.WELL_RX_TREC_FREQ) * 1000000

/-- What a transmitter that carries data since `txAt` has sent leaves the deframer's output buffer, in 5e-9 bit (R155). -/
def hostSent (s : State) (l : HostLane) : Int :=
  let dt := s.now - l.txAt
  if l.txData && decide (profileEff s = .deep) then 8500000000 * dt + 85 * dt * l.txOfs / 1000000 else 0

/-- The transmit clocks come up to date: with its source lost a lane's frequency holds, and tracking resumes with a slew (R178). What
the transmitter has sent leaves the deframer's output buffer. -/
def hostTxFollow (s : State) : State :=
  forLanes (fun i s =>
    let h := txMap s i
    let l := s.host.lanes[h]
    let data := decide (hostOut s i = .data)
    let s := { s with host := { s.host with level := s.host.level.set i (s.host.level[i] - hostSent s l) } }
    if s.host.fail[i] then modHost h (fun l => { l with txAt := s.now, txSlew := true, txData := data }) s
    else
      let t := hostTxTarget s i
      let v := if l.txSlew then slewed l.txOfs t (s.now - l.txAt) else t
      modHost h (fun l => { l with txAt := s.now, txOfs := v, txSlew := l.txSlew && decide (v ≠ t), txData := data }) s) s

/-! ### What a host receiver measures (R176, R189) -/

/-- The figures of a receiver come up to date: FOM each millisecond and, while FFE_HOLD = 0, the FFE taps, both while the CDR is locked;
and in the PRBS31 test its errors. The signal gives their values, so they are open (notes/assumptions/97.md). -/
def hostMeasure (n : Fin 8) (s : State) : State :=
  let at0 := s.host.lanes[n].measAt
  if at0 = s.now then s
  else
    let s := modHost n (fun l => { l with measAt := s.now }) s
    let lock := s.flag (R.HOST_LN_STATUS n) F.HOST_LN_STATUS_CDR_LOCK
    let s := if lock && decide (at0 / 5000000 < s.now / 5000000) then
        let (v, s) := s.fresh 8
        s.setFld (R.HOST_LN_FOM n) F.HOST_LN_FOM_FOM v
      else s
    let s := if lock && !s.flag (R.HOST_LN_CFG n) F.HOST_LN_CFG_FFE_HOLD then
        let (l, s) := freshList 32 6 s
        l.zipIdx.foldl (fun s p => s.setReg (R.HOST_LN_FFE n p.2) (word p.1)) s
      else s
    if hostState s n = 5 ∧ hostTest s = 2 then
      let (v, s) := s.fresh 32
      s.setReg (R.HOST_LN_PRBS n) (word ((s.reg (R.HOST_LN_PRBS n)).toNat + v))
    else s

/-- The consequences of failures on either side: fill toward the line, no data toward the host, and monitors that lose
lock. Toward the line, data resumes at once in Standard and Spring; otherwise data resumes at a frame boundary (R184,
R186). -/
def hostFollow (s : State) : State :=
  let deep := decide (profileEff s = .deep)
  let s := forLanes (fun i s =>
    let down := !hostDelivers s i
    let f := down || (deep && s.host.fill[i])
    let r := lineLost s i || s.host.fail[i]
    { s with host := { s.host with fill := s.host.fill.set i f, fail := s.host.fail.set i r } }) s
  let s := (List.finRange 8).foldl (fun s (p : Fin 8) => (List.finRange 2).foldl (fun s (d : Fin 2) =>
    if !portExists s p || portFails s p d then (if monLocked s p d then monLose p d s else monRestart p d s) else s) s) s
  hostTxFollow (steerFollow s)

/-- Host data resumes at the transmit frame boundary of the lane (R184). -/
def fillBoundary (n : Fin 8) (s : State) : State :=
  { s with host := { s.host with fill := s.host.fill.set n (!hostDelivers s n) } }

/-- Line data resumes toward the host at the receive frame boundary of the lane (R184). -/
def failBoundary (n : Fin 8) (s : State) : State :=
  { s with host := { s.host with fail := s.host.fail.set n (!lineDelivers s n) } }

/-! ### Bring-up (R179, R183) -/

/-- A lane leaves ACTIVE: counted (R190). -/
def leaveActive (n : Nat) (s : State) : State :=
  if hostState s n = 4 then s.addSat (R.HOST_LN_FOM n) F.HOST_LN_FOM_LOS_COUNT 1 else s

/-- The lane goes to a state, ending any training in progress. -/
def hostTo (n : Fin 8) (v : Nat) (s : State) : State :=
  hostFollow (setHostState n v (modHost n (fun l => { l with train := none, req := none }) (leaveActive n s)))

/-- The lane's CDR is no longer locked. -/
def cdrDrop (n : Fin 8) (s : State) : State :=
  steerFollow ((hostMeasure n s).setFld (R.HOST_LN_STATUS n) F.HOST_LN_STATUS_CDR_LOCK 0)

/-- The preset of R177, taps c−3 to c+2. -/
def hostPreset (p : Nat) : List Int :=
  match p with
  | 2 => [0, 0, -8, 56, 0, 0]
  | 3 => [0, 2, -10, 48, -4, 0]
  | _ => [0, 0, 0, 64, 0, 0]

/-- The taps of TXFIR words, c−3 to c+2. -/
def firTaps (w0 w1 : Word) : List Int :=
  [F.HOST_LN_TXFIR0_C_M3.sget w0, F.HOST_LN_TXFIR0_C_M2.sget w0, F.HOST_LN_TXFIR0_C_M1.sget w0, F.HOST_LN_TXFIR0_C0.sget w0,
   F.HOST_LN_TXFIR1_C_P1.sget w1, F.HOST_LN_TXFIR1_C_P2.sget w1]

/-- The limits of R177. -/
def firOk (l : List Int) : Bool := decide ((l.map Int.natAbs).sum ≤ 64) && decide ((32 : Int) ≤ (l[3]?).getD 0)

/-- Puts a tap set in force (the aliases of TXFIR0 and TXFIR1). -/
def setFir (n : Nat) (l : List Int) (s : State) : State :=
  let t (i : Nat) : Nat := unsigned 8 ((l[i]?).getD 0)
  (s.setActReg (R.HOST_LN_TXFIR0 n) (word (t 0 + t 1 * 0x100 + t 2 * 0x10000 + t 3 * 0x1000000))).setActReg
    (R.HOST_LN_TXFIR1 n) (word (t 4 + t 5 * 0x100))

/-- The taps in force. -/
def firInForce (s : State) (n : Nat) : List Int := firTaps (s.actReg (R.HOST_LN_TXFIR0 n)) (s.actReg (R.HOST_LN_TXFIR1 n))

/-- The register taps come into force; a set beyond the limits is preset 1 (R177, R182). -/
def firFromRegs (n : Nat) (s : State) : State :=
  let l := firTaps (s.reg (R.HOST_LN_TXFIR0 n)) (s.reg (R.HOST_LN_TXFIR1 n))
  setFir n (if firOk l then l else hostPreset 1) s

/-- TRAIN_MODE = AUTO. -/
def trainAuto (s : State) : Bool := s.flag R.HOST_CTRL F.HOST_CTRL_TRAIN_MODE

/-- The taps in force are those of the registers: with FIXED, or after a bring-up without training frames (R182). -/
def regTaps (s : State) (n : Nat) : Bool :=
  !trainAuto s || s.flag (R.HOST_LN_STATUS n) F.HOST_LN_STATUS_TRAIN_NOPEER

/-- Step 6 of bring-up. -/
def hostActive (n : Fin 8) (s : State) : State :=
  hostTo n 4 (modHost n (fun l => { l with skip := true }) s)

/-- Step 4 without training: TRAIN_NOPEER, the register taps, and step 6. -/
def hostNoPeer (n : Fin 8) (s : State) : State :=
  hostActive n (firFromRegs n (s.setFld (R.HOST_LN_STATUS n) F.HOST_LN_STATUS_TRAIN_NOPEER 1))

/-- What follows CDR lock: ACTIVE for a lane that skips training, TRAIN_NOPEER with FIXED, else LOCKED (R179). -/
def hostLocked (n : Fin 8) (s : State) : State :=
  if s.host.lanes[n].skip then hostActive n s
  else if trainAuto s then hostTo n 2 s else hostNoPeer n s

/-- EN of the lane changed (R179): enabling starts bring-up at step 1. -/
def hostEnable (n : Fin 8) (on : Bool) (s : State) : State :=
  let s := modHost n (fun l => { l with skip := false }) s
  let s := cdrDrop n (s.setFld (R.HOST_LN_STATUS n) F.HOST_LN_STATUS_SIG_DET 0)
  hostTo n (if on && hostTest s ≠ 0 then 5 else 0) s

/-- HOST_SIGNAL_DETECT (R179 step 2). -/
def hostSignal (n : Fin 8) (s : State) : State :=
  if hostEn s n ∧ !deepSleep s ∧ !s.flag (R.HOST_LN_STATUS n) F.HOST_LN_STATUS_SIG_DET then
    let s := s.setFld (R.HOST_LN_STATUS n) F.HOST_LN_STATUS_SIG_DET 1
    if hostState s n ≤ 1 then hostTo n 1 s else s
  else s

/-- HOST_LOS (R179). -/
def hostLos (n : Fin 8) (s : State) : State :=
  if s.flag (R.HOST_LN_STATUS n) F.HOST_LN_STATUS_SIG_DET then
    let s := s.setFld (R.HOST_LN_STATUS n) F.HOST_LN_STATUS_SIG_DET 0
    let s := cdrDrop n (s.raise1 (R.HOST_LN_STATUS n) F.HOST_LN_STATUS_LOS (334 + n))
    if hostState s n = 5 then s else hostTo n 1 s
  else s

/-- The limit of R178 in 0.01 ppm. -/
def freqLimit (s : State) : Nat := if profileEff s = .deep ∧ hostTest s = 0 then 30000 else 25000

/-- HOST_FREQ_ERR (R178): the measured offset stayed beyond the limit for 1 ms; repeat from step 2. -/
def hostFreqErr (n : Fin 8) (ofs : Int) (s : State) : State :=
  let st := R.HOST_LN_STATUS n
  if s.flag st F.HOST_LN_STATUS_SIG_DET ∧ freqLimit s < ofs.natAbs then
    let s := s.setFld st F.HOST_LN_STATUS_FREQ_OFS (unsigned 16 (clampInt (-32768) 32767 ofs))
    let s := cdrDrop n (s.raise1 st F.HOST_LN_STATUS_FREQ_ERR (334 + n))
    if hostState s n = 5 then s else hostTo n 1 s
  else s

/-- HOST_CDR_LOCK (R176, R179 step 3): the CTLE setting that the lane chooses before it, unless the lane returns with the setting in
force (R183) or CTLE_MAN sets it, and the measured offset in 0.01 ppm; beyond the limit of R178 the lane repeats from step 2. -/
def hostCdrLock (n : Fin 8) (ctle : Nat) (ofs : Int) (s : State) : State :=
  let st := R.HOST_LN_STATUS n
  if s.flag st F.HOST_LN_STATUS_SIG_DET ∧ !s.flag st F.HOST_LN_STATUS_CDR_LOCK then
    if freqLimit s < ofs.natAbs then hostFreqErr n ofs s
    else
      let s := if s.flag (R.HOST_LN_CFG n) F.HOST_LN_CFG_CTLE_MAN
          then s.setFld st F.HOST_LN_STATUS_CTLE_EFF (s.fld (R.HOST_LN_CFG n) F.HOST_LN_CFG_CTLE)
        else if s.host.lanes[n].skip then s
        else s.setFld st F.HOST_LN_STATUS_CTLE_EFF ctle
      let s := s.setFld st F.HOST_LN_STATUS_FREQ_OFS (unsigned 16 (clampInt (-32768) 32767 ofs))
      let s := steerFollow (s.setFld st F.HOST_LN_STATUS_CDR_LOCK 1)
      if hostState s n = 1 then hostLocked n s else s
  else s

/-- HOST_CDR_LOL (R179, R181). -/
def hostCdrLol (n : Fin 8) (s : State) : State :=
  let st := R.HOST_LN_STATUS n
  if s.flag st F.HOST_LN_STATUS_CDR_LOCK then
    let s := cdrDrop n (s.raise1 st F.HOST_LN_STATUS_CDR_LOL (334 + n))
    if hostState s n = 5 then s else hostTo n 1 s
  else s

/-! ### Training (R180 to R182) -/

/-- CHAN_CLASS with 3 taken as 2. -/
def chanClass (s : State) : Nat := min 2 (s.fld R.HOST_CTRL F.HOST_CTRL_CHAN_CLASS)

/-- Training begins: the search's first request is the preset of CHAN_CLASS (R181). -/
def hostTrainBegin (n : Fin 8) (s : State) : State :=
  let s := hostTo n 3 (s.addSat (R.HOST_LN_FOM n) F.HOST_LN_FOM_TRAIN_COUNT 1)
  let s := s.setFld (R.HOST_LN_STATUS n) F.HOST_LN_STATUS_TRAIN_NOPEER 0
  let c := chanClass s
  modHost n (fun l => { l with skip := false, train := some {}, req := some (.preset (c + 1)) }) s

/-- HOST_TRAIN_FRAMES (R179 step 4): training frames arrive while LOCKED, or the host starts them in ACTIVE. -/
def hostTrainFrames (n : Fin 8) (s : State) : State :=
  if trainAuto s ∧ hostTest s = 0 ∧ (hostState s n = 2 ∨ hostState s n = 4) then hostTrainBegin n s else s

/-- HOST_TRAIN_NOPEER (R179): no training frames within 10 ms of LOCKED. -/
def hostTrainNoPeer (n : Fin 8) (s : State) : State := if hostState s n = 2 then hostNoPeer n s else s

/-- The taps in the order of the search: c−1, c+1, c−2, c−3, c+2 (R181). -/
def hostOrder (i : Nat) : Fin 6 := match i with | 0 => 2 | 1 => 4 | 2 => 1 | 3 => 0 | _ => 5

/-- Sets the search and its request. -/
def setSearch (n : Fin 8) (t : HostTrain) (q : Option CoefReq) (s : State) : State :=
  modHost n (fun l => { l with train := some t, req := q }) s

/-- The search requests a step of its tap. -/
def searchStep (n : Fin 8) (t : HostTrain) (up : Bool) (ph : TrainPhase) (s : State) : State :=
  setSearch n { t with phase := ph } (some (.step (hostOrder t.i) up)) s

/-- The search goes on after a direction of a tap, to its end: receiver ready (R181). -/
def searchAdvance (n : Fin 8) (t : HostTrain) (s : State) : State :=
  if !t.moved && t.up then searchStep n { t with up := false } false .step s
  else if t.i < 4 then
    let t := { t with i := t.i + 1, up := true, moved := false }
    searchStep n t true .step s
  else if t.kept = 0 ∨ 4 ≤ t.pass + 1 then setSearch n { t with ready := true } none s
  else
    let t := { t with pass := t.pass + 1, i := 0, up := true, moved := false, kept := 0 }
    searchStep n t true .step s

/-- HOST_COEFF_STATUS (R181): the host's response to the local request. -/
def hostCoefStatus (n : Fin 8) (r : CoefStatus) (s : State) : State :=
  match s.host.lanes[n].train, s.host.lanes[n].req with
  | some t, some _ =>
    match t.phase with
    | .preset => setSearch n { t with phase := .base } none s
    | .step => if r = .updated then setSearch n { t with phase := .trial } none s else searchAdvance n t s
    | .revert => searchAdvance n t s
    | _ => s
  | _, _ => s

/-- HOST_TRIAL_MEASURE_DONE (R181): the mean FOM of the window, as a sum over a count. -/
def hostTrialDone (n : Fin 8) (sum cnt : Nat) (s : State) : State :=
  match s.host.lanes[n].train with
  | none => s
  | some t =>
    match t.phase with
    | .base => searchStep n { t with bSum := sum, bCnt := cnt, i := 0, up := true } true .step s
    | .trial =>
      let gain := s.fld R.HOST_CTRL F.HOST_CTRL_TRAIN_MIN_GAIN
      if sum * t.bCnt < (t.bSum + gain * t.bCnt) * cnt then searchStep n t (!t.up) .revert s
      else searchStep n { t with bSum := sum, bCnt := cnt, moved := true, kept := t.kept + 1 } t.up .step s
    | _ => s

/-- HOST_TRAIN_DONE (R181): the host has signalled ready too. -/
def hostTrainDone (n : Fin 8) (s : State) : State :=
  match s.host.lanes[n].train with
  | some t =>
    if t.ready ∧ hostState s n = 3 then hostActive n (s.setFld (R.HOST_LN_STATUS n) F.HOST_LN_STATUS_TRAIN_DONE 1) else s
  | none => s

/-- HOST_TRAIN_TIMEOUT (R181). -/
def hostTrainTimeout (n : Fin 8) (s : State) : State :=
  if hostState s n = 3 then hostActive n (s.raise1 (R.HOST_LN_STATUS n) F.HOST_LN_STATUS_TRAIN_FAIL (334 + n)) else s

/-- The response to a request, and the taps it leaves in force (R182). -/
def coefAnswer (s : State) (n : Nat) (q : CoefReq) : CoefStatus × List Int :=
  let l := firInForce s n
  if !trainAuto s then (.hold, l)
  else match q with
  | .hold => (.hold, l)
  | .preset p => (.updated, hostPreset p)
  | .step t up =>
    let v := (l[t.val]?).getD 0 + (if up then 1 else -1)
    let l' := l.set t.val v
    if firOk l' && decide (-128 ≤ v) && decide (v ≤ 127) then (.updated, l')
    else (if up then .maximum else .minimum, l)

/-- HOST_COEFF_REQUEST (R182): answered with any change in force first, in training, and with FIXED also in ACTIVE; no response during a
group's reinitialisation. -/
def hostCoefRequest (n : Fin 8) (q : CoefReq) (s : State) : State :=
  if groupReacting s (if n.val < 4 then 0 else 1) || !(hostState s n == 3 || (hostState s n == 4 && !trainAuto s)) then s
  else
    let (r, l) := coefAnswer s n q
    let s := if r = .updated then setFir n l s else s
    modHost n (fun x => { x with resp := some r }) s

/-- RETRAIN written: training from step 4, with FIXED at once to step 6 (R179, R190). -/
def hostRetrain (n : Fin 8) (s : State) : State :=
  let s := modHost n (fun l => { l with skip := false }) s
  match hostState s n with
  | 2 => s
  | 3 => hostTrainBegin n s
  | 4 => hostLocked n s
  | _ => s

/-- RX_POL or TX_POL changed: bring-up from step 2 (R175). -/
def hostPolarity (n : Fin 8) (s : State) : State :=
  let s := modHost n (fun l => { l with skip := false }) s
  if hostEn s n ∧ 1 ≤ hostState s n ∧ hostState s n ≤ 4 then hostTo n 1 (cdrDrop n s) else s

/-! ### Maps and test modes (R174, R189) -/

/-- A map is a permutation of 0 to 7. -/
def isPerm (m : Nat) : Bool := (List.range 8).all fun v => (List.range 8).any fun i => m / 8 ^ i % 8 == v

/-- Some physical lane is enabled, so a map write returns BUSY. -/
def mapBusy (s : State) : Bool := (List.range 8).any fun n => hostEn s n

/-- RATE_EFF: 212.5, 106.25 or, in a low-rate test, 53.125 Gbit/s (R173, R190). -/
def rateFollow (s : State) : State :=
  let low := hostTest s ≠ 0 ∧ s.flag R.HOST_CTRL F.HOST_CTRL_TEST_LOW_RATE
  s.setFld R.HOST_STATUS F.HOST_STATUS_RATE_EFF
    (if low then 2 else if s.flag R.FEC_PROFILE F.FEC_PROFILE_LEGACY_EFF then 1 else 0)

/-- A change of TEST (R189): lanes leave service for TEST, or return with a retrain. -/
def hostTestChange (s : State) : State :=
  let on := decide (hostTest s ≠ 0)
  rateFollow (forLanes (fun n s =>
    if !hostEn s n then s
    else if on then hostTo n 5 ((modHost n (fun l => { l with measAt := s.now }) s).setReg (R.HOST_LN_PRBS n) 0)
    else
      let s := modHost n (fun l => { l with skip := false }) s
      let st := R.HOST_LN_STATUS n
      if s.flag st F.HOST_LN_STATUS_CDR_LOCK then hostLocked n s
      else hostTo n (if s.flag st F.HOST_LN_STATUS_SIG_DET then 1 else 0) s) s)

/-- TRAIN_MODE changed: with FIXED the register taps come into force at once (R182). -/
def trainModeChange (s : State) : State :=
  if trainAuto s then s else forLanes (fun n s => firFromRegs n s) s

/-- The reinitialisation of physical lanes given by a mask (R35, R183): they come up again from step 2 without training. -/
def groupReinit (lanes : Nat) (s : State) : State :=
  hostFollow (forLanes (fun n s =>
    if bitOf lanes n && hostEn s n && decide (1 ≤ hostState s n ∧ hostState s n ≤ 4) then
      let s := modHost n (fun l => { l with skip := true }) s
      hostTo n 1 (cdrDrop n s)
    else s) s)

/-- The host island goes off in S3 and S4 (R183). -/
def hostSleep (s : State) : State :=
  forLanes (fun n s =>
    let s := s.setFld (R.HOST_LN_STATUS n) F.HOST_LN_STATUS_SIG_DET 0
    hostTo n 0 (cdrDrop n s)) s

/-- The host island wakes: bring-up from step 2 with the retained settings (R183), or TEST with a test mode on (R189). -/
def hostWake (s : State) : State :=
  forLanes (fun n s =>
    let s := modHost n (fun l => { l with skip := true }) s
    if hostEn s n ∧ hostTest s ≠ 0 then hostTo n 5 s else s) s

/-! ### KP4 monitors (R185 to R188) -/

/-- AM_LOCK_N and AM_LOSS_N as they are taken. -/
def amLockN (s : State) : Nat := max 1 (s.fld R.HOST_MON_CFG F.HOST_MON_CFG_AM_LOCK_N)
def amLossN (s : State) : Nat := max 2 (s.fld R.HOST_MON_CFG F.HOST_MON_CFG_AM_LOSS_N)

/-- A monitor acquires codeword lock (R186): the KP4 codewords of its direction are counted from the bit that comes in next, for its own
decoding, for termination and for poison (R165, R166). What is marked already is poisoned as it was marked. -/
def monLock (p : Fin 8) (d : Fin 2) (s : State) : State :=
  let s := monEmpty p d (s.setFld (R.HOST_MON_STATUS p d) F.HOST_MON_STATUS_LOCK 1)
  (lanesOfPort s p).foldl (fun s i => modFrm i (fun f =>
    if d = 0 then { f with txBase := f.txPos + f.txBuf.length } else { f with rxBase := f.rxPos + f.oct.length, octNext := 0 }) s) s

/-- KP4_AM_RECEIVE (R186): a marker found or missed on lane `k` of the port. -/
def amReceive (p : Fin 8) (d : Fin 2) (k : Fin 8) (found : Bool) (s : State) : State :=
  if !portExists s p || portFails s p d then s
  else
    let lanes := (lanesOfPort s p).length
    let s := modMon p d (fun m => { m with
      good := m.good.set k (if found then (m.good[k.val]?).getD 0 + 1 else 0),
      bad := m.bad.set k (if found then 0 else (m.bad[k.val]?).getD 0 + 1) }) s
    let m := s.host.mon[monIdx p d]
    if monLocked s p d then
      if (m.bad.take lanes).any fun c => decide (amLossN s ≤ c) then monLose p d s else s
    else if (m.good.take lanes).all fun c => decide (amLockN s ≤ c) then
      monLock p d s
    else s

/-- DEG_BIN with 0 taken as 1. -/
def degBin (s : State) : Nat := max 1 (s.fld R.HOST_MON_CFG F.HOST_MON_CFG_DEG_BIN)

/-- A monitor counts a codeword in which `errs` symbols were corrected, none for one that could not be (R187, R188). -/
def monCount (p : Fin 8) (d : Fin 2) (errs : Option Nat) (s : State) : State :=
  let high := b2n (match errs with | some e => decide (degBin s ≤ e) | none => true)
  let s := modMon p d (fun m =>
    let m := { m with cw := (m.cw + 1) % 2 ^ 64, win := m.win + 1, winHigh := m.winHigh + high }
    match errs with
    | some e => { m with sym := (m.sym + e) % 2 ^ 32, bins := m.bins.set e (((m.bins[e]?).getD 0 + 1) % 2 ^ 32) }
    | none => { m with uncorr := (m.uncorr + 1) % 2 ^ 32 }) s
  if errs.isSome then s else s.raise1 (R.HOST_MON_STATUS p d) F.HOST_MON_STATUS_UNCORR_EV (344 + 2 * p + d)

/-- The bits that a direction of a lane's monitor has seen and not decoded. -/
def monSeen (s : State) (d : Fin 2) (i : Fin 8) : List (Option Bool) := if d = 0 then s.frm[i].txSeen else s.frm[i].rxSeen

/-- A whole group of codewords has come in at a monitor that has codeword lock. -/
def monReady (s : State) (p : Fin 8) (d : Fin 2) : Bool :=
  monLocked s p d && (lanesOfPort s p).all fun i => decide (groupBits s ≤ (monSeen s d i).length)

/-- Bits with a free value for each that is open. -/
def openBits : List (Option Bool) → State → List Bool × State
  | [], s => ([], s)
  | some b :: t, s => let (l, s) := openBits t s; (b :: l, s)
  | none :: t, s =>
    let (v, s) := s.fresh 1
    let (l, s) := openBits t s
    ((v == 1) :: l, s)

/-- How many symbols of the monitor's next codeword are corrected, none where it has more than 15 symbol errors (R187). -/
def monErrors (p : Fin 8) (d : Fin 2) (s : State) : Option Nat × State :=
  let lanes := lanesOfPort s p
  let bits := kp4Bits (kp4Places lanes.length s.host.mon[monIdx p d].next) (lanes.map fun i => (monSeen s d i).toArray) none
  let (l, s) := openBits bits s
  ((octDecode (rsSymbols 544 l) []).map (·.2), s)

/-- The monitor's next codeword is the one behind; behind the last of a group the group is forgotten. -/
def monAdvance (p : Fin 8) (d : Fin 2) (s : State) : State :=
  if s.host.mon[monIdx p d].next < 3 then modMon p d (fun m => { m with next := m.next + 1 }) s
  else
    let k := groupBits s
    (lanesOfPort s p).foldl (fun s i => modFrm i (fun f =>
      if d = 0 then { f with txSeen := f.txSeen.drop k } else { f with rxSeen := f.rxSeen.drop k }) s)
      (modMon p d (fun m => { m with next := 0 }) s)

/-- KP4_MONITOR_CODEWORD (R185, R187): the monitor decodes the next codeword of the stream it sees, once it has come in. -/
def monCodeword (p : Fin 8) (d : Fin 2) (s : State) : State :=
  if monReady s p d then
    let (e, s) := monErrors p d s
    monAdvance p d (monCount p d e s)
  else s

/-- KP4_DEGRADE_WINDOW (R188): a window of 2^24 codewords ends. -/
def monWindow (p : Fin 8) (d : Fin 2) (s : State) : State :=
  let m := s.host.mon[monIdx p d]
  if m.win < 2 ^ 24 then s
  else
    let s := modMon p d (fun m => { m with win := 0, winHigh := 0 }) s
    if s.fld R.HOST_MON_CFG F.HOST_MON_CFG_DEG_COUNT < m.winHigh
    then s.raise1 (R.HOST_MON_STATUS p d) F.HOST_MON_STATUS_DEGRADE (344 + 2 * p + d) else s

/-- Copies the counters of a monitor into its snapshot registers (R187). -/
def monSnap (p : Fin 8) (d : Fin 2) (s : State) : State :=
  let m := s.host.mon[monIdx p d]
  let s := s.setReg (R.HOST_MON_CW_LO p d) (word m.cw)
  let s := s.setReg (R.HOST_MON_CW_HI p d) (word (m.cw / 2 ^ 32))
  let s := s.setReg (R.HOST_MON_UNCORR p d) (word m.uncorr)
  let s := s.setReg (R.HOST_MON_SYM p d) (word m.sym)
  (List.range 16).foldl (fun s k => s.setReg (R.HOST_MON_BIN p d k) (word ((m.bins[k]?).getD 0))) s

/-- Zeroes the counters of a monitor (R187). -/
def monClear (p : Fin 8) (d : Fin 2) (s : State) : State :=
  modMon p d (fun m => { m with cw := 0, uncorr := 0, sym := 0, bins := List.replicate 16 0 }) s

/-- The ports of a mask, both directions each. -/
def forMons (mask : Nat) (g : Fin 8 → Fin 2 → State → State) (s : State) : State :=
  forLanes (fun p s => if bitOf mask p && portExists s p then g p 1 (g p 0 s) else s) s

/-- A write of HOST_MON_SNAP: the snapshot first, then the clear (R187). -/
def monSnapWrite (snap clear : Nat) (s : State) : State := forMons clear monClear (forMons snap monSnap s)

end Sys2Proof.Machine
end

