-- ==== Sys2Proof/Machine/Boundary.lean ====
section
/-!
DEFINITION. Frame, epoch and distillation boundaries of a lane (R12, R28, R29), the lane PLL and signal events (R71,
R75, R112), and the profile change (R149, R168, R169).
-/
namespace Sys2Proof.Machine

/-! ### Retrains (R84, R91) -/

/-- A control forces a retrain of the lane's receive side (R91): the chain acquires from its initial set, and in Deep the tracker hunts.
A control of the transmit side retrains the far end, which sees its signal change (notes/assumptions/93.md). -/
def retrainLane (n : Fin 8) (s : State) : State :=
  hostFollow (trackerDrop n (atlasUnlocked n (reacquire n s)))

/-- The lane's data stop with no loss of its clock: the chain holds, and in Deep the tracker drops. -/
def receiveStop (n : Fin 8) (s : State) : State := hostFollow (trackerDrop n (atlasUnlocked n (enterHold n s)))

/-- GO of LINE_CAL_CMD on one selected lane (R84): its input is isolated and its DAC muted; with FORCE = 1 the lane retrains (R91). -/
def calGoLane (n : Fin 8) (steps : Nat) (force : Bool) (s : State) : State :=
  let cs := R.LINE_CAL_STATUS n
  if s.flag cs F.LINE_CAL_STATUS_RUNNING then s.setFld cs F.LINE_CAL_STATUS_REFUSED 1
  else if (carriesTraffic s n || lenOut s n) && !force then s.setFld cs F.LINE_CAL_STATUS_REFUSED 1
  else
    let s := s.setFld cs F.LINE_CAL_STATUS_RUNNING 1
    let s := muteUpdate n (modLine n (fun l => { l with calSteps := steps, bgPend := none, bgBadCnt := 0 }) s)
    let s := receiveStop n s
    if force then modRx n (fun r => { r with useInit := true }) s else s

/-- GO of LINE_CAL_CMD (R84), from the register as written. -/
def calGo (s : State) : State :=
  let lanes := s.fld R.LINE_CAL_CMD F.LINE_CAL_CMD_LANES
  let steps := s.fld R.LINE_CAL_CMD F.LINE_CAL_CMD_STEPS
  let force := s.flag R.LINE_CAL_CMD F.LINE_CAL_CMD_FORCE
  forLanes (fun n s => if bitOf lanes n then calGoLane n steps force s else s) s

/-- CONVERTER_CAL_DONE: a run in progress on the lane ends with the measured results, and the lane relocks (R84). -/
def calDone (n : Fin 8) (c : CalResult) (s : State) : State :=
  if s.flag (R.LINE_CAL_STATUS n) F.LINE_CAL_STATUS_RUNNING then hostFollow (rxResume n (calEnd n false s.line[n].calSteps c s)) else s

/-! ### Which boundary a command brings (R12, R28) -/

/-- The three boundaries. -/
inductive Bound where
  | frame | epoch | period
  deriving DecidableEq, Repr

/-- The frame boundary behind `cnt` frames is an epoch boundary: the count becomes a multiple of 1,024, or the epoch is realigned (R28,
R107). -/
def epochEnds (cnt : Nat) (realign : Bool) : Bool := realign || (cnt + 1) % 1024 == 0

/-- The next frame boundary of a side, behind `cnt` frames and `epochs` epochs, is one of the kind (R28; notes/assumptions/111.md). -/
def boundComes (b : Bound) (cnt epochs : Nat) (realign : Bool) : Bool :=
  match b with
  | .frame => true
  | .epoch => epochEnds cnt realign
  | .period => epochEnds cnt realign && (epochs + 1) % 1024 == 0

/-! ### Pipes of the FEC block (R35) -/

/-- A lane's encoder or decoder pipe restarts: it empties, and the `poison` KP4 codewords in it are poisoned. -/
def pipeRestart (n : Fin 8) (tx : Bool) (poison : Nat) (s : State) : State :=
  if tx then poisonTx n poison s else poisonRx n poison { s with cores := s.cores.filter fun c => c.lane != n.val }

/-- The boundary of the side at which a faulty pipe restarts. -/
def pipeBoundary (n : Fin 8) (tx : Bool) (s : State) : State :=
  match (if tx then s.frm[n].txRestart else s.frm[n].rxRestart) with
  | none => s
  | some k => pipeRestart n tx k (modFrm n (fun f => if tx then { f with txRestart := none } else { f with rxRestart := none }) s)


/-! ### The transmit side -/

/-- The lanes on which a transmit boundary of a lane acts (R29): those of its lane-spread port whose counters run, else itself. -/
def txLanes (s : State) (n : Fin 8) : List (Fin 8) := (spreadLanes s n).filter fun k => s.line[k].txRun

/-- The lane that carries time-transfer messages. -/
def ttLane (s : State) : Fin 8 := lane (s.fld R.SEEP_CFG F.SEEP_CFG_TT_LANE)

/-- The frame in transmission on the lane carries the timing-marker flag (R151, R229). -/
def txMarked (s : State) (n : Fin 8) : Bool :=
  (spreadLanes s (ttLane s)).contains n && s.tod.tmfDue == some (s.line[ttLane s].txCnt % 2 ^ 32)

/-- The header of the frame that ends on the lane, for its J (R151). -/
def headerOf (s : State) (n : Fin 8) (j : Nat) : Nat :=
  mkHeader s.line[n].txCnt j (txMarked s n) n (portOfLane s n) (portCfg s)

/-- The symbols of the frame that ends on the lanes, each with those that follow it: in Deep the next header's first (R150). Codewords are
spread over all lanes of a lane-spread port, those whose converters stand still among them (R158). -/
def txSymbols (lanes : List (Fin 8)) (d : FrameData) (s : State) : List (Fin 8 × List Nat × List Nat) × State :=
  match lanes with
  | [] => ([], s)
  | lead :: _ =>
    if profileEff s = .deep then
      let all := spreadLanes s lead
      let (l, s) := deepFrame (spreadLead s lead) all d.host (headerOf s) s
      (((all.zip l).filter fun p => lanes.contains p.1).map fun p => (p.1, p.2, (bitsToSyms (msbBits 64 syncWord)).take 3), s)
    else
      let (l, s) := plainFrame lead d.host s
      ([(lead, l, d.ahead)], s)

/-- The frame that ends goes through framing, coding, the transmit pumps and to the DACs (R22), with the seep depth in force (R193); the
pumps run in Active and S1 (R346). -/
def txStream (lanes : List (Fin 8)) (d : FrameData) (s : State) : State :=
  if !dataOn s then s
  else
    let (l, s) := txSymbols lanes d s
    l.foldl (fun s p => txFrame p.1 p.2.1 p.2.2 (if seepEn s p.1 then seepDepth s p.1 else 0) s) s

/-- What a transmit frame boundary brings into force on a lane (R12, R29, R35, R54, R56, R86, R88, R138, R184). -/
def txFrameWork (n : Fin 8) (s : State) : State :=
  let s := laneBitApply R.LINE_LEN_CTRL F.LINE_LEN_CTRL_MUTE n (pipeBoundary n true s)
  let s := feTxApply n s
  let s := match s.line[n].calTx with
    | some p => calApplyTx n p (modLine n (fun l => { l with calTx := none }) s)
    | none => s
  let s := fillBoundary n (pdApplyBoundary n (presetTxStep n s))
  muteAtBoundary n (moveBoundary n s)

/-- The transmit side's EPOCH values of a lane come into force (R29, R86, R137). -/
def txEpochFields (n : Fin 8) (s : State) : State := txParamsApply n (bandApply n false (tbpTxApply n s))

/-- A transmit boundary of the lanes given, which share it (R13, R28, R29, R172). -/
def txBoundary (lanes : List (Fin 8)) (d : FrameData) (s : State) : State :=
  let s := txStream lanes d s
  let s := if lanes.any (txMarked s) then { s with tod := { s.tod with tmfDue := none } } else s
  let s := lanes.foldl (fun s n =>
    let l := s.line[n]
    let e := epochEnds l.txCnt false
    let s := modLine n (fun l => { l with txCnt := l.txCnt + 1, txEpochs := if e then l.txEpochs + 1 else l.txEpochs, txHeld := false }) s
    let s := txFrameWork n s
    txPumpsLoad n (if e || l.txHeld then txEpochFields n s else s)) s
  match lanes with
  | [] => s
  | n :: _ => if s.line[n].txCnt % 1024 = 0 then justEpoch (spreadLead s n) lanes s else s

/-! ### The receive side -/

/-- The receive frame that ends goes from the ADC to the seep chains (R44), and in Active and S1 through the receive pumps (R23, R43,
R346). -/
def rxStream (n : Fin 8) (d : FrameData) (s : State) : State :=
  let s := seepTee n d.samples s
  if !dataOn s then s
  else frameArrived n (rxFrame n d.samples d.ahead d.cuts (atlasFrame n s.sig[n].y.length s))

/-- What a receive frame boundary brings into force and closes (R12, R29, R35, R80, R86, R90, R91, R113, R117, R172, R184). -/
def rxFrameWork (n : Fin 8) (s : State) : State :=
  let pol := s.actFld (R.LINE_FE_CFG n) F.LINE_FE_CFG_RX_POL
  let s := fecRxApply n (fePolApply n (pipeBoundary n false s))
  let s := if s.actFld (R.LINE_FE_CFG n) F.LINE_FE_CFG_RX_POL = pol then s else retrainLane n s
  let s := match s.line[n].calRx with
    | some p => calApplyRx n p (modLine n (fun l => { l with calRx := none }) s)
    | none => s
  failBoundary n (hostFollow (restartAtBoundary n (presetRxStep n s)))

/-- The receive side's EPOCH values of a lane come into force, with what a change of parameters brings (R12, R29, R66, R86, R90, R117,
R118, R145). -/
def rxEpochFields (n : Fin 8) (s : State) : State :=
  let s := atlasRetarget n s (rxParamsApply n s)
  let s := s.setActFld (R.WELL_RX_CTRL n) F.WELL_RX_CTRL_ADAPT_EN (s.fld (R.WELL_RX_CTRL n) F.WELL_RX_CTRL_ADAPT_EN)
  let s := s.setActFld (R.WELL_ROT_CFG n) F.WELL_ROT_CFG_ROT_EPOCHS (s.fld (R.WELL_ROT_CFG n) F.WELL_ROT_CFG_ROT_EPOCHS)
  detFollow n (icalApply n (bandApply n true (tbpRxApply n (feRxApply n s))))

/-- Adaptation and acquisition at a receive epoch boundary (R105, R108, R110, R113). A restart that took effect at this
boundary discards the pending set (R114). -/
def rxEpochAdapt (n : Fin 8) (restarted : Bool) (s : State) : State :=
  let s := if restarted then modRx n (fun r => { r with pend := none }) s else s
  let before := rxState s n
  let s := acqEpoch n restarted (adaptBoundary n s)
  if before ≠ 3 ∧ rxState s n = 3 then hostFollow (atlasLocked n s) else s

/-! #### Budget and slack (R45, R62, R63, R66) -/

/-- A use of `w` operations per block, in 1/256 of `cap` operations per cycle (R66). The rounding to the nearest, halves up, and the limit of
255 are the model's choice (notes/assumptions/98.md). -/
def utilOf (s : State) (n : Fin 8) (w cap : Nat) : Nat :=
  let d := rxBlockLen s * 1000 * max 1 cap
  min 255 ((2 * w * samplesPerCycle (laneRateCode s n) * 256 + d) / (2 * d))

/-- Budget and slack figures of the epoch that ended (R66), with the cycle counts of the shipped kernels (notes/assumptions/98.md): a pump
that has held a slot for a part of the epoch has the slack of that part. -/
def slackFigures (n : Fin 8) (s : State) : State :=
  let s := (List.range 64).foldl (fun s m => noteSlack n m s) s
  let k := (pumpsIn s n 1).length
  let b := R.WELL_BUDGET n
  let s := s.setFld b F.WELL_BUDGET_MAC_UTIL (utilOf s n (rxWork s n).1 (k * 128))
  let s := s.setFld b F.WELL_BUDGET_ACS_UTIL (utilOf s n (rxWork s n).2 (k * 32))
  let s := s.setFld b F.WELL_BUDGET_SLACK_MIN ((List.range 64).foldl (fun v m => min v (pumpMem s n m).slack) 0xFFFF)
  (List.range 64).foldl (fun s m =>
    modPump n m (fun p => { p with slack := 0xFFFF }) (s.setReg (R.PUMP_SLACK n m) (word (pumpMem s n m).slack))) s

/-- The receive side of a lane at a receive epoch boundary: the epoch that ended is closed, the EPOCH values come into force, and the next
epoch begins. -/
def rxEpochWork (n : Fin 8) (restarted : Bool) (d : FrameData) (s : State) : State :=
  let s := rxEpochAdapt n restarted (slackFigures n s)
  let s := bgEpoch n (overRange n s)
  let s := fecRxEpoch n (rxEpochFields n s)
  let s := atlasEpoch n ((s.line[n].rxEpochs + 1023) % 1024) d.atlasUe s
  let s := if (s.cis.capture.map (·.lane)) = some n.val
    then { s with cis := { s.cis with capEffort := s.fld R.THM_STATUS F.THM_STATUS_EFFORT } } else s
  let s := { s with well := vmod s.well n fun w => { w with rotDue := decide (s.line[n].rxEpochs % rotEpochs s n = 0) } }
  adaptNext n (detFollow n s)

/-- The well's quiet restart of a profile change at the first frame boundary after its lane PLL locks (R169). -/
def quietSwitch (n : Fin 8) (s : State) : State :=
  if s.well[n].quiet && s.well[n].restarting then detFollow n (rxParamsFollow n s (atlasWellRestart n (wellRestart n 0 0 s))) else s

/-- A receive boundary of a lane (R13, R28): the frame that ends, FRAME values, and at an epoch boundary the epoch and, every 1,024 epochs,
the distillation period. -/
def rxBoundary (n : Fin 8) (d : FrameData) (s : State) : State :=
  let s := rxStream n d s
  let l := s.line[n]
  let restarted := s.rx[n].restartPend || s.rx[n].startPend ||
    s.fld (R.LINE_FE_CFG n) F.LINE_FE_CFG_RX_POL != s.actFld (R.LINE_FE_CFG n) F.LINE_FE_CFG_RX_POL
  let e := epochEnds l.rxCnt l.realign
  let ep := if e then l.rxEpochs + 1 else l.rxEpochs
  let s := modLine n (fun l => { l with rxCnt := l.rxCnt + 1, rxEpochs := ep, rxHeld := false, realign := l.realign && !e }) s
  let s := quietSwitch n (rxFrameWork n s)
  let s := if e then rxEpochWork n restarted d s else if l.rxHeld then rxEpochFields n s else s
  let s := if e && ep % 1024 == 0 then distBoundary n s else s
  rxPumpsLoad n s

/-- A boundary of a lane's transmit or receive frame. Nothing happens while the counter does not run (R13), nor where the next frame boundary
is none of the kind that the command names (R28). -/
def boundary (n : Fin 8) (rx : Bool) (b : Bound) (d : FrameData) (s : State) : State :=
  let l := s.line[n]
  if rx then (if l.rxRun && boundComes b l.rxCnt l.rxEpochs l.realign then rxBoundary n d s else s)
  else (if l.txRun && boundComes b l.txCnt l.txEpochs false then txBoundary (txLanes s n) d s else s)

/-! ### Lane PLL and signal events (R71, R75, R112) -/

/-- A lane PLL that was started locks (R28, R75): frame counters start at 0, and the chain starts or resumes. The transmit frames of a
lane-spread port are aligned, so its lanes start again together (R29; notes/assumptions/99.md). DESIGN CHOICE: a distillation in progress
is dropped, neither late nor aborted, where R127 does not say (notes/assumptions/141.md). -/
def lanePllLock (n : Fin 8) (s : State) : State :=
  if !s.line[n].pllOn ∨ s.flag (R.LINE_PLL_STATUS n) F.LINE_PLL_STATUS_LOCK then s
  else
    let s := s.setFld (R.LINE_PLL_STATUS n) F.LINE_PLL_STATUS_LOCK 1
    let s := modLine n (fun l => { l with pllEver := true, txRun := true, txHeld := true, rxRun := true, rxHeld := true,
                                          rxCnt := 0, rxEpochs := 0, realign := false }) s
    let s := (spreadLanes s n).foldl (fun s k => modLine k (fun l => { l with txCnt := 0, txEpochs := 0 }) s)
      { s with tod := { s.tod with tmfDue := none } }
    let s := if profileEff s = .deep then s
             else s.setFld (R.WELL_FRM_STATUS n) F.WELL_FRM_STATUS_STATE 3
    hostFollow (rxResume n (distStart n 0 s))

/-- The justification buffer of a lane is emptied: the host bits in it are gone (R154). -/
def justEmpty (n : Fin 8) (s : State) : State :=
  passPoison true n s.frm[n].txBuf.length (modFrm n (fun f => { f with bPrev := none, txBuf := [] }) s)

/-- The streams of a lane end: what the well and the framer hold of them goes, but for the timing loop. The framer of a lane-spread port
goes on while another of its lanes transmits. -/
def streamsEnd (n : Fin 8) (s : State) : State :=
  let s := if (txLanes s n).isEmpty then (spreadLanes s n).foldl (fun s k => justEmpty k s) s else s
  modFrm n (fun f => { f with cwNext := 1024 })
    (modSig n (fun g => { trecI := g.trecI, trecPhi := g.trecPhi, pos := g.pos, nSamp := g.nSamp, nOver := g.nOver, ical := g.ical }) s)

/-- The converters' clocks stop (R75): counters stop, the DAC mutes, the chain holds and the tracker drops. BIASMOD takes the seep frame
in progress over from the pumps (R193). -/
def laneClockStop (n : Fin 8) (s : State) : State :=
  let s := s.setFld (R.LINE_PLL_STATUS n) F.LINE_PLL_STATUS_LOCK 0
  let s := muteUpdate n (modLine n (fun l => { l with txRun := false, rxRun := false }) s)
  biasClip n (receiveStop n (streamsEnd n s))

/-- LANE_PLL_LOL: the lane PLL loses lock (R75). -/
def lanePllLol (n : Fin 8) (s : State) : State :=
  if !s.flag (R.LINE_PLL_STATUS n) F.LINE_PLL_STATUS_LOCK then s
  else
    let s := s.raise1 (R.LINE_PLL_STATUS n) F.LINE_PLL_STATUS_LOL (160 + 8 * n)
    laneClockStop n (s.addSat (R.LINE_PLL_STATUS n) F.LINE_PLL_STATUS_LOL_COUNT 1)

/-- ADC_EN of a lane goes from 0 to 1: the lane retrains (R91, R110). -/
def adcEnabled (n : Fin 8) (s : State) : State := hostFollow (rxResume n (retrainLane n s))

/-- SIGNAL_DETECT: light above the threshold for 8 µs (R71). The detector runs once the lane PLL has locked. -/
def signalDetect (n : Fin 8) (s : State) : State :=
  let a := R.LINE_FE_STATUS n
  if s.line[n].pllEver ∧ s.flag (R.LINE_FE_CFG n) F.LINE_FE_CFG_ADC_EN ∧ !s.flag a F.LINE_FE_STATUS_SIG_DET then
    hostFollow (rxResume n (s.setFld a F.LINE_FE_STATUS_SIG_DET 1))
  else s

/-- SIGNAL_LOSS: the signal is gone for 8 µs (R71, R112). -/
def signalLoss (n : Fin 8) (s : State) : State :=
  let a := R.LINE_FE_STATUS n
  if s.flag a F.LINE_FE_STATUS_SIG_DET then
    let s := (s.setFld a F.LINE_FE_STATUS_SIG_DET 0).raise1 a F.LINE_FE_STATUS_SIG_LOSS (160 + 8 * n + 1)
    hostFollow (atlasUnlocked n (enterHold n s))
  else s

/-- RX_LOSS_OF_LOCK with what follows it outside the chain (R113, R141, R184). -/
def rxLossOfLockStep (n : Fin 8) (s : State) : State :=
  let s' := rxLossOfLock n s
  if s'.rx[n].startPend && !s.rx[n].startPend then hostFollow (atlasUnlocked n s') else s'

/-! ### Profile change (R149, R168, R169) -/

/-- Step 3 of a profile change on one well: it loads the recipe of R169, whatever was pending, or refuses it (R51). -/
def profileLoad (n : Fin 8) (p : Profile) (kbd : Nat) (s : State) : State :=
  let st := R.WELL_RX_STATUS n
  let want := s.fld st F.WELL_RX_STATUS_REACH_EFF
  let s := cancelSwitch n s
  match profileRecipe s.pumps p kbd want with
  | none => s
  | some (i, r) =>
    let s := if r.reach = want then s else s.raise1 st F.WELL_RX_STATUS_REACH_ERR (32 + 16 * n + 12)
    if s.pumps.intact && recipeFits s n r then
      beginLoad n { sel := i, bank := otherBank s n, auto := false, recipe := r, prof := true } s
    else loadErr n s

/-- RATE of the lane changes: the seep chains fed from its ADC restart (R202). -/
def rateChange (n : Fin 8) (rate : Nat) (s : State) : State :=
  let s := s.setFld (R.LINE_PLL_CFG n) F.LINE_PLL_CFG_RATE rate
  forLanes (fun k s =>
    if s.actFld (R.SEEP_LN_CFG k) F.SEEP_LN_CFG_IN_LANE = n.val ∧ !s.flag (R.SEEP_LN_STATUS k) F.SEEP_LN_STATUS_INPUT
    then seepUnsettle k none s else s) s

/-- The KP4 codewords in flight toward the host are poisoned (R168 step 2), `poison` of them on each lane: what is in the decoders, which
leaves with hard decisions, and what waits for termination goes to the host so. -/
def flightPoisoned (poison : Nat) (s : State) : State :=
  let s := forLanes (fun n s => poisonBits false n s.frm[n].rxPos s.frm[n].oct.length (poisonRx n poison s)) s
  let s := s.cores.foldl (fun s w =>
    deframe (lane w.lane) w.idx w.carried true ((w.llr.take 960).map fun (x : Int) => ({ bit := decide (x < 0) } : PayBit)) s)
    { s with cores := [] }
  forLanes (fun n s => octPass n s.frm[n].oct.length s) s

/-- Steps 2 and 3 of a profile change on one lane (R168): its DAC muted, its path emptied, the tables reset, the PLL at the new rate, the
tracker and the chain started afresh. The host's stream goes on. -/
def profileLane (n : Fin 8) (p : Profile) (rate : Nat) (s : State) : State :=
  let s := { s with light := vmod s.light n fun l => { l with muted := true } }
  let s := justEmpty n (streamsEnd n (atlasUnlocked n s))
  let relock := decide (s.fld (R.LINE_PLL_CFG n) F.LINE_PLL_CFG_RATE ≠ rate) || !s.line[n].pllOn
  let s := if relock then
      rateChange n rate (modLine n (fun l => { l with pllOn := true, txRun := false, rxRun := false })
        (s.setFld (R.LINE_PLL_STATUS n) F.LINE_PLL_STATUS_LOCK 0))
    else s
  let s := s.setFld (R.WELL_FRM_STATUS n) F.WELL_FRM_STATUS_STATE (if p = .deep then 0 else 3)
  let s := modFrm n (fun f => { prbs := f.prbs, txPos := f.txPos, txBase := f.txBase, txMarks := f.txMarks, txSeen := f.txSeen }) s
  let s := modRx n (fun r => { r with useInit := true, pend := none, sums := none, adaptRun := false, skip := true }) s
  let s := if rxState s n = 0 then s else setRxState n 4 s
  biasClip n (profileLoad n p (rateKbd rate) (tablesReset n s))

/-- Whether a written combination is refused: R148 does not list it, or the image holds no recipe for it (R149). -/
def profileRefused (prof leg cfg : Nat) (s : State) : Bool :=
  !comboOk prof (leg == 1) cfg ||
    (profileRecipe s.pumps (profOf prof) (rateKbd (rateOf (profOf prof) (leg == 1))) 0).isNone

/-- The values written are those in force, so APPLY has no effect (R149). -/
def profileSame (prof leg cfg : Nat) (s : State) : Bool :=
  s.line[(0 : Fin 8)].pllOn && s.fld R.FEC_PROFILE F.FEC_PROFILE_PROFILE_EFF == prof &&
    s.fld R.FEC_PROFILE F.FEC_PROFILE_LEGACY_EFF == leg && s.fld R.FEC_PROFILE F.FEC_PROFILE_PORT_EFF == cfg

/-- Steps 1 to 3 of an accepted profile change (R168). A change of port configuration or of LEGACY gives the transmit-direction monitors
other markers to find, so they lose their lock (R186; notes/assumptions/131.md). -/
def profileStart (prof leg cfg poison : Nat) (s : State) : State :=
  let a := R.FEC_PROFILE
  let p := profOf prof
  let s := forLanes (fun n s => s.setFld (R.LINE_PLL_CFG n) F.LINE_PLL_CFG_STEER_LANE (steerLane s n)) s
  let s := flightPoisoned poison (s.setFld a F.FEC_PROFILE_BUSY 1)
  let s := if portCfg s = cfg && s.fld a F.FEC_PROFILE_LEGACY_EFF == leg then s
    else forLanes (fun q s => if portExists s q then monLose q 0 s else s) s
  let s := s.setFld a F.FEC_PROFILE_PROFILE_EFF prof
  let s := s.setFld a F.FEC_PROFILE_LEGACY_EFF leg
  let s := s.setFld a F.FEC_PROFILE_PORT_EFF cfg
  let s := atlasClearLanes 255 s
  let s := forLanes (fun n s => profileLane n p (rateOf p (leg == 1)) s) s
  let s := forLanes (fun n s => modLine n (fun l => { l with steer := 0, steerAt := s.now }) s) s
  hostFollow (octFollow (rateFollow s))

/-- PROFILE_CHANGE_DONE: steps 4 and 5 end (R168, R169). PLLs and loads that have not completed by their own rows complete
here; each well that has not yet met a frame boundary switches to its new recipe; then the DACs unmute and acquisition starts. -/
def profileDone (s : State) : State :=
  if !profileBusy s then s
  else
    let s := forLanes (fun n s =>
      let s := lanePllLock n s
      let s := if (s.well[n].load.map (·.prof)) = some true then recipeLoadDone n [] s else s
      quietSwitch n s) s
    let s := s.setFld R.FEC_PROFILE F.FEC_PROFILE_BUSY 0
    hostFollow (forLanes (fun n s => rxResume n (muteAtBoundary n s)) s)

end Sys2Proof.Machine
end

