-- ==== Sys2Proof/Machine/Timing.lean ====
section
/-!
DEFINITION. The time-of-day counters, their sources and servo, outputs and inputs (R220 to R237, R244 to R251 of
spec/09_timing.md). Holdover's learning and prediction are in Holdover.lean.
-/
namespace Sys2Proof.Machine

/-- Updates the time-transfer unit. -/
def modTod (g : TodSt → TodSt) (s : State) : State := { s with tod := g s.tod }

/-- An inexact quotient whose rounding the spec does not name: the value below or above, as the free value says. -/
def roundFree (num : Int) (den : Nat) (s : State) : Int × State :=
  if den = 0 ∨ num % (den : Int) = 0 then (num / den, s)
  else
    let (b, s) := s.fresh 1
    (num / den + b, s)

/-! ### The counters (R220 to R222) -/

/-- 2^52 and one second in 2^-52 ns. -/
def fracOne : Nat := 4503599627370496
def secOne : Nat := 1000000000 * fracOne

/-- A counter as a number of 2^-52 ns, and back; the seconds have 48 bits. -/
def Tod.toNat (t : Tod) : Nat := (t.sec * 1000000000 + t.ns) * fracOne + t.frac
def todOf (x : Nat) : Tod :=
  { sec := x / secOne % 2 ^ 48, ns := x / fracOne % 1000000000, frac := x % fracOne }
def todOfInt (x : Int) : Tod := todOf (x % ((2 ^ 48 * secOne : Nat) : Int)).toNat

/-- A counter's time in 2^-16 ns, the resolution of a timestamp (R215). -/
def Tod.ts (t : Tod) : Int := (t.sec * 1000000000 + t.ns) * 65536 + t.frac / 2 ^ 36

/-- SLEW_MAX in 1e-15; 0 is taken as 1 (R222, R253). -/
def slewMax (s : State) : Nat := max 1 (s.fld R.TOD_SLEW F.TOD_SLEW_SLEW_MAX) * 100000000

/-- The slew term of a slew in progress. -/
def slewTerm (s : State) : Int :=
  if s.tod.slewLeft = 0 then 0 else if 0 < s.tod.slewLeft then s.tod.slewRate else -(s.tod.slewRate : Int)

/-- y of R220: FREQ_ADJ and the slew term, the latter within SLEW_MAX. -/
def todY (s : State) : Int := s.tod.freq + clampInt (-(slewMax s : Int)) (slewMax s) (s.tod.slew + slewTerm s)

/-- REFCLK is lost: the counters run on the ring oscillator (R245). -/
def refLost (s : State) : Bool := s.flag R.TOD_STATUS F.TOD_STATUS_REFCLK_LOST

/-- 1.6 ns × (1 + y) rounded to 2^-52 ns, or the ring's calibrated period × (1 + y) (R220, R245). -/
def incOf (s : State) (y : Int) : Nat :=
  let scaled (base den : Nat) : Nat := ((2 * (base : Int) * (1000000000000000 + y) + den) / (2 * den)).toNat
  if refLost s then scaled s.tod.ringPeriod 1000000000000000
  else scaled (8 * fracOne) 5000000000000000

/-- INC in force, and what it is without the term of a slew in progress. -/
def todInc (s : State) : Nat := incOf s (todY s)
def bareInc (s : State) : Nat := incOf s (s.tod.freq + clampInt (-(slewMax s : Int)) (slewMax s) s.tod.slew)

/-- What a slew in progress corrects in one increment. -/
def slewPer (s : State) : Nat := max (todInc s) (bareInc s) - min (todInc s) (bareInc s)

/-- DIFF shows |A − B| in 1.6 ns (R225). -/
def diffFollow (s : State) : State :=
  let a := s.tod.a.toNat
  let b := s.tod.b.toNat
  s.setFld R.TOD_CMP F.TOD_CMP_DIFF (min 0xFFFF ((max a b - min a b) * 5 / (8 * fracOne)))

/-- FREQ_ADJ comes into force, within ±500 ppm; TOD_FREQ_LO shows its low half (R221). -/
def setFreq (f : Int) (s : State) : State :=
  let f := clampInt (-500000000000) 500000000000 f
  (modTod (fun t => { t with freq := f }) s).setReg R.TOD_FREQ_LO (word (unsigned 48 f))

/-! ### Validity and outputs (R236, R248, R250, R251) -/

/-- The servo's state: 0 FREERUN, 1 ACQUIRE, 2 LOCKED, 3 HOLDOVER. -/
def servo (s : State) : Nat := s.fld R.TOD_STATUS F.TOD_STATUS_STATE

/-- UNC_LIMIT in ns; 0 is taken as 1. -/
def uncLimit (s : State) : Nat := max 1 (s.fld R.TOD_UNC_CFG F.TOD_UNC_CFG_UNC_LIMIT)

/-- TOD_UNC is within UNC_LIMIT. -/
def uncOk (s : State) : Bool := decide (s.fld R.TOD_UNC F.TOD_UNC_UNC ≤ uncLimit s)

/-- θ as a magnitude is at most so many ns. -/
def thetaWithin (th : Int) (ns : Nat) : Bool := decide (th.natAbs ≤ ns * 131072000)

/-- The condition of the servo state in force (R236). -/
def servoValid (s : State) : Bool :=
  match servo s with
  | 1 => s.tod.held && uncOk s && thetaWithin s.tod.theta (uncLimit s)
  | 2 => uncOk s && s.tod.srcValid
  | 3 => uncOk s
  | _ => false

/-- TOD_VALID as R251 gives it. -/
def validNow (s : State) : Bool :=
  servoValid s && !s.flag R.TOD_STATUS F.TOD_STATUS_NO_MAJORITY && !sgTripped s 2

/-- CLKOUT_REC is held low (R250). -/
def clkoutLow (s : State) : Bool :=
  let a := R.TOD_CLKOUT
  let lane := s.fld a F.TOD_CLKOUT_LANE
  s.fld a F.TOD_CLKOUT_FREQ == 3 || (s.flag a F.TOD_CLKOUT_SQUELCH_EN &&
    (if s.flag a F.TOD_CLKOUT_SRC then rxState s lane != 3 || deepSleep s
     else !s.flag R.TOD_STATUS F.TOD_STATUS_VALID))

/-- TOD_VALID, PPS_OUT's squelch and CLKOUT_REC's follow (R236, R248, R250, R251). A fall of TOD_VALID sets VALID_FALL,
drives PPS_OUT low, and ends the validity that ACQUIRE holds. -/
def validFollow (s : State) : State :=
  let st := R.TOD_STATUS
  let v := validNow s
  let fall := s.flag st F.TOD_STATUS_VALID && !v
  let s := s.setFld st F.TOD_STATUS_VALID (b2n v)
  let s := if fall then modTod (fun t => { t with held := false }) (s.raise1 st F.TOD_STATUS_VALID_FALL 361) else s
  let on := v && s.flag R.TOD_CTRL F.TOD_CTRL_PPS_OUT_EN
  let s := s.setFld st F.TOD_STATUS_PPS_SQUELCH (b2n !on)
  let s := modTod (fun t => { t with ppsHigh := t.ppsHigh && on }) s
  s.setFld R.TOD_CLKOUT F.TOD_CLKOUT_SQUELCHED (b2n (clkoutLow s))

/-- A trip of SG2 with its cause; the safe state acts through TOD_VALID (R365). -/
def sg2Trip (cause : Nat) (s : State) : State :=
  let s := if sgEnabled s 2 then s.setFld R.SAF_SG2_STATUS F.SAF_SG2_STATUS_CAUSE cause else s
  validFollow (modTod (fun t => { t with readGood := 0 }) (sgTrip 2 s))

/-- TOD_UNC set to a number of 1e-16 ns, saturating. -/
def setUnc (x : Nat) (s : State) : State :=
  (modTod (fun t => { t with uncFine := x % 10000000000000000 }) s).setFld R.TOD_UNC F.TOD_UNC_UNC
    (min 0xFFFFFFFF (x / 10000000000000000))

/-- TOD_UNC in 1e-16 ns. -/
def uncNow (s : State) : Nat := s.fld R.TOD_UNC F.TOD_UNC_UNC * 10000000000000000 + s.tod.uncFine

/-- Growth of TOD_UNC in one counter cycle, in 1e-16 ns: RING_UNC_PPM of 5 ns on the ring, the rate that K2 wrote of 1.6 ns
in HOLDOVER (R241, R245). -/
def uncGrowth (s : State) : Nat :=
  if refLost s then max 1 (s.fld R.TOD_UNC_CFG F.TOD_UNC_CFG_RING_UNC_PPM) * 50000000000
  else if servo s = 3 ∨ s.flag R.TOD_STATUS F.TOD_STATUS_DEGRADED then s.fld R.TOD_UNC_RATE F.TOD_UNC_RATE_RATE * 16
  else 0

/-! ### Servo states and steps -/

/-- The servo enters a state; any change sets STATE_EV (R236). -/
def servoTo (v : Nat) (s : State) : State :=
  if servo s = v then s
  else
    let held := s.flag R.TOD_STATUS F.TOD_STATUS_VALID && servo s != 0
    let s := s.setFld R.TOD_STATUS F.TOD_STATUS_STATE v
    let s := modTod (fun t => { t with good := 0, first := v == 1, held := v == 1 && held,
                                       slew := if v = 1 ∨ v = 2 then t.slew else 0,
                                       fixedFreq := if v = 0 ∨ v = 3 then t.freq else t.fixedFreq }) s
    let s := if v = 0 ∨ v = 3 then s.setFld R.TOD_STATUS F.TOD_STATUS_METHOD 0 else s
    validFollow (s.raise1 R.TOD_STATUS F.TOD_STATUS_STATE_EV 360)

/-- A step: both counters load a value in one cycle (R222, R225). A no-majority ends. -/
def todStep (v : Tod) (s : State) : State :=
  let s := modTod (fun t => { t with a := v, b := v }) s
  let s := (s.setFld R.TOD_CMP F.TOD_CMP_INTACT_A 1).setFld R.TOD_CMP F.TOD_CMP_INTACT_B 1
  let s := s.setFld R.TOD_STATUS F.TOD_STATUS_NO_MAJORITY 0
  diffFollow (s.setFld R.TOD_STATUS F.TOD_STATUS_STEP_EV 1)

/-- A slew by an amount starts; its rate within SLEW_MAX is open (R222). -/
def todSlew (amount : Int) (s : State) : State :=
  let (r, s) := s.fresh 34
  modTod (fun t => { t with slewLeft := t.slewLeft + amount, slewRate := clampNat 1 (slewMax s) r }) s

/-! ### A capture and the SECOND apply point (R223, R224, R248) -/

/-- The selected counter goes to the snapshot registers (R224). -/
def todCapture (s : State) : State :=
  let t := if s.flag R.TOD_SNAP_CTRL F.TOD_SNAP_CTRL_SEL then s.tod.b else s.tod.a
  let s := s.setFld R.TOD_SNAP_NS F.TOD_SNAP_NS_NS t.ns
  let s := s.setFld R.TOD_SNAP_SEC_LO F.TOD_SNAP_SEC_LO_SEC_LO t.sec
  let s := s.setFld R.TOD_SNAP_SEC_HI F.TOD_SNAP_SEC_HI_SEC_HI (t.sec / 2 ^ 32)
  s.setFld R.TOD_SNAP_SEC_HI F.TOD_SNAP_SEC_HI_FRAC (t.frac / 2 ^ 36)

/-- The 48-bit seconds of TOD_SET_SEC. -/
def setSec (s : State) : Nat :=
  s.fld R.TOD_SET_SEC_LO F.TOD_SET_SEC_LO_SEC_LO + s.fld R.TOD_SET_SEC_HI F.TOD_SET_SEC_HI_SEC_HI * 2 ^ 32

/-- PPS_OUT rises, displaced from the wrap by OUT_DELAY, for WIDTH milliseconds (R248). -/
def ppsOutRise (s : State) : State :=
  let c := R.TOD_PPS_CFG
  modTod (fun t => { t with ppsHigh := true, ppsOfs := signed 16 (s.fld c F.TOD_PPS_CFG_OUT_DELAY),
                            ppsWidth := max 1 (s.fld c F.TOD_PPS_CFG_WIDTH) }) s

/-- What the wrap of counter A does: a waiting seconds set, the SECOND fields, PPS_OUT, and a capture with ON_PPS. -/
def secondWork (s : State) : State :=
  let s := if s.flag R.TOD_SET_CTRL F.TOD_SET_CTRL_PEND then
      let v := setSec s
      (modTod (fun t => { t with a := { t.a with sec := v }, b := { t.b with sec := v } }) s).setFld
        R.TOD_SET_CTRL F.TOD_SET_CTRL_PEND 0
    else s
  let s := diffFollow s
  let s := s.setActFld R.TOD_MSG_CFG F.TOD_MSG_CFG_UTC_OFS (s.fld R.TOD_MSG_CFG F.TOD_MSG_CFG_UTC_OFS)
  let s := if s.flag R.TOD_STATUS F.TOD_STATUS_VALID && s.flag R.TOD_CTRL F.TOD_CTRL_PPS_OUT_EN
    then ppsOutRise s else s
  if s.flag R.TOD_SNAP_CTRL F.TOD_SNAP_CTRL_ON_PPS then todCapture s else s

/-! ### Time passes -/

/-- What a slew in progress corrects in so many increments: no more than is left of it (R222). -/
def slewSpent (s : State) (steps : Nat) : Int :=
  let d : Nat := min s.tod.slewLeft.natAbs (steps * slewPer s)
  if 0 < s.tod.slewLeft then d else -(d : Int)

/-- Both counters take `steps` increments, a slew in progress its part of them; at its end the slew term and BUSY clear (R220, R222). -/
def todGain (steps : Nat) (s : State) : State :=
  let spent := slewSpent s steps
  let gain : Int := bareInc s * steps + spent
  let s := modTod (fun t => { t with a := todOfInt (t.a.toNat + gain), b := todOfInt (t.b.toNat + gain),
                                     slewLeft := t.slewLeft - spent }) s
  if s.tod.slewLeft = 0 ∧ spent ≠ 0 then s.setFld R.TOD_PHASE F.TOD_PHASE_BUSY 0 else s

/-- The counters take one step of 4 × INC per REFCLK cycle (R244). -/
def todSteps4 (s : State) : Bool := decide (pwrState s = 4) && !refLost s

/-- `k` counter cycles pass within one second: both counters and the uncertainty advance (R220, R241, R244, R245). -/
def todPass (k : Nat) (s : State) : State :=
  let unit := if refLost s then 25 else 8
  let grow := uncGrowth s * k
  let total := s.tod.part + k
  let part := if todSteps4 s then total % 4 else 0
  let s := { s with now := s.now + unit * k }
  let s := todGain (total - part) (modTod (fun t => { t with part := part }) s)
  if grow = 0 then s else validFollow (setUnc (uncNow s + grow) s)

/-- The increments until counter A has gained so much; a slew in progress ends on the way if they exceed what is left of it. -/
def stepsFor (s : State) (gain : Nat) : Nat :=
  let up (x : Int) (d : Nat) : Nat := ((x + d - 1) / (max 1 d : Nat)).toNat
  let k := up gain (todInc s)
  let left := s.tod.slewLeft.natAbs
  if k * slewPer s ≤ left then k else max (up ((gain : Int) - s.tod.slewLeft) (bareInc s)) (left / slewPer s + 1)

/-- The cycles in which the counters take so many increments. -/
def cyclesOf (s : State) (steps : Nat) : Nat := (if todSteps4 s then (steps + 3) / 4 * 4 else steps) - s.tod.part

/-- The cycles until counter A has gained so much. -/
def cyclesFor (s : State) (gain : Nat) : Nat := cyclesOf s (stepsFor s gain)

/-- The cycles to the next wrap of counter A. -/
def cyclesToWrap (s : State) : Nat := cyclesFor s (secOne - s.tod.a.toNat % secOne)

/-- `k` cycles pass, wrap by wrap, for at most so many wraps. -/
def todWraps : Nat → Nat → State → State
  | 0, k, s => todPass k s
  | f + 1, k, s =>
    let w := cyclesToWrap s
    if k < w then todPass k s else todWraps f (k - w) (secondWork (todPass w s))

/-- `k` counter cycles pass, with the work of every wrap at the wrap (R30, R220). -/
def todRun (k : Nat) (s : State) : State := todWraps ((k + 4) * (todInc s + bareInc s) / secOne + 2) k s

/-- TOD_SLEW_DONE: the counters run on to the end of the slew, whose term and BUSY clear (R222). A term that SLEW_MAX leaves no effect
corrects nothing. -/
def slewDone (s : State) : State :=
  if s.tod.slewLeft = 0 then s.setFld R.TOD_PHASE F.TOD_PHASE_BUSY 0
  else if slewPer s = 0 then s
  else todRun (cyclesOf s ((s.tod.slewLeft.natAbs + slewPer s - 1) / slewPer s)) s

/-- TOD_SECOND_WRAP: the counters run on to the wrap of counter A (R30, R220). -/
def todSecondWrap (s : State) : State := todRun (cyclesToWrap s) s

/-- PPS_OUT_FALL: WIDTH milliseconds after its rise PPS_OUT falls (R248). -/
def ppsOutFall (s : State) : State := modTod (fun t => { t with ppsHigh := false }) s

/-- The 16 bytes of a TOD_TX message (R249), for the second that began at the last wrap. -/
def todMessage (s : State) : List Nat :=
  let f (x : Fld) : Nat := s.fld R.TOD_STATUS x
  let sec := s.tod.a.sec
  let flags := f F.TOD_STATUS_VALID + 2 * f F.TOD_STATUS_DEGRADED + 4 * b2n (servo s == 3) + 8 * s.fld R.TOD_CTRL F.TOD_CTRL_SRC
  let utc := s.actFld R.TOD_MSG_CFG F.TOD_MSG_CFG_UTC_OFS
  let unc := min 0xFFFF (s.fld R.TOD_UNC F.TOD_UNC_UNC)
  let body := [1] ++ (List.range 6).map (fun i => sec / 256 ^ (5 - i) % 256) ++
    [flags, utc / 256, utc % 256, unc / 256, unc % 256]
  let crc := crc16 (body.flatMap fun b => (List.range 8).map fun i => bitOf b (7 - i))
  [0xC5, 0x3A] ++ body ++ [crc / 256, crc % 256]

/-- TOD_TX_SEND: 10 ms after a wrap the device sends the message (R249). -/
def todTxSend (s : State) : State :=
  if s.flag R.TOD_CTRL F.TOD_CTRL_TOD_TX_EN then modTod (fun t => { t with txMsg := todMessage s }) s else s

/-! ### Measurements and the servo (R231, R232, R236, R237) -/

/-- PPS_IN is the source that AUTO follows: an edge was accepted within 2 s (R235). -/
def ppsRecent (s : State) : Bool :=
  match s.tod.ppsAt with
  | some t => decide (s.now < t + 2 * cycSecond)
  | none => false

/-- The device follows the line: SRC = LINE, or AUTO without PPS_IN. -/
def followsLine (s : State) : Bool :=
  let src := s.fld R.TOD_CTRL F.TOD_CTRL_SRC
  src == 2 || (src == 3 && !ppsRecent s)

/-- A measurement of the kind is one of the selected source's (R235); without REFCLK no method runs (R244). -/
def kindSelected (s : State) (k : MeasKind) : Bool :=
  !refLost s && match k with
    | .pps => s.fld R.TOD_CTRL F.TOD_CTRL_SRC == 1 || s.fld R.TOD_CTRL F.TOD_CTRL_SRC == 3
    | _ => followsLine s

/-- METHOD codes. -/
def MeasKind.code : MeasKind → Nat
  | .line => 1 | .seepL => 2 | .pps => 3

/-- The share of the kind in TOD_UNC, ns, and how many good measurements it takes to lock (R236, R237). -/
def MeasKind.unc : MeasKind → Nat
  | .line => 2 | .seepL => 50 | .pps => 1
def MeasKind.toLock : MeasKind → Nat
  | .line => 16 | .seepL => 4 | .pps => 8

/-- LOCK_THRESH in ns. -/
def lockThresh (s : State) : Nat := max 1 (s.fld R.TOD_SLEW F.TOD_SLEW_LOCK_THRESH)

/-- An amount of θ, in 2^-17 ps, as 2^-52 ns. -/
def thetaFrac (th : Int) (s : State) : Int × State := roundFree (th * 34359738368) 1000 s

/-- The interval between measurements of a kind, in 1/16 s (R229, R234, R235). -/
def MeasKind.every : MeasKind → Nat
  | .line => 1 | .seepL => 64 | .pps => 16

/-- The loop's bandwidth in mHz: SERVO_BW for the line and PPS_IN, SERVO_BW_L for Seep-L (R237, R252). -/
def loopBw (s : State) (k : MeasKind) : Nat :=
  match k with
  | .seepL => [1, 3, 10].getD (s.fld R.TOD_CTRL F.TOD_CTRL_SERVO_BW_L) 10
  | _ => [10, 30, 100, 300, 1000].getD (s.fld R.TOD_CTRL F.TOD_CTRL_SERVO_BW) 1000

/-- The proportional-integral loop of damping 0.9 at θ = `th`, in 2^-17 ps (R237): the slew term is −1.8·wn·θ, within the limit of R222,
and the integrator FREQ_ADJ gains −wn²·θ times the interval between measurements (notes/assumptions/133.md). -/
def servoLoop (k : MeasKind) (th : Int) (s : State) : State :=
  let wn : Int := Config.servoWn (loopBw s k)
  let (p, s) := roundFree (-18 * wn * th) (131072 * 10 ^ 7) s
  let (f, s) := roundFree (-(wn * wn) * th * k.every) (131072 * 16 * 10 ^ 15) s
  let m : Int := slewMax s
  setFreq (s.tod.freq + f) (modTod (fun t => { t with slew := clampInt (-m) m p }) s)

/-- TOD_UNC of an accepted measurement: QUAL of a far end, the kind's share, ASYM_UNC and |θ| (R237). -/
def measUnc (k : MeasKind) (qual : Nat) (th : Int) (s : State) : State :=
  let q := if k = .pps then 0 else qual
  let ns := q + k.unc + s.fld R.TOD_UNC_CFG F.TOD_UNC_CFG_ASYM_UNC
  let (f, s) := roundFree ((th.natAbs * 10000000000000000 : Nat) : Int) 131072000 s
  setUnc (ns * 10000000000000000 + f.toNat) s

/-- The counter is stepped by −θ, or loads the source's time in a no-majority (R222, R225). -/
def stepBy (th : Int) (s : State) : State :=
  let (d, s) := thetaFrac th s
  todStep (todOfInt (s.tod.a.toNat - d)) s

/-- The counter is slewed by −θ. -/
def slewBy (th : Int) (s : State) : State :=
  let (d, s) := thetaFrac th s
  todSlew (-d) s

/-- An accepted measurement (R236, R237): the servo state, the correction, the loop and TOD_UNC. -/
def measure (k : MeasKind) (qual : Nat) (th : Int) (s : State) : State :=
  let noMaj := s.flag R.TOD_STATUS F.TOD_STATUS_NO_MAJORITY
  let same := s.fld R.TOD_STATUS F.TOD_STATUS_METHOD == k.code
  let s := modTod (fun t => { t with theta := th, srcValid := true, outliers := 0, measAt := s.now,
                                     good := if same then t.good else 0 }) s
  let s := measUnc k qual th s
  let s := s.setFld R.TOD_STATUS F.TOD_STATUS_DEGRADED 0
  let s := if servo s = 0 ∨ servo s = 3 then servoTo 1 s else s
  let s := validFollow (s.setFld R.TOD_STATUS F.TOD_STATUS_METHOD k.code)
  let big := !thetaWithin th (lockThresh s)
  let first := s.tod.first
  let s := modTod (fun t => { t with first := false, good := if big then 0 else t.good + 1 }) s
  let s := if noMaj then servoLoop k th (stepBy th s)
    else if servo s = 1 ∧ first ∧ big then
      if s.flag R.TOD_STATUS F.TOD_STATUS_VALID then slewBy th s else stepBy th s
    else servoLoop k th s
  let s := if servo s = 1 ∧ k.toLock ≤ s.tod.good then servoTo 2 s else s
  validFollow s

/-- An exchange completes with its four timestamps (R231, R232). -/
def exchange (k : MeasKind) (t1 t2 t3 t4 : Int) (lock : Bool) (flags qual : Nat) (s : State) : State :=
  let valid := bitOf flags 0
  let loop := bitOf flags 1
  if !kindSelected s k then s
  else
  let s := modTod (fun t => { t with srcValid := valid }) s
  if loop then validFollow (s.raise1 R.TOD_STATUS F.TOD_STATUS_LOOP 363)
  else if !valid ∨ !lock then validFollow s
  else
    let asym : Int := signed 32 (s.fld R.TOD_TT_ASYM F.TOD_TT_ASYM_ASYM)
    let num : Int := ((t4 - t3) - (t2 - t1)) * 1000 + asym * 65536
    let (pred, s) := s.fresh 41
    let lim := 2 * max 1 (s.fld R.TOD_SLEW F.TOD_SLEW_OUTLIER)
    let out := decide (servo s = 2) && !thetaWithin (num - signed 41 pred * 131072) lim
    if out then
      let n := s.tod.outliers + 1
      let s := s.setFld R.TOD_STATUS F.TOD_STATUS_OUTLIER 1
      let s := s.addSat R.TOD_TT_CNT F.TOD_TT_CNT_OUTLIERS 1
      if n < 16 then modTod (fun t => { t with outliers := n }) s
      else
        let s := modTod (fun t => { t with outliers := 0, theta := num, measAt := s.now }) s
        if thetaWithin num (uncLimit s) then slewBy num s
        else
          let s := servoTo 1 s
          let s := validFollow (modTod (fun t => { t with held := false, first := false }) s)
          stepBy num s
    else
      let (thPs, s) := roundFree num 131072 s
      let (dPs, s) := roundFree (((t2 - t1) + (t4 - t3)) * 1000) 131072 s
      let s := s.setFld R.TOD_TT_OFS F.TOD_TT_OFS_THETA (unsigned 32 (clampInt (-2147483648) 2147483647 thPs))
      let s := s.setFld R.TOD_TT_DELAY F.TOD_TT_DELAY_D (clampInt 0 4294967295 dPs).toNat
      measure k qual num (s.addWrap R.TOD_TT_CNT F.TOD_TT_CNT_ACCEPTED 1)

/-! ### Two-way transfer (R215, R227 to R230, R234) -/

/-- A number of ps in 2^-16 ns. -/
def psTicks (ps : Int) (s : State) : Int × State := roundFree (ps * 65536) 1000 s

/-- Keeps the newest marks. -/
def keepMark (cap : Nat) (m : Mark) (l : List Mark) : List Mark := (m :: l).take cap

/-- An exchange of the follower ends incomplete (R230). -/
def exchLate (s : State) : State :=
  let s := s.raise1 R.TOD_STATUS F.TOD_STATUS_EXCH_LATE 362
  s.addSat R.TOD_TT_CNT F.TOD_TT_CNT_LATES 1

/-- The receive tracker is in LOCK. -/
def trackLock (s : State) (n : Nat) : Bool := frmState s n == 2

/-- A line timestamp against counter A's present time, in ps (R21): the header's symbol count and its phase, the DAC clock's or the ADC
interpolator's setting, from the strobe's arrival, whose timestamp has the measured crossing time taken off, and the fixed pipeline
offset. -/
def stampOffset (s : State) (n : Fin 8) (rx : Bool) (m : Strobe) : Int :=
  let phase : Nat := if rx then s.fld (R.LINE_PI n) F.LINE_PI_PHASE else m.phase
  let at0 := roundDiv ((m.syms * 128 + phase) * 1000000000) (128 * laneRate s n) - m.cross
  if rx then at0 - Config.pipeOffset rx else at0 + Config.pipeOffset rx

/-- The work of a marking instant (R229, R230): the interval's exchange ends, and in Deep the next transmit frame of TT_LANE is marked and
timestamped. -/
def markNow (lag : Strobe) (s : State) : State :=
  let s := if s.tod.exch.isSome && followsLine s then exchLate s else s
  let s := modTod (fun t => { t with exch := none, lastMark := t.a.sec * 16 + t.a.ns / 62500000 }) s
  let n := ttLane s
  if profileEff s = .deep ∧ s.line[n].txRun ∧ dataOn s then
    let ext : Nat := s.fld R.TOD_TT_EXT F.TOD_TT_EXT_TX_EXT
    let (d, s) := psTicks (stampOffset s n false lag + (s.tod.pathTx[n] + ext : Nat)) s
    let f := (s.line[n].txCnt + 1) % 2 ^ 32
    let m : Mark := { fcnt := f, t := s.tod.a.ts + d, lock := trackLock s n }
    modTod (fun t => { t with txMarks := keepMark 32 m t.txMarks, exch := some f, tmfDue := some f }) s
  else s

/-- TT_MARKING_INSTANT: counter A reaches a multiple of 62.5 ms. The instant of the sixteenth in hand is taken at once if it
was not taken yet; else the counters run on to the next one, the wrap having its own step. -/
def ttMarking (lag : Strobe) (s : State) : State :=
  let slot := s.tod.a.ns / 62500000
  if s.tod.a.sec * 16 + slot ≠ s.tod.lastMark then markNow lag s
  else if slot = 15 then s
  else markNow lag (todRun (cyclesFor s ((slot + 1) * 62500000 * fracOne - s.tod.a.toNat % secOne)) s)

/-- The TT_TS flags (R232). -/
def ttFlags (s : State) : Nat :=
  s.fld R.TOD_STATUS F.TOD_STATUS_VALID + 2 * b2n (s.fld R.TOD_CTRL F.TOD_CTRL_SRC == 2) + 4 * b2n (servo s == 3) +
    8 * s.fld R.TOD_STATUS F.TOD_STATUS_DEGRADED + 16 * servo s

/-- Big-endian bytes of a number. -/
def beBytes (k v : Nat) : List Nat := (List.range k).map fun i => v / 256 ^ (k - 1 - i) % 256

/-- Reads a big-endian number from bytes. -/
def beNat (l : List Nat) : Nat := l.foldl (fun v b => 256 * v + b) 0

/-- The 12 bytes of a timestamp (R215). -/
def tsBytes (t : Int) : List Nat :=
  let v := (t % (2 ^ 48 * 65536000000000 : Int)).toNat
  beBytes 6 (v / 65536000000000) ++ beBytes 4 (v / 65536 % 1000000000) ++ beBytes 2 (v % 65536)

/-- The timestamp in 12 bytes. -/
def tsOf (l : List Nat) : Int := (beNat (l.take 6) * 1000000000 + beNat ((l.drop 6).take 4)) * 65536 + beNat ((l.drop 10).take 2)

/-- A mark as sent; one that the device does not have yet has open contents. -/
def markBytes (m : Option Mark) (s : State) : List Nat × State :=
  match m with
  | some m => (beBytes 4 (m.fcnt % 2 ^ 32) ++ tsBytes m.t, s)
  | none =>
    let (v, s) := s.fresh 128
    (beBytes 16 v, s)

/-- Sends a TT_TS (0x10) or TT_L (0x11), link-local on TT_LANE in class 2 (R215). -/
def ttSend (mtype : Nat) (tx rx : Option Mark) (s : State) : State :=
  let (bt, s) := markBytes tx s
  let (br, s) := markBytes rx s
  let (h, s) := s.fresh 4
  let (tid, s) := s.fresh 8
  let q := min 0xFFFFFFFF (s.fld R.TOD_UNC F.TOD_UNC_UNC)
  let p := beBytes 2 (s.tod.seq % 65536) ++ beBytes 2 (ttFlags s) ++ bt ++ br ++ beBytes 4 q
  let m : SMsg := { dst := 0, hops := h, src := seepNode s, rc := 0, mtype := mtype, tid := tid, payload := p }
  seepQueue (ttLane s) 2 m none (modTod (fun t => { t with seq := t.seq + 1 }) s)

/-- TT_MARKED_FRAME_RX: a marked frame has arrived; it is timestamped and a TT_TS is queued (R227, R230). -/
def ttMarkedRx (age : Strobe) (s : State) : State :=
  let n := ttLane s
  match s.frm[n].tmf, s.frm[n].fcnt with
  | true, some f =>
    let (d, s) := psTicks ((s.tod.pathRx[n] + s.fld R.TOD_TT_EXT F.TOD_TT_EXT_RX_EXT : Nat) - stampOffset s n true age) s
    let m : Mark := { fcnt := f, t := s.tod.a.ts - d, lock := trackLock s n }
    let s := modTod (fun t => { t with rxMarks := keepMark 32 m t.rxMarks }) s
    ttSend 0x10 s.tod.txMarks.head? (some m) s
  | _, _ => s

/-- The mark with a frame number. -/
def findMark (f : Nat) (l : List Mark) : Option Mark := l.find? fun m => m.fcnt == f

/-- TT_TS_RECEIVE: a TT_TS reaches the unit and completes the interval's exchange, or does not (R230 to R232). -/
def ttTsReceive (s : State) : State :=
  match takeMsg (ttLane s) (fun m => m.mtype == 0x10) s with
  | none => s
  | some (m, _, s) =>
    let p := m.payload
    let flags := beNat ((p.drop 2).take 2)
    let g := beNat ((p.drop 4).take 4)
    let f := beNat ((p.drop 20).take 4)
    match s.tod.exch, findMark f s.tod.txMarks, findMark g s.tod.rxMarks with
    | some e, some t1, some t4 =>
      if e ≠ f then s
      else
        let s := modTod (fun t => { t with exch := none }) s
        exchange .line t1.t (tsOf (p.drop 24)) (tsOf (p.drop 8)) t4.t (t1.lock && t4.lock) flags (beNat (p.drop 36)) s
    | _, _, _ => s

/-- The start of a Seep-L transmit frame on TT_LANE is timestamped (R215, R234). -/
def ttSeepTx (n : Fin 8) (s : State) : State :=
  if n = ttLane s ∧ seepTxL s n then
    let (d, s) := psTicks ((Config.biasDelay + s.fld R.TOD_TT_EXTL F.TOD_TT_EXTL_TX_EXTL * 100 : Nat)) s
    modTod (fun t => { t with lTx := keepMark 8 { fcnt := s.seepLn[n].fseq % 8, t := t.a.ts + d } t.lTx }) s
  else s

/-- The start of a received Seep-L frame, `age` ps ago, is timestamped. -/
def ttSeepRx (n : Fin 8) (fseq age : Nat) (s : State) : State :=
  if n = ttLane s then
    let gd := Config.groupDelay (s.actReg (R.SEEP_LN_FILT0 n)).toNat (s.actReg (R.SEEP_LN_FILT1 n)).toNat
    let (d, s) := psTicks ((age + gd + s.fld R.TOD_TT_EXTL F.TOD_TT_EXTL_RX_EXTL * 100 : Nat)) s
    modTod (fun t => { t with lRx := keepMark 8 { fcnt := fseq % 8, t := t.a.ts - d } t.lRx }) s
  else s

/-- The 4 s interval of counter A, which begins where the seconds are a multiple of 4 (R234, notes/assumptions/134.md). -/
def ttInterval (s : State) : Nat := s.tod.a.sec / 4

/-- Four seconds in the unit of a timestamp. -/
def fourSeconds : Int := 4000000000 * 65536

/-- TT_L_SEND: the first Seep-L frame that begins in a 4 s interval carries a TT_L with the sender's previous frame and the latest frame
received (R234). An exchange of the interval before that is not complete is late. -/
def ttLSend (s : State) : State :=
  let n := ttLane s
  if seepTxL s n && seepEn s n && s.tod.lInt != some (ttInterval s) then
    let s := if s.tod.exchL.isSome && followsLine s then exchLate s else s
    ttSend 0x11 s.tod.lTx.head? s.tod.lRx.head?
      (modTod (fun t => { t with exchL := some t.a.ts, lInt := some (ttInterval s) }) s)
  else s

/-- TT_L_RECEIVE: a TT_L completes the exchange of the fallback that is open, with a frame of its interval or of the one before, since both
ends send at the start of one (R230, R234). A pair that is older is late. -/
def ttLReceive (s : State) : State :=
  match takeMsg (ttLane s) (fun m => m.mtype == 0x11) s with
  | none => s
  | some (m, _, s) =>
    let p := m.payload
    match s.tod.exchL, findMark (beNat ((p.drop 20).take 4)) s.tod.lTx, findMark (beNat ((p.drop 4).take 4)) s.tod.lRx with
    | some from0, some t1, some t4 =>
      if t1.t < from0 - fourSeconds then s
      else
      let s := modTod (fun t => { t with exchL := none }) s
      exchange .seepL t1.t (tsOf (p.drop 24)) (tsOf (p.drop 8)) t4.t true (beNat ((p.drop 2).take 2)) (beNat (p.drop 36)) s
    | _, _, _ => s

/-! ### PPS_IN and TOD_RX (R228, R247) -/

/-- Seconds that label an edge at the time `at0`: counted on from the last labelled edge, or TOD_SET_SEC with TOD_RX_EN = 0. -/
def edgeLabel (s : State) (at0 : Nat) : Option Nat :=
  match s.tod.ppsSec with
  | some (v, t) => some ((v + (2 * (at0 - t) + cycSecond) / (2 * cycSecond)) % 2 ^ 48)
  | none => if s.flag R.TOD_CTRL F.TOD_CTRL_TOD_RX_EN then none else some (setSec s)

/-- PPS_IN_EDGE: a rising edge, `age` ps ago, is timestamped, and is a measurement or is rejected (R228, R235, R247). A rejected edge is
counted as an outlier (notes/assumptions/135.md). -/
def ppsInEdge (age : Nat) (s : State) : State :=
  if !kindSelected s .pps then s
  else
    let (d, s) := psTicks ((age : Int) + signed 16 (s.fld R.TOD_PPS_IN_DLY F.TOD_PPS_IN_DLY_IN_DELAY)) s
    let t := s.tod.a.ts - d
    let at0 := s.now - age / 200
    let sub := t % 65536000000000
    let dist := min sub (65536000000000 - sub)
    let win : Int := max 1 (s.fld R.TOD_PPS_CFG F.TOD_PPS_CFG_IN_WIN) * 100 * 65536
    if 2 ≤ servo s ∧ win < dist then
      (s.raise1 R.TOD_STATUS F.TOD_STATUS_PPSIN_REJ 364).addSat R.TOD_TT_CNT F.TOD_TT_CNT_OUTLIERS 1
    else match edgeLabel s at0 with
      | none => s
      | some v =>
        let s := modTod (fun x => { x with ppsAt := some s.now, ppsSec := some (v, at0) }) s
        measure .pps 0 ((t - v * 65536000000000) * 2000) s

/-- TOD_RX_MESSAGE: a message that completes `ms` milliseconds after the edge it labels (R247, R249). -/
def todRxMessage (bytes : List Nat) (ms : Nat) (s : State) : State :=
  let body := (bytes.drop 2).take 12
  let crc := crc16 (body.flatMap fun b => (List.range 8).map fun i => bitOf b (7 - i))
  let ok := bytes.length == 16 && bytes.take 3 == [0xC5, 0x3A, 1] && crc == beNat (bytes.drop 14) &&
    decide (10 ≤ ms) && decide (ms ≤ 990)
  if s.flag R.TOD_CTRL F.TOD_CTRL_TOD_RX_EN && ok then
    modTod (fun t => { t with ppsSec := some (beNat ((bytes.drop 3).take 6), s.now - ms * (cycSecond / 1000)) }) s
  else s

/-! ### Events of the servo and of the counters -/

/-- TOD_UNC_EXCEEDED: TOD_UNC grows past UNC_LIMIT in HOLDOVER or on the ring (R236, R241, R245). -/
def uncExceeded (s : State) : State :=
  if servo s = 3 ∨ refLost s ∨ s.flag R.TOD_STATUS F.TOD_STATUS_DEGRADED then
    let lim := (uncLimit s + 1) * 10000000000000000
    validFollow (if uncNow s < lim then setUnc lim s else s)
  else s

/-- TOD_COUNTER_REPAIR: one counter, B if `isB`, fails parity and the intact one is copied into it (R225). -/
def counterRepair (isB : Bool) (s : State) : State :=
  let s := modTod (fun t => if isB then { t with b := t.a } else { t with a := t.b }) s
  let s := diffFollow (s.setFld R.TOD_STATUS F.TOD_STATUS_CNT_REPAIR 1)
  s.journalAt 0x20 0x201 (b2n isB)

/-- TOD_NO_MAJORITY: the counters differ by more than one INC or both fail parity (R225, R365). -/
def noMajority (k : NoMaj) (s : State) : State :=
  let enter (s : State) : State :=
    let s := s.setFld R.TOD_STATUS F.TOD_STATUS_NO_MAJORITY 1
    let s := s.raise1 R.TOD_STATUS F.TOD_STATUS_NOMAJ_EV 365
    sg2Trip 2 (validFollow (servoTo 0 s))
  match k with
  | .inStep => s.journalAt 0x20 0x202 (s.fld R.TOD_CMP F.TOD_CMP_DIFF)
  | .bothFail => enter ((s.setFld R.TOD_CMP F.TOD_CMP_INTACT_A 0).setFld R.TOD_CMP F.TOD_CMP_INTACT_B 0)
  | .differ isB v =>
    let s := diffFollow (modTod (fun t => if isB then { t with b := v } else { t with a := v }) s)
    let a := s.tod.a.toNat
    let b := s.tod.b.toNat
    if todInc s < max a b - min a b then enter s else s

/-! ### Host adjustments (R221, R223, R226, R235) -/

/-- TOD_SET_CTRL.GO (R223): refused with a valid counter and a source. -/
def setSecondsGo (s : State) : State :=
  if s.flag R.TOD_STATUS F.TOD_STATUS_VALID && s.fld R.TOD_CTRL F.TOD_CTRL_SRC != 0 then
    s.raise1 R.TOD_STATUS F.TOD_STATUS_SET_REFUSED 366
  else s.setFld R.TOD_SET_CTRL F.TOD_SET_CTRL_PEND 1

/-- TOD_PHASE.GO (R223, R226): a step, a slew, or the end of a no-majority. -/
def phaseAdjust (s : State) : State :=
  let a := R.TOD_PHASE
  let ofs : Int := signed 28 (s.fld a F.TOD_PHASE_OFFSET) * 281474976710656
  let step := s.flag a F.TOD_PHASE_STEP
  if s.flag R.TOD_STATUS F.TOD_STATUS_NO_MAJORITY && step then
    let diff := s.fld R.TOD_CMP F.TOD_CMP_DIFF
    let base := if s.flag R.TOD_SNAP_CTRL F.TOD_SNAP_CTRL_SEL then s.tod.b else s.tod.a
    let s := todStep (todOfInt (base.toNat + ofs)) s
    validFollow (s.journalAt 0x20 0x207 diff)
  else if step && !s.flag R.TOD_STATUS F.TOD_STATUS_VALID then todStep (todOfInt (s.tod.a.toNat + ofs)) s
  else
    let s := if step then s.setFld R.TOD_STATUS F.TOD_STATUS_STEP_AS_SLEW 1 else s
    if ofs = 0 then s else (todSlew ofs s).setFld a F.TOD_PHASE_BUSY 1

/-- A write of MAN_HI puts the whole manual value in force (R221, R253). -/
def manWritten (s : State) : State :=
  let v := signed 48 (s.fld R.TOD_FREQ_MAN_LO F.TOD_FREQ_MAN_LO_MAN_LO + s.fld R.TOD_FREQ_MAN_HI F.TOD_FREQ_MAN_HI_MAN_HI * 2 ^ 32)
  let v := clampInt (-500000000000) 500000000000 v
  let s := modTod (fun t => { t with man := v }) s
  if servo s = 0 ∧ s.fld R.TOD_CTRL F.TOD_CTRL_SRC = 0 then setFreq v s else s

/-- A read of TOD_FREQ_LO latches the upper half (R253, R309). -/
def freqLatch (s : State) : State :=
  s.setFld R.TOD_FREQ_HI F.TOD_FREQ_HI_ADJ_HI (unsigned 48 s.tod.freq / 2 ^ 32)

/-- A change of SRC (R235, R236): NONE moves the servo to FREERUN from any state. -/
def sourceChange (old : Nat) (s : State) : State :=
  let src := s.fld R.TOD_CTRL F.TOD_CTRL_SRC
  if src = old then validFollow s
  else
    let s := modTod (fun t => { t with exch := none, exchL := none, srcValid := true }) s
    if src = 0 then setFreq s.tod.man (servoTo 0 s) else validFollow s

/-! ### REFCLK (R245, R246) -/

/-- REFCLK_LOSS: the counters advance by the ring cycles since the last REFCLK edge and move to the ring oscillator, whose
calibrated period is `period` in 2^-52 ns. -/
def refclkLoss (cycles period : Nat) (s : State) : State :=
  if refLost s then modTod (fun t => { t with refBack := false }) s
  else
    let s := modTod (fun t => { t with ringPeriod := period, refBack := false }) s
    let s := s.setFld R.TOD_STATUS F.TOD_STATUS_REFCLK_LOST 1
    let s := s.setFld R.TOD_STATUS F.TOD_STATUS_DEGRADED 1
    let was := s.tod.a.toNat / secOne
    let s := todGain cycles (modTod (fun t => { t with part := 0 }) s)
    let s := validFollow (setUnc (uncNow s + 100000000000000000) s)
    if was = s.tod.a.toNat / secOne then s else secondWork s

/-- REFCLK_RETURN: REFCLK is within ±200 ppm again. -/
def refclkReturn (s : State) : State := if refLost s then modTod (fun t => { t with refBack := true }) s else s

/-- REFCLK_RESTORE: after 10 ms of stable REFCLK the counters return to it without a step. -/
def refclkRestore (s : State) : State :=
  if refLost s && s.tod.refBack then
    let s := s.setFld R.TOD_STATUS F.TOD_STATUS_REFCLK_LOST 0
    validFollow (setUnc (uncNow s + 100000000000000000) (modTod (fun t => { t with refBack := false }) s))
  else s

/-- The delay of a lane's analogue path in ps, rounded to nearest: a quadratic in the mean of its well's four sensors, whose readings in
1/16 °C have the sum `sum` (R227); with its fuse word taken as 0, every coefficient is 0 (R278). -/
def pathDelayNow (s : State) (n : Fin 8) (rx : Bool) (sum : Int) : Nat :=
  let c := Config.pathCoef n.val rx
  if bitOf s.fuse.noPath n then 0 else (roundDiv (c 0 * 4096 + c 1 * 64 * sum + c 2 * sum * sum) (4096 * 2 ^ 32)).toNat

/-- The thermal sample gives the path delays that the next timestamps use (R227). -/
def pathFollow (n : Fin 8) (sum : Int) (s : State) : State :=
  modTod (fun t => { t with pathTx := t.pathTx.set n (pathDelayNow s n false sum),
                            pathRx := t.pathRx.set n (pathDelayNow s n true sum) }) s

/-- A fault of the time-transfer unit (R35): the servo restarts at the next exchange. -/
def ttRestart (s : State) : State :=
  modTod (fun t => { t with exch := none, exchL := none, outliers := 0, good := 0, slew := 0 }) s

end Sys2Proof.Machine
end

