-- ==== Sys2Proof/Machine/Holdover.lean ====
section
/-!
DEFINITION. The oscillator model: temperature samples, the ledger, the fit and the prediction in holdover (R238 to R243
of spec/09_timing.md). The ledger's bytes lie in the cistern from 0x8800_0000; where R239 gives no offset inside the
header or a record, the model's layout is that of notes/assumptions/31.md.
-/
namespace Sys2Proof.Machine

/-! ### Oscillator temperature (R238) -/

/-- ln(num / den) in 2^-60, by halving into [1, 2) and the series of artanh. -/
def lnFix (num den : Nat) : Int :=
  let one : Int := 2 ^ 60
  let ln2 : Int := 799144290325165979
  let e : Int := (Nat.log2 num : Int) - Nat.log2 den
  let m : Int := if 0 ≤ e then (num : Int) * one / (den * 2 ^ e.toNat) else (num : Int) * one * 2 ^ (-e).toNat / den
  let z := (m - one) * one / (m + one)
  let z2 := z * z / one
  let t := (List.range 40).foldl (fun (p : Int × Int) (k : Nat) => (p.1 + p.2 / (2 * (k : Int) + 1), p.2 * z2 / one)) ((0 : Int), z)
  2 * t.1 + e * ln2

/-- T in 0.01 °C from the result of channel 16, by the β-model of THERM_NOM and THERM_BETA, with the internal resistor of
10.0 kΩ; a reading that gives no finite temperature, and the rounding, are open. -/
def oscTemp (s : State) : Int × State :=
  let v := s.fld (R.MON_RES 16) F.MON_RES_VALUE
  let nom := s.fld R.TOD_HO_CFG F.TOD_HO_CFG_THERM_NOM
  let beta := s.fld R.TOD_HO_CFG F.TOD_HO_CFG_THERM_BETA
  if v = 0 ∨ 65536 ≤ v ∨ nom = 0 ∨ beta = 0 then
    let (x, s) := s.fresh 16
    (signed 16 x, s)
  else
    let l := lnFix (1000 * v) ((65536 - v) * nom)
    -- 1/T = 1/298.15 + l/β: T = 298.15·β / (β + 298.15·l), with l in 2^-60
    let den : Int := 100 * beta * 2 ^ 60 + 29815 * l
    if den ≤ 0 then
      let (x, s) := s.fresh 16
      (signed 16 x, s)
    else
      let (t, s) := roundFree (29815 * 100 * beta * 2 ^ 60) den.toNat s
      (clampInt (-32768) 32767 (t - 27315), s)

/-- K2's prediction stands in FREQ_ADJ: in HOLDOVER, and in FREERUN with a source (R221, R240). -/
def predicting (s : State) : Bool := servo s == 3 || (servo s == 0 && s.fld R.TOD_CTRL F.TOD_CTRL_SRC != 0)

/-- The samples of the last 60 s. -/
def lastMinute {α : Type} (now : Nat) (l : List (Nat × α)) : List (Nat × α) := l.filter fun x => decide (now < x.1 + 60 * cycSecond)

/-- OSC_TEMP_SAMPLE: K2 reads THERM_OSC while LOCKED with LEARN_EN = 1 (R238); while it predicts it reads T too, which R240 takes as it
is now (notes/assumptions/105.md). -/
def oscSample (s : State) : State :=
  let learns := servo s = 2 && s.flag R.TOD_CTRL F.TOD_CTRL_LEARN_EN
  if learns || predicting s then
    let (t, s) := oscTemp s
    let s := s.setFld R.TOD_HO_STATUS F.TOD_HO_STATUS_OSC_TEMP (unsigned 16 t)
    modTod (fun x => { x with
      temps := lastMinute s.now ((s.now, t) :: x.temps),
      osc := if learns then lastMinute s.now ((s.now, t, x.freq) :: x.osc) else x.osc }) s
  else s

/-- dT/dt as the slope of a straight line through the samples of the last 60 s, as num/den in 0.01 °C per 0.2 ns. -/
def oscSlope (s : State) : Int × Nat :=
  let p := lastMinute s.now s.tod.temps
  let n : Int := p.length
  let sx : Int := (p.map fun q => (q.1 : Int)).sum
  let sy := (p.map (·.2)).sum
  let sxy := (p.map fun q => q.2 * (q.1 : Int)).sum
  let sxx := (p.map fun q => (q.1 : Int) * q.1).sum
  (n * sxy - sx * sy, (n * sxx - sx * sx).toNat)

/-! ### The ledger (R239) -/

/-- Bytes of the ledger. -/
def ledger : Nat := 0x88000000
def bandAddr (b : Nat) : Nat := ledger + 0x1000 + 24 * b
def recAddr (i : Nat) : Nat := ledger + 0x10000 + 32 * (i % 522240)

/-- K2's accesses of the ledger are answered: in S3 and S4 they return ASLEEP (R267). -/
def ledgerOpen (s : State) : Bool := !deepSleep s && !cisFlag s F.CIS_STATUS_UNAVAILABLE

/-- K2 reads `k` bytes of the ledger: whether a word was uncorrectable, and the state (R239, R259). `found` lists what the reads of the
ledger's words find, which it counts from the ledger's start. -/
def ledgerFetch (a k : Nat) (found : List (Nat × CisFault)) (s : State) : Bool × State :=
  let (bad, s) := fetchWords 2 (a / 8) ((a + k - 1) / 8) (found.map fun p => (ledger / 8 + p.1, p.2)) s
  (!bad.isEmpty, s)

/-- The header is written: the marker, the version, 1 where none is given, SEQ twice advanced, the coefficients, the fit and the record
index. -/
def writeHeader (s : State) : State :=
  let h := ledger
  let seq := s.bytesNat (h + 8) 8 + 2
  let s := (s.setBytesNat h 0x484F4C44 4).setBytesNat (h + 4) (max 1 (s.bytesNat (h + 4) 4)) 4
  let s := s.setBytesNat (h + 8) seq 8
  let s := s.tod.coefs.zipIdx.foldl (fun s p => s.setBytesNat (h + 16 + 8 * p.2) (unsigned 64 p.1) 8) s
  let s := s.setBytesNat (h + 64) (unsigned 64 s.tod.tFit) 8
  let s := s.setBytesNat (h + 72) s.tod.fitRms 8
  cisWritten h 88 (s.setBytesNat (h + 80) (s.tod.recN % 522240) 8)

/-- Bin b of the band table. -/
def readBin (s : State) (b : Nat) : Bin :=
  { mean := signed 64 (s.bytesNat (bandAddr b) 8), spread := s.bytesNat (bandAddr b + 8) 8, cnt := s.bytesNat (bandAddr b + 16) 4,
    day := s.bytesNat (bandAddr b + 20) 4 }

/-- Writes bin b of the band table (R239). -/
def writeBin (b : Nat) (x : Bin) (s : State) : State :=
  let a := bandAddr b
  let s := (s.setBytesNat a (unsigned 64 x.mean) 8).setBytesNat (a + 8) x.spread 8
  cisWritten a 24 ((s.setBytesNat (a + 16) x.cnt 4).setBytesNat (a + 20) x.day 4)

/-- The bin of a temperature in 0.01 °C, if the table has one. -/
def binOf (t : Int) : Option Nat :=
  let b := t / 100 + 40
  if 0 ≤ b ∧ b ≤ 160 then some b.toNat else none

/-- K2 reads a bin of the band table, if the cistern answers and its words are correctable. -/
def bandFetch (b : Nat) (found : List (Nat × CisFault)) (s : State) : Option Bin × State :=
  if !ledgerOpen s then (none, s)
  else
    let (bad, s) := ledgerFetch (bandAddr b) 24 found s
    (if bad then none else some (readBin s b), s)

/-- A bin that could not be read has open contents: R239 does not say what K2 does then (notes/assumptions/145.md). -/
def binOrOpen (o : Option Bin) (s : State) : Bin × State :=
  match o with
  | some o => (o, s)
  | none =>
    let (m, s) := s.fresh 64
    let (d, s) := s.fresh 64
    let (c, s) := s.fresh 32
    ({ mean := signed 64 m, spread := d, cnt := c }, s)

/-- A record's y_osc enters its band bin (R239). -/
def bandUpdate (t y : Int) (found : List (Nat × CisFault)) (s : State) : State :=
  match binOf t with
  | none => s
  | some b =>
    let (o, s) := bandFetch b found s
    let (o, s) := binOrOpen o s
    let (m, d, s) :=
      if o.cnt = 0 then (y, (0 : Int), s)
      else
        let (m, s) := roundFree (63 * o.mean + y) 64 s
        let (d, s) := roundFree (63 * (o.spread : Int) + (y - o.mean).natAbs) 64 s
        (m, d, s)
    writeBin b { mean := m, spread := d.toNat, cnt := min 0xFFFFFFFF (o.cnt + 1), day := s.tod.a.sec / 86400 } s

/-- K2 writes a record to the ledger, and then the bin of T and the header (R238, R239). -/
def recordWrite (found : List (Nat × CisFault)) (r : LedgerRec) (s : State) : State :=
  let a := recAddr s.tod.recN
  let s := (s.setBytesNat a r.sec 8).setBytesNat (a + 8) (unsigned 32 r.t) 4
  let s := (s.setBytesNat (a + 12) (unsigned 32 r.d) 4).setBytesNat (a + 16) (unsigned 64 r.y) 8
  let s := cisWritten a 32 (s.setBytesNat (a + 24) r.state 8)
  writeHeader (bandUpdate (r.t / 10) r.y found (modTod (fun x => { x with recN := x.recN + 1 }) s))

/-- LEDGER_RECORD: the record of a minute (R238). In S3 and S4, where the ledger answers ASLEEP, K2 holds up to 64 records and discards the
oldest (R331). -/
def ledgerRecord (found : List (Nat × CisFault)) (s : State) : State :=
  let l := lastMinute s.now s.tod.osc
  if servo s = 2 && s.flag R.TOD_CTRL F.TOD_CTRL_LEARN_EN && !l.isEmpty then
    let n := l.length
    let (t, s) := roundFree ((l.map (·.2.1)).sum * 10) n s
    let (y, s) := roundFree (-(l.map (·.2.2)).sum * 1000) n s
    let sl := oscSlope s
    -- 0.01 °C per 0.2 ns is 5 * 10^13 µ°C per second
    let (d, s) := roundFree (sl.1 * 50000000000000) sl.2 s
    let r : LedgerRec := { sec := s.tod.a.sec, t := t, d := d, y := y, state := servo s }
    if deepSleep s then modTod (fun x => { x with recHeld := (x.recHeld ++ [r]).drop (x.recHeld.length - 63) }) s
    else if ledgerOpen s then recordWrite found r s
    else s
  else s

/-- After the wake K2 writes the records that it held (R331). -/
def heldWrite (s : State) : State :=
  if ledgerOpen s then s.tod.recHeld.foldl (fun s r => recordWrite [] r s) (modTod (fun x => { x with recHeld := [] }) s) else s

/-! ### The fit (R238) -/

/-- Record i of the ledger. -/
def readRec (s : State) (i : Nat) : LedgerRec :=
  let a := recAddr i
  { sec := s.bytesNat a 8, t := signed 32 (s.bytesNat (a + 8) 4), d := signed 32 (s.bytesNat (a + 12) 4),
    y := signed 64 (s.bytesNat (a + 16) 8) }

/-- The records of the last MODEL_DAYS days, latest first. -/
def fitPlaces (s : State) : List Nat :=
  let n := s.tod.recN
  let days := max 1 (s.fld R.TOD_HO_MODEL F.TOD_HO_MODEL_MODEL_DAYS)
  ((List.range (min (n - s.tod.recBase) 522240)).map (n - 1 - ·)).filter fun i => decide (s.tod.a.sec ≤ (readRec s i).sec + days * 86400)

/-- K2 reads them, and discards those whose read is uncorrectable. -/
def fitRecords (found : List (Nat × CisFault)) (s : State) : List LedgerRec × State :=
  (fitPlaces s).foldl (fun b i =>
    let (bad, t) := ledgerFetch (recAddr i) 32 found b.2
    (if bad then b.1 else b.1 ++ [readRec t i], t)) ([], s)

/-- The features of the model at a record: 1, T−25 and its powers, dT/dt, and t − t_fit. -/
def fitRow (aging : Bool) (tf : Int) (r : LedgerRec) : List Rat :=
  let x : Rat := ((r.t - 25000 : Int) : Rat) / 1000
  let d : Rat := (r.d : Rat) / 1000000
  [1, x, x * x, x * x * x, d] ++ (if aging then [(((r.sec : Int) - tf : Int) : Rat)] else [])

/-- Solves a square system given as augmented rows; none where it is singular. -/
def solve : Nat → List (List Rat) → Option (List Rat)
  | 0, _ => some []
  | k + 1, m =>
    match m.find? (fun r => r.headD 0 != 0) with
    | none => none
    | some p =>
      let rest := m.eraseP (fun r => r.headD 0 != 0)
      let red := rest.map fun r =>
        let f := r.headD 0 / p.headD 1
        (r.zip p).map (fun q => q.1 - f * q.2) |>.drop 1
      match solve k red with
      | none => none
      | some xs =>
        let tail := p.drop 1
        let v := (tail.zip (xs ++ [-1])).map (fun q => q.1 * q.2)
        some (-(v.sum) / p.headD 1 :: xs)

/-- The normal equations of the rows against the values. -/
def normalEq (rows : List (List Rat × Rat)) (k : Nat) : List (List Rat) :=
  (List.range k).map fun i =>
    (List.range k).map (fun j => (rows.map fun r => r.1.getD i 0 * r.1.getD j 0).sum) ++
      [(rows.map fun r => r.1.getD i 0 * r.2).sum]

/-- A rational as an integer, the rounding of an inexact one open. -/
def ratRound (q : Rat) (s : State) : Int × State := roundFree q.num q.den s

/-- Rounds a list of rationals. -/
def ratRounds (l : List Rat) (s : State) : List Int × State :=
  l.foldl (fun p q => let (v, s) := ratRound q p.2; (p.1 ++ [v], s)) ([], s)

/-- MODEL_REFIT: the hourly least-squares fit, accepted when its rms residual is at most RES_MAX (R238). A fit that
the records do not determine is not accepted; in S3 and S4 no record can be read (R267). -/
def modelRefit (found : List (Nat × CisFault)) (s : State) : State :=
  if !ledgerOpen s then s else
  let (recs, s) := fitRecords found s
  let tf : Int := s.tod.a.sec
  let secs := recs.map (·.sec)
  let span := secs.foldl max 0 - secs.foldl min (secs.headD 0)
  let aging := decide (172800 ≤ span)
  let keepA : Int := s.tod.coefs.getD 5 0
  let k := if aging then 6 else 5
  let rows := recs.map fun r =>
    (fitRow aging tf r, (r.y : Rat) - (if aging then 0 else (keepA : Rat) * (((r.sec : Int) - tf : Int) : Rat)))
  match solve k (normalEq rows k) with
  | none => s
  | some c =>
    let sq := (rows.map fun r => let e := r.2 - ((r.1.zip c).map fun q => q.1 * q.2).sum; e * e).sum
    let n := rows.length
    let lim : Rat := (max 1 (s.fld R.TOD_HO_MODEL F.TOD_HO_MODEL_RES_MAX) : Nat) * 1000000
    if n = 0 ∨ lim * lim * n < sq then s
    else
      let (ci, s) := ratRounds c s
      let q : Rat := sq / n
      let r := isqrt (q.num.toNat / q.den) 48 0
      let (b, s) := if (r * r * q.den : Int) = q.num then (0, s) else s.fresh 1
      let ts := recs.map (·.t)
      let s := modTod (fun x => { x with
        coefs := ci.take 5 ++ [if aging then ci.getD 5 0 else keepA], tFit := tf, fitRms := r + b,
        tMin := ts.foldl min (ts.headD 0), tMax := ts.foldl max (ts.headD 0) }) s
      writeHeader (s.setFld R.TOD_HO_STATUS F.TOD_HO_STATUS_FITTED 1)

/-! ### Prediction (R240, R241) -/

/-- The model in force (R238). -/
def modelNow (s : State) : HoFit :=
  { fitted := s.flag R.TOD_HO_STATUS F.TOD_HO_STATUS_FITTED, coefs := s.tod.coefs, tFit := s.tod.tFit, rms := s.tod.fitRms,
    tMin := s.tod.tMin, tMax := s.tod.tMax }

/-- HO_ENTRY in seconds: 0 is taken as 1, and it is at least 8 in the Seep-L fallback (R236, R252). -/
def hoEntry (s : State) : Nat :=
  max (if s.fld R.TOD_STATUS F.TOD_STATUS_METHOD = 2 then 8 else 1) (s.fld R.TOD_SLEW F.TOD_SLEW_HO_ENTRY)

/-- HOLDOVER_ENTRY: no measurement was accepted for HO_ENTRY seconds in LOCKED (R236, R239). An uncorrectable header leaves the model
unfitted. K2 fixes the coefficients in force (R240). -/
def holdoverEntry (found : List (Nat × CisFault)) (s : State) : State :=
  if servo s = 2 ∧ s.tod.measAt + hoEntry s * cycSecond ≤ s.now then
    let (bad, s) := if ledgerOpen s then ledgerFetch ledger 88 found s else (false, s)
    let s := if bad then s.setFld R.TOD_HO_STATUS F.TOD_HO_STATUS_FITTED 0 else s
    let s := modTod (fun x => { x with fixed := modelNow s }) s
    servoTo 3 (s.setFld R.TOD_HO_TIME F.TOD_HO_TIME_HO_TIME 0)
  else s

/-- T of the oscillator now, 0.01 °C. -/
def oscNow (s : State) : Int := signed 16 (s.fld R.TOD_HO_STATUS F.TOD_HO_STATUS_OSC_TEMP)

/-- The model that a prediction uses: the one fixed on entry to HOLDOVER, else the one in force (R221, R240). -/
def modelUsed (s : State) : HoFit := if servo s = 3 then s.tod.fixed else modelNow s

/-- ŷ of the model, in 1e-18, as a rational. -/
def modelY (s : State) : Rat :=
  let c (i : Nat) : Rat := (((modelUsed s).coefs.getD i 0 : Int) : Rat)
  let x : Rat := ((oscNow s - 2500 : Int) : Rat) / 100
  let sl := oscSlope s
  let d : Rat := if sl.2 = 0 then 0 else ((sl.1 * 50000000 : Int) : Rat) / (sl.2 : Nat)
  let t : Rat := (((s.tod.a.sec : Int) - (modelUsed s).tFit : Int) : Rat)
  c 0 + c 1 * x + c 2 * x * x + c 3 * x * x * x + c 4 * d + c 5 * t

/-- The model may be used: a fit is accepted and T lies in the range of its records. -/
def modelOk (s : State) : Bool :=
  let m := modelUsed s
  m.fitted && decide (m.tMin ≤ oscNow s * 10) && decide (oscNow s * 10 ≤ m.tMax)

/-- ŷ and the larger spread from two bins that both hold enough records (R240, R241). -/
def binsY (s : State) (x y : Option Bin) : Option (Rat × Nat) :=
  match x, y with
  | some x, some y =>
    let lim := max 1 (s.fld R.TOD_HO_MODEL F.TOD_HO_MODEL_BIN_MIN)
    if lim ≤ x.cnt ∧ lim ≤ y.cnt then
      let f : Rat := ((oscNow s % 100 - 50).natAbs : Rat) / 100
      some ((x.mean : Rat) + f * (((y.mean - x.mean : Int)) : Rat), max x.spread y.spread)
    else none
  | _, _ => none

/-- The two bins of the band table that R240 interpolates between, with ŷ; none where a bin cannot be read. -/
def bandY (found : List (Nat × CisFault)) (s : State) : Option (Rat × Nat) × State :=
  match binOf (oscNow s) with
  | none => (none, s)
  | some b =>
    let sub := oscNow s % 100
    let nb := if sub < 50 then (b : Int) - 1 else b + 1
    if nb < 0 ∨ 160 < nb then (none, s)
    else
      let (x, s) := bandFetch b found s
      let (y, s) := bandFetch nb.toNat found s
      (binsY s x y, s)

/-- HOLDOVER_PREDICTION: once per second K2 writes FREQ_ADJ and TOD_UNC_RATE (R240, R241); in FREERUN with a source it
writes FREQ_ADJ too (R221). On the ring oscillator FREQ_ADJ stays frozen (R245). -/
def holdoverPrediction (found : List (Nat × CisFault)) (s : State) : State :=
  if !predicting s then s
  else
    let (band, s) := if modelOk s then (none, s) else bandY found s
    let (pred, yhat, spread) : Nat × Option Rat × Nat :=
      if modelOk s then (2, some (modelY s), (modelUsed s).rms)
      else match band with
        | some (y, sp) => (1, some y, sp)
        | none => (0, none, 0)
    let hs := R.TOD_HO_STATUS
    let old := s.fld hs F.TOD_HO_STATUS_PRED
    let s := match yhat with
      | some y => if refLost s then s else let (f, s) := ratRound (-y / 1000) s; setFreq f s
      | none => if refLost s then s else setFreq s.tod.fixedFreq s
    let th := s.fld R.TOD_HO_TIME F.TOD_HO_TIME_HO_TIME
    let s := if servo s = 3 ∧ 0 < th ∧ pred < old then s.raise1 R.TOD_STATUS F.TOD_STATUS_HO_FALLBACK 367 else s
    let s := s.setFld hs F.TOD_HO_STATUS_PRED pred
    if servo s ≠ 3 then s
    else
      let th := th + 1
      let (res, s) := if pred = 0 then ((1000000 : Int), s)
        else let (x, s) := roundFree (3 * spread : Nat) 1000 s; (max x 5000, s)
      let (age, s) := if pred = 2 then
          let a : Rat := max (((modelUsed s).coefs.getD 5 0).natAbs : Rat) ((10000000 : Rat) / 86400)
          ratRound (a * th / 1000) s
        else let (x, s) := s.fresh 32; ((x : Int), s)
      let s := s.setFld R.TOD_HO_TIME F.TOD_HO_TIME_HO_TIME (min 0xFFFFFFFF th)
      s.setFld R.TOD_UNC_RATE F.TOD_UNC_RATE_RATE (min 0xFFFFFFFF (res + age + 1740).toNat)

/-- The HOLDOVER section of an image, a header and a band table at the places that they have in the ledger, is written there as it stands,
and its coefficients come into force; the records stay empty (R243; notes/assumptions/154.md). The range of temperatures that a fit covered
is not in it, so until the next fit no temperature lies in the range of the records (R240). -/
def seedHoldover (l : List Nat) (s : State) : State :=
  let s := (l.take 0x1F18).zipIdx.foldl (fun (s : State) p => s.setByte (ledger + p.2) (BitVec.ofNat 8 p.1)) s
  let w (o : Nat) : Int := signed 64 (s.bytesNat (ledger + o) 8)
  let n := s.bytesNat (ledger + 80) 8 % 522240
  let s := modTod (fun x => { x with
    coefs := (List.range 6).map (fun i => w (16 + 8 * i)), tFit := w 64, fitRms := s.bytesNat (ledger + 72) 8, recN := n, recBase := n }) s
  s.setFld R.TOD_HO_STATUS F.TOD_HO_STATUS_SEEDED 1

end Sys2Proof.Machine
end

