-- ==== Sys2Proof/Machine/Cistern.lean ====
section
/-!
DEFINITION. The cistern controller: reads, the merge buffer, remapping, scrubbing, refresh, bucket capture and zeroisation
(R254 to R273 of spec/10_cistern.md).
-/
namespace Sys2Proof.Machine

/-- The aperture (R254) and its reserved range (R255). -/
def inAperture (a : Nat) : Bool := decide (0x40000000 ≤ a) && decide (a < 0xB0000000)
def inReserved (a : Nat) : Bool := decide (0x9A000000 ≤ a) && decide (a < 0xB0000000)

/-- The address lies in an area that a zeroisation is clearing (R271). -/
def beingZeroed (s : State) (a : Nat) : Bool :=
  cisFlag s F.CIS_STATUS_ZERO_BUSY &&
  ((decide (0x44000000 ≤ a) && decide (a < 0x84000000)) ||
   (s.cis.zeroMirror && decide (0x89000000 ≤ a) && decide (a < 0x8A000000)))

/-- SOURCE code of CIS_UE_INFO. -/
def CisReq.code : CisReq → Nat
  | .bus .k0 => 0 | .bus .k1 => 1 | .bus .k2 => 2
  | .bus _ => 3 | .pumpDma _ _ => 4 | .atlas _ => 5 | .mirror => 6 | .bucket => 7

/-- The requester is a host port or Port J, whose accesses go through the aperture. -/
def CisReq.isHost : CisReq → Bool
  | .bus .k0 => false | .bus .k1 => false | .bus .k2 => false | .bus _ => true | _ => false

/-! ### Writes that wait (R263) -/

/-- MERGE_ENTRY_AGE: the entry of a line leaves after MERGE_AGE; `f` describes the read of each of its words that is written in part. -/
def mergeAge (line : Nat) (f : Vector CisFault 4) (s : State) : State :=
  match s.cis.merge.find? (fun e => e.line == line) with
  | some e => mergeLeave e (fun i => f.getD i .none) s
  | none => s

/-! ### Accesses (R255 to R260) -/

/-- Why the cistern does not serve an access now, if it does not. -/
def cisRefusal (host : Bool) (a k : Nat) (read : Bool) (s : State) : Option Code :=
  if !inAperture a ∨ inReserved a then some .unmapped
  else if k = 0 ∨ a % k ≠ 0 ∨ 4 < k ∨ (host ∧ k ≠ 4) then some .width
  else if deepSleep s then some .asleep
  else if cisFlag s F.CIS_STATUS_UNAVAILABLE then some .timeout
  else if host ∧ s.region[Region.cistern.idx].reacting then some .busy
  else if read ∧ beingZeroed s a then some .busy
  else none

/-- A read of 1, 2 or 4 bytes: code, data and state. An uncorrectable read gives data 0 (R260). -/
def cisLoad (src : Nat) (host : Bool) (a k : Nat) (f : CisFault) (s : State) : Code × Nat × State :=
  match cisRefusal host a k true s with
  | some c => (c, 0, s)
  | none =>
    if mergeHolds s a k then (.ok, s.bytesNat a k, s)
    else
      let (bad, s) := readWord (a / 8) src f s
      if bad then (.ecc, 0, s) else (.ok, s.bytesNat a k, s)

/-- A write of 1, 2 or 4 bytes: code and state. -/
def cisSave (host : Bool) (a k v : Nat) (s : State) : Code × State :=
  match cisRefusal host a k false s with
  | some c => (c, s)
  | none => (.ok, cisStore a k v s)

/-- Code 0x05 in a pump's KERR, with the kernel whose DMA read failed: the shipped recipes' only DMA is that of pz_distil, 0x0A (R49). A
code 0x05 sets no KWARN: it is a well fault. -/
def dmaReport (n m : Nat) (s : State) : State :=
  (s.setFld (R.PUMP_ERR n m) F.PUMP_ERR_KERR 5).setFld (R.PUMP_ERR n m) F.PUMP_ERR_KID 10

/-- What an uncorrectable read does to a requester inside the device (R260): a pump's DMA is a well fault with code 0x05, and
the atlas engine invalidates the entry. -/
def cisReadFails (q : CisReq) (a : Nat) (s : State) : State :=
  match q with
  | .pumpDma n m => wellFault n .cisternEcc (dmaReport n m s)
  | .atlas n =>
    if atlasAddr n 0 ≤ a ∧ a < atlasAddr n 0 + 8 * atlasSize then invalidate n ((a - atlasAddr n 0) / 8) s else s
  | _ => s

/-! ### Arbitration (R26, R268) -/

/-- The class of a requester, highest priority first: keeper, with host accesses and pump DMA, atlas, journal mirror, bucket capture. -/
def CisReq.rank : CisReq → Nat
  | .bus _ | .pumpDma _ _ => 0
  | .atlas _ => 1
  | .mirror => 2
  | .bucket => 3

/-- How long the class of an access has waited: as long as its access that has waited longest. -/
def classWait (l : List CisAccess) (x : CisAccess) : Nat :=
  l.foldl (fun v y => if y.q.rank = x.q.rank then max v y.waited else v) 0

/-- The class in which an access competes: one higher for the next grant when its class has waited 2 µs. `used` lists the classes
that have had that grant. -/
def cisRank (l : List CisAccess) (used : List Nat) (x : CisAccess) : Nat :=
  if 10000 ≤ classWait l x ∧ !used.contains x.q.rank then x.q.rank - 1 else x.q.rank

/-- The access that the arbiter grants next: of the highest class, the one that has waited longest, and of those the first
(notes/assumptions/103.md). -/
def cisPick (used : List Nat) (l : List CisAccess) : Option CisAccess :=
  l.foldl (fun b x => match b with
    | none => some x
    | some y =>
      if cisRank l used x < cisRank l used y ∨ (cisRank l used x = cisRank l used y ∧ y.waited < x.waited) then some x else b) none

/-- The order in which the arbiter grants accesses that request together. -/
def cisOrder : Nat → List Nat → List CisAccess → List CisAccess
  | 0, _, l => l
  | k + 1, used, l =>
    match cisPick used l with
    | none => []
    | some x => x :: cisOrder k (if cisRank l used x < x.q.rank then x.q.rank :: used else used) (l.erase x)

/-- A request of a requester inside the device waits for the end of the interface's retrain (R36). After a failed training there is none to
wait for: every access returns TIMEOUT (R258). -/
def cisStalls (s : State) (q : CisReq) : Bool :=
  !q.isHost && s.region[Region.cistern.idx].reacting && !cisFlag s F.CIS_STATUS_UNAVAILABLE

/-! ### Bursts and retraining (R262) -/

/-- CISTERN_ERROR_BURST: 16 uncorrectable first attempts within 1 ms, or the timing monitor's loss of lock. -/
def errorBurst (lockLoss : Bool) (s : State) : State :=
  if s.region[Region.cistern.idx].reacting then s
  else if lockLoss || decide (16 ≤ (recent s.now cycMs s.cis.burst).length) then
    regionFault .cistern 0 (if lockLoss then 0xB else 0xA) 0 false (modCis (fun c => { c with burst := [] }) s)
  else s

/-! ### Scrubbing (R264, R265) -/

/-- Lines of the aperture. -/
def scrubLines : Nat := 58720256

/-- A lap ends: LAP_MS and LAPS. -/
def lapEnd (s : State) : State :=
  let ms := (s.now - s.cis.lapStart + s.cis.lapPaused) / cycMs
  let s := s.setFld R.CIS_SCRUB_STATUS F.CIS_SCRUB_STATUS_LAP_MS (min 0xFFFFF ms)
  let s := s.addWrap R.CIS_SCRUB_STATUS F.CIS_SCRUB_STATUS_LAPS 1
  modCis (fun c => { c with lapStart := s.now, lapPaused := 0 }) s

/-- The scrubber may run. -/
def scrubRuns (s : State) : Bool :=
  s.flag R.CIS_SCRUB_CFG F.CIS_SCRUB_CFG_SCRUB_EN && !cisFlag s F.CIS_STATUS_SELF_REFRESH &&
  cisFlag s F.CIS_STATUS_FILLED && !cisFlag s F.CIS_STATUS_UNAVAILABLE

/-- What a walk meets in words of a line: the failing words stay poisoned and the line is remapped (R260). -/
def scrubLine (line src : Nat) (l : List (Nat × CisFault)) (s : State) : State :=
  let home := homeLine s line
  let (bad, s) := readLine line src l s
  bad.foldl (fun s i => poisonWord (home * 4 + i) s) s

/-- Every word of a line, with what its read finds. -/
def lineWords (f : Nat → CisFault) : List (Nat × CisFault) := [0, 1, 2, 3].map fun i => (i, f i)

/-- PATROL_LINE_READ: the patrol reads the line at its position, where `f` gives each word's state, and moves on. -/
def patrolRead (f : Vector CisFault 4) (s : State) : State :=
  if scrubRuns s && !s.flag R.CIS_SCRUB_POS F.CIS_SCRUB_POS_BY_ENGINE then
    let p := s.fld R.CIS_SCRUB_POS F.CIS_SCRUB_POS_LINE
    let s := scrubLine (0x2000000 + p) 8 (lineWords fun i => f.getD i .none) s
    if p + 1 < scrubLines then s.setFld R.CIS_SCRUB_POS F.CIS_SCRUB_POS_LINE (p + 1)
    else lapEnd (s.setFld R.CIS_SCRUB_POS F.CIS_SCRUB_POS_LINE 0)
  else s

/-- The background engine starts from the patrol's position. -/
def engineStart (s : State) : State :=
  if scrubRuns s && !cisFlag s F.CIS_STATUS_BG_BUSY then
    let s := modCis (fun c => { c with engAt := s.fld R.CIS_SCRUB_POS F.CIS_SCRUB_POS_LINE, engWork := 0, engTime := s.now }) s
    (s.setFld R.CIS_STATUS F.CIS_STATUS_BG_BUSY 1).setFld R.CIS_SCRUB_POS F.CIS_SCRUB_POS_BY_ENGINE 1
  else s

/-- BG_RATE as it is taken, in 16 MB/s (R273). -/
def bgRate (s : State) : Nat := clampNat 1 256 (s.fld R.CIS_SCRUB_CFG F.CIS_SCRUB_CFG_BG_RATE)

/-- Where the engine stands: it walks at BG_RATE, a ten-thousandth of a line per 0.2 ns and unit, while the scrubber may run, from the
patrol's position; one lap at most (R265, notes/assumptions/143.md). -/
def engineFollow (s : State) : State :=
  if !cisFlag s F.CIS_STATUS_BG_BUSY then s
  else
    let work := s.cis.engWork + (if scrubRuns s then (s.now - s.cis.engTime) * bgRate s else 0)
    let s := modCis (fun c => { c with engWork := work, engTime := s.now }) s
    s.setFld R.CIS_SCRUB_POS F.CIS_SCRUB_POS_LINE ((s.cis.engAt + min (work / 10000) (scrubLines - 1)) % scrubLines)

/-- The memory goes into self-refresh, or leaves it: neither the lap timer nor the engine counts in it (R267). -/
def selfRefresh (on : Bool) (s : State) : State :=
  if cisFlag s F.CIS_STATUS_SELF_REFRESH = on then s
  else
    let s := engineFollow s
    let paused := if on then s.cis.lapPaused + (s.now - s.cis.lapStart) else s.cis.lapPaused
    modCis (fun c => { c with lapPaused := paused, lapStart := s.now, engTime := s.now })
      (s.setFld R.CIS_STATUS F.CIS_STATUS_SELF_REFRESH (b2n on))

/-- SCRUB_LAP_LIMIT: the lap in progress has lasted LAP_LIMIT seconds; no effect while the engine runs (R265). -/
def lapLimit (s : State) : State :=
  if cisFlag s F.CIS_STATUS_BG_BUSY ∨ !scrubRuns s then s else engineStart (cisEvent F.CIS_STATUS_LAP_LATE s)

/-- The lines in which a walk of one lap meets something, in its order from line `from'`: those of `found`, and those with a poisoned word
at their own address or on a spare. Lines and words are counted from the aperture's start. -/
def metLines (from' : Nat) (found : List (Nat × CisFault)) (s : State) : List Nat :=
  let held := s.cis.poison.map (· / 4 - 0x2000000)
  let spares := (List.range 8).filter fun k => s.cis.poison.any fun w => spareUse s (0x57FFFF8 + k) == some (w / 4)
  let all := held ++ spares.map (scrubLines - 8 + ·) ++ found.map fun p => p.1 / 4 % scrubLines
  let up := all.foldl (fun l x => insertUp ((x + scrubLines - from') % scrubLines) l) []
  up.map fun d => (d + from') % scrubLines

/-- SCRUB_BG_LAP_DONE: the engine has walked its lap and hands back at the patrol's position; `found` lists the errors it met. -/
def engineDone (found : List (Nat × CisFault)) (s : State) : State :=
  if cisFlag s F.CIS_STATUS_BG_BUSY && scrubRuns s then
    let s := (metLines s.cis.engAt found s).foldl (fun s l =>
      scrubLine (0x2000000 + l) 9 (lineWords fun i => (found.lookup (l * 4 + i)).getD .none) s) s
    let s := (s.setFld R.CIS_STATUS F.CIS_STATUS_BG_BUSY 0).setFld R.CIS_SCRUB_POS F.CIS_SCRUB_POS_BY_ENGINE 0
    lapEnd (s.setFld R.CIS_SCRUB_POS F.CIS_SCRUB_POS_LINE s.cis.engAt)
  else s

/-! ### Refresh (R266) -/

/-- The multiplier code that the memory's own report asks for. -/
def mr4Mult (r : Nat) : Nat := if r ≤ 3 then 0 else if r = 4 then 1 else 2

/-- REFRESH_TICK: the multiplier in force follows the band and the memory's report. -/
def refreshTick (s : State) : State :=
  let b := s.fld R.CIS_REF F.CIS_REF_BAND_EFF
  let k := min 2 (s.fld R.CIS_REF F.CIS_REF_MULT / 4 ^ b % 4)
  s.setFld R.CIS_REF F.CIS_REF_MULT_EFF (max k (mr4Mult (s.fld R.CIS_REF F.CIS_REF_MR4_RATE)))

/-- REFRESH_RATE_POLL: every 16 ms the controller reads the memory's refresh-rate report. -/
def refreshPoll (rate : Nat) (s : State) : State := s.setFld R.CIS_REF F.CIS_REF_MR4_RATE rate

/-! ### Manual remap (R261) -/

/-- GO of CIS_REMAP_CMD. -/
def remapGo (s : State) : State :=
  let line := s.fld R.CIS_REMAP_CMD F.CIS_REMAP_CMD_LINE_ADDR
  let a := line * 32
  if !inAperture a ∨ inReserved a ∨ (remapOf s line).isSome ∨ (freeSpare s).isNone then
    s.setFld R.CIS_REMAP_CMD F.CIS_REMAP_CMD_ERR 1
  else remapCopy line 2 s

/-! ### The bucket (R269, R270) -/

/-- A capture GO is denied by the lifecycle or the debug level (R404, R405). -/
def captureDenied (s : State) : Bool :=
  s.fld R.SEC_LC_STATUS F.SEC_LC_STATUS_STATE == 2 || s.fld R.SEC_DBG_STATUS F.SEC_DBG_STATUS_LEVEL == 1

/-- A capture GO returns BUSY. -/
def captureBusy (s : State) : Bool := cisFlag s F.CIS_STATUS_CAP_BUSY || cisFlag s F.CIS_STATUS_ZERO_BUSY

/-- GO of CIS_CAP_CTRL: the capture starts, or CAP_REFUSED is set. -/
def captureGo (s : State) : State :=
  let n := s.fld R.CIS_CAP_CTRL F.CIS_CAP_CTRL_LANE
  if !s.flag (R.LINE_FE_CFG n) F.LINE_FE_CFG_ADC_EN ∨ !s.flag (R.LINE_PLL_STATUS n) F.LINE_PLL_STATUS_LOCK then
    cisEvent F.CIS_STATUS_CAP_REFUSED s
  else
    let s := s.setFld R.CIS_STATUS F.CIS_STATUS_CAP_BUSY 1
    let s := (s.setFld R.CIS_CAP_STATUS F.CIS_CAP_STATUS_SEGS_DONE 0).setFld R.CIS_CAP_STATUS F.CIS_CAP_STATUS_SKIPPED 0
    let marked := s.flag R.CIS_CAP_CTRL F.CIS_CAP_CTRL_TRIGGER && decide (profileEff s = .deep)
    modCis (fun c => { c with capture := some { lane := n, marked := marked }, bufs := [],
                              capEffort := s.rx[lane n].effort }) s

/-- SEG_COUNT and SEG_SAMPLES as they are taken. -/
def segCount (s : State) : Nat := clampNat 1 16384 (s.fld R.CIS_CAP_CFG2 F.CIS_CAP_CFG2_SEG_COUNT)
def segSamples (s : State) : Nat := max 1 (s.fld R.CIS_CAP_CFG F.CIS_CAP_CFG_SEG_SAMPLES)

/-- Symbols of a receive frame, and OFFSET as it is taken. -/
def frameSymbols (s : State) : Nat := if profileEff s = .deep then 65792 else 65536
def segOffset (s : State) : Nat :=
  min (if profileEff s = .deep then 1027 else 1023) (s.fld R.CIS_CAP_CFG2 F.CIS_CAP_CFG2_OFFSET)

/-- The period in force in frames (R269). -/
def segPeriod (s : State) : Nat :=
  let e := s.cis.capEffort
  max 1 (s.fld R.CIS_CAP_CFG F.CIS_CAP_CFG_SEG_PERIOD) * (if 100 ≤ e then 1 else if 50 ≤ e then 2 else 4)

/-- A capture ends (R269). -/
def captureEnd (s : State) : State :=
  cisEvent F.CIS_STATUS_CAP_DONE
    ((modCis (fun c => { c with capture := none, bufs := [] }) s).setFld R.CIS_STATUS F.CIS_STATUS_CAP_BUSY 0)

/-- Little-endian bytes of a number. -/
def leBytes (k v : Nat) : List Nat := (List.range k).map fun i => v / 256 ^ i % 256

/-- The 32 bytes of a slot header (R270) for a segment that begins in receive frame `f`; its time is taken as in R21, without the
module's delays, at the first sample. -/
def slotHeader (n : Fin 8) (f : Nat) (gap : Bool) (t : Int) (s : State) : List Nat :=
  let pos := segOffset s * 64
  let v := (t % (2 ^ 48 * 65536000000000 : Int)).toNat
  leBytes 8 (f * frameSymbols s + pos) ++ leBytes 4 (f % 2 ^ 32) ++ leBytes 4 pos ++
    [s.fld (R.LINE_PI n) F.LINE_PI_PHASE, 1 + 2 * b2n gap] ++ leBytes 2 (segSamples s) ++
    leBytes 4 (v / 65536 % 1000000000) ++ leBytes 4 (v / 65536000000000 % 2 ^ 32) ++ [0, 0, 0, 0]

/-- CAPTURE_SEGMENT: a segment falls due at its receive frame boundary; its samples fill a free buffer, or it is skipped. -/
def captureSegment (samples : List Nat) (st : Strobe) (s : State) : State :=
  match s.cis.capture with
  | none => s
  | some c =>
    let n := lane c.lane
    if c.ending ∨ segCount s ≤ c.taken then s
    else if c.nextDue.isNone ∧ c.marked ∧ !s.frm[n].tmf then s
    else
      let f := max s.line[n].rxCnt (c.nextDue.getD 0)
      let c := { c with nextDue := some (f + segPeriod s) }
      if 2 ≤ s.cis.bufs.length ∨ !s.flag (R.LINE_PLL_STATUS n) F.LINE_PLL_STATUS_LOCK ∨ s.region[Region.cistern.idx].reacting then
        (modCis (fun x => { x with capture := some { c with gap := true } }) s).addSat R.CIS_CAP_STATUS F.CIS_CAP_STATUS_SKIPPED 1
      else
        let (d, s) := psTicks (stampOffset s n true st) s
        let b : CapBuf := { header := slotHeader n f c.gap (s.tod.a.ts + d) s, samples := (samples.take (segSamples s * 64)).map (· % 128) }
        modCis (fun x => { x with capture := some { c with gap := false, taken := c.taken + 1 }, bufs := x.bufs ++ [b] }) s

/-- Writes the bytes of whole words from an address. -/
def storeList (a : Nat) (l : List Nat) (s : State) : State :=
  wordsWritten a (a + l.length - 1) (l.zipIdx.foldl (fun s p => s.setByte (a + p.2) (BitVec.ofNat 8 p.1)) s)

/-- The oldest buffer drains to its slot. -/
def drainOne (s : State) : State :=
  match s.cis.bufs with
  | [] => s
  | b :: rest =>
    let done := s.fld R.CIS_CAP_STATUS F.CIS_CAP_STATUS_SEGS_DONE
    let s := storeList (0x44000000 + done * 0x10000) (b.header ++ b.samples) s
    modCis (fun x => { x with bufs := rest }) (s.setFld R.CIS_CAP_STATUS F.CIS_CAP_STATUS_SEGS_DONE (done + 1))

/-- CAPTURE_SEGMENT_DRAINED: a segment has drained; the last one ends the capture. -/
def captureDrained (s : State) : State :=
  if cisStalls s .bucket then s
  else match s.cis.capture, s.cis.bufs with
  | some c, _ :: _ =>
    let s := drainOne s
    if c.ending ∨ segCount s ≤ s.fld R.CIS_CAP_STATUS F.CIS_CAP_STATUS_SEGS_DONE then captureEnd s else s
  | _, _ => s

/-- A capture is aborted: it ends after the segment that is draining (R269). -/
def captureAbort (s : State) : State :=
  match s.cis.capture with
  | none => s
  | some c =>
    if s.cis.bufs.isEmpty then captureEnd s
    else modCis (fun x => { x with capture := some { c with ending := true }, bufs := x.bufs.take 1 }) s

/-- A capture that is aborted ends now: the segment that is draining reaches its slot first (R267, R269, R271). -/
def captureClose (s : State) : State := if s.cis.capture.isSome then captureEnd (drainOne s) else s

/-! ### Zeroisation (R271) -/

/-- A zeroisation starts, of the journal mirror too if asked. -/
def zeroStart (mirror : Bool) (s : State) : State :=
  if cisFlag s F.CIS_STATUS_ZERO_BUSY then s
  else
    let s := captureClose s
    modCis (fun c => { c with zeroMirror := mirror }) (s.setFld R.CIS_STATUS F.CIS_STATUS_ZERO_BUSY 1)

/-- GO of CIS_ZERO. -/
def zeroGo (s : State) : State := zeroStart (s.flag R.CIS_ZERO F.CIS_ZERO_MIRROR) s

/-- An area's bytes are written with zeros and matching check bits. -/
def zeroArea (lo hi : Nat) (s : State) : State := wordsWritten lo hi (s.clearBytes lo hi)

/-- ZEROISE_DONE: the areas hold zeros, and ZERO_DONE is set. -/
def zeroDone (s : State) : State :=
  if cisFlag s F.CIS_STATUS_ZERO_BUSY then
    let s := zeroArea 0x44000000 0x83FFFFFF s
    let s := if s.cis.zeroMirror then zeroArea 0x89000000 0x89FFFFFF s else s
    cisEvent F.CIS_STATUS_ZERO_DONE (s.setFld R.CIS_STATUS F.CIS_STATUS_ZERO_BUSY 0)
  else s

/-! ### Sleep and start (R257, R258, R267) -/

/-- Entry into S3 or S4 (R267): what the atlas engine writes back passes through the merge buffer too. -/
def cisSleep (s : State) : State :=
  let s := forLanes (fun n s => cacheWriteBack n s) (captureClose s)
  selfRefresh true (mergeDrain s)

/-- Exit from self-refresh: the lap timer goes on from where it stood. -/
def cisWake (s : State) : State := selfRefresh false s

/-- Training and fill at a cold start (R257, R258). -/
def cisTrain (ok : Bool) (s : State) : State :=
  if ok then
    let s := (s.setFld R.CIS_STATUS F.CIS_STATUS_TRAINED 1).setFld R.CIS_STATUS F.CIS_STATUS_FILLED 1
    { s.clearBytes 0x40000000 0xAFFFFFFF with cis := { lapStart := s.now } }
  else
    let s := s.setFld R.CIS_STATUS F.CIS_STATUS_UNAVAILABLE 1
    chipEscalate .cistern (regionFault .cistern 0 0xC 0 false s)

end Sys2Proof.Machine
end

