-- ==== Sys2Proof/Machine/Mailbox.lean ====
section
/-!
DEFINITION. Mailboxes, doorbells, host interrupts and Port F events (R213, R319 to R327 of spec/). What a keeper reads and
writes for a message's opcode stands in Service.lean, which needs the register fabric.
-/
namespace Sys2Proof.Machine

/-! ### The two directions (R319, R320) -/

/-- Updates a port's mailboxes. -/
def modMbx (p : Fin 3) (g : Mbx → Mbx) (s : State) : State := { s with mbx := vmod s.mbx p g }

/-- FLOW mode is in force. -/
def mbxFlow (s : State) (p : Nat) : Bool := s.flag (R.MBX_STATUS p) F.MBX_STATUS_MODE

/-- IN_FULL and OUT_FULL. -/
def mbxInFull (s : State) (p : Nat) : Bool := s.flag (R.MBX_STATUS p) F.MBX_STATUS_IN_FULL
def mbxOutFull (s : State) (p : Nat) : Bool := s.flag (R.MBX_STATUS p) F.MBX_STATUS_OUT_FULL

/-- Length, opcode and tag of the inbound message. -/
def mbxLen (s : State) (p : Nat) : Nat := s.fld (R.MBX_IN_CTRL p) F.MBX_IN_CTRL_LEN
def mbxOpcode (s : State) (p : Nat) : Nat := s.fld (R.MBX_IN_CTRL p) F.MBX_IN_CTRL_OPCODE
def mbxTag (s : State) (p : Nat) : Nat := s.fld (R.MBX_IN_CTRL p) F.MBX_IN_CTRL_TAG

/-- Inbound word k. -/
def mbxIn (s : State) (p : Fin 3) (k : Nat) : Nat := (s.mbx[p].inb[k % 16]'(Nat.mod_lt _ (by decide))).toNat

/-- A word of the inbound mailbox is filled. -/
def mbxFill (p : Fin 3) (k : Fin 16) (w : Word) (s : State) : State := modMbx p (fun m => { m with inb := m.inb.set k w }) s

/-- OUT_QUEUED follows the queue. -/
def mbxQueued (p : Fin 3) (s : State) : State :=
  s.setFld (R.MBX_STATUS p) F.MBX_STATUS_OUT_QUEUED s.mbx[p].queue.length

/-- What GO answers before it acts (R320): BUSY while a message waits, WIDTH for a length outside 8 to 16. -/
def mbxGoCode (full : Bool) (len : Nat) : Code :=
  if full then .busy else if len < 8 ∨ 16 < len then .width else .ok

/-- GO (R320, R329): IN_FULL becomes 1, and the code of the last message is no longer valid. -/
def mbxGo (p : Fin 3) (s : State) : State :=
  (s.setFld (R.MBX_ACK p) F.MBX_ACK_VALID 0).raise1 (R.MBX_STATUS p) F.MBX_STATUS_IN_FULL (12 + p)

/-- IN_FULL clears (R320). -/
def mbxInClear (p : Nat) (s : State) : State := s.setFld (R.MBX_STATUS p) F.MBX_STATUS_IN_FULL 0

/-- The code that an MBX_INACK carries for a return code (R323). -/
def inackCode (rc : Nat) : Nat := if rc ≤ 8 then rc else if rc = 0x101 then 6 else 4

/-- The MBX_IN that waits for the keeper's acknowledgement has its reply (R323). -/
def answerMbxIn (rc : Nat) (s : State) : State :=
  let waits (q : SReq) : Bool := q.mtype == 5 && q.reply.isNone
  match s.seep.reqs.findIdx? waits with
  | none => s
  | some i =>
    { s with seep := { s.seep with reqs := s.seep.reqs.modify i fun q => { q with reply := some (inackCode rc, []) } } }

/-- The keeper writes MBX_x_ACK (R320): IN_FULL clears, and IN_DONE is set in ACK mode. -/
def mbxAck (p : Fin 3) (rc : Nat) (s : State) : State :=
  if mbxFlow s p then s
  else
    let s := s.setReg (R.MBX_ACK p) (word (rc % 65536 + 65536))
    let s := (mbxInClear p s).setFld (R.MBX_STATUS p) F.MBX_STATUS_IN_DONE 1
    if p = 2 then answerMbxIn rc s else s

/-- The words of a reply are written and OUT_CTRL posts it (R320). -/
def mbxPost (p : Fin 3) (r : Reply) (s : State) : State :=
  let s := (List.range (min 16 r.len)).foldl (fun s k => s.setReg (R.MBX_DATA p k) (word ((r.words[k]?).getD 0))) s
  let c := R.MBX_OUT_CTRL p
  let s := s.setFld c F.MBX_OUT_CTRL_LEN r.len
  let s := s.setFld c F.MBX_OUT_CTRL_OPCODE r.opcode
  let s := s.setFld c F.MBX_OUT_CTRL_TAG r.tag
  let s := s.setFld c F.MBX_OUT_CTRL_FULL 1
  let s := s.setFld (R.MBX_STATUS p) F.MBX_STATUS_OUT_FULL 1
  s.setFld (R.MBX_STATUS p) F.MBX_STATUS_OUT_AVAIL 1

/-- The keeper posts the oldest reply of its queue while OUT_FULL is 0 (R320, R321). -/
def mbxPostNext (p : Fin 3) (s : State) : State :=
  if mbxOutFull s p then s
  else match s.mbx[p].queue with
    | [] => s
    | r :: t => mbxPost p r (mbxQueued p (modMbx p (fun m => { m with queue := t }) s))

/-- OUT_FULL clears (R320); Port F's FULL may be announced again (R213). -/
def mbxOutClear (p : Fin 3) (s : State) : State :=
  let s := s.setFld (R.MBX_STATUS p) F.MBX_STATUS_OUT_FULL 0
  let s := s.setFld (R.MBX_OUT_CTRL p) F.MBX_OUT_CTRL_FULL 0
  if p = 2 then { s with seep := { s.seep with evLast := s.seep.evLast % 2 ^ 32 } } else s

/-- A reply that cannot be posted waits in the queue of 8; with the queue full it is discarded and OUT_LOST is set (R321). -/
def mbxReply (p : Fin 3) (r : Reply) (s : State) : State :=
  if !mbxOutFull s p && s.mbx[p].queue.isEmpty then mbxPost p r s
  else if s.mbx[p].queue.length < 8 then mbxQueued p (modMbx p (fun m => { m with queue := m.queue ++ [r] }) s)
  else s.setFld (R.MBX_STATUS p) F.MBX_STATUS_OUT_LOST 1

/-- Opcodes that always queue a reply in the mode in force (R321, R322). -/
def opReplies (flow : Bool) (op : Nat) : Bool :=
  op == 0x01 || op == 0x02 || op == 0x20 || op == 0x30 || (flow && op != 0x10)

/-- A mode change takes effect while both of the port's mailboxes are empty (R319). -/
def mbxModeApply (p : Fin 3) (s : State) : State :=
  let f : Fld := if p = 0 then F.MBX_CFG_MODE_S else if p = 1 then F.MBX_CFG_MODE_I else F.MBX_CFG_MODE_F
  if mbxInFull s p || mbxOutFull s p then s else s.setFld (R.MBX_STATUS p) F.MBX_STATUS_MODE (s.fld R.MBX_CFG f)

/-- The host's side completes an outbound message: the read of DATA[LEN − 1] in FLOW mode (R320). It clears "the pending
interrupt with it" (the worked example of chapter 12), so OUT_AVAIL too (DEDUCED, log 108). -/
def mbxHostRead (p : Fin 3) (k : Nat) (s : State) : State :=
  if mbxFlow s p && mbxOutFull s p && k + 1 == s.fld (R.MBX_OUT_CTRL p) F.MBX_OUT_CTRL_LEN then
    (mbxOutClear p s).setFld (R.MBX_STATUS p) F.MBX_STATUS_OUT_AVAIL 0
  else s

/-- The keeper's side completes an inbound message: its read of DATA[LEN − 1] in FLOW mode (R320). -/
def mbxKeeperRead (p : Fin 3) (k : Nat) (s : State) : State :=
  if mbxFlow s p && mbxInFull s p && k + 1 == mbxLen s p then mbxInClear p s else s

/-- MBX_x_OUT_ACK (R320): it completes the outbound message in ACK mode. -/
def mbxOutAck (p : Fin 3) (s : State) : State := if mbxFlow s p then s else mbxOutClear p s

/-! ### Doorbells (R324) -/

/-- The to-device bits that interrupt the serving keeper. -/
def dbPending (s : State) (p : Nat) : Nat :=
  Nat.land (s.fld (R.MBX_DB_TODEV p) F.MBX_DB_TODEV_DB)
    (0xFFFFFFFF - s.fld (R.MBX_DB_TODEV_MASK p) F.MBX_DB_TODEV_MASK_MASK)

/-- A host sets to-device bits; an unmasked bit that goes from 0 to 1 is a source's member (R324, R340, R377). -/
def dbSetDev (p : Fin 3) (bits : Nat) (s : State) : State :=
  let old := dbPending s p
  let a := R.MBX_DB_TODEV p
  let s := s.setFld a F.MBX_DB_TODEV_DB (Nat.lor (s.fld a F.MBX_DB_TODEV_DB) bits)
  if Nat.lor old (dbPending s p) = old then s else s.journal (15 + p) (s.reg a).toNat

/-- The serving keeper clears to-device bits. -/
def dbAckDev (p : Fin 3) (bits : Nat) (s : State) : State := s.clrBits (R.MBX_DB_TODEV p) F.MBX_DB_TODEV_DB bits

/-- The serving keeper sets to-host bits. -/
def dbSetHost (p : Fin 3) (bits : Nat) (s : State) : State :=
  let a := R.MBX_DB_TOHOST p
  s.setFld a F.MBX_DB_TOHOST_DB (Nat.lor (s.fld a F.MBX_DB_TOHOST_DB) bits)

/-- The host clears to-host bits; a cleared Port F bit may be announced again (R213). -/
def dbClearHost (p : Fin 3) (bits : Nat) (s : State) : State :=
  let s := s.clrBits (R.MBX_DB_TOHOST p) F.MBX_DB_TOHOST_DB bits
  if p = 2 then { s with seep := { s.seep with evLast := s.seep.evLast - Nat.land s.seep.evLast (bits % 2 ^ 32) } } else s

/-! ### Host interrupts (R325) -/

/-- The to-host bits that raise the host interrupt. -/
def dbHost (s : State) (p : Nat) : Nat :=
  Nat.land (s.fld (R.MBX_DB_TOHOST p) F.MBX_DB_TOHOST_DB)
    (0xFFFFFFFF - s.fld (R.MBX_DB_TOHOST_MASK p) F.MBX_DB_TOHOST_MASK_MASK)

/-- The three causes of a port's host interrupt: bit 0 doorbell, 1 OUT_AVAIL, 2 IN_DONE (R325). -/
def irqCauses (s : State) (p : Nat) : Nat :=
  let st := R.MBX_STATUS p
  let en := R.MBX_IRQ_EN p
  b2n (dbHost s p != 0) +
  2 * b2n (s.flag st F.MBX_STATUS_OUT_AVAIL && s.flag en F.MBX_IRQ_EN_OUT_AVAIL_EN) +
  4 * b2n (s.flag st F.MBX_STATUS_IN_DONE && s.flag en F.MBX_IRQ_EN_IN_DONE_EN)

/-- The level of IRQ_N: low while Port S's interrupt is pending (R325). -/
def irqN (s : State) : Bool := irqCauses s 0 == 0

/-- Updates the front ends. -/
def modPort (g : PortSt → PortSt) (s : State) : State := { s with port := g s.port }

/-- When Port I must send an in-band interrupt (R325): its interrupt becomes pending, or, while it stays pending, a cause
that was clear at the last acceptance becomes set. -/
def ibiFollow (old s : State) : State :=
  let c := irqCauses s 1
  let c0 := irqCauses old 1
  if c = 0 then modPort (fun q => { q with ibiDue := false, ibiRetry := false, ibiAcc := 0 }) s
  else if c0 = 0 then modPort (fun q => { q with ibiDue := true }) s
  else if (List.range 3).any (fun i => bitOf c i && !bitOf c0 i && !bitOf s.port.ibiAcc i) then
    modPort (fun q => { q with ibiDue := true }) s
  else s

/-- The mandatory data byte (R325). -/
def ibiByte (s : State) : Nat := irqCauses s 1 + 8 * b2n (bitOf (dbHost s 1) 31)

/-- An in-band interrupt is put on the bus, and accepted or not (R325). -/
def ibiTry (acked : Bool) (s : State) : State :=
  let b := ibiByte s
  let c := irqCauses s 1
  modPort (fun q => if acked then { q with ibiByte := b, ibiDue := false, ibiRetry := false, ibiAcc := c }
                    else { q with ibiByte := b, ibiRetry := true }) s

/-- IBI_SEND (R325): interrupts must be enabled by ENEC, and the target has its dynamic address. -/
def ibiSend (acked : Bool) (s : State) : State :=
  if s.port.ibiDue && s.port.ibiEn && s.port.dyn.isSome && !s.port.ibiRetry && irqCauses s 1 != 0 then ibiTry acked s else s

/-- IBI_RETRY (R325). -/
def ibiRetry (acked : Bool) (s : State) : State :=
  if s.port.ibiDue && s.port.ibiRetry && s.port.ibiEn && irqCauses s 1 != 0 then ibiTry acked s else s

/-! ### Port F events (R213) -/

/-- The Port F bits and FULL that an EVENT announces: doorbells in bits 0 to 31, FULL in bit 32. -/
def eventBits (s : State) : Nat :=
  s.fld (R.MBX_DB_TOHOST 2) F.MBX_DB_TOHOST_DB + 2 ^ 32 * b2n (mbxOutFull s 2)

/-- An EVENT goes to the peer, link-local when PEER is 0. Its TID and a link-local message's HOPS are open. -/
def eventMessage (s : State) : State :=
  let peer := s.fld R.SEEP_PF_PEER F.SEEP_PF_PEER_PEER
  let (tid, s) := s.fresh 8
  let (h, s) := if peer = 0 then s.fresh 4 else (15, s)
  let m : SMsg := { dst := peer, hops := h, src := seepNode s, rc := 0, mtype := 7, tid := tid,
                    payload := beBytes 4 (eventBits s % 2 ^ 32) ++ [eventBits s / 2 ^ 32] }
  let s := sendMsg (lane (s.fld R.SEEP_PF_PEER F.SEEP_PF_PEER_LANE)) 3 m s
  { s with seep := { s.seep with evLast := eventBits s, evFrames := 0 } }

/-- EVENT_SEND (R213): a doorbell bit or FULL is set that has not been announced. -/
def eventSend (s : State) : State :=
  if s.flag R.SEEP_PF_PEER F.SEEP_PF_PEER_EN && Nat.lor s.seep.evLast (eventBits s) != s.seep.evLast
  then eventMessage s else s

/-- EVENT_REPEAT (R213, R218): EVENT_REPEAT transmit frames, 0 taken as 1, of the lane have begun, and a bit or FULL remains set. -/
def eventRepeat (s : State) : State :=
  if s.flag R.SEEP_PF_PEER F.SEEP_PF_PEER_EN && eventBits s != 0 &&
     decide (max 1 (s.fld R.SEEP_CFG F.SEEP_CFG_EVENT_REPEAT) ≤ s.seep.evFrames) then eventMessage s else s

/-! ### Port F requests that use the mailbox (R212, R323) -/

/-- The bytes of a message in words of 4, most significant byte first. -/
def wordsOf (b : List Nat) : Nat → List Nat
  | 0 => []
  | k + 1 => beNat (b.take 4) :: wordsOf (b.drop 4) k

/-- MBX_IN_RECEIVE (R212, R323): the message enters the Port F inbound mailbox. An MBX_IN that finds IN_FULL = 1 is answered
BUSY, and one whose length is wrong WIDTH; in FLOW mode a delivered one is answered OK at once, in ACK mode when the
keeper acknowledges it. -/
def mbxInReceive (n : Fin 8) (s : State) : State :=
  match takeMsg n (fun m => m.mtype == 5 && consumed s m) s with
  | none => s
  | some (m, fr, s) =>
    let w := wordsOf m.payload (m.payload.length / 4)
    let ctrl := (w[0]?).getD 0
    let len := ctrl % 32
    if mbxInFull s 2 then addReq n m fr 7 [] s
    else if mbxGoCode false len ≠ .ok ∨ m.payload.length ≠ 4 + 4 * len then addReq n m fr 6 [] s
    else
      let s := (List.finRange 16).foldl (fun s k => if k.val < len then mbxFill 2 k (word ((w[k.val + 1]?).getD 0)) s else s) s
      let c := R.MBX_IN_CTRL 2
      let s := s.setFld c F.MBX_IN_CTRL_LEN len
      let s := s.setFld c F.MBX_IN_CTRL_OPCODE (ctrl / 2 ^ 8 % 256)
      let s := mbxGo 2 (s.setFld c F.MBX_IN_CTRL_TAG (ctrl / 2 ^ 16 % 256))
      if mbxFlow s 2 then addReq n m fr 0 [] s
      else pushReq n m fr none s

end Sys2Proof.Machine
end

