-- ==== Sys2Proof/Machine/Keepers.lean ====
section
/-!
DEFINITION. Which blocks answer in the present power state (R311, R356, R414), the keeper interrupt controller (R333 to
R341) and the keepers (R330 to R332) of spec/.
-/
namespace Sys2Proof.Machine

/-! ### Blocks that answer -/

/-- The vent or a supply restart holds every domain but the always-on island in reset (R370, R389). -/
def holdReset (s : State) : Bool := s.vent || s.saf.supplyHold

/-- Whether the register at an address answers now (R311, R356, R414): AON registers always, a block's others in the power
states of R414. -/
def answers (s : State) (a : Nat) : Bool :=
  let st := pwrState s
  if decide (a < 0x20000) || (decide (0x50000 ≤ a) && decide (a < 0x100000)) || (decide (0x1400000 ≤ a) && decide (a < 0x1500000))
  then true
  else if (match specAt a with | some r => r.aon | none => false) then true
  else if holdReset s then false
  else if a < 0x30000 then decide (a < 0x21000) || decide (0x21200 ≤ a) || decide (st ≤ 2)
  else if a < 0x40000 then true
  else if a < 0x50000 then decide (st ≤ 2)
  else if a < 0x200000 then !refLost s
  else if a < 0x800000 then decide (st ≤ 2)
  else if a < 0x1000000 then (if a % 0x100000 < 0x80000 then decide (st ≤ 2) else decide (st ≤ 1))
  else if a < 0x1100000 then decide (st ≤ 1)
  else if a < 0x1200000 then true
  else if a < 0x1300000 then decide (st ≤ 1)
  else decide (st ≤ 2)

/-! ### Sources (R333, R340) -/

/-- A member field is 1, in a block that is not powered off (R339). -/
def member (s : State) (a : Nat) (f : Fld) : Bool := s.flag a f && answers s a

/-- The sources of a well: j and the id's member (R340). -/
def wellSource (s : State) (n j : Nat) : Bool :=
  let st := R.WELL_STATUS n
  let rx := R.WELL_RX_STATUS n
  match j with
  | 0 => member s st F.WELL_STATUS_TAKEOVER
  | 1 => member s st F.WELL_STATUS_QUARANTINE
  | 2 => member s st F.WELL_STATUS_RESTART
  | 3 => member s st F.WELL_STATUS_BURST
  | 4 => member s st F.WELL_STATUS_SWITCH_DONE
  | 5 => member s st F.WELL_STATUS_SWITCH_REFUSED
  | 6 => member s st F.WELL_STATUS_SWITCH_CANCELLED
  | 7 => member s st F.WELL_STATUS_LOAD_ERR
  | 8 => (List.range 64).any fun m => [F.PUMP_ERR_IPAR, F.PUMP_ERR_DUE, F.PUMP_ERR_DEADLINE, F.PUMP_ERR_SIG,
      F.PUMP_ERR_LATE2].any fun f => member s (R.PUMP_ERR n m) f
  | 9 => member s rx F.WELL_RX_STATUS_LOCKED_EV
  | 10 => member s rx F.WELL_RX_STATUS_LOL
  | 11 => member s rx F.WELL_RX_STATUS_ACQ_FAIL
  | 12 => member s rx F.WELL_RX_STATUS_REACH_ERR
  | 13 => member s rx F.WELL_RX_STATUS_ADAPT_LATE
  | 14 => member s rx F.WELL_RX_STATUS_ADAPT_REJECT
  | _ => member s (R.WELL_FRM_STATUS n) F.WELL_FRM_STATUS_LOF

/-- The sources of a line lane. -/
def laneSource (s : State) (n j : Nat) : Bool :=
  match j with
  | 0 => member s (R.LINE_PLL_STATUS n) F.LINE_PLL_STATUS_LOL
  | 1 => member s (R.LINE_FE_STATUS n) F.LINE_FE_STATUS_SIG_LOSS
  | 2 => member s (R.LINE_CAL_STATUS n) F.LINE_CAL_STATUS_BAD
  | 3 => member s (R.LINE_CAL_STATUS n) F.LINE_CAL_STATUS_BG_BAD
  | 4 => bitOf (s.fld R.LINE_LEN_STATUS F.LINE_LEN_STATUS_LEN_DROP) n
  | 5 => member s (R.FEC_LN_JUST n) F.FEC_LN_JUST_JUST_OVF
  | 6 => member s (R.FEC_LN_JUST n) F.FEC_LN_JUST_DESKEW_ERR
  | _ => false

/-- The sources of an atlas lane. -/
def atlasSource (s : State) (n j : Nat) : Bool :=
  let f : Fld := match j with
    | 0 => F.ATL_STATUS_DIST_LATE | 1 => F.ATL_STATUS_INVAL | 2 => F.ATL_STATUS_PD_TX_LATE | 3 => F.ATL_STATUS_PD_NOACK
    | 4 => F.ATL_STATUS_PD_APPLIED | 5 => F.ATL_STATUS_PD_DISCARD | 6 => F.ATL_STATUS_TRAIN_DONE | _ => F.ATL_STATUS_TRAIN_FAIL
  member s (R.ATL_STATUS n) f

/-- The sources of a seep lane. -/
def seepSource (s : State) (n j : Nat) : Bool :=
  let f : Fld := match j with
    | 0 => F.SEEP_LN_STATUS_SYNC_LOSS | 1 => F.SEEP_LN_STATUS_REPLY_LATE | 2 => F.SEEP_LN_STATUS_TXQ_DROP
    | 3 => F.SEEP_LN_STATUS_BM_CLIP | _ => F.SEEP_LN_STATUS_FILT_ERR
  member s (R.SEEP_LN_STATUS n) f

/-- The sources of the always-on blocks SAF, THM, MON, SEC and PWR, of BOOT, CIS and TOD (R340). -/
def blockSource (s : State) (id : Nat) : Bool :=
  match id with
  | 360 => member s R.TOD_STATUS F.TOD_STATUS_STATE_EV
  | 361 => member s R.TOD_STATUS F.TOD_STATUS_VALID_FALL
  | 362 => member s R.TOD_STATUS F.TOD_STATUS_EXCH_LATE
  | 363 => member s R.TOD_STATUS F.TOD_STATUS_LOOP
  | 364 => member s R.TOD_STATUS F.TOD_STATUS_PPSIN_REJ
  | 365 => member s R.TOD_STATUS F.TOD_STATUS_NOMAJ_EV
  | 366 => member s R.TOD_STATUS F.TOD_STATUS_SET_REFUSED
  | 367 => member s R.TOD_STATUS F.TOD_STATUS_HO_FALLBACK
  | 380 => s.flag R.BOOT_STATUS F.BOOT_STATUS_DIR_TWIN
  | 381 => s.flag R.BOOT_STATUS F.BOOT_STATUS_IMAGE_TWIN_CONFLICT
  | 382 => s.flag R.BOOT_STATUS F.BOOT_STATUS_FALLBACK
  | 383 => s.flag R.BOOT_STATUS F.BOOT_STATUS_CONFIG_ERR
  | 384 => s.flag R.BOOT_STATUS F.BOOT_STATUS_REPAIR_ERR
  | 385 => s.flag R.BOOT_STATUS F.BOOT_STATUS_FUSE_NOMAJ
  | 386 => member s R.BOOT_STAGE_STATUS F.BOOT_STAGE_STATUS_UPD_DONE
  | 387 => member s R.BOOT_STAGE_STATUS F.BOOT_STAGE_STATUS_UPD_ERR
  | 396 => s.flag R.SAF_SG_STATUS F.SAF_SG_STATUS_SG1_EV
  | 397 => s.flag R.SAF_SG_STATUS F.SAF_SG_STATUS_SG4_RESTORE
  | 398 => s.flag R.SAF_MON_STATUS F.SAF_MON_STATUS_CLK_FAULT
  | 399 => s.flag R.SAF_MON_STATUS F.SAF_MON_STATUS_VOLT_FAULT
  | 400 => s.flag R.SAF_LBIST_STATUS F.SAF_LBIST_STATUS_SLICE_FAIL
  | 401 => s.flag R.SAF_LBIST_STATUS F.SAF_LBIST_STATUS_SLICE_LATE
  | 402 => s.flag R.SAF_REPAIR_STATUS F.SAF_REPAIR_STATUS_REPAIR_EV
  | 403 => s.flag R.SAF_REPAIR_STATUS F.SAF_REPAIR_STATUS_SPARE_OUT
  | 404 => s.flag R.SAF_JNL_STATUS F.SAF_JNL_STATUS_LOST_EV
  | 405 => s.flag R.SAF_JNL_STATUS F.SAF_JNL_STATUS_GAP_EV
  | 416 => s.flag R.THM_STATUS F.THM_STATUS_THROTTLE_EV
  | 417 => s.flag R.THM_STATUS F.THM_STATUS_FLOOR_EV
  | 418 => s.flag R.THM_STATUS F.THM_STATUS_BAND_EV
  | 419 => s.flag R.THM_STATUS F.THM_STATUS_SENS_FAULT
  | 420 => s.flag R.THM_STATUS F.THM_STATUS_NEAR_VENT
  | 421 => s.flag R.THM_STATUS F.THM_STATUS_VENTED
  | 424 => s.flag R.MON_STATUS F.MON_STATUS_CAL_DONE
  | 425 => s.flag R.MON_STATUS F.MON_STATUS_CAL_BAD
  | 426 => s.flag R.MON_STATUS F.MON_STATUS_OVR_EV
  | 427 => s.flag R.MON_STATUS F.MON_STATUS_LIMIT_EV
  | 428 => s.flag R.SEC_LC_CMD F.SEC_LC_CMD_LC_DONE
  | 429 => s.flag R.SEC_LC_CMD F.SEC_LC_CMD_LC_ERR
  | 430 => s.flag R.SEC_DBG_STATUS F.SEC_DBG_STATUS_DBG_EV
  | 431 => s.flag R.SEC_DBG_STATUS F.SEC_DBG_STATUS_JTAG_REFUSED
  | 432 => s.flag R.PWR_STATUS F.PWR_STATUS_ENTRY_DONE
  | 433 => s.flag R.PWR_STATUS F.PWR_STATUS_WAKE_EV
  | 434 => s.flag R.PWR_STATUS F.PWR_STATUS_REFUSED
  | 435 => s.flag R.PWR_STATUS F.PWR_STATUS_COMMIT_LOST
  | 436 => s.flag R.PWR_AVS_STATUS F.PWR_AVS_STATUS_AVS_PEND
  | 437 => s.flag R.PWR_AVS_STATUS F.PWR_AVS_STATUS_AVS_TO
  | _ => false

/-- A source is asserted while at least one of its member fields is 1 (R333, R340). -/
def asserted (s : State) (id : Nat) : Bool :=
  if id < 32 then
    if id = 1 then s.flag R.CHIP_FAULT_STATUS F.CHIP_FAULT_STATUS_CHIP_FAULT
    else if 2 ≤ id ∧ id ≤ 6 then s.flag (R.CHIP_RERR (id - 2)) F.CHIP_RERR_PEND
    else if id = 7 then s.flag R.CHIP_VIOL F.CHIP_VIOL_LOCK_VIOL
    else if id = 8 then s.flag R.CHIP_PERM_STATUS F.CHIP_PERM_STATUS_PERM_ERR
    else if 9 ≤ id ∧ id ≤ 11 then s.flag (R.CHIP_PORT_ERR (id - 9)) F.CHIP_PORT_ERR_ERR
    else if 12 ≤ id ∧ id ≤ 14 then mbxInFull s (id - 12)
    else if 15 ≤ id ∧ id ≤ 17 then dbPending s (id - 15) != 0
    else if 18 ≤ id ∧ id ≤ 20 then bitOf (s.fld R.KIC_SWI F.KIC_SWI_SWI) (id - 18)
    else if id = 21 then s.flag R.KIC_STATUS F.KIC_STATUS_EOI_ERR
    else if 22 ≤ id ∧ id ≤ 24 then bitOf (s.fld R.KIC_KSTATUS F.KIC_KSTATUS_RESTARTED) (id - 22)
    else false
  else if id < 160 then wellSource s ((id - 32) / 16) ((id - 32) % 16)
  else if id < 224 then laneSource s ((id - 160) / 8) ((id - 160) % 8)
  else if id < 288 then atlasSource s ((id - 224) / 8) ((id - 224) % 8)
  else if id < 328 then seepSource s ((id - 288) / 5) ((id - 288) % 5)
  else if id < 334 then
    match id with
    | 328 => s.flag R.SEEP_WAKE F.SEEP_WAKE_WAKE_PEND
    | 329 => s.flag R.SEEP_GW_CTL F.SEEP_GW_CTL_RX_AVAIL
    | 330 => s.flag R.SEEP_GW_CTL F.SEEP_GW_CTL_GW_ERR
    | 331 => s.flag R.SEEP_GW_CTL F.SEEP_GW_CTL_RX_OVF
    | 332 => s.flag R.SEEP_STATUS F.SEEP_STATUS_NOROUTE
    | _ => s.flag R.SEEP_STATUS F.SEEP_STATUS_BAD_MSG
  else if id < 342 then
    [F.HOST_LN_STATUS_LOS, F.HOST_LN_STATUS_CDR_LOL, F.HOST_LN_STATUS_FREQ_ERR, F.HOST_LN_STATUS_TRAIN_FAIL].any fun f =>
      member s (R.HOST_LN_STATUS (id - 334)) f
  else if id = 342 then member s R.HOST_STATUS F.HOST_STATUS_MAP_ERR
  else if id = 343 then member s R.FEC_PROFILE F.FEC_PROFILE_REFUSED
  else if id < 360 then
    [F.HOST_MON_STATUS_LOCK_LOSS, F.HOST_MON_STATUS_DEGRADE, F.HOST_MON_STATUS_UNCORR_EV].any fun f =>
      member s (R.HOST_MON_STATUS ((id - 344) / 2) ((id - 344) % 2)) f
  else if 368 ≤ id ∧ id ≤ 376 then member s R.CIS_STATUS { F.CIS_STATUS_CE_EV with lo := 16 + (id - 368) }
  else if 392 ≤ id ∧ id ≤ 395 then bitOf (s.fld R.SAF_SG_STATUS F.SAF_SG_STATUS_TRIP) (id - 392)
  else blockSource s id

/-! ### Routing (R334) -/

/-- Priority and target mask of a source. -/
def srcPrio (s : State) (id : Nat) : Nat := s.fld (R.KIC_SRC_CFG (id - 1)) F.KIC_SRC_CFG_PRIO
def srcTarget (s : State) (id : Nat) : Nat := s.fld (R.KIC_SRC_CFG (id - 1)) F.KIC_SRC_CFG_TARGET

/-- Threshold mode is in force on keeper k. -/
def thrMode (s : State) (k : Nat) : Bool := s.flag (R.KIC_MODE k) F.KIC_MODE_MODE

/-- A keeper's running priority. -/
def running (s : State) (k : Fin 3) : Nat :=
  if thrMode s k then s.fld (R.KIC_MODE k) F.KIC_MODE_THRESH
  else match s.kic.k[k].stack with | [] => 0 | (p, _) :: _ => p

/-- The pair is powered, and it is neither resetting nor switching. -/
def pairPowered (s : State) (k : Nat) : Bool := bitOf (s.fld R.KIC_KSTATUS F.KIC_KSTATUS_POWERED) k
def pairSwitching (s : State) (k : Nat) : Bool := bitOf (s.fld R.KIC_KSTATUS F.KIC_KSTATUS_SWITCHING) k
def pairUp (s : State) (k : Fin 3) : Bool := pairPowered s k && !s.kic.k[k].down && !pairSwitching s k

/-- The pair serves its tasks: it is up and not halted (R331, R405). -/
def pairServes (s : State) (k : Fin 3) : Bool := pairUp s k && !s.kic.k[k].halted

/-- In service on some keeper. -/
def inService (s : State) (id : Nat) : Bool := (List.finRange 3).any fun k => s.kic.k[k].svc.contains id

/-- Pending (R333). -/
def pending (s : State) (id : Nat) : Bool :=
  !irqReserved id && decide (1 ≤ srcPrio s id) && asserted s id && !inService s id

/-- The keeper may take the source. -/
def eligible (s : State) (id : Nat) (k : Fin 3) : Bool :=
  bitOf (srcTarget s id) k && pairUp s k && decide (running s k < srcPrio s id)

/-- The keeper that a pending source is routed to: the eligible one with the lowest running priority, ties to the lowest
index. -/
def routed (s : State) (id : Nat) : Option (Fin 3) :=
  if pending s id then
    ((List.finRange 3).filter (eligible s id)).foldl (fun b k =>
      match b with | none => some k | some j => if running s k < running s j then some k else some j) none
  else none

/-- All source IDs. -/
def irqIds : List Nat := (List.range 447).map (· + 1)

/-- The controller asserts a keeper's request while a source is routed to it. -/
def requested (s : State) (k : Fin 3) : Bool := irqIds.any fun id => routed s id == some k

/-- Updates a keeper. -/
def modK (k : Fin 3) (g : KeeperSt → KeeperSt) (s : State) : State :=
  { s with kic := { s.kic with k := vmod s.kic.k k g } }

/-- A request asserted in the present cycle is remembered until the next claim or end-of-interrupt (R335). -/
def requestsFollow (s : State) : State :=
  (List.finRange 3).foldl (fun s k => if requested s k then modK k (fun x => { x with seen := true }) s else s) s

/-! ### Claim and end of interrupt (R335, R336, R338) -/

/-- The highest-priority source routed to k, ties to the lowest ID. -/
def topRouted (s : State) (k : Fin 3) : Option Nat :=
  (irqIds.filter fun id => routed s id == some k).foldl (fun b id =>
    match b with | none => some id | some j => if srcPrio s j < srcPrio s id then some id else some j) none

/-- A read of KIC_CLAIMk by keeper k. -/
def kicClaim (k : Fin 3) (s : State) : Nat × State :=
  match topRouted s k with
  | some id =>
    let p := srcPrio s id
    (id, modK k (fun x => { x with seen := false, svc := x.svc ++ [id],
                                   stack := if thrMode s k then x.stack else (p, id) :: x.stack }) s)
  | none => (if s.kic.k[k].seen then 1023 else 0, modK k (fun x => { x with seen := false }) s)

/-- A discarded end-of-interrupt. -/
def eoiErr (k : Fin 3) (s : State) : State :=
  (s.raise R.KIC_STATUS F.KIC_STATUS_EOI_ERR (2 ^ k.val) 21).addSat R.KIC_STATUS F.KIC_STATUS_EOI_ERRS 1

/-- A write of an ID to KIC_EOIk by keeper k. -/
def kicEoi (k : Fin 3) (id : Nat) (s : State) : State :=
  let s := modK k (fun x => { x with seen := false }) s
  if thrMode s k then
    if s.kic.k[k].svc.contains id then modK k (fun x => { x with svc := x.svc.erase id }) s else eoiErr k s
  else match s.kic.k[k].stack with
    | (_, top) :: t => if top = id then modK k (fun x => { x with stack := t, svc := x.svc.erase id }) s else eoiErr k s
    | [] => eoiErr k s

/-- A change of MODE returns BUSY while the stack is not empty, or while a source is in service (R338). -/
def modeBusy (s : State) (k : Fin 3) (thr : Bool) : Bool :=
  if thr && !thrMode s k then !s.kic.k[k].stack.isEmpty
  else if !thr && thrMode s k then !s.kic.k[k].svc.isEmpty
  else false

/-- At every reset of a pair the controller empties its stack, completes its sources, and returns its interface to threshold
mode with threshold 15 (R332). -/
def pairReset (k : Fin 3) (s : State) : State :=
  (modK k (fun x => { x with stack := [], svc := [], seen := false, halted := false }) s).setReg (R.KIC_MODE k) 0xF1

/-! ### What the controller's registers show (R341) -/

/-- KIC_SRC_CFG with its status fields. -/
def srcCfgView (s : State) (id : Nat) : Word :=
  if irqReserved id then 0
  else
    let w := s.reg (R.KIC_SRC_CFG (id - 1))
    let w := F.KIC_SRC_CFG_ASSERTED.put w (b2n (asserted s id))
    let w := F.KIC_SRC_CFG_PENDING.put w (b2n (pending s id))
    let w := F.KIC_SRC_CFG_IN_SERVICE.put w (b2n (inService s id))
    let who := match (List.finRange 3).find? fun k => s.kic.k[k].svc.contains id with
      | some k => k.val
      | none => match routed s id with | some k => k.val | none => 3
    F.KIC_SRC_CFG_ROUTED.put w who

/-- KIC_RPRIOk. -/
def rprioView (s : State) (k : Fin 3) : Word :=
  let w := F.KIC_RPRIO_RUNNING.put 0 (running s k)
  let w := F.KIC_RPRIO_DEPTH.put w s.kic.k[k].stack.length
  let w := F.KIC_RPRIO_TOP_ID.put w (match s.kic.k[k].stack with | [] => 0 | (_, id) :: _ => id)
  F.KIC_RPRIO_IN_SVC.put w s.kic.k[k].svc.length

/-- KIC_PENDj. -/
def pendView (s : State) (j : Nat) : Word :=
  word ((List.range 32).foldl (fun v i => v + b2n (decide (1 ≤ 32 * j + i) && pending s (32 * j + i)) * 2 ^ i) 0)

/-- KIC_KSTATUS with its IN_SERVICE field. -/
def kstatusView (s : State) : Word :=
  F.KIC_KSTATUS_IN_SERVICE.put (s.reg R.KIC_KSTATUS)
    ((List.finRange 3).foldl (fun v k => v + b2n (pairServes s k) * 2 ^ k.val) 0)

end Sys2Proof.Machine
end

