-- ==== Sys2Proof/Machine/Faults.lean ====
section
/-!
DEFINITION. Faults of blocks other than wells and of regions, and their reactions (R33, R35 to R37, R332 of spec/).
-/
namespace Sys2Proof.Machine

/-! ### Blocks (R18, R33) -/

/-- The region of a block, and its index there (R18). -/
def Block.region : Block → Region
  | .well _ | .fec | .atlas => .line
  | .hostGroup _ => .host
  | .timeTransfer | .seep => .timing
  | .keeper _ | .kic | .fabric | .journal => .keep
  | .cistern => .cistern
def Block.idx : Block → Nat
  | .well n => n
  | .fec => 8
  | .atlas => 9
  | .hostGroup g => g
  | .timeTransfer => 0
  | .seep => 1
  | .keeper k => k
  | .kic => 3
  | .fabric => 4
  | .journal => 5
  | .cistern => 0

/-- What is remembered of a block. -/
def blockSt (s : State) (b : Block) : BlockSt := (s.blocks.find? fun x => x.block == b).getD { block := b }

/-- Updates it. -/
def modBlock (b : Block) (g : BlockSt → BlockSt) (s : State) : State :=
  { s with blocks := g (blockSt s b) :: s.blocks.filter (fun x => x.block != b) }

/-- The bound of a block's local reaction in units of 0.2 ns (R35): one epoch, 50 µs, an exchange interval of 1/16 s, a seep frame of
the lane's mode, 100 µs, and 2 µs. The FEC block's ends at the frame boundaries of its lanes, and the other blocks' with a command. -/
def Block.bound (s : State) (n : Fin 8) : Block → Nat
  | .atlas => 2957500
  | .hostGroup _ => 250000
  | .timeTransfer => 312500000
  | .seep => if seepTxL s n then 1320000000 else 23040000
  | .kic | .fabric | .journal => 500000
  | .cistern => 10000
  | .well _ | .keeper _ | .fec => 1

/-- A local reaction of the block is in progress: the FEC block's while a pipe is still to restart. -/
def blockReacting (s : State) (b : Block) : Bool :=
  if b = .fec then s.frm.any fun f => f.rxRestart.isSome || f.txRestart.isSome
  else (blockSt s b).reacting && decide (s.now < (blockSt s b).ends)

/-- The lanes that a block's escalation reinitialises (R36): for the FEC block, the lanes given with every other lane of
their data ports. -/
def escalationLanes (s : State) (b : Block) (lanes : Nat) : Nat :=
  match b with
  | .well n => 2 ^ n.val
  | .fec => ((List.range 8).filter fun n => (lanesOfPort s (portOfLane s n)).any fun m => bitOf lanes m).foldl
      (fun v n => v + 2 ^ n) 0
  | _ => 0

/-- The place of a block in the SOURCE field of a journal entry: its region and its index there. -/
def Block.source (b : Block) : Nat := 16 * b.region.idx + b.idx

/-- A block fault and its mechanism are recorded in the block's own error status and in the journal, whatever follows (R33, R37, R39). -/
def recordBlockFault (b : Block) (mech : BlockMech) (s : State) : State :=
  (modBlock b (fun x => { x with mech := some mech, count := x.count + 1 }) s).journalFault b.source mech.num

/-- The faults of a block in the last second. -/
def blockRecent (s : State) (b : Block) : List (Nat × Nat) := (blockSt s b).faults.filter fun x => decide (s.now < x.1 + cycSecond)

/-- A block fault is recorded and counted; two within 1 s escalate, for every lane that took part in them (R33, R36). A region
reaction in progress absorbs it (R37). The result says whether the block reacts on its own. -/
def blockHit (b : Block) (mech : BlockMech) (lanes : Nat) (s : State) : Bool × State :=
  let s := recordBlockFault b mech s
  if s.region[b.region.idx].reacting then (false, s)
  else
    let old := blockRecent s b
    let s := modBlock b (fun x => { x with faults := (s.now, lanes) :: old }) s
    if old.isEmpty then (true, s)
    else (false, regionFault b.region b.idx 2 (escalationLanes s b (old.foldl (fun v x => Nat.lor v x.2) lanes)) false s)

/-! ### Keeper faults (R332) -/

/-- The pair is reset: its tasks move to a donor until it signals ready. -/
def keeperReset (k : Fin 3) (s : State) : State :=
  let s := (s.raise R.KIC_KSTATUS F.KIC_KSTATUS_RESTARTED (2 ^ k.val) (22 + k)).addSat R.KIC_KSTATUS F.KIC_KSTATUS_FAULTS 1
  modK k (fun x => { x with down := true }) (pairReset k s)

/-- The mechanism of a keeper's fault (R332). -/
def KeeperCause.mech : KeeperCause → BlockMech
  | .mismatch => .mismatch | .watchdog => .watchdog | .memory => .own

/-- A keeper fault (R35, R332). Mismatches in two pairs within the reset window of 100 ms are a Keep region fault. -/
def keeperFaulted (k : Fin 3) (c : BlockMech) (s : State) : State :=
  if !pairPowered s k then s
  else
    let s := keeperReset k s
    let win := recent s.now (100 * cycMs) (s.kic.mismatch.map (· / 3))
    let others := s.kic.mismatch.any fun x => x % 3 != k.val && win.contains (x / 3)
    let s := if c = .mismatch then
        { s with kic := { s.kic with mismatch := (s.now * 3 + k) :: s.kic.mismatch.filter fun x => win.contains (x / 3) } }
      else s
    if c = .mismatch ∧ others ∧ !s.region[(3 : Fin 5)].reacting then
      regionFault .keep k 6 0 false (recordBlockFault (.keeper k) c s)
    else (blockHit (.keeper k) c 0 s).2

/-- The pair signals ready after a reset: it takes back its tasks, and its watchdog restarts (R331, R370). -/
def keeperUp (k : Fin 3) (s : State) : State :=
  modK k (fun x => { x with down := false, kicked := false, kickAt := s.now }) s

/-! ### Local reactions (R35) -/

/-- A pipe of the lane is to restart: at the next frame boundary of its side, or at once where that side has no frames (R35). -/
def pipeFault (tx : Bool) (poison : Nat) (n : Fin 8) (s : State) : State :=
  if (if tx then s.line[n].txRun else s.line[n].rxRun) then
    modFrm n (fun f => if tx then { f with txRestart := some poison } else { f with rxRestart := some poison }) s
  else pipeRestart n tx poison s

/-- What a fault of the seep block does to one lane's chain. -/
def seepFault (n : Fin 8) (s : State) : State :=
  if seepEn s n then modSeep n (fun l => { l with rxTag := none, asm := none }) (requeueFrame true n s) else s

/-- The lanes of a mask one after the other. -/
def onLanes (lanes : Nat) (g : Fin 8 → State → State) (s : State) : State := forLanes (fun n s => if bitOf lanes n then g n s else s) s

/-- The local reaction of a block, for the lanes that the fault concerns, line lanes or for a host-lane group physical host lanes;
`poison` KP4 codewords are in a pipe of the FEC block. -/
def localReaction (b : Block) (lanes : Nat) (tx : Bool) (poison : Nat) (s : State) : State :=
  match b with
  | .well _ => s
  | .fec => onLanes lanes (pipeFault tx poison) s
  | .atlas => onLanes lanes (fun n => modAtl n fun a => { a with cache := [], misses := [], held := [], resume := true }) s
  | .hostGroup g => groupReinit (Nat.land lanes (0xF * 16 ^ g.val)) s
  | .timeTransfer => ttRestart s
  | .seep => onLanes lanes seepFault s
  | .keeper _ | .kic | .fabric | .journal | .cistern => s

/-- The first lane of a mask. -/
def firstLane (lanes : Nat) : Fin 8 := lane (((List.range 8).find? fun n => bitOf lanes n).getD 0)

/-- A local reaction that is still in progress after the step; it ends within its bound, at a time that the spec leaves open
(notes/assumptions/100.md). -/
def reactionRuns (b : Block) (lanes : Nat) (s : State) : State :=
  let (t, s) := s.fresh 32
  modBlock b (fun x => { x with reacting := true, ends := s.now + 1 + t % b.bound s (firstLane lanes) }) s

/-- A fault of a block (R33, R35, R37): the block reacts on its own; a reaction that is not `quick` is still in progress after the
step, and accesses to the block meet BUSY until it ends. -/
def blockFaulted (b : Block) (mech : BlockMech) (lanes : Nat) (tx : Bool) (poison : Nat) (quick : Bool) (s : State) : State :=
  match b with
  | .keeper k => keeperFaulted k mech s
  | .well k => wellFault k (if mech = .crossing then .crossing else .memory) s
  | b =>
    let (own, s) := blockHit b mech lanes s
    if own then
      let s := modBlock b (fun x => { x with lanes := lanes }) (localReaction b lanes tx poison s)
      if quick then s else reactionRuns b lanes s
    else s

/-- BLOCK_FAULT (R33): the block's own checks find the fault. -/
def blockFault (b : Block) (lanes : Nat) (tx : Bool) (poison : Nat) (quick : Bool) (s : State) : State :=
  blockFaulted b .own lanes tx poison quick s

/-- LOCAL_REACTION_TIMEOUT (R33, R39): a reaction in progress, a well restart or a pair's reset is not complete within its
bound, so it escalates with CAUSE 0x5, for the lanes that it concerns. -/
def reactionTimeout (b : Block) (s : State) : State :=
  let late := match b with
    | .well k => s.well[k].restarting
    | .keeper k => s.kic.k[k].down
    | b => blockReacting s b
  if late then
    let s := match b with
      | .well _ | .keeper _ => s
      | b => modBlock b (fun x => { x with reacting := false }) s
    let s := if b = .fec then forLanes (fun n => modFrm n fun f => { f with rxRestart := none, txRestart := none }) s else s
    regionFault b.region b.idx 5 (escalationLanes s b (blockSt s b).lanes) false s
  else s

/-! ### Region reactions (R36) -/

/-- Every port and direction joins the safe state of SG1 when the trip names no port (R364). -/
def sg1All (s : State) : State := s.setReg R.SAF_SG1_SAFE 0xFFFF

/-- A trip of a goal that names no port. For SG2, readbacks taken before it do not count toward the release (R361). -/
def goalTrip (k : Nat) (s : State) : State :=
  if sgEnabled s k then
    let s := sgTrip k (if k = 1 then sg1All s else s)
    if k = 2 then validFollow (modTod (fun t => { t with readGood := 0 }) s) else s
  else s

/-- A lane is reinitialised (R36): its clocks stop, its FEC pipes empty, its well gives up what it was doing, quarantines the pumps whose
faults were recorded during a restart (R37) and fills its slots, and its receiver starts from the initial set after the relock. -/
def laneReinit (n : Fin 8) (s : State) : State :=
  let s := abandonSlice n (laneClockStop n (modFrm n (fun f => { f with rxRestart := none, txRestart := none })
    { s with cores := s.cores.filter fun c => c.lane != n.val }))
  let s := s.well[n].deferred.foldl (fun s p => if pumpQuar s n p.1 then s else quarantine n p.1 true s) s
  let s := { s with well := vmod s.well n fun w =>
    { w with restarting := false, hwMap := false, vacant := [], deferred := [], move := none } }
  let s := modRx n (fun r => { r with useInit := true, pend := none, sums := none, adaptRun := false, skip := true }) (fillSlots n s)
  setRxState n 0 (txPumpsLoad n (rxPumpsLoad n s))

/-- A region's reaction begins. The cistern drains its merge buffer before it goes into self-refresh for the retrain (R262). -/
def regionBegin (r : Region) (s : State) : State :=
  let g := s.region[r.idx]
  if !g.fresh then s
  else
    let s := { s with region := vmod s.region r.idx fun g => { g with fresh := false } }
    let blk := s.fld (R.CHIP_RERR r.idx) F.CHIP_RERR_LAST_BLOCK
    match r with
    | .line =>
      let s := if blk = 9 then atlasRestart s else s
      forLanes (fun n s => if bitOf g.lanes n then laneReinit n s else s) s
    | .host => groupReinit ((if bitOf g.lanes 8 then 0x0F else 0) + (if bitOf g.lanes 9 then 0xF0 else 0)) s
    | .timing => seepRestart (ttRestart s)
    | .keep => (List.finRange 3).foldl (fun (s : State) (k : Fin 3) =>
        if pairPowered s k then modK k (fun x => { x with down := true }) (pairReset k s) else s) s
    | .cistern => if cisFlag s F.CIS_STATUS_UNAVAILABLE then s
        else selfRefresh true (cisEvent F.CIS_STATUS_RETRAIN_EV (mergeDrain s))

/-- The reactions that a step has started begin with it. -/
def regionsBegin (s : State) : State :=
  regionBegin .cistern (regionBegin .keep (regionBegin .timing (regionBegin .host (regionBegin .line s))))

/-- REGION_FAULT (R33, R36): a fault that the region's own checks find or that a block escalates, for the block and cause
given. Goals that it affects enter their safe states, and the fault escalates to the chip. -/
def regionFaulted (r : Region) (block cause lanes sg : Nat) (s : State) : State :=
  let s := regionFault r block cause lanes (sg != 0) s
  [1, 2, 3, 4].foldl (fun s k => if bitOf sg (k - 1) then goalTrip k s else s) s

/-- A region's reaction ends: its region serves again, and the lanes reinitialised relock. -/
def regionEnd (r : Region) (s : State) : State :=
  let g := s.region[r.idx]
  let s := { s with region := vmod s.region r.idx fun g => { g with reacting := false, fresh := false, lanes := 0 } }
  match r with
  | .line => forLanes (fun n s =>
      if bitOf g.lanes n then (if s.line[n].pllOn && s.line[n].pllEver then lanePllLock n s else s) else s) s
  | .keep => (List.finRange 3).foldl (fun (s : State) (k : Fin 3) => if s.kic.k[k].down then keeperUp k s else s) s
  | .cistern => if cisFlag s F.CIS_STATUS_UNAVAILABLE ∨ deepSleep s then s else selfRefresh false s
  | .host | .timing => s

/-- REGION_REACTION_DONE (R33, R36): the region serves again; a reaction that overran its bound escalates to the chip. -/
def regionDone (r : Region) (inTime : Bool) (s : State) : State :=
  if !s.region[r.idx].reacting then s else regionEnd r (if inTime then s else chipEscalate r s)

/-- CROSSING_FAULT (R20): a parity error or a stall of more than 64 cycles is a fault of the destination block. -/
def crossingFault (b : Block) (lanes : Nat) (tx : Bool) (poison : Nat) (s : State) : State :=
  blockFaulted b .crossing lanes tx poison true s

/-- A host write of 1 to CHIP_FAULT releases FAULT_N (R38, R361). The event bit of R324 stays until the host clears it. -/
def faultRelease (s : State) : State := s.setFld R.CHIP_FAULT_STATUS F.CHIP_FAULT_STATUS_CHIP_FAULT 0

end Sys2Proof.Machine
end

