-- ==== Sys2Proof/Machine/Update.lean ====
section
/-!
DEFINITION. Images, the check of a staged image, and the hitless update up to its tail (R282, R283, R288, R290 to R295 of
spec/11_start_up_and_images.md).
-/
/-- What an image's PUMP section spells: the spec lists what a recipe's header carries (R50) and gives no layout of it
(notes/assumptions/153.md). -/
opaque Sys2Proof.Config.pumpSection : List Nat → Sys2Proof.Machine.PumpSection

/-- The rows of a memory instance; 0 where there is no such instance (R375 numbers neither; notes/assumptions/159.md). -/
opaque Sys2Proof.Config.memRows : Nat → Nat

namespace Sys2Proof.Machine

/-! ### Lifecycle in force (R399) -/

/-- The lifecycle state in force: 0 FACTORY, 1 FIELD, 2 SEALED, 3 RETURN. -/
def lifecycle (s : State) : Nat := s.fld R.SEC_LC_STATUS F.SEC_LC_STATUS_STATE

/-- The key hash is all zeros. -/
def keyBlank (s : State) : Bool := s.flag R.SEC_LC_STATUS F.SEC_LC_STATUS_KEY_BLANK

/-! ### Verification (R282, R283, R401) -/

/-- The public key is accepted: its hash equals the fused one, or the comparison is omitted in FACTORY with a blank hash. A key
hash without a majority matches no key (R278). -/
def keyAccepted (s : State) (i : Image) : Bool :=
  if keyBlank s then lifecycle s == 0 else s.fuse.keyEff == some i.pubHash

/-- Two sections overlap. -/
def overlap (a b : Nat × Nat × Nat) : Bool := decide (a.2.1 < b.2.1 + b.2.2) && decide (b.2.1 < a.2.1 + a.2.2)

/-- The conditions of R283 on the sections. -/
def structureOk (i : Image) : Bool :=
  decide (1 ≤ i.sectCount) && decide (i.sectCount ≤ 16) &&
  i.sects.all (fun x => decide (x.2.1 + x.2.2 ≤ i.length) && decide (1 ≤ x.1) && decide (x.1 ≤ 7)) &&
  decide (i.sects.Pairwise fun a b => a.1 ≠ b.1 ∧ overlap a b = false) &&
  i.sects.any (fun x => x.1 == 3)

/-- The result of header verification: 0, or the reason 1 marker, format or compatibility, 2 key hash, 3 signature, 4
structure. -/
def headerResult (s : State) (i : Image) : Nat :=
  if i.marker ≠ 0x5A4E494D ∨ i.format ≠ 1 ∨ i.chipId ≠ 0x5A4E0816 ∨ s.fld R.CHIP_REV F.CHIP_REV_REV < i.minRev then 1
  else if !keyAccepted s i then 2
  else if !i.sigOk then 3
  else if !structureOk i then 4
  else 0

/-! ### The staged image -/

/-- The slot in force, and the base of a staging slot (R290). -/
def inForceSlot (s : State) : Nat := s.fld R.BOOT_STATUS F.BOOT_STATUS_IN_FORCE_SLOT
def slotBase (k : Nat) : Nat := 0x84000000 + k * 0x2000000
def slotSize : Nat := 0x2000000
/-- The slot that is not in force; in BOOT_FAIL it is slot 1 (R289, R290). -/
def stagingBase (s : State) : Nat := slotBase (1 - inForceSlot s)
/-- The address lies in a slot. -/
def inSlot (base a : Nat) : Bool := decide (base ≤ a) && decide (a < base + slotSize)

/-- A section of the image at `base`: its offset and size, by TYPE. -/
def sectionOf (l : List (Nat × Nat × Nat)) (t : Nat) : Option (Nat × Nat) := (l.find? fun x => x.1 == t).map (·.2)

/-- The records of a section as their words: `k` records of `w` words from address `a`. -/
def recordWords (s : State) (w : Nat) : Nat → Nat → List (List Nat)
  | _, 0 => []
  | a, k + 1 => (List.range w).map (fun j => s.bytesNat (a + 4 * j) 4) :: recordWords s w (a + 4 * w) k

/-- `k` bytes from address `a`, in order. -/
def byteList (s : State) (a k : Nat) : List Nat := (List.range k).map fun i => (s.byte (a + i)).toNat

/-- Word j of a record. -/
def recWord (r : List Nat) (j : Nat) : Nat := (r[j]?).getD 0

/-- CONFIG records (R286). -/
def parseConfig (s : State) (base : Nat) (o : Option (Nat × Nat)) : List CfgRec :=
  match o with
  | none => []
  | some (off, size) =>
    (recordWords s 3 (base + off) (min 16384 (size / 12))).map fun r => ⟨recWord r 0, recWord r 1, recWord r 2⟩

/-- The PERM section: window records, then the group record (R314). -/
def parsePerm (s : State) (base : Nat) (o : Option (Nat × Nat)) : Option PermSec :=
  o.map fun x =>
    let k := (x.2 - 24) / 16
    let g (p : Nat) : PermGrp :=
      { w0 := s.bytesNat (base + x.1 + 16 * k + 8 * p) 4, w1 := s.bytesNat (base + x.1 + 16 * k + 8 * p + 4) 4 }
    { wins := (recordWords s 4 (base + x.1) k).map fun r => ⟨recWord r 0, recWord r 1, recWord r 2, recWord r 3⟩,
      grps := Vector.ofFn fun p : Fin 3 => g p.val }

/-- Repair records (R288). -/
def parseRepair (s : State) (base : Nat) (o : Option (Nat × Nat)) : List RepairRec :=
  match o with
  | none => []
  | some (off, size) =>
    (recordWords s 4 (base + off) (size / 16)).map fun r =>
      { typ := recWord r 0 % 256, unit := recWord r 0 / 256 % 256, loc := recWord r 1, data := recWord r 2 + recWord r 3 * 2 ^ 32 }

/-- The bytes of a section, in order. -/
def sectionBytes (s : State) (base : Nat) (o : Option (Nat × Nat)) : List Nat :=
  match o with
  | none => []
  | some (off, size) => byteList s (base + off) size

/-- The FILTER section: SEEP_LN_FILT0 and SEEP_LN_FILT1 of each lane, lane 0 first (R201, R285; notes/assumptions/154.md). -/
def parseFilter (s : State) (base : Nat) (o : Option (Nat × Nat)) : List (Nat × Nat × Nat) :=
  match o with
  | none => []
  | some (off, size) => ((recordWords s 2 (base + off) (min 8 (size / 8))).zipIdx).map fun r => (r.2, recWord r.1 0, recWord r.1 1)

/-- No word from `lo` to `hi` reads as uncorrectable (R259). -/
def cleanBytes (s : State) (lo hi : Nat) : Bool := s.cis.poison.all fun w => decide (8 * w + 7 < lo) || decide (hi < 8 * w)

/-- The signature of the image at `b` verifies against its public key (R282, R283). -/
def imageSigned (b : Nat) (s : State) : Bool :=
  ecdsaOk (byteList s (b + 336) 97) (ofBytes (byteList s (b + 440) 48)) (ofBytes (byteList s (b + 488) 48)) (sha384 (byteList s b 440))

/-- The digest of the image's body is the one in its header (R282, R283). A body with a word that reads as uncorrectable matches no digest
(notes/assumptions/152.md). -/
def imageBodyOk (b len : Nat) (s : State) : Bool :=
  cleanBytes s b (b + len - 1) && sha384 (byteList s (b + 4096) (len - 4096)) == ofBytes (byteList s (b + 32) 48)

/-- The image that stands at `b` (R282). -/
def imageAt (b : Nat) (s : State) : Image :=
  let w (o : Nat) : Nat := s.bytesNat (b + o) 4
  let cnt := w 24
  let sects := (recordWords s 4 (b + 80) (min 16 cnt)).map fun r => (recWord r 0, recWord r 1, recWord r 2)
  { marker := w 0, format := w 4, chipId := w 8, minRev := w 12, seq := w 16, length := w 20, sects := sects, sectCount := cnt,
    digest := ofBytes (byteList s (b + 32) 48), pubHash := sha384 (byteList s (b + 336) 97), sigOk := imageSigned b s,
    bodyOk := imageBodyOk b (w 20) s,
    config := parseConfig s b (sectionOf sects 1), perm := parsePerm s b (sectionOf sects 2),
    pump := match sectionOf sects 4 with | none => {} | o => Config.pumpSection (sectionBytes s b o),
    filter := parseFilter s b (sectionOf sects 5), holdover := (sectionOf sects 6).map fun o => sectionBytes s b (some o),
    repair := parseRepair s b (sectionOf sects 7) }

/-- The image in the staging slot. -/
def stagedImage (s : State) : Image := imageAt (stagingBase s) s

/-! ### VERIFY (R290, R291) -/

/-- Updates the start-up state. -/
def modBoot (g : BootSt → BootSt) (s : State) : State := { s with boot := g s.boot }

/-- The status fields of an update. -/
def stFlag (s : State) (f : Fld) : Bool := s.flag R.BOOT_STAGE_STATUS f
def setSt (f : Fld) (v : Nat) (s : State) : State := s.setFld R.BOOT_STAGE_STATUS f v
def updStep (s : State) : Nat := s.fld R.BOOT_STAGE_STATUS F.BOOT_STAGE_STATUS_STEP

/-- A verification or switch-over fails with a reason. -/
def updErr (reason : Nat) (s : State) : State :=
  (setSt F.BOOT_STAGE_STATUS_REASON reason s).raise1 R.BOOT_STAGE_STATUS F.BOOT_STAGE_STATUS_UPD_ERR 387

/-- A VERIFY or SWITCH returns BUSY while either runs. -/
def stageBusy (s : State) : Bool := stFlag s F.BOOT_STAGE_STATUS_VERIFY_BUSY || stFlag s F.BOOT_STAGE_STATUS_SWITCH_BUSY

/-- The image in the staging slot is no longer known to verify. -/
def unverify (s : State) : State :=
  { (modBoot (fun b => { b with staged := none }) (setSt F.BOOT_STAGE_STATUS_VERIFIED 0 s)) with stagedPumps := {} }

/-- A write of VERIFY. -/
def stageVerify (s : State) : State := setSt F.BOOT_STAGE_STATUS_VERIFY_BUSY 1 (unverify s)

/-- Any write to the staging slot clears VERIFIED; one during a verification ends it with MODIFIED. -/
def stageWritten (s : State) : State :=
  let s := unverify s
  if stFlag s F.BOOT_STAGE_STATUS_VERIFY_BUSY then updErr 6 (setSt F.BOOT_STAGE_STATUS_VERIFY_BUSY 0 s) else s

/-- STAGE_VERIFY_DONE (R291). -/
def stageVerifyDone (s : State) : State :=
  if !stFlag s F.BOOT_STAGE_STATUS_VERIFY_BUSY then s
  else
    let i := stagedImage s
    let s := setSt F.BOOT_STAGE_STATUS_VERIFY_BUSY 0 s
    let h := headerResult s i
    if h ≠ 0 then updErr h s
    else if !i.bodyOk then updErr 5 s
    else if i.seq < s.fld R.BOOT_SEQ F.BOOT_SEQ_SEQ_EFF ∧ !s.flag R.BOOT_STAGE_CTRL F.BOOT_STAGE_CTRL_ALLOW_OLDER then updErr 7 s
    else
      let s := setSt F.BOOT_STAGE_STATUS_VERIFIED 1 s
      let s := s.setFld R.BOOT_STAGE_SEQ F.BOOT_STAGE_SEQ_SEQ i.seq
      { (modBoot (fun b => { b with staged := some i }) s) with stagedPumps := i.pump }

/-! ### SWITCH (R292 to R294) -/

/-- Updates the switch-over's state. -/
def modUpd (g : UpdSt → UpdSt) (s : State) : State := modBoot (fun b => { b with upd := g b.upd }) s

/-- A well that runs a recipe takes part in a switch-over. -/
def updWell (s : State) (n : Fin 8) : Bool := (recipeInForce s n).isSome

/-- The index of the recipe that the well runs. -/
def runningSel (s : State) (n : Fin 8) : Nat :=
  let a := R.WELL_IBANK n
  if s.fld a F.WELL_IBANK_ACTIVE = 0 then s.fld a F.WELL_IBANK_SEL_BANK0 else s.fld a F.WELL_IBANK_SEL_BANK1

/-- Step 2 cannot load the well's current index from the staged image (R51, R292). -/
def updNoRecipe (s : State) (n : Fin 8) : Bool :=
  updWell s n && (match findRecipe s.stagedPumps (runningSel s n) with
    | none => true
    | some r => !(s.stagedPumps.intact && recipeMatches s n r && recipeFits s n r))

/-- The bank that the well loaded in step 2 has another state signature than the bank in force (R292). -/
def updSigDiffers (s : State) (n : Fin 8) : Bool :=
  bitOf s.boot.upd.wells n &&
    decide ((recipeInForce s n).map (·.sig) ≠ (bankRecipe s n (b2n (bitOf s.boot.upd.banks n))).map (·.sig))

/-- The switch-over ends with an error; nothing has switched. -/
def updFail (reason : Nat) (s : State) : State :=
  let s := setSt F.BOOT_STAGE_STATUS_STEP 0 (setSt F.BOOT_STAGE_STATUS_SWITCH_BUSY 0 s)
  updErr reason (modUpd (fun _ => {}) s)

/-- The pair that a step switches. -/
def stepPair (st : Nat) : Option (Fin 3) := match st with | 2 => some 1 | 3 => some 0 | 4 => some 2 | _ => none

/-- SWITCHING of a pair. -/
def setSwitching (k : Nat) (on : Bool) (s : State) : State :=
  let v := s.fld R.KIC_KSTATUS F.KIC_KSTATUS_SWITCHING
  s.setFld R.KIC_KSTATUS F.KIC_KSTATUS_SWITCHING (if on then Nat.lor v (2 ^ k) else v - Nat.land v (2 ^ k))

/-- The place in keeper working memory of the firmware of the image in a slot; an update thus leaves the old firmware there for a
roll-back (R285, R293, R294; notes/assumptions/155.md). -/
def fwBase (slot : Nat) : Nat := 0x8A000000 + slot * slotSize

/-- Copies `k` bytes of the cistern. -/
def copyBytes (src dst k : Nat) (s : State) : State :=
  (s.mem.filter fun c => decide (src ≤ c.1 ∧ c.1 < src + k)).foldl (fun (s : State) c => s.setByte (dst + (c.1 - src)) c.2)
    (s.clearBytes dst (dst + k - 1))

/-- The KEEPER section of the image in a slot is copied to keeper working memory (R285, R293). -/
def firmwareCopy (slot : Nat) (i : Image) (s : State) : State :=
  match sectionOf i.sects 3 with
  | none => s
  | some (off, size) => if size = 0 then s else cisWritten (fwBase slot) size (copyBytes (slotBase slot + off) (fwBase slot) size s)

/-- A pair's tasks move to its donor, and the pair is reset to start from the firmware of the image in a slot (R293). -/
def pairSwitch (k : Fin 3) (slot : Nat) (s : State) : State :=
  modUpd (fun u => { u with keeper := some k.val }) (modK k (fun x => { x with fw := some slot }) (pairReset k (setSwitching k true s)))

/-- Every loaded well requests its switch (step 6). -/
def wellsRequest (s : State) : State :=
  forLanes (fun n s => if bitOf s.boot.upd.wells n then switchRequest n true s else s) s

/-- Step 2 ends once the loads are complete: with WELL_SIG where a signature differs and FORCE_WELL = 0, else the new firmware is put in
keeper working memory and step 3 begins (R292, R293). -/
def updLoaded (s : State) : State :=
  if updStep s ≠ 1 ∨ (List.finRange 8).any (fun n => bitOf s.boot.upd.wells n && s.well[n].load.isSome) then s
  else if (List.finRange 8).any (updSigDiffers s) && !s.flag R.BOOT_STAGE_CTRL F.BOOT_STAGE_CTRL_FORCE_WELL then updFail 9 s
  else
    let s := setSt F.BOOT_STAGE_STATUS_STEP 2 s
    match s.boot.upd.img with
    | some i => firmwareCopy (1 - inForceSlot s) i s
    | none => s

/-- The switch-over goes on to a pair, or to the wells, when nothing holds it: the loads of step 2 are complete, no pair is
switching and no other pair restarts (R294). -/
def updNext (s : State) : State :=
  if !stFlag s F.BOOT_STAGE_STATUS_SWITCH_BUSY || s.boot.upd.rollback || s.boot.upd.keeper.isSome then s
  else
    let s := updLoaded s
    match stepPair (updStep s) with
    | some k => if (List.finRange 3).any (fun j => s.kic.k[j].down) then s else pairSwitch k (1 - inForceSlot s) s
    | none => s

/-- A write of SWITCH with VERIFIED = 1 in Active or S1, or its refusal (R292). -/
def updSwitch (s : State) : State :=
  if !stFlag s F.BOOT_STAGE_STATUS_VERIFIED then updErr 8 s
  else
    let s := setSt F.BOOT_STAGE_STATUS_STEP 1 (setSt F.BOOT_STAGE_STATUS_SWITCH_BUSY 1 s)
    let s := setSt F.BOOT_STAGE_STATUS_WELL_PEND 0 (setSt F.BOOT_STAGE_STATUS_SKIPPED 0 s)
    let fails := (List.finRange 8).any (updNoRecipe s)
    let wells := (List.finRange 8).filter (updWell s)
    let banks := wells.foldl (fun (v : Nat) (n : Fin 8) => v + otherBank s n * 2 ^ n.val) 0
    let mask := wells.foldl (fun (v : Nat) (n : Fin 8) => v + 2 ^ n.val) 0
    let s := wells.foldl (fun (s : State) (n : Fin 8) => startLoad n s.stagedPumps (runningSel s n) false none s) s
    if fails then updFail 11 s
    else updNext (modUpd (fun _ => { img := s.boot.staged, wells := mask, banks := banks }) s)

/-- The failed pair restarts from the old firmware, and the inactive banks are discarded (R294). -/
def updRollback (s : State) : State :=
  match s.boot.upd.keeper with
  | none => s
  | some k =>
    let s := modUpd (fun u => { u with rollback := true }) s
    let s := forLanes (fun n s =>
      if bitOf s.boot.upd.wells n then
        let b := b2n (bitOf s.boot.upd.banks n)
        let s := s.clrBits (R.WELL_IBANK n) F.WELL_IBANK_BANK_VALID (2 ^ b)
        { s with well := vmod s.well n fun w => if b = 0 then { w with bank0 := none } else { w with bank1 := none } }
      else s) s
    let k : Fin 3 := ⟨k % 3, Nat.mod_lt _ (by decide)⟩
    modK k (fun x => { x with fw := some (inForceSlot s) }) (pairReset k s)

/-- KEEPER_SWITCH_TIMEOUT (R294). -/
def updTimeout (s : State) : State := if s.boot.upd.rollback then s else updRollback s

/-- The pair that is switching signals ready: the switch-over goes on, or the roll-back takes the next pair (R293, R294). -/
def updReady (k : Fin 3) (s : State) : State :=
  if s.boot.upd.keeper ≠ some k.val then s
  else
    let s := setSwitching k false (modUpd (fun u => { u with keeper := none }) s)
    if s.boot.upd.rollback then
      match s.boot.upd.updated with
      | [] => updFail 10 s
      | j :: t => pairSwitch ⟨j % 3, Nat.mod_lt _ (by decide)⟩ (inForceSlot s) (modUpd (fun u => { u with updated := t }) s)
    else
      let s := modUpd (fun u => { u with updated := k.val :: u.updated }) s
      let s := setSt F.BOOT_STAGE_STATUS_STEP (updStep s + 1) s
      if updStep s = 5 then wellsRequest s else updNext s

/-- KEEPER_READY (R293, R331, R332). -/
def keeperReady (k : Fin 3) (s : State) : State :=
  if pairSwitching s k then updReady k (keeperUp k s)
  else if s.kic.k[k].down then updNext (keeperUp k s)
  else s

/-- KEEPER_FAULT (R294, R332): of the pair being switched, it counts as a failed switch. -/
def keeperFault (k : Fin 3) (c : BlockMech) (s : State) : State :=
  let sw := s.boot.upd.keeper == some k.val && !s.boot.upd.rollback
  let s := keeperFaulted k c s
  if sw then updTimeout (modK k (fun x => { x with down := false }) s) else s

/-- A well's switch of step 6 is complete, is requested once more after the restart that cancelled it, or is left to the
host in WELL_PEND (R292). -/
def updWellCheck (restarted : Bool) (n : Fin 8) (s : State) : State :=
  if updStep s ≠ 5 ∨ !bitOf s.boot.upd.wells n ∨ s.well[n].switch.isSome ∨ s.well[n].restarting then s
  else
    let drop (s : State) : State := modUpd (fun u => { u with wells := u.wells - 2 ^ n.val }) s
    if s.fld (R.WELL_IBANK n) F.WELL_IBANK_ACTIVE = b2n (bitOf s.boot.upd.banks n) then drop s
    else if restarted && !bitOf s.boot.upd.reqd n then
      switchRequest n true (modUpd (fun u => { u with reqd := u.reqd + 2 ^ n.val }) s)
    else
      drop (setSt F.BOOT_STAGE_STATUS_WELL_PEND
        (Nat.lor (s.fld R.BOOT_STAGE_STATUS F.BOOT_STAGE_STATUS_WELL_PEND) (2 ^ n.val)) s)

/-- Every well of step 6 has switched or is left to the host: the tail may run. -/
def updTailDue (s : State) : Bool :=
  stFlag s F.BOOT_STAGE_STATUS_SWITCH_BUSY && decide (updStep s = 5) && s.boot.upd.wells == 0

/-! ### The repair export list (R288, R297) -/

/-- Word k of the record that INDEX names. -/
def rprWord (s : State) (k : Nat) : Nat :=
  match s.rpr[s.fld R.BOOT_RPR_INDEX F.BOOT_RPR_INDEX_INDEX]? with
  | none => 0
  | some r => match k with
    | 0 => r.typ + r.unit * 256
    | 1 => r.loc
    | 2 => r.data % 2 ^ 32
    | _ => r.data / 2 ^ 32 % 2 ^ 32

/-- INDEX advances after each read of BOOT_RPR_DATA3, wrapping at 64. -/
def rprNext (s : State) : State := s.addWrap R.BOOT_RPR_INDEX F.BOOT_RPR_INDEX_INDEX 1

end Sys2Proof.Machine
end

