-- ==== Sys2Proof/Machine/Power.lean ====
section
/-!
DEFINITION. Performance levels and sleep states (R342 to R358 of spec/14_power_states.md).
-/
namespace Sys2Proof.Machine

/-- Updates the power controller. -/
def modPwr (g : PwrSt → PwrSt) (s : State) : State := { s with pwr := g s.pwr }

/-- A flag of PWR_STATUS. -/
def pwrFlag (s : State) (f : Fld) : Bool := s.flag R.PWR_STATUS f

/-! ### Performance levels (R342 to R345) -/

/-- Nominal VDD_CORE of a level in mV (R342). -/
def levelMv (l : Nat) : Nat := match l with | 0 => 750 | 1 => 680 | 2 => 620 | _ => 600

/-- VDD_CORE of a level in mV: nominal plus the fused TRIM, within 600 to 800 (R342). -/
def vddMv (s : State) (l : Nat) : Nat :=
  (clampInt 600 800 ((levelMv l : Int) + signed 8 (s.fld R.PWR_AVS_REQ F.PWR_AVS_REQ_TRIM))).toNat

/-- The regions other than Timing are powered: not in S3 and S4, but from the start of an exit (R346, R354). -/
def islandsOn (s : State) : Bool := !deepSleep s || s.pwr.exiting

/-- A profile has been applied (R71). -/
def profileApplied (s : State) : Bool := s.line[(0 : Fin 8)].pllOn

/-- The lane carries line traffic: one of its converters is enabled. -/
def laneOn (s : State) (n : Nat) : Bool :=
  s.flag (R.LINE_FE_CFG n) F.LINE_FE_CFG_ADC_EN || s.flag (R.LINE_FE_CFG n) F.LINE_FE_CFG_DAC_EN

/-- Level of a symbol rate: PL0 at a full profile rate, PL1 at 53.125 GBd. -/
def rateLevel (rate : Nat) : Nat := if rate = 3 then 1 else 0

/-- Level that well n needs (R343). -/
def wellNeed (s : State) (n : Nat) : Nat :=
  if profileApplied s && laneOn s n && islandsOn s then rateLevel (s.fld (R.LINE_PLL_CFG n) F.LINE_PLL_CFG_RATE) else 3

/-- Level that the Line region needs: the highest of its wells'. -/
def lineNeed (s : State) : Nat := (List.range 8).foldl (fun v n => min v (wellNeed s n)) 3

/-- Levels that the Host, FEC, Cistern and Keep regions need. -/
def hostNeed (s : State) : Nat :=
  if profileApplied s && islandsOn s then s.fld R.HOST_STATUS F.HOST_STATUS_RATE_EFF else 3
def fecNeed (s : State) : Nat := if islandsOn s then 1 else 3
def cisNeed (s : State) : Nat := if islandsOn s then 1 else 3
def keepNeed (_ : State) : Nat := 2

/-- The level whose voltage the powered regions need together (R343). -/
def vddNeed (s : State) : Nat :=
  min (min (lineNeed s) (hostNeed s)) (min (min (fecNeed s) (cisNeed s)) (keepNeed s))

/-- AVS mode HANDSHAKE is in force. -/
def handshake (s : State) : Bool := s.flag R.PWR_AVS_CFG F.PWR_AVS_CFG_MODE

/-- A request awaits acknowledgement. -/
def avsPend (s : State) : Bool := s.flag R.PWR_AVS_STATUS F.PWR_AVS_STATUS_AVS_PEND

/-- The lowest voltage that VDD_CORE may have now, as a level: the acknowledged one, or that of an unacknowledged lowering. -/
def availLevel (s : State) : Nat :=
  if handshake s then max (s.fld R.PWR_LEVEL F.PWR_LEVEL_VDD_LEVEL) s.pwr.reqLevel else 0

/-- A region's clocks move to the level it needs, unless VDD_CORE does not carry that level yet (R344). -/
def levelMove (f : Fld) (need : Nat) (s : State) : State :=
  if availLevel s ≤ need then s.setFld R.PWR_LEVEL f need else s

/-- Well n's field of PWR_LEVEL. -/
def wellLevel (n : Nat) : Fld := { F.PWR_LEVEL_WELL with lo := 16 + 2 * n, w := 2 }

/-- Every region's clocks move as far as VDD_CORE permits. The Line region shows the highest level among its wells. -/
def clocksMove (s : State) : State :=
  let s := (List.range 8).foldl (fun s n => levelMove (wellLevel n) (wellNeed s n) s) s
  let s := s.setFld R.PWR_LEVEL F.PWR_LEVEL_LINE ((List.range 8).foldl (fun v n => min v (s.fld R.PWR_LEVEL (wellLevel n))) 3)
  let s := levelMove F.PWR_LEVEL_HOST (hostNeed s) s
  let s := levelMove F.PWR_LEVEL_FEC (fecNeed s) s
  let s := levelMove F.PWR_LEVEL_CIS (cisNeed s) s
  levelMove F.PWR_LEVEL_KEEP (keepNeed s) s

/-- A new voltage is written to REQ_MV and awaits acknowledgement. -/
def avsRequest (l : Nat) (up : Bool) (s : State) : State :=
  let s := s.setFld R.PWR_AVS_REQ F.PWR_AVS_REQ_REQ_MV (vddMv s l)
  modPwr (fun p => { p with reqLevel := l, raise := up }) (s.raise1 R.PWR_AVS_STATUS F.PWR_AVS_STATUS_AVS_PEND 436)

/-- Clocks and the VDD_CORE request move to a needed level (R343, R344): clocks first, then a lowering; a raise first, then
the clocks. One request is outstanding at a time, and a profile change lowers the voltage after its last step only (R345). -/
def levelsTo (need : Nat) (s : State) : State :=
  let s := clocksMove s
  if !handshake s || avsPend s || need == s.pwr.reqLevel || (profileBusy s && decide (s.pwr.reqLevel < need)) then s
  else avsRequest need (decide (need < s.pwr.reqLevel)) s

/-- The level that a combination of FEC_PROFILE would need (R345). -/
def comboNeed (prof leg : Nat) (s : State) : Nat :=
  let line := if (List.range 8).any (laneOn s) then rateLevel (rateOf (profOf prof) (leg == 1)) else 3
  min line (min leg 1)

/-- What VDD_CORE must carry now, counting a profile change that waits for it. -/
def levelWanted (s : State) : Nat :=
  match s.pwr.held with | some (prof, leg, _, _) => min (vddNeed s) (comboNeed prof leg s) | none => vddNeed s

/-- A profile change that waited for its raise starts once VDD_CORE carries its combination (R345). -/
def heldStart (s : State) : State :=
  match s.pwr.held with
  | some (prof, leg, cfg, poison) =>
    if availLevel s ≤ comboNeed prof leg s then profileStart prof leg cfg poison (modPwr (fun p => { p with held := none }) s)
    else s
  | none => s

/-- PERF_LEVEL_CHANGE (R343, R344). -/
def perfLevelChange (s : State) : State := levelsTo (levelWanted s) s

/-- PROFILE_APPLY: APPLY = 1 (R149, R345). In HANDSHAKE mode a change to a higher level holds its first step with BUSY = 1
until its raise is acknowledged. -/
def profileApply (poison : Nat) (s : State) : State :=
  let a := R.FEC_PROFILE
  let prof := s.fld a F.FEC_PROFILE_PROFILE
  let leg := s.fld a F.FEC_PROFILE_LEGACY
  let cfg := s.fld a F.FEC_PROFILE_PORT_CFG
  if profileRefused prof leg cfg s then s.raise1 a F.FEC_PROFILE_REFUSED 343
  else if profileSame prof leg cfg s then s
  else if comboNeed prof leg s < availLevel s then
    let s := s.setFld a F.FEC_PROFILE_BUSY 1
    perfLevelChange (modPwr (fun p => { p with held := some (prof, leg, cfg, poison) }) s)
  else profileStart prof leg cfg poison s

/-- A write of PWR_AVS_ACK (R344): a value of at least REQ_MV acknowledges a raise, one of at most REQ_MV a lowering. -/
def avsAck (v : Nat) (s : State) : State :=
  let s := s.setFld R.PWR_AVS_ACK F.PWR_AVS_ACK_ACK_MV v
  let req := s.fld R.PWR_AVS_REQ F.PWR_AVS_REQ_REQ_MV
  let v := s.fld R.PWR_AVS_ACK F.PWR_AVS_ACK_ACK_MV
  if avsPend s && (if s.pwr.raise then decide (req ≤ v) else decide (v ≤ req)) then
    let s := s.setFld R.PWR_AVS_STATUS F.PWR_AVS_STATUS_AVS_PEND 0
    let s := s.setFld R.PWR_LEVEL F.PWR_LEVEL_VDD_LEVEL s.pwr.reqLevel
    perfLevelChange (heldStart s)
  else s

/-- AVS_TIMEOUT (R344). -/
def avsTimeout (s : State) : State :=
  if avsPend s && s.pwr.raise then s.raise1 R.PWR_AVS_STATUS F.PWR_AVS_STATUS_AVS_TO 437 else s

/-- A change of PWR_AVS_CFG.MODE: in FIXED mode VDD_CORE counts as held at the PL0 voltage, and nothing waits (R344). -/
def avsModeFollow (s : State) : State :=
  let s := s.setFld R.PWR_LEVEL F.PWR_LEVEL_VDD_LEVEL 0
  let s := s.setFld R.PWR_AVS_STATUS F.PWR_AVS_STATUS_AVS_PEND 0
  let s := s.setFld R.PWR_AVS_REQ F.PWR_AVS_REQ_REQ_MV (vddMv s 0)
  heldStart (modPwr (fun p => { p with reqLevel := 0, raise := false }) s)

/-! ### Latency tolerance, target and wake sources (R347 to R349, R353) -/

/-- Exit latency of a state in µs (R346). -/
def exitLatency (st : Nat) : Nat := match st with | 0 => 0 | 1 => 2 | 2 => 200 | 3 => 30000 | _ => 400000

/-- The effective tolerance: the minimum over the three ports. -/
def ltrEff (s : State) : Nat := (List.range 3).foldl (fun v p => min v (s.fld (R.PWR_LTR p) F.PWR_LTR_TOL)) 0xFFFFFFFF

/-- The target state (R348). -/
def sleepTarget (s : State) : Nat :=
  if s.flag R.PWR_CTRL F.PWR_CTRL_ENTRY_EN then
    [1, 2, 3, 4].foldl (fun t st =>
      if exitLatency st ≤ ltrEff s ∧ st ≤ s.fld R.PWR_CTRL F.PWR_CTRL_MAX_STATE then st else t) 0
  else 0

/-- WAKE_N as the always-on island sees it: WAKE = 1 with FULL open holds it asserted (R409). -/
def wakeLow (s : State) : Bool := !s.pwr.wakeN || s.flag R.SEC_DBG_CTRL F.SEC_DBG_CTRL_WAKE

/-- The level wake sources that are asserted, as bits of PWR_WAKE_CAUSE (R353). -/
def levelWakes (s : State) : Nat :=
  let en := fun f => s.flag R.PWR_WAKE_EN f
  let asleep := pwrState s != 0
  b2n (wakeLow s && en F.PWR_WAKE_EN_WAKE_N_EN) +
  2 * b2n (asleep && s.txdisHigh != s.pwr.txdis && en F.PWR_WAKE_EN_TXDIS_EN) +
  4 * b2n (asleep && decide (ltrEff s < exitLatency (pwrState s))) +
  8 * b2n (asleep && !pwrFlag s F.PWR_STATUS_DP_IDLE) +
  16 * b2n (s.flag R.SEEP_WAKE F.SEEP_WAKE_WAKE_PEND && en F.PWR_WAKE_EN_PF_EN)

/-- DP_IDLE, which DECLARE reads as well. -/
def setDpIdle (v : Nat) (s : State) : State :=
  (s.setFld R.PWR_STATUS F.PWR_STATUS_DP_IDLE v).setFld R.PWR_DP_IDLE F.PWR_DP_IDLE_DECLARE v

/-- Bits of PWR_WAKE_CAUSE are set. -/
def wakeCause (bits : Nat) (s : State) : State :=
  s.setReg R.PWR_WAKE_CAUSE (s.reg R.PWR_WAKE_CAUSE ||| word bits)

/-- An entry in progress is abandoned. -/
def entryAbandon (s : State) : State :=
  (modPwr (fun p => { p with entry := none, commit := false }) s).setFld R.PWR_STATUS F.PWR_STATUS_ENTERING 0

/-- An exit starts (R354): DP_IDLE clears, the wake is recorded, and VDD_CORE is raised to the levels of R343. -/
def exitStart (causes : Nat) (s : State) : State :=
  let s := wakeCause causes (setDpIdle 0 s)
  let s := (s.raise1 R.PWR_STATUS F.PWR_STATUS_WAKE_EV 433).addSat R.PWR_CNT F.PWR_CNT_WAKES 1
  perfLevelChange (modPwr (fun p => { p with exiting := true }) s)

/-- An edge wake event (R353): it cancels an entry, is lost in the commit window, starts an exit, or is only recorded. -/
def edgeWake (cause : Nat) (s : State) : State :=
  if s.pwr.entry.isSome then
    if s.pwr.commit then
      (s.raise1 R.PWR_STATUS F.PWR_STATUS_COMMIT_LOST 435).addSat R.PWR_CNT F.PWR_CNT_COMMIT_LOSTS 1
    else (wakeCause cause (setDpIdle 0 (entryAbandon s))).raise1 R.PWR_STATUS F.PWR_STATUS_WAKE_EV 433
  else if pwrState s = 0 then s
  else if s.pwr.exiting then wakeCause cause s
  else exitStart cause s

/-- A doorbell or GO of port p, as an edge wake event where its source is enabled. -/
def doorbellWake (p : Nat) (s : State) : State :=
  if bitOf (s.reg R.PWR_WAKE_EN).toNat (3 + p) then edgeWake (2 ^ (5 + p)) s else s

/-- A rising edge of PPS_IN. -/
def ppsWake (s : State) : State := if s.flag R.PWR_WAKE_EN F.PWR_WAKE_EN_PPS_EN then edgeWake 256 s else s

/-- Level sources that assert during an exit are recorded and do nothing else (R354). DP_IDLE = 0 is the exit's own doing. -/
def wakesNote (lv : Nat) (s : State) : State :=
  let new := lv - Nat.land lv (Nat.lor s.pwr.levels 8)
  modPwr (fun p => { p with levels := lv }) (if s.pwr.exiting && new != 0 then wakeCause new s else s)

/-- What follows every step: the effective tolerance, the target and WAKE_HELD, and the exit that a level source starts in a
sleep state. -/
def powerFollow (s : State) : State :=
  let s := s.setFld R.PWR_LTR_EFF F.PWR_LTR_EFF_EFF (ltrEff s)
  let s := s.setFld R.PWR_STATUS F.PWR_STATUS_TARGET (sleepTarget s)
  let lv := levelWakes s
  let s := wakesNote lv (s.setFld R.PWR_STATUS F.PWR_STATUS_WAKE_HELD (b2n (lv != 0)))
  if pwrState s ≠ 0 ∧ lv ≠ 0 ∧ !s.pwr.exiting ∧ s.pwr.entry.isNone then
    let s := exitStart lv s
    s.setFld R.PWR_STATUS F.PWR_STATUS_WAKE_HELD (b2n (levelWakes s != 0))
  else s

/-- WAKE_EVENT (R353). A level source acts with `powerFollow`. -/
def wakeEvent (w : WakeSrc) (s : State) : State :=
  match w with
  | .wakeN low => modPwr (fun p => { p with wakeN := !low }) s
  | .txdis | .ltr | .dpIdle | .portF => s
  | .doorbell p => doorbellWake p s
  | .pps => ppsWake s

/-- The bit of PWR_WAKE_CAUSE of an edge source that is enabled, 0 for any other. -/
def edgeCause (s : State) (w : WakeSrc) : Nat :=
  match w with
  | .doorbell p => if bitOf (s.reg R.PWR_WAKE_EN).toNat (3 + p) then 2 ^ (5 + p.val) else 0
  | .pps => if s.flag R.PWR_WAKE_EN F.PWR_WAKE_EN_PPS_EN then 256 else 0
  | _ => 0

/-- An edge wake event in the cycle in which the entry is refused (R353, R357): the refusal stands and its holdoff runs, DP_IDLE clears, and
the event is recorded as one that arrives during the entry (notes/assumptions/158.md). -/
def edgeRefused (w : WakeSrc) (s : State) : State :=
  if edgeCause s w = 0 then s
  else (wakeCause (edgeCause s w) (setDpIdle 0 s)).raise1 R.PWR_STATUS F.PWR_STATUS_WAKE_EV 433

/-- What the power controller does in a cycle in which edge wake events arrive: they meet a refusal, or what stands after it (R357). -/
def withEdges (edges : List WakeSrc) (g : State → State) (s : State) : State :=
  let t := g s
  if pwrFlag t F.PWR_STATUS_HOLDOFF && !pwrFlag s F.PWR_STATUS_HOLDOFF then edges.foldl (fun s w => edgeRefused w s) t
  else edges.foldl (fun s w => wakeEvent w s) t

/-- DECLARE and CANCEL by the holder of DATAPATH (R349, R357). -/
def dpDeclare (s : State) : State := setDpIdle 1 s
def dpCancel (s : State) : State :=
  let s := setDpIdle 0 s
  if s.pwr.entry.isSome && !s.pwr.commit then entryAbandon s else s

/-! ### Entry (R350 to R352) -/

/-- What a block answers to an entry request. -/
inductive Answer where
  | accept
  | delay (reason : Nat)
  | refuse (reason : Nat)
  deriving DecidableEq, Repr

/-- A keeper that the entry would power off still has work (R339). -/
def keepersBusy (s : State) : Bool :=
  [(0 : Fin 3), 1].any fun k => !s.kic.k[k].stack.isEmpty || !s.kic.k[k].svc.isEmpty

/-- The answer of a block, by its code of R351, to an entry into state `t`. A block whose domain is off accepts. -/
def blockAnswer (s : State) (t b : Nat) : Answer :=
  let off := deepSleep s
  match b with
  | 0 => if !off && (List.finRange 8).any (fun n => s.well[n].load.isSome || s.well[n].switch.isSome) then .delay 5 else .accept
  | 1 => if decide (pwrState s ≤ 1) && s.flag R.FEC_PROFILE F.FEC_PROFILE_BUSY then .refuse 6 else .accept
  | 6 => if decide (3 ≤ t) && !off && keepersBusy s then .delay 2 else .accept
  | 9 => if decide (3 ≤ t) && !off && s.flag R.CIS_STATUS F.CIS_STATUS_ZERO_BUSY then .refuse 3 else .accept
  | 10 => if stFlag s F.BOOT_STAGE_STATUS_SWITCH_BUSY then .refuse 1 else .accept
  | 11 => if !off && (List.range 8).any (fun n => s.flag (R.LINE_CAL_STATUS n) F.LINE_CAL_STATUS_RUNNING) then .delay 4
          else .accept
  | 12 => if (List.finRange 5).any (fun r => s.region[r].reacting) then .delay 7 else .accept
  | _ => .accept

/-- A refusal (R351): the entry is abandoned, recorded and journalled, and the holdoff runs. -/
def entryRefuse (reason block : Nat) (s : State) : State :=
  let s := (entryAbandon s).setFld R.PWR_STATUS F.PWR_STATUS_REASON reason
  let s := s.setFld R.PWR_STATUS F.PWR_STATUS_BLOCK block
  let s := s.setFld R.PWR_STATUS F.PWR_STATUS_HOLDOFF 1
  let s := s.addSat R.PWR_CNT F.PWR_CNT_REFUSALS 1
  let s := s.setFld R.PWR_STATUS F.PWR_STATUS_REFUSED 1
  s.journal 434 (s.reg R.PWR_STATUS).toNat

/-- The block codes of R351. -/
def blockCodes : List Nat := List.range 13

/-- The first refusal among the answers, if there is one. -/
def firstRefusal (s : State) (t : Nat) : Option (Nat × Nat) :=
  blockCodes.findSome? fun b => match blockAnswer s t b with | .refuse r => some (r, b) | _ => none

/-- The blocks that delay. -/
def delaying (s : State) (t : Nat) : List (Nat × Nat) :=
  (blockCodes.filter fun b => match blockAnswer s t b with | .delay _ => true | _ => false).map fun b => (b, 1)

/-- The conditions of R348 for starting an entry. -/
def entryAllowed (s : State) : Bool :=
  pwrFlag s F.PWR_STATUS_DP_IDLE && decide (pwrState s < sleepTarget s) && !pwrFlag s F.PWR_STATUS_HOLDOFF &&
  levelWakes s == 0 && !s.pwr.exiting && s.pwr.entry.isNone

/-- SLEEP_ENTRY_START (R348, R350 steps 1 and 2): every block is asked and answers. -/
def entryStart (s : State) : State :=
  if entryAllowed s then
    let t := sleepTarget s
    match firstRefusal s t with
    | some (r, b) => entryRefuse r b s
    | none =>
      (modPwr (fun p => { p with entry := some { target := t, delays := delaying s t } }) s).setFld
        R.PWR_STATUS F.PWR_STATUS_ENTERING 1
  else s

/-- SLEEP_DELAY_RETRY (R350 step 3): a delaying block is asked again. After four DELAYs it refuses. -/
def delayRetry (b : Nat) (s : State) : State :=
  match s.pwr.entry with
  | none => s
  | some e =>
    match e.delays.lookup b with
    | none => s
    | some k =>
      let rest := e.delays.filter fun x => x.1 != b
      match blockAnswer s e.target b with
      | .accept => modPwr (fun p => { p with entry := some { e with delays := rest } }) s
      | .refuse r => entryRefuse r b s
      | .delay r =>
        if 4 ≤ k then entryRefuse r b s
        else modPwr (fun p => { p with entry := some { e with delays := rest ++ [(b, k + 1)] } }) s

/-- SLEEP_NO_ANSWER (R350): a block that has not answered within 10 µs counts as REFUSE with reason NO_ANSWER. -/
def sleepNoAnswer (b : Nat) (s : State) : State := if s.pwr.entry.isSome then entryRefuse 8 b s else s

/-- Work in progress that an entry drops (R352). -/
def dropWork (t : Nat) (s : State) : State :=
  let s := if 2 ≤ t then captureAbort s else s
  let s := if s.tod.exch.isSome || s.tod.exchL.isSome then
      modTod (fun x => { x with exch := none, exchL := none }) (if followsLine s then exchLate s else s) else s
  let s := forLanes (fun n s => modRx n (fun r => { r with skip := true }) s) s
  if 2 ≤ t then forLanes (fun n s => cacheWriteBack n (abandonSlice n s)) s else s

/-- K0 and K1 are powered off, and the controller saves their mode and EOI_ERR (R339, R346). -/
def keepersOff (s : State) : State :=
  let s := [(0 : Fin 3), 1].foldl (fun (s : State) (k : Fin 3) =>
    modK k (fun x => { x with mode := s.reg (R.KIC_MODE k), halted := false }) s) s
  let s := { s with kic := { s.kic with errSaved := s.fld R.KIC_STATUS F.KIC_STATUS_EOI_ERR } }
  s.clrBits R.KIC_KSTATUS F.KIC_KSTATUS_POWERED 3

/-- K0 and K1 start again: EOI_ERR is restored, and the pairs start in threshold mode (R332, R339). -/
def keepersOn (s : State) : State :=
  let s := s.setFld R.KIC_STATUS F.KIC_STATUS_EOI_ERR (Nat.lor (s.fld R.KIC_STATUS F.KIC_STATUS_EOI_ERR) s.kic.errSaved)
  let s := s.setFld R.KIC_KSTATUS F.KIC_KSTATUS_POWERED (Nat.lor (s.fld R.KIC_KSTATUS F.KIC_KSTATUS_POWERED) 3)
  [(0 : Fin 3), 1].foldl (fun (s : State) (k : Fin 3) => keeperUp k (pairReset k s)) s

/-- The line side goes off in S3 and S4: lane PLLs and converters stop (R346). -/
def laneOff (n : Fin 8) (s : State) : State :=
  let s := if s.flag (R.LINE_PLL_STATUS n) F.LINE_PLL_STATUS_LOCK then laneClockStop n s else s
  s.setFld (R.LINE_FE_STATUS n) F.LINE_FE_STATUS_SIG_DET 0

/-- Preparation for state `t` (R350 step 4) from the state in force. -/
def prepare (t : Nat) (s : State) : State :=
  let s := dropWork t s
  let s := if t = 2 then forLanes (fun n s => atlasUnlocked n (enterHold n s)) s else s
  if 3 ≤ t ∧ !deepSleep s then seepInput true (hostFollow (hostSleep (forLanes laneOff (keepersOff (cisSleep s))))) else s

/-- Everything has accepted and prepared: the commit window opens, and TXDIS_N is sampled (R350 steps 4 and 5). -/
def commitOpen (t : Nat) (s : State) : State :=
  modPwr (fun p => { p with commit := true, txdis := s.txdisHigh }) (prepare t s)

/-- The target state comes into force (R350 step 6). From S2 on the transmit pumps do not run, and BIASMOD carries the seep channel
(R193, R346). -/
def stateEnter (t : Nat) (s : State) : State :=
  let s := (entryAbandon s).setFld R.PWR_STATUS F.PWR_STATUS_STATE t
  let s := (s.raise1 R.PWR_STATUS F.PWR_STATUS_ENTRY_DONE 432).addSat R.PWR_CNT F.PWR_CNT_ENTRIES 1
  perfLevelChange (forLanes (fun n s => if 2 ≤ t then biasClip n (muteUpdate n s) else muteUpdate n s) s)

/-! ### Exit (R354, R355) -/

/-- Pump memories were unpowered in S4: the recipes are reloaded from the image in force, and a bank whose recipe it does not
hold is empty; every pump's data memory is written anew with the tables and parameters in force; the equaliser starts from its initial
set (R354, R355). -/
def wellReload (n : Fin 8) (s : State) : State :=
  let keep := fun (b : Option Recipe) => match b with
    | some r => if s.pumps.recipes.any (fun x => x.2 == r) then some r else none
    | none => none
  let w := s.well[n]
  let lost := b2n (w.bank0.isSome && (keep w.bank0).isNone) + 2 * b2n (w.bank1.isSome && (keep w.bank1).isNone)
  let s := { s with well := vmod s.well n fun w =>
    { w with bank0 := keep w.bank0, bank1 := keep w.bank1,
             pump := Vector.replicate 64 { code0 := keep w.bank0, code1 := keep w.bank1 } } }
  let s := txPumpsLoad n (rxPumpsLoad n (s.clrBits (R.WELL_IBANK n) F.WELL_IBANK_BANK_VALID lost))
  modRx n (fun r => { r with useInit := true, pend := none, sums := none, adaptRun := false, lastGood := none }) s

/-- The exit sequence completes (R354): domains come back in order, and the device is Active. `cal` is the start-up
calibration of an exit from S4. An exit from S3 or S4 waits for a raise that is not acknowledged. -/
def exitDone (cal : Vector CalResult 8) (s : State) : State :=
  let st := pwrState s
  if !s.pwr.exiting ∨ (3 ≤ st ∧ avsPend s ∧ s.pwr.raise) then s
  else
    let s := if 3 ≤ st then keepersOn (cisWake s) else s
    let s := if st = 4 then forLanes (fun n s => wellReload n s) s else s
    let s := modPwr (fun p => { p with exiting := false }) (s.setFld R.PWR_STATUS F.PWR_STATUS_STATE 0)
    let s := if st = 4 then forLanes (fun n s => calEnd n true 63 cal[n] s) s else s
    let s := if 3 ≤ st then forLanes (fun n s => lanePllLock n s) (seepInput false (hostWake s)) else s
    let s := forLanes (fun n s => seepToA n (rxResume n s)) s
    hostFollow (perfLevelChange s)

end Sys2Proof.Machine
end

