-- ==== Sys2Proof/Machine/Guard.lean ====
section
/-!
DEFINITION. The safety mechanisms, memory patrol, fuse repair and the journal (R359 to R380 of
spec/15_safety_and_self_test.md).
-/
namespace Sys2Proof.Machine

/-- Updates the safety mechanisms' state. -/
def modSaf (g : SafSt → SafSt) (s : State) : State := { s with saf := g s.saf }

/-! ### SG1 (R361, R363, R364) -/

/-- SG1_PERSIST, with 0 taken as 1. -/
def sg1Persist (s : State) : Nat := max 1 (s.fld R.SAF_CFG F.SAF_CFG_SG1_PERSIST)

/-- An SG1 trip of a port and direction, which joins the safe state (R364). -/
def sg1Trip (p : Fin 8) (d : Fin 2) (s : State) : State :=
  if sgEnabled s 1 then
    let s := s.setFld R.SAF_SG1_CNT F.SAF_SG1_CNT_SG1_PORT p
    let s := s.setFld R.SAF_SG1_CNT F.SAF_SG1_CNT_SG1_DIR d
    sgTrip 1 (s.setReg R.SAF_SG1_SAFE (s.reg R.SAF_SG1_SAFE ||| word (2 ^ sg1Bit p d)))
  else s

/-- SG1_PARITY_ERROR (R363, R364): the word's codeword is poisoned and counted; enough errors within 1 ms on one port and
direction trip SG1. -/
def sg1Error (p : Fin 8) (d : Fin 2) (s : State) : State :=
  if !portExists s p then s
  else
    let s := if d = 0 then (poisonTx (portLow s p) 1 s).addSat R.SAF_SG1_CNT F.SAF_SG1_CNT_SG1_TX 1
             else (poisonRx (portLow s p) 1 s).addSat R.SAF_SG1_CNT F.SAF_SG1_CNT_SG1_RX 1
    let s := s.raise1 R.SAF_SG_STATUS F.SAF_SG_STATUS_SG1_EV 396
    let i := monIdx p d
    let l := s.now :: recent s.now cycMs s.saf.sg1[i]
    let s := modSaf (fun x => { x with sg1 := x.sg1.set i l }) s
    if sg1Persist s ≤ l.length ∧ !sg1Safe s p d then sg1Trip p d s else s

/-- SG1_RELEASE: REL1 (R361). -/
def sg1Release (s : State) : State :=
  let quiet := (List.finRange 8).all fun p => (List.finRange 2).all fun d =>
    !sg1Safe s p d || (recent s.now cycMs s.saf.sg1[monIdx p d]).isEmpty
  if sgTripped s 1 && quiet then sgRelease 1 (s.setReg R.SAF_SG1_SAFE 0) else s

/-! ### SG2 (R361, R365) -/

/-- The timing island's clock monitor has fired and not re-armed. -/
def timingClockBad (s : State) : Bool := bitOf s.saf.clkBad 12

/-- PPS_READBACK (R361, R365): the readback differs from counter B's displaced wrap by `err` ns. -/
def ppsReadback (err : Int) (s : State) : State :=
  let s := s.setFld R.SAF_SG2_STATUS F.SAF_SG2_STATUS_PPS_ERR (unsigned 16 (clampInt (-32768) 32767 err))
  if (s.fld R.SAF_SG2_CFG F.SAF_SG2_CFG_SG2_LIMIT : Int) < err.natAbs then sg2Trip 1 s
  else if s.flag R.TOD_STATUS F.TOD_STATUS_NO_MAJORITY || timingClockBad s then modTod (fun t => { t with readGood := 0 }) s
  else
    let s := modTod (fun t => { t with readGood := t.readGood + 1 }) s
    if sgTripped s 2 ∧ 2 ≤ s.tod.readGood then validFollow (sgRelease 2 s) else s

/-! ### SG3 (R361, R366, R367) -/

/-- A safety-monitor request: it trips SG3 when enabled, and acts on LEN and the DACs either way (R360, R366). -/
def sg3Request (s : State) : State := lenUpdate (sgTrip 3 s)

/-- A change of SAF_SG3_CTRL.REQ, of the channels selected in SG3_MON or of a result's OVER: a request that was not there
before is a new one; a request that ends only releases LEN to R89 when SG3 is not in its safe state. -/
def sg3Follow (old s : State) : State :=
  let now (s : State) (c : Nat) : Bool :=
    bitOf (s.fld R.SAF_SG3_CTRL F.SAF_SG3_CTRL_SG3_MON) c && s.flag (R.MON_RES c) F.MON_RES_OVER
  let req (s : State) : Bool := s.flag R.SAF_SG3_CTRL F.SAF_SG3_CTRL_REQ
  if (req s && !req old) || (List.range 16).any (fun c => now s c && !now old c) then sg3Request s else lenUpdate s

/-- SG3_RELEASE: REL3 (R361). -/
def sg3Release (s : State) : State :=
  if sgTripped s 3 && !smRequest s && s.flag R.SAF_SG3_STATUS F.SAF_SG3_STATUS_TEST_OK then
    sgRelease 3 (s.setFld R.SAF_SG3_STATUS F.SAF_SG3_STATUS_PATH_FAIL 0)
  else s

/-- A path fault: PATH_FAIL and a trip of SG3 (R367). -/
def pathFail (s : State) : State :=
  sgTrip 3 (s.setFld R.SAF_SG3_STATUS F.SAF_SG3_STATUS_PATH_FAIL 1)

/-- LEN_PATH_TEST (R367): one channel at a time is tested. -/
def lenPathTest (ok : Bool) (s : State) : State :=
  let s := modSaf (fun x => { x with chanB := !x.chanB }) s
  let s := s.addWrap R.SAF_SG3_STATUS F.SAF_SG3_STATUS_TESTS 1
  let s := s.setFld R.SAF_SG3_STATUS F.SAF_SG3_STATUS_TEST_OK (b2n ok)
  if ok then s else pathFail (s.addSat R.SAF_SG3_STATUS F.SAF_SG3_STATUS_TEST_FAILS 1)

/-! ### SG4 (R361, R368, R369) -/

/-- The protected registers with the goals that each serves (R368). -/
def protectedRegs : List (Nat × List Nat) :=
  [ (R.FEC_PROFILE, [1]), (R.FEC_OCT_CFG, [1]), (R.HOST_RX_MAP, [1]), (R.HOST_TX_MAP, [1]), (R.CHIP_ESC_CFG, [1]),
    (R.TOD_CTRL, [2]), (R.TOD_UNC_CFG, [2]), (R.TOD_PPS_CFG, [2]), (R.SAF_SG2_CFG, [2]),
    (R.LINE_LEN_CTRL, [3]), (R.LINE_LEN_TIMING, [3]), (R.SAF_SG3_CTRL, [3]),
    (R.SAF_CFG, [1, 2, 3, 4]), (R.SAF_WD_CFG, [1, 2, 3, 4]) ]

/-- The goals that a protected register serves. -/
def goalsOf (a : Nat) : List Nat := (protectedRegs.lookup a).getD []

/-- A protected register is loaded with its reset value, pending and active, in every copy. Of FEC_PROFILE only bits [7:0]
are protected. -/
def protReset (a : Nat) (s : State) : State :=
  let old := s
  let load (w : Word) : Word :=
    if a = R.FEC_PROFILE then (w &&& 0xFFFFFF00) ||| (resetWord a &&& 0xFF) else resetWord a
  let s := if a = R.HOST_RX_MAP ∨ a = R.HOST_TX_MAP then hostTxFollow (steerFollow s) else s
  let s := s.setReg a (load (s.reg a))
  let s := s.setActReg a (load (s.actReg a))
  let s := if a = R.HOST_RX_MAP ∨ a = R.HOST_TX_MAP then hostFollow s else s
  let s := forLanes (fun n s => s.setActReg (laneKey a n) (load (s.actReg (laneKey a n)))) s
  if a = R.FEC_OCT_CFG then forLanes (fun n s => if isLead s n then octChange n (octOn old n) s else s) (octFollow s)
  else if a = R.TOD_CTRL then sourceChange (old.fld a F.TOD_CTRL_SRC) s
  else if a = R.TOD_UNC_CFG ∨ a = R.TOD_PPS_CFG then validFollow s
  else s

/-- A trip of SG4 and of the goals that a register serves. -/
def sg4Trip (a : Nat) (s : State) : State := (goalsOf a).foldl (fun s k => if k = 4 then s else goalTrip k s) (goalTrip 4 s)

/-- How many consecutive scans have restored a register, this one included. -/
def restoreRun (s : State) (a : Nat) : Nat := (s.saf.restored.lookup a).getD 0 + 1

/-- A restore from the protected copy, which holds what the register held before it was upset. -/
def protRestore (a code : Nat) (s : State) : State :=
  let s := s.raise1 R.SAF_SG_STATUS F.SAF_SG_STATUS_SG4_RESTORE 397
  let s := s.addSat R.SAF_SG4_STATUS F.SAF_SG4_STATUS_RESTORES 1
  let s := (s.setFld R.SAF_SG4_ADDR F.SAF_SG4_ADDR_ADDR a).journalAt 0x35 code a
  let s := if a = R.LINE_LEN_CTRL then lenUpdate s else s
  if max 1 (s.fld R.SAF_CFG F.SAF_CFG_SG4_REPEAT) ≤ restoreRun s a then sg4Trip a s else s

/-- What a scan does at one register (R369). -/
def protResolve (f : ScanFind) (s : State) : State :=
  match f.fault with
  | .differs => protRestore f.addr 0x204 s
  | .regFails => protRestore f.addr 0x203 s
  | .protFails => s.journalAt 0x35 0x203 f.addr
  | .bothFail =>
    let s := protReset f.addr s
    sg4Trip f.addr (if f.addr = R.LINE_LEN_CTRL ∨ f.addr = R.SAF_SG3_CTRL then lenUpdate s else s)

/-- SG4_SCAN (R368, R369): `found` lists the protected registers at which the scan finds a mismatch. -/
def sg4Scan (found : List ScanFind) (s : State) : State :=
  let l := found.filter fun f => (protectedRegs.lookup f.addr).isSome
  let restored := l.filter fun f => f.fault == .differs || f.fault == .regFails
  let runs := restored.map fun f => (f.addr, restoreRun s f.addr)
  let s := l.foldl (fun s f => protResolve f s) s
  let s := s.addWrap R.SAF_SG4_STATUS F.SAF_SG4_STATUS_SCANS 1
  modSaf (fun x => { x with clean := l.isEmpty, restored := runs }) s

/-- SG4_RELEASE: REL4 (R361). -/
def sg4Release (s : State) : State := if sgTripped s 4 && s.saf.clean then sgRelease 4 s else s

/-! ### Watchdogs, clock monitors and supplies (R370) -/

/-- WD_MIN in the unit of `State.now`. -/
def wdMin (s : State) : Nat := s.fld R.SAF_WD_CFG F.SAF_WD_CFG_WD_MIN * 500000

/-- WATCHDOG_KICK by keeper k: a kick earlier than WD_MIN after the previous one is a keeper fault. The timer is suspended
while the keeper is halted or its pair is not up. -/
def wdKick (k : Fin 3) (s : State) : State :=
  let x := s.kic.k[k]
  if !pairServes s k then s
  else if x.kicked ∧ s.now - x.kickAt < wdMin s then keeperFault k .watchdog s
  else modK k (fun x => { x with kicked := true, kickAt := s.now }) s

/-- WATCHDOG_EXPIRY. -/
def wdExpiry (k : Fin 3) (s : State) : State := if pairServes s k then keeperFault k .watchdog s else s

/-- CLOCK_MONITOR_FAULT of an island: 0 to 7 wells, 8 host, 9 FEC, 10 cistern, 11 keep, 12 timing. Where an island holds
several blocks of its region, the block that LAST_BLOCK names, and with it the host-lane group that the reaction reinitialises, is
open. -/
def clockFault (i : Fin 13) (s : State) : State :=
  let s := s.setFld R.SAF_MON_STATUS F.SAF_MON_STATUS_CLK_ISLAND i
  let s := s.raise1 R.SAF_MON_STATUS F.SAF_MON_STATUS_CLK_FAULT 398
  let s := modSaf (fun x => { x with clkBad := Nat.lor x.clkBad (2 ^ i.val) }) s
  if i.val < 8 then wellFault (lane i) .clock s
  else if i.val = 8 then
    let (b, s) := s.fresh 1
    regionFault .host b 4 0 false s
  else if i.val = 9 then
    let (b, s) := s.fresh 1
    regionFault .line (8 + b) 4 (if b = 0 then 255 else 0) false s
  else if i.val = 10 then regionFault .cistern 0 4 0 false s
  else if i.val = 11 then
    let (b, s) := s.fresh 8
    regionFault .keep (b % 6) 4 0 false s
  else
    let (b, s) := s.fresh 1
    sg2Trip 3 (regionFault .timing b 4 0 (sgEnabled s 2) s)

/-- CLOCK_MONITOR_REARM (R361, R370). -/
def clockRearm (i : Fin 13) (s : State) : State :=
  let s := modSaf (fun x => { x with clkBad := x.clkBad - Nat.land x.clkBad (2 ^ i.val) }) s
  if i.val = 12 then modTod (fun t => { t with readGood := 0 }) s else s

/-- SUPPLY_OUT_OF_WINDOW of a rail: 0 VDD_CORE, 1 VDD_AON, 2 VDDA_L, 3 VDDA_H, 4 VDDH, 5 VDD18, 6 VDD2_LP, 7 VDDQ_LP. While
RESET_N is low it only delays the start (R425). -/
def supplyOut (r : Fin 8) (s : State) : State :=
  let s := { s with rails := Nat.lor s.rails (2 ^ r.val),
                    saf := { s.saf with railSince := (r.val, s.now) :: s.saf.railSince.filter fun x => x.1 != r.val } }
  if s.inReset then s
  else
    let s := s.setFld R.SAF_MON_STATUS F.SAF_MON_STATUS_VOLT_RAIL r
    sg3Request (s.raise1 R.SAF_MON_STATUS F.SAF_MON_STATUS_VOLT_FAULT 399)

/-- RAIL_BACK_IN_WINDOW: the comparator's request ends (R366, R370). -/
def railBack (r : Fin 8) (s : State) : State :=
  lenUpdate { s with rails := s.rails - Nat.land s.rails (2 ^ r.val),
                     saf := { s.saf with railSince := s.saf.railSince.filter (fun x => x.1 != r.val), railOk := s.now } }

/-! ### Memory patrol and fuse repair (R374 to R376) -/

/-- The spare rows of a memory instance that are in use (R375). -/
def rowsUsed (s : State) (inst : Nat) : Nat := (s.saf.rows.filter fun x => x.1 == inst).length

/-- MEMORY_PATROL (R375): a failing row of an instance is redirected to one of its four spare rows. -/
def memoryPatrol (inst row : Nat) (f : PatrolFind) (s : State) : State :=
  let used := rowsUsed s inst
  match f with
  | .clean | .corrected => s
  | .recurs | .uncorrectable =>
    if 4 ≤ used then s
    else
      let s := modSaf (fun x => { x with rows := (inst, row) :: x.rows }) s
      let s := s.raise1 R.SAF_REPAIR_STATUS F.SAF_REPAIR_STATUS_REPAIR_EV 402
      let s := s.addSat R.SAF_REPAIR_STATUS F.SAF_REPAIR_STATUS_SOFT_REPAIRS 1
      let s := if used = 3 then s.raise1 R.SAF_REPAIR_STATUS F.SAF_REPAIR_STATUS_SPARE_OUT 403 else s
      addRepair { typ := 4, unit := inst, loc := row } s

/-- FUSE_REPAIR_BURN: GO starts the burn (R376). -/
def frepGo (s : State) : State := s.setFld R.SAF_FREP_CMD F.SAF_FREP_CMD_BUSY 1

/-- The records that a burn burns, and how many do not fit in the area of 32. -/
def frepRecords (s : State) : List RepairRec := s.rpr.filter fun r => r.typ == 3 || r.typ == 4
def frepSpace (s : State) : Nat := 32 - s.fuse.repairs.length

/-- The records are burnt in their copies. -/
def frepBurn (s : State) : State :=
  let s := { s with fuse := { s.fuse with repairs := s.fuse.repairs ++ (frepRecords s).take (frepSpace s) } }
  s.setFld R.SAF_REPAIR_STATUS F.SAF_REPAIR_STATUS_FUSE_USED s.fuse.repairs.length

/-- FUSE_REPAIR_BURN_DONE (R376). -/
def frepDone (s : State) : State :=
  if !s.flag R.SAF_FREP_CMD F.SAF_FREP_CMD_BUSY then s
  else
    let left := (frepRecords s).length - frepSpace s
    let s := (frepBurn s).setFld R.SAF_FREP_CMD F.SAF_FREP_CMD_BUSY 0
    let s := s.setFld R.SAF_FREP_CMD F.SAF_FREP_CMD_NOT_BURNT left
    s.setFld R.SAF_FREP_CMD (if left = 0 then F.SAF_FREP_CMD_DONE else F.SAF_FREP_CMD_ERR) 1

/-! ### The journal (R267, R377 to R379) -/

/-- Number of the next entry. -/
def jnlNext (s : State) : Nat := s.fld R.SAF_JNL_INDEX F.SAF_JNL_INDEX_NEXT

/-- Where entry i lies in the SRAM and in the mirror. -/
def jnlAddr (i : Nat) : Nat := 0x01400000 + 16 * (i % 65536)
def mirrorAddr (i : Nat) : Nat := 0x89000000 + 16 * (i % 1048576)

/-- The 16 bytes of an entry as a number, byte 0 least significant. -/
def jnlBytes (e : JEntry) : Nat :=
  e.ns + e.sec * 2 ^ 32 + e.source * 2 ^ 64 + (b2n e.safety + 2 * b2n e.todInvalid) * 2 ^ 72 + e.code % 65536 * 2 ^ 80 +
  e.payload % 2 ^ 32 * 2 ^ 96

/-- JOURNAL_ENTRY_WRITE (R377, R378): the oldest queued event is written. Entries wait while a zeroisation runs (R379). -/
def journalWrite (s : State) : State :=
  match s.jq with
  | [] => s
  | e :: q =>
    if s.flag R.SAF_JNL_STATUS F.SAF_JNL_STATUS_ZERO_BUSY then s
    else
      let s := { s.setBytesNat (jnlAddr (jnlNext s)) (jnlBytes e) 16 with jq := q }
      s.addWrap R.SAF_JNL_INDEX F.SAF_JNL_INDEX_NEXT 1

/-- Number of the oldest entry that the SRAM holds. -/
def jnlOldest (s : State) : Nat := jnlNext s - 65536

/-- The mirror can be written: the cistern serves accesses and no zeroisation runs. -/
def mirrorOpen (s : State) : Bool :=
  !deepSleep s && cisFlag s F.CIS_STATUS_FILLED && !cisFlag s F.CIS_STATUS_UNAVAILABLE &&
  !cisFlag s F.CIS_STATUS_ZERO_BUSY && !s.region[(4 : Fin 5)].reacting

/-- JOURNAL_MIRROR_WRITE (R267): the next entry is copied; entries that the ring has overwritten leave a gap marker. -/
def mirrorWrite (s : State) : State :=
  if !mirrorOpen s ∨ jnlNext s ≤ s.saf.mirror then s
  else if s.saf.mirror < jnlOldest s then
    let gap := jnlOldest s - s.saf.mirror
    let s := cisStore (mirrorAddr s.saf.mirror) 16 (jnlBytes (s.jEntry 0x35 0xFFFF gap)) s
    let s := modSaf (fun x => { x with mirror := x.mirror + gap }) s
    s.raise1 R.SAF_JNL_STATUS F.SAF_JNL_STATUS_GAP_EV 405
  else
    let s := cisStore (mirrorAddr s.saf.mirror) 16 (s.bytesNat (jnlAddr s.saf.mirror) 16) s
    modSaf (fun x => { x with mirror := x.mirror + 1 }) s

/-- The payload zeroisation of R379: bytes 12 to 15 of every entry read 0 with ZEROISED set, the mirror is cleared, and
entries wait in the queue meanwhile. -/
def jnlZeroise (s : State) : State :=
  let s := (List.range (min (jnlNext s) 65536)).foldl (fun s i =>
    let a := jnlAddr i
    (s.setBytesNat (a + 12) 0 4).setByte (a + 9) (s.byte (a + 9) ||| 4)) s
  let s := s.setFld R.SAF_JNL_STATUS F.SAF_JNL_STATUS_ZERO_BUSY 1
  modSaf (fun x => { x with jnlZero := true }) (modCis (fun c => { c with zeroMirror := true }) (zeroStart true s))

/-- The zeroisation ends: mirroring restarts from the oldest SRAM entry. -/
def jnlZeroiseEnd (s : State) : State :=
  if s.saf.jnlZero then
    let s := zeroDone s
    let s := s.setFld R.SAF_JNL_STATUS F.SAF_JNL_STATUS_ZERO_BUSY 0
    modSaf (fun x => { x with jnlZero := false, mirror := jnlOldest s }) s
  else s

end Sys2Proof.Machine
end

