-- ==== Sys2Proof/Machine/Thermal.lean ====
section
/-!
DEFINITION. Temperature, throttling, the vent and the monitor ADC (R384 to R398 of
spec/16_thermal_and_monitor_adc.md).
-/
namespace Sys2Proof.Machine

/-- Updates the thermal controller and the monitor ADC. -/
def modThm (g : ThmSt → ThmSt) (s : State) : State := { s with thm := g s.thm }
def modAdc (g : MonSt → MonSt) (s : State) : State := { s with mon := g s.mon }

/-! ### Sensors (R384). Temperatures are in 0.25 °C -/

/-- A conversion that completed, with a reading from −55 °C to +150 °C. -/
def readingOk (r : Option Int) : Bool := match r with | some t => decide (-220 ≤ t) && decide (t ≤ 600) | none => false

/-- Sensor k's latest reading, where it is valid. -/
def sensor (s : State) (k : Nat) : Option Int :=
  if s.flag (R.THM_SENS k) F.THM_SENS_VALID then some (F.THM_SENS_TEMP.sget (s.reg (R.THM_SENS k))) else none

/-- The valid readings of sensors `k` to `k + c − 1`. -/
def sensors (s : State) (k c : Nat) : List Int := (List.range c).filterMap fun j => sensor s (k + j)

/-- The highest of a list of readings. -/
def hottest : List Int → Option Int
  | [] => none
  | a :: l => match hottest l with | some b => some (max a b) | none => some a

/-- T_MAX of the latest set with a valid sensor. -/
def tMax (s : State) : Int := F.THM_STATUS_T_MAX.sget (s.reg R.THM_STATUS)

/-- One sensor's result: its register, and a new fault (R384). -/
def sensorDone (k : Nat) (r : Option Int) (s : State) : State :=
  let a := R.THM_SENS k
  let ok := readingOk r
  let was := s.flag a F.THM_SENS_FAULT
  let s := match r with | some t => s.setFld a F.THM_SENS_TEMP (unsigned 11 (clampInt (-1024) 1023 t)) | none => s
  let s := (s.setFld a F.THM_SENS_VALID (b2n ok)).setFld a F.THM_SENS_FAULT (b2n !ok)
  if !ok && !was then
    (s.raise1 R.THM_STATUS F.THM_STATUS_SENS_FAULT 419).addSat R.THM_CNT F.THM_CNT_SENS_FAULTS 1
  else s

/-! ### Bands (R386, R387) -/

/-- Boundaries B1 to B7 in whole °C. -/
def bounds (lo hi : Word) : List Int :=
  [F.THM_BAND_LO_B1, F.THM_BAND_LO_B2, F.THM_BAND_LO_B3, F.THM_BAND_LO_B4].map (·.sget lo) ++
  [F.THM_BAND_HI_B5, F.THM_BAND_HI_B6, F.THM_BAND_HI_B7].map (·.sget hi)

/-- The boundaries are strictly ascending. -/
def ascending : List Int → Bool
  | a :: b :: l => decide (a < b) && ascending (b :: l)
  | _ => true

/-- B_b in 0.25 °C, for b from 1 to 7. -/
def bound (s : State) (b : Nat) : Int := 4 * (bounds (s.reg R.THM_BAND_LO) (s.reg R.THM_BAND_HI)).getD (b - 1) 0

/-- HYST in 0.25 °C. -/
def hyst (s : State) : Int := 4 * (s.fld R.THM_BAND_HI F.THM_BAND_HI_HYST : Int)

/-- A band rises while the reading has reached the next boundary. -/
def bandRise (s : State) (t : Int) (b : Nat) : Nat → Nat
  | 0 => b
  | k + 1 => if b < 7 ∧ bound s (b + 1) ≤ t then bandRise s t (b + 1) k else b

/-- A band falls while the reading lies below the lower boundary minus HYST. -/
def bandFall (s : State) (t : Int) : Nat → Nat
  | 0 => 0
  | b + 1 => if t < bound s (b + 1) - hyst s then bandFall s t b else b + 1

/-- The band of a reading, from the band in force. -/
def bandOf (s : State) (t : Int) (b : Nat) : Nat :=
  let up := bandRise s t b 7
  if up ≠ b then up else bandFall s t b

/-- Lane n's field of THM_BANDS. -/
def wellBand (n : Nat) : Fld := { F.THM_BANDS_WELL with lo := 3 * n, w := 3 }

/-- One user's band follows its reading. -/
def bandStep (f : Fld) (t : Int) (s : State) : State :=
  let b := s.fld R.THM_BANDS f
  let b' := bandOf s t b
  if b' = b then s else (s.setFld R.THM_BANDS f b').raise1 R.THM_STATUS F.THM_STATUS_BAND_EV 418

/-- Every band follows the latest readings; without a valid sensor none changes. The cistern's is BAND_EFF of its controller too (R266). -/
def bandsFollow (s : State) : State :=
  if (sensors s 0 36).isEmpty then s
  else
    let m := tMax s
    let s := (List.range 8).foldl (fun s n => bandStep (wellBand n) ((hottest (sensors s (4 * n) 4)).getD m) s) s
    let s := bandStep F.THM_BANDS_HOST ((hottest (sensors s 32 2)).getD m) s
    let s := bandStep F.THM_BANDS_CIS m s
    s.setFld R.CIS_REF F.CIS_REF_BAND_EFF (s.fld R.THM_BANDS F.THM_BANDS_CIS)

/-! ### Throttle (R388) -/

/-- The computed effort of an excess q in 0.25 °C. -/
def effortOf (q : Int) : Nat := if q ≤ 0 then 100 else max 40 (100 - (5 * q.toNat + 1) / 2)

/-- THR_SECONDS counts the time with an effort below 100%. -/
def throttleTime (s : State) : State :=
  let d := if s.fld R.THM_STATUS F.THM_STATUS_EFFORT < 100 then s.now - s.thm.lastSet else 0
  let t := s.thm.below + d
  modThm (fun x => { x with below := t % cycSecond, lastSet := s.now })
    (s.addWrap R.THM_CNT F.THM_CNT_THR_SECONDS (t / cycSecond))

/-- The effort in force: the minimum of EFFORT_MAN and the value that follows the computed effort. -/
def effortFollow (s : State) : State :=
  let s := throttleTime s
  let old := s.fld R.THM_STATUS F.THM_STATUS_EFFORT
  let e := min (s.fld R.THM_CFG F.THM_CFG_EFFORT_MAN) s.thm.follow
  let s := s.setFld R.THM_STATUS F.THM_STATUS_EFFORT e
  let s := if old = 100 ∧ e < 100 then s.raise1 R.THM_STATUS F.THM_STATUS_THROTTLE_EV 416 else s
  if 40 < old ∧ e ≤ 40 then s.raise1 R.THM_STATUS F.THM_STATUS_FLOOR_EV 417 else s

/-- A sample gives the computed effort; a fall takes effect at once. -/
def effortSample (s : State) : State :=
  let c := effortOf (tMax s - 4 * (s.fld R.THM_CFG F.THM_CFG_THR : Int))
  effortFollow (modThm (fun x => { x with computed := c, follow := min x.follow c }) s)

/-- EFFORT_RISE_STEP: a rise of at most 10 points in 100 ms. -/
def effortRise (s : State) : State :=
  effortFollow (modThm (fun x => { x with follow := if x.follow < x.computed then min x.computed (x.follow + 10) else x.follow }) s)

/-! ### Sampling interval and vent (R385, R389, R390) -/

/-- The row of R385 for a T_MAX, from the row in force. -/
def intervalOf (s : State) (t : Int) (old : Nat) : Nat :=
  let lo1 := 4 * (s.fld R.THM_CFG F.THM_CFG_THR : Int) - 40
  let lo2 : Int := 488
  let row := if lo2 ≤ t then 2 else if lo1 ≤ t then 1 else 0
  if old ≤ row then row
  else
    let r := if old = 2 ∧ t < lo2 - hyst s then 1 else old
    if r = 1 ∧ t < lo1 - hyst s then 0 else r

/-- The interval follows T_MAX; while the vent holds it is 1 ms. -/
def intervalFollow (s : State) : State :=
  let old := s.fld R.THM_STATUS F.THM_STATUS_INTERVAL
  let r := if s.vent then 1 else intervalOf s (tMax s) old
  let s := s.setFld R.THM_STATUS F.THM_STATUS_INTERVAL r
  if r = 2 ∧ old ≠ 2 then s.raise1 R.THM_STATUS F.THM_STATUS_NEAR_VENT 420 else s

/-- The vent acts (R389 steps 2 and 3): LEN and the DACs, VENTED and its count. Each vent is journalled, one that finds VENTED set
too. -/
def ventAct (s : State) : State :=
  let again := s.flag R.THM_STATUS F.THM_STATUS_VENTED
  let s := (s.addSat R.THM_CNT F.THM_CNT_VENTS 1).raise1 R.THM_STATUS F.THM_STATUS_VENTED 421
  let s := if again then s.journal 421 (s.reg R.THM_STATUS).toNat else s
  lenUpdate { s with vent := true, thm := { s.thm with coolSince := none } }

/-- A sample set while the vent holds (R389 step 4, R397). -/
def ventCool (s : State) : State :=
  match hottest (sensors s 0 36) with
  | none => modThm (fun x => { x with coolSince := none }) (s.journal 419 (s.reg R.THM_STATUS).toNat)
  | some t => modThm (fun x => { x with coolSince := if t < 400 then some (x.coolSince.getD s.now) else none }) s

/-- The path delays of lane n follow the mean of its well's valid sensors, or T_MAX (R227, R387). -/
def pathSample (n : Fin 8) (s : State) : State :=
  let l := sensors s (4 * n) 4
  let l := if l.isEmpty then [tMax s] else l
  let (m, s) := roundFree (4 * l.foldl (· + ·) 0) l.length s
  pathFollow n m s

/-- THERMAL_SAMPLE_START (R385). -/
def sampleStart (s : State) : State := modThm (fun x => { x with converting := true }) s

/-- THERMAL_SAMPLE_DONE (R384 to R389): `rd` gives the readings, none for a conversion that did not complete in time. -/
def sampleDone (rd : Vector (Option Int) 36) (s : State) : State :=
  if !s.thm.converting then s
  else
    let s := modThm (fun x => { x with converting := false }) s
    let s := (List.finRange 36).foldl (fun (s : State) (k : Fin 36) => sensorDone k rd[k] s) s
    let s := match hottest (sensors s 0 36) with
      | some t => s.setFld R.THM_STATUS F.THM_STATUS_T_MAX (unsigned 11 t)
      | none => s
    let s := effortSample (bandsFollow s)
    let s := forLanes pathSample s
    let s := if s.vent then ventCool s
             else match hottest (sensors s 0 36) with
               | some t => if 500 ≤ t then ventAct s else s
               | none => s
    intervalFollow s

/-! ### The monitor ADC (R391 to R396) -/

/-- The effective mask. -/
def monMask (s : State) : Nat :=
  Nat.lor (Nat.lor (s.fld R.MON_SCAN_MASK F.MON_SCAN_MASK_MASK) (s.fld R.SAF_SG3_CTRL F.SAF_SG3_CTRL_SG3_MON))
    (65536 * b2n (s.flag R.TOD_CTRL F.TOD_CTRL_LEARN_EN))

/-- Low-power mode is to be in force. -/
def monLowPwr (s : State) : Bool := s.flag R.MON_CTRL F.MON_CTRL_LOWPWR || deepSleep s

/-- The settings that the scan in progress latched: a channel's register, its AVG as taken, 1 to 8, and its SHIFT, 0 to 8 (R398). -/
def monCh (s : State) (c : Nat) : Word := s.mon.ch.getD c (s.reg (R.MON_CH c))
def monAvg (s : State) (c : Nat) : Nat := clampNat 1 8 (F.MON_CH_AVG.get (monCh s c))
def monShift (s : State) (c : Nat) : Nat := min 8 (F.MON_CH_SHIFT.get (monCh s c))

/-- The next channel of the scan, from a number on. -/
def monNext (mask k : Nat) : Option Nat := ((List.range 31).filter fun c => decide (k ≤ c) && bitOf mask c).head?

/-- A scan starts with the settings in force at its start (R392); a channel newly enabled has no result yet. With an empty
mask, or RUN = 0, the converter is idle. -/
def scanStart (s : State) : State :=
  let m := monMask s
  let lp := monLowPwr s
  let was := s.mon.mask
  if m = 0 ∨ !s.flag R.MON_CTRL F.MON_CTRL_RUN then modAdc (fun x => { x with scanning := false, mask := m }) s
  else
    let s := (List.range 31).foldl (fun s c =>
      if bitOf m c && !bitOf was c then s.setFld (R.MON_RES c) F.MON_RES_VALID 0 else s) s
    modAdc (fun x => { x with scanning := true, mask := m, lowPwr := lp, next := 0, time := 0,
                              ch := (List.range 32).map fun c => s.reg (R.MON_CH c),
                              cal := s.reg (if lp then R.MON_CAL_LP else R.MON_CAL) }) s

/-- A corrected sample (R393); the rounding of an inexact one is open. -/
def monCode (code : Nat) (s : State) : Int × State :=
  let ofs := F.MON_CAL_OFS.sget s.mon.cal
  let gain : Int := F.MON_CAL_GAIN.get s.mon.cal
  roundFree ((16 * (code : Int) - ofs) * gain) 32768 s

/-- The sum of a channel's corrected samples. -/
def monSum (l : List MonSample) (s : State) : Int × State :=
  l.foldl (fun (a : Int × State) m => let (c, s) := monCode (m.code % 4096) a.2; (a.1 + c, s)) (0, s)

/-- A value of 20 bits; the spec states none for a sum below 0. -/
def monValue (v : Int) (s : State) : Nat × State := if 0 ≤ v ∧ v < 1048576 then (v.toNat, s) else s.fresh 20

/-- The scan goes on to its next channel, or ends and the next one starts (R392). -/
def scanAdvance (c : Nat) (s : State) : State :=
  let s := modAdc (fun x => { x with next := c + 1, time := x.time + 2 ^ monAvg s c + 2 }) s
  match monNext s.mon.mask (c + 1) with
  | some _ => s
  | none =>
    let us := s.mon.time * (if s.mon.lowPwr then 10 else 1)
    let s := s.addWrap R.MON_STATUS F.MON_STATUS_SCANS 1
    scanStart (s.setFld R.MON_STATUS F.MON_STATUS_SCAN_US (min 65535 us))

/-- MON_CHANNEL_RESULT (R393): channel `c` of the scan takes its 2^AVG samples, and its result is published. Nothing happens
unless it is the channel's turn; while a calibration runs, results hold. -/
def monResult (c : Fin 32) (l : List MonSample) (s : State) : State :=
  let old := s
  let s := if s.mon.scanning then s else scanStart s
  if s.flag R.MON_STATUS F.MON_STATUS_CAL_BUSY ∨ !s.mon.scanning ∨ monNext s.mon.mask s.mon.next ≠ some c.val ∨
      l.length ≠ 2 ^ monAvg s c then old
  else
    let a := R.MON_RES c
    let w := monCh s c
    let (sum, s) := monSum l s
    let ovr := l.any (·.overs)
    let overs := ovr || decide ((F.MON_CH_LIMIT.get w : Int) < sum / 2 ^ monAvg s c)
    let (v, s) := monValue (sum / 2 ^ monShift s c) s
    let s := s.setFld a F.MON_RES_VALUE v
    let s := ((s.setFld a F.MON_RES_OVR (b2n ovr)).setFld a F.MON_RES_OVER (b2n overs)).setFld a F.MON_RES_VALID 1
    let s := s.setFld a F.MON_RES_SEQ (s.fld R.MON_STATUS F.MON_STATUS_SCANS)
    let s := if ovr then s.raise1 R.MON_STATUS F.MON_STATUS_OVR_EV 426 else s
    let s := if overs then s.raise1 R.MON_STATUS F.MON_STATUS_LIMIT_EV 427 else s
    scanAdvance c (sg3Follow old s)

/-- MON_CAL_START: a write of CAL. -/
def monCalStart (s : State) : State := s.setFld R.MON_STATUS F.MON_STATUS_CAL_BUSY 1

/-- A calibration ends; a bad one keeps the factors in force (R395). -/
def monCalEnd (r : Option MonCalRes) (s : State) : State :=
  let s := s.setFld R.MON_STATUS F.MON_STATUS_CAL_BUSY 0
  let s := s.raise1 R.MON_STATUS F.MON_STATUS_CAL_DONE 424
  match r with
  | none => s.raise1 R.MON_STATUS F.MON_STATUS_CAL_BAD 425
  | some r =>
    let q := R.MON_CAL_QUAL
    let s := s.setFld q F.MON_CAL_QUAL_OFS_RES (min 255 r.ofsRes)
    let s := s.setFld q F.MON_CAL_QUAL_GAIN_RES (min 255 r.gainRes)
    if 50 < r.ofsRes ∨ 20 < r.gainRes then s.raise1 R.MON_STATUS F.MON_STATUS_CAL_BAD 425
    else
      let s := s.setFld R.MON_CAL F.MON_CAL_OFS (unsigned 8 r.ofs)
      let s := s.setFld R.MON_CAL F.MON_CAL_GAIN r.gain
      let s := s.setFld R.MON_CAL_LP F.MON_CAL_LP_OFS (unsigned 8 r.ofsLp)
      s.setFld R.MON_CAL_LP F.MON_CAL_LP_GAIN r.gainLp

/-- MON_CAL_DONE and MON_CAL_TIMEOUT (R395). -/
def monCalDone (r : MonCalRes) (s : State) : State :=
  if s.flag R.MON_STATUS F.MON_STATUS_CAL_BUSY then monCalEnd (some r) s else s
def monCalTimeout (s : State) : State :=
  if s.flag R.MON_STATUS F.MON_STATUS_CAL_BUSY then monCalEnd none s else s

/-- REF_EXT reports what gain traces to (R394). -/
def refFollow (s : State) : State :=
  s.setFld R.MON_STATUS F.MON_STATUS_REF_EXT (s.fld R.LINE_TRACE F.LINE_TRACE_VREF_EXT_PRESENT)

end Sys2Proof.Machine
end

