-- ==== Sys2Proof/Machine/Secure.lean ====
section
/-!
DEFINITION. Lifecycle, debug levels and boundary scan (R399 to R413 of chapter 17 of spec/ (security and debug)).
-/
namespace Sys2Proof.Machine

/-- Updates security and debug. -/
def modSec (g : SecSt → SecSt) (s : State) : State := { s with sec := g s.sec }

/-! ### Lifecycle (R399 to R402) -/

/-- The fuse value of a lifecycle state. -/
def lcFuse (st : Nat) : Nat := match st with | 0 => 0 | 1 => 3 | 2 => 7 | _ => 15

/-- The state of a fuse value, if it is one of *Lifecycle states*. -/
def lcState (v : Nat) : Option Nat := match v with | 0 => some 0 | 3 => some 1 | 7 => some 2 | 15 => some 3 | _ => none

/-- The transitions of R402. -/
def lcAllowed (src dst : Nat) : Bool := (src, dst) ∈ [(0, 1), (1, 2), (1, 3), (2, 3)]

/-- A GO is not taken now. -/
def lcBusy (s : State) : Bool :=
  s.flag R.SEC_LC_CMD F.SEC_LC_CMD_BUSY || s.flag R.SEC_LC_STATUS F.SEC_LC_STATUS_BURN_PENDING ||
  s.flag R.SEC_DBG_STATUS F.SEC_DBG_STATUS_OPEN_BUSY

/-- LC_ERR with its code. -/
def lcErr (code : Nat) (s : State) : State :=
  (s.setFld R.SEC_LC_CMD F.SEC_LC_CMD_ERR_CODE code).raise1 R.SEC_LC_CMD F.SEC_LC_CMD_LC_ERR 429

/-- A level closes at once (R407): WAKE is forced to 0, and halted keepers run on. -/
def levelClose (s : State) : State :=
  let s := s.setFld R.SEC_DBG_STATUS F.SEC_DBG_STATUS_LEVEL 0
  let s := s.setFld R.SEC_DBG_STATUS F.SEC_DBG_STATUS_OPENED_BY 0
  let s := s.setFld R.SEC_DBG_CTRL F.SEC_DBG_CTRL_WAKE 0
  (List.finRange 3).foldl (fun (s : State) (k : Fin 3) =>
    if s.kic.k[k].halted then modK k (fun x => { x with halted := false, kicked := false, kickAt := s.now }) s else s) s

/-- GO of SEC_LC_CMD with its KEY and TARGET, from Port S holding DEBUG (R402). -/
def lifecycleGo (key target : Nat) (s : State) : State :=
  let st := lifecycle s
  if key ≠ 0x4C43 then lcErr 2 s
  else if s.flag R.SEC_LC_STATUS F.SEC_LC_STATUS_LC_NOMAJ || s.flag R.SEC_LC_STATUS F.SEC_LC_STATUS_LC_INVALID then lcErr 4 s
  else if !lcAllowed st target then lcErr 1 s
  else if st = 0 ∧ keyBlank s then lcErr 3 s
  else
    let s := modSec (fun x => { x with lcTarget := target }) (s.setFld R.SEC_LC_CMD F.SEC_LC_CMD_BUSY 1)
    if target = 3 then jnlZeroise (levelClose s) else s

/-- The first `k` copies of the lifecycle word are burnt. -/
def lcBurn (k : Nat) (s : State) : State :=
  { s with fuse := { s.fuse with
      lc := Vector.ofFn fun i => if i.val < k then Nat.lor s.fuse.lc[i] (lcFuse s.sec.lcTarget) else s.fuse.lc[i] } }

/-- LIFECYCLE_BURN_DONE: `bad` names the copy that fails its readback, whose bits are then open. -/
def lifecycleDone (bad : Option (Fin 3)) (s : State) : State :=
  if !s.flag R.SEC_LC_CMD F.SEC_LC_CMD_BUSY then s
  else
    let s := (jnlZeroiseEnd s).setFld R.SEC_LC_CMD F.SEC_LC_CMD_BUSY 0
    match bad with
    | some i =>
      let s := lcBurn i s
      let (v, s) := s.fresh 4
      lcErr 5 { s with fuse := { s.fuse with lc := s.fuse.lc.set i (Nat.lor s.fuse.lc[i] v) } }
    | none =>
      let s := (lcBurn 3 s).raise1 R.SEC_LC_CMD F.SEC_LC_CMD_LC_DONE 428
      let s := s.setFld R.SEC_LC_STATUS F.SEC_LC_STATUS_BURN_PENDING 1
      s.setFld R.SEC_LC_STATUS F.SEC_LC_STATUS_NEXT s.sec.lcTarget

/-- A supply restart or the vent abandons a burn: how many copies are burnt already is open (R380, R402). -/
def burnAbandon (s : State) : State :=
  let (k, s) := s.fresh 2
  let s := if s.flag R.SEC_LC_CMD F.SEC_LC_CMD_BUSY then (lcBurn k s).setFld R.SEC_LC_CMD F.SEC_LC_CMD_BUSY 0 else s
  if s.flag R.SAF_FREP_CMD F.SAF_FREP_CMD_BUSY then
    (if 2 ≤ k then frepBurn s else s).setFld R.SAF_FREP_CMD F.SAF_FREP_CMD_BUSY 0
  else s

/-! ### Debug levels (R405 to R409) -/

/-- The debug level in force: 0 CLOSED, 1 OBSERVE, 2 FULL. -/
def debugLevel (s : State) : Nat := s.fld R.SEC_DBG_STATUS F.SEC_DBG_STATUS_LEVEL

/-- The lifecycle state allows the level from the requester (1 Port S, 2 Port J). -/
def levelAllowed (s : State) (level who : Nat) : Bool :=
  match lifecycle s with
  | 0 | 3 => level == 1 || level == 2
  | 1 => level == 1 && who == 1
  | _ => false

/-- An open request is not taken now. -/
def openBusy (s : State) : Bool :=
  s.flag R.SEC_DBG_STATUS F.SEC_DBG_STATUS_OPEN_BUSY || s.sec.waits.isSome || s.flag R.SEC_LC_CMD F.SEC_LC_CMD_BUSY

/-- An entry to S4 is at its end (R412). -/
def deepCommit (s : State) : Bool := s.pwr.commit && (s.pwr.entry.map (·.target)) == some 4

/-- The code that an open request returns (R406, R408, R412). -/
def openCode (s : State) (level who : Nat) : Code :=
  if openBusy s then .busy
  else if !levelAllowed s level who then .denied
  else if (deepSleep s || deepCommit s) && level == 1 then .asleep
  else .ok

/-- Steps 1 to 3 of R406 begin. -/
def openStart (level who : Nat) (s : State) : State :=
  let s := captureAbort (s.setFld R.SEC_DBG_STATUS F.SEC_DBG_STATUS_OPEN_BUSY 1)
  jnlZeroise (modSec (fun x => { x with want := some (level, who), waits := none }) s)

/-- DEBUG_OPEN and JTAG_DBG_REQ (R406, R408): a request accepted by `openCode`. A level that is already in force, or a
shallower one, needs no steps. A request for FULL in S3 or S4 wakes the device first. -/
def debugOpen (level who : Nat) (s : State) : State :=
  if openCode s level who ≠ .ok then s
  else if level ≤ debugLevel s then s
  else if deepSleep s then
    let s := modSec (fun x => { x with waits := some who }) s
    if s.pwr.exiting then s else exitStart 0 s
  else openStart level who s

/-- A request that waited for the wake starts its steps (R408). -/
def openAfterWake (s : State) : State :=
  match s.sec.waits with | some who => openStart 2 who s | none => s

/-- DEBUG_OPEN_DONE (R406 step 4). -/
def debugOpenDone (s : State) : State :=
  match s.sec.want with
  | none => s
  | some (level, who) =>
    let s := modSec (fun x => { x with want := none }) (jnlZeroiseEnd s)
    let s := s.setFld R.SEC_DBG_STATUS F.SEC_DBG_STATUS_LEVEL level
    let s := s.setFld R.SEC_DBG_STATUS F.SEC_DBG_STATUS_OPENED_BY who
    let s := s.setFld R.SEC_DBG_STATUS F.SEC_DBG_STATUS_OPEN_BUSY 0
    let s := s.addSat R.SEC_DBG_STATUS F.SEC_DBG_STATUS_OPENS 1
    (s.raise1 R.SEC_DBG_STATUS F.SEC_DBG_STATUS_DBG_EV 430).journal 0x205 level

/-- A close (R407, R412): during OPEN_BUSY it cancels the open, and the level stays. -/
def debugClose (s : State) : State :=
  if s.sec.want.isSome || s.sec.waits.isSome then
    modSec (fun x => { x with want := none, waits := none }) (s.setFld R.SEC_DBG_STATUS F.SEC_DBG_STATUS_OPEN_BUSY 0)
  else levelClose s

/-- WAKE reads 0 unless FULL is in force (R409). -/
def debugWakeFollow (s : State) : State := if debugLevel s = 2 then s else s.setFld R.SEC_DBG_CTRL F.SEC_DBG_CTRL_WAKE 0

/-- KEEPER_HALT (R405): with FULL open, the keeper's tasks move to its donor. -/
def keeperHalt (k : Fin 3) (s : State) : State :=
  if debugLevel s = 2 ∧ pairUp s k then modK k (fun x => { x with halted := true }) s else s

/-- KEEPER_RESUME (R405): its watchdog starts again. -/
def keeperResume (k : Fin 3) (s : State) : State :=
  if debugLevel s = 2 ∧ s.kic.k[k].halted then
    modK k (fun x => { x with halted := false, kicked := false, kickAt := s.now }) s
  else s

/-! ### Boundary scan (R410, R411) -/

/-- The data path is disabled (R411). -/
def dpDisabled (s : State) : Bool :=
  (List.range 8).all fun n => !s.flag (R.HOST_LN_CFG n) F.HOST_LN_CFG_EN && !lenEn s n &&
    !s.flag (R.LINE_FE_CFG n) F.LINE_FE_CFG_DAC_EN

/-- The instructions that drive balls. -/
def JInstr.drives : JInstr → Bool
  | .extest | .clamp | .highz | .extestPulse | .extestTrain => true
  | _ => false

/-- A ball-driving instruction may run. -/
def scanAllowed (s : State) : Bool := decide (pwrState s ≤ 2) && (lifecycle s != 2 || dpDisabled s)

/-- The balls return to their functions. -/
def scanEnd (i : JInstr) (s : State) : State :=
  modSec (fun x => { x with instr := i, driven := false }) (s.setFld R.SEC_DBG_STATUS F.SEC_DBG_STATUS_SCAN_ACTIVE 0)

/-- Port J loads an instruction. One that drives balls and may not run is replaced by BYPASS. Outside SEALED its start is
journalled, under a code that the spec does not list. -/
def scanLoad (i : JInstr) (s : State) : State :=
  if !i.drives then scanEnd i s
  else if !scanAllowed s then (scanEnd .bypass s).raise1 R.SEC_DBG_STATUS F.SEC_DBG_STATUS_JTAG_REFUSED 431
  else
    let s := modSec (fun x => { x with instr := i, driven := true }) (s.setFld R.SEC_DBG_STATUS F.SEC_DBG_STATUS_SCAN_ACTIVE 1)
    if lifecycle s = 2 then s
    else
      let (c, s) := s.fresh 16
      let (p, s) := s.fresh 32
      s.journalAt 0x50 c p

/-- Boundary cells take new values. Cells 0 to 7 are those of LEN0 to LEN7, which drive only low (R410). -/
def cellsPut (l : List (Nat × Bool)) (s : State) : State :=
  let new := l.map fun c => (c.1, c.2 && decide (8 ≤ c.1))
  let kept := s.sec.cells.filter fun c => l.all fun d => d.1 != c.1
  modSec (fun x => { x with cells := new ++ kept }) s

/-- BOUNDARY_UPDATE: an Update-DR under a ball-driving instruction. -/
def boundaryUpdate (l : List (Nat × Bool)) (s : State) : State := if s.sec.driven then cellsPut l s else s

/-- TRST_N low (R407, R411): the level closes, and the TAP is reset. -/
def trstAssert (s : State) : State := scanEnd .idcode (debugClose s)

/-- SLEEP_ENTRY_START with a ball-driving instruction running: the instruction ends at the entry, which waits for it (R411). -/
def entryStartScan (s : State) : State :=
  if entryAllowed s then entryStart (if s.sec.driven then scanEnd .bypass s else s) else s

/-- SLEEP_HOLDOFF_EXPIRY (R351): the entry starts again if R348 still holds. -/
def holdoffExpiry (edges : List WakeSrc) (s : State) : State :=
  if pwrFlag s F.PWR_STATUS_HOLDOFF then withEdges edges entryStartScan (s.setFld R.PWR_STATUS F.PWR_STATUS_HOLDOFF 0) else s

/-- Step 6 of an entry to S4 closes OBSERVE (R407). -/
def observeClose (t : Nat) (s : State) : State := if t = 4 ∧ debugLevel s = 1 then levelClose s else s

end Sys2Proof.Machine
end

