-- ==== Sys2Proof/Machine/Reset.lean ====
section
/-!
DEFINITION. Resets: what a hold keeps and what a cold start clears (R274, R295, R370, R377, R389, R390, R412, R426).
-/
namespace Sys2Proof.Machine

/-- The register is served from the always-on island and keeps its value while the other domains are held in reset (R15,
R389). The time-of-day registers report a unit that is reset. -/
def aonReg (key : Nat) : Bool :=
  let a := key % 0x100000000
  decide (a < 0x20000) || (decide (0x50000 ≤ a) && decide (a < 0x100000)) ||
  (decide (a < 0x100000 ∨ 0x200000 ≤ a) && (match specAt a with | some r => r.aon | none => false))

/-- REFCLK is out of its limits and has not come back (R245). -/
def refGone (s : State) : Bool := refLost s && !s.tod.refBack

/-- What a hold keeps of the time-of-day unit: its counters (R220). -/
def todKept (t : TodSt) : TodSt := { a := t.a, b := t.b, refBack := t.refBack, ringPeriod := t.ringPeriod }

/-- The status of a unit that a reset has just cleared still shows a lost REFCLK, on which it runs no further (R245). -/
def refKept (old s : State) : State :=
  if refLost old then
    (s.setFld R.TOD_STATUS F.TOD_STATUS_REFCLK_LOST 1).setFld R.TOD_STATUS F.TOD_STATUS_DEGRADED 1
  else s

/-- Every domain but the always-on island is held in reset, and the power state machine restarts in Active with DP_IDLE = 0
(R357, R370 and step 3 of R389). A burn, an update and a monitor calibration are abandoned (R295, R390); the permission windows stand with
the CHIP registers. -/
def domainReset (s : State) : State :=
  let s := burnAbandon s
  let off := forLanes (fun n s => { s with light := vmod s.light n fun l => { l with settled := false, muted := true } }) s
  let s := refKept s { off with
    regs := s.regs.filter (fun x => aonReg x.1), act := s.act.filter (fun x => aonReg x.1),
    tod := todKept s.tod,
    region := Vector.replicate 5 {}, blocks := [], well := Vector.replicate 8 {}, line := Vector.replicate 8 {},
    rx := Vector.replicate 8 {}, sig := Vector.replicate 8 {}, frm := Vector.replicate 8 {}, cores := [], atlas := Vector.replicate 8 {},
    seepLn := Vector.replicate 8 {}, seep := {}, host := {}, cis := {}, pumps := {}, stagedPumps := {}, rpr := [],
    mbx := Vector.replicate 3 {}, kic := {}, mon := {}, boot := { perm := s.boot.perm },
    pwr := { wakeN := s.pwr.wakeN } }
  let s := s.setFld R.PWR_STATUS F.PWR_STATUS_STATE 0
  let s := (s.setFld R.PWR_STATUS F.PWR_STATUS_ENTERING 0).setFld R.PWR_STATUS F.PWR_STATUS_HOLDOFF 0
  let s := setDpIdle 0 s
  lenUpdate (s.setFld R.MON_STATUS F.MON_STATUS_CAL_BUSY 0)

/-- The state at step 1 of a cold start: every register at its reset value, but for VENTED and VENTS, which only RESET_N clears,
and the journal's index; the journal, the fuses, the pins and the time-of-day counters stay, and RESET_N starts the counters
at 0 (R220, R377, R389). The queue of commands is outside the block. -/
def coldState (hard : Bool) (s : State) : State :=
  let s := burnAbandon s
  let clean : State := {
    mem := s.mem, now := s.now, freeCtr := s.freeCtr, jq := s.jq, jLostPend := s.jLostPend,
    tod := if hard then { refBack := s.tod.refBack, ringPeriod := s.tod.ringPeriod } else todKept s.tod,
    txdisHigh := s.txdisHigh, txdisOk := s.txdisHigh && s.txdisOk, vent := s.vent, inReset := s.inReset, rails := s.rails,
    fuse := s.fuse, pwr := { wakeN := s.pwr.wakeN },
    saf := { mirror := s.saf.mirror, railSince := s.saf.railSince, railOk := s.saf.railOk, supplyHold := s.saf.supplyHold },
    thm := if s.vent then { coolSince := s.thm.coolSince } else {},
    sec := { instr := s.sec.instr, cells := s.sec.cells, driven := s.sec.driven },
    resp := s.resp, pending := s.pending }
  let clean := clean.setReg R.SAF_JNL_INDEX (s.reg R.SAF_JNL_INDEX)
  let clean := clean.setFld R.SEC_DBG_STATUS F.SEC_DBG_STATUS_SCAN_ACTIVE (b2n s.sec.driven)
  let clean := if hard then clean
    else (clean.setFld R.THM_STATUS F.THM_STATUS_VENTED (s.fld R.THM_STATUS F.THM_STATUS_VENTED)).setFld
      R.THM_CNT F.THM_CNT_VENTS (s.fld R.THM_CNT F.THM_CNT_VENTS)
  lenUpdate (refKept s clean)

/-- RESET_ASSERT: RESET_N has been low for 1 µs (R426). The device is held in reset; a vent hold goes on (R390). -/
def resetAssert (s : State) : State := lenUpdate { coldState true { s with inReset := true } with inReset := true }

/-- BOOT_RESTART: a write of RESTART begins a cold start (R274). -/
def bootRestart (s : State) : State := coldState false s

/-- VENT_COOLDOWN_EXPIRY: every valid sensor has been below 100 °C for 10 s, so the vent restart begins; with RESET_N low only
the hold ends (R389, R390). -/
def ventCooldown (s : State) : State :=
  if s.vent && s.thm.coolSince.isSome then
    let s := { s with vent := false }
    if s.inReset then s else coldState false s
  else s

/-- SUPPLY_RESTART: a rail has stayed out of its window for 100 µs (R370). Below VDD_AON's window the whole device is reset, and
the journal holds what `lost` says. A rail that is out while RESET_N is low has no such effect (R425). -/
def supplyRestart (lost : Option AonLoss) (s : State) : State :=
  if s.inReset ∨ s.rails = 0 then s
  else if bitOf s.rails 1 then
    let s := coldState true { s with jq := [], jLostPend := 0 }
    match lost with
    | none => s
    | some l =>
      let s := s.clearBytes 0x1400000 0x14FFFFF
      let s := l.bytes.foldl (fun (s : State) (x : Nat × Nat) => s.setByte (0x1400000 + x.1 % 0x100000) (BitVec.ofNat 8 x.2)) s
      s.setReg R.SAF_JNL_INDEX (word l.next)
  else if s.saf.supplyHold then s
  else domainReset { s with saf := { s.saf with supplyHold := true } }

/-- SUPPLY_RESTART_RECOVER: every rail has been in its window for 10 ms, so a cold start begins. -/
def supplyRecover (s : State) : State :=
  if s.saf.supplyHold && s.rails == 0 then
    let s := { s with saf := { s.saf with supplyHold := false } }
    if s.inReset then s else coldState false s
  else s

end Sys2Proof.Machine
end

