-- ==== Sys2Proof/Machine/Checks.lean ====
section
/-!
DEFINITION. The checks of an access in the order of R307 of spec/12_host_access.md: width, the lists of R276 and R289, windows
(R313 to R315, R405, R417), the address map (R14, R414, R415), function groups (R316), power states (R311) and restarting
blocks (R35, R36).
-/
namespace Sys2Proof.Machine

/-! ### Requesters -/

/-- The host port of a requester. Port J enters through the front end of Port S (R405). -/
def Origin.port : Origin → Option (Fin 3)
  | .portS => some 0
  | .portI => some 1
  | .portF => some 2
  | .portJ => some 0
  | _ => none

/-- The keeper of a requester. -/
def Origin.keeper : Origin → Option (Fin 3)
  | .k0 => some 0
  | .k1 => some 1
  | .k2 => some 2
  | _ => none

/-- A requester that is not a keeper. -/
def Origin.isHost (o : Origin) : Bool := o.keeper.isNone

/-- The holder code of R317; Port J's accesses are Port S's (R405). -/
def Origin.holder : Origin → Nat
  | .portS => 2 | .portI => 3 | .portF => 4 | .k0 => 5 | .k1 => 6 | .k2 => 7 | .portJ => 2

/-- The bit of CHIP_VIOL.LOCK_VIOL (R310, R405). -/
def Origin.violBit (o : Origin) : Nat := o.holder - 2

/-- Where the answer of a requester is kept. -/
def Origin.idx : Origin → Fin 7
  | .portS => 0 | .portI => 1 | .portF => 2 | .k0 => 3 | .k1 => 4 | .k2 => 5 | .portJ => 6

/-- The requester of a host port, and of a keeper. -/
def portOrigin (p : Fin 3) : Origin := match p with | 0 => .portS | 1 => .portI | 2 => .portF
def keeperOrigin (k : Fin 3) : Origin := match k with | 0 => .k0 | 1 => .k1 | 2 => .k2

/-! ### Ownership (R316, R317) -/

/-- The semaphore of a function group. -/
def Grp.sem : Grp → Nat
  | .datapath => 0 | .timing => 1 | .seep => 2 | .power => 3 | .update => 4 | .debug => 5

/-- Holder of a semaphore: 0 free, or a code of R317. -/
def semHolder (s : State) (k : Nat) : Nat := s.fld (R.CHIP_SEM k) F.CHIP_SEM_CODE

/-- The port holds the semaphore. -/
def portHolds (s : State) (p : Fin 3) (k : Nat) : Bool := semHolder s k == p.val + 2

/-- The requester may write fields of the group: the holding port, and keepers and Port J, to which ownership does not apply
(R316, R405). -/
def ownsGroup (s : State) (o : Origin) (g : Grp) : Bool :=
  match o with
  | .portS => portHolds s 0 g.sem
  | .portI => portHolds s 1 g.sem
  | .portF => portHolds s 2 g.sem
  | _ => true

/-- CLAIM and FORCE of a port in the group record in force (R314). -/
def mayClaim (s : State) (o : Origin) (k : Nat) : Bool :=
  match o.port with
  | none => true
  | some p => bitOf s.boot.perm.grps[p].w0 k
def mayForce (s : State) (o : Origin) : Bool :=
  match o.port with
  | none => false
  | some p => s.boot.perm.grps[p].w0 / 0x10000 % 0x100 == 1

/-! ### Addresses (R414, R415) -/

/-- The address lies in the active-value alias, and the address that it stands for. -/
def inAlias (a : Nat) : Bool := decide (0x8000000 ≤ a) && decide (a < 0x10000000)
def aliased (a : Nat) : Nat := if inAlias a then a - 0x8000000 else a

/-- The journal SRAM (R377). -/
def inJournal (a : Nat) : Bool := decide (0x1400000 ≤ a) && decide (a < 0x1500000)

/-- The word that holds an address. -/
def wordAddr (a : Nat) : Nat := a / 4 * 4

/-- A register or a journal word exists at the address; the alias is there for reads (R14, R415). -/
def mapped (a : Nat) (write : Bool) : Bool :=
  let b := wordAddr (aliased a)
  if inAlias a && write then false
  else if inJournal b then !write
  else (specAt b).isSome

/-- The bucket (R254). -/
def inBucket (a : Nat) : Bool := decide (0x44000000 ≤ a) && decide (a < 0x84000000)

/-- The staging area, and the slot in force (R290). -/
def inStaging (a : Nat) : Bool := decide (0x84000000 ≤ a) && decide (a < 0x88000000)
def inForceStaging (s : State) (a : Nat) : Bool := inSlot (slotBase (inForceSlot s)) a

/-- PHASE of the cold start (R297). -/
def bootPhase (s : State) : Nat := s.fld R.BOOT_STATUS F.BOOT_STATUS_PHASE

/-- The level of READY: high once the cold start has released the device (R274 step 11, R426). -/
def readyOut (s : State) : Bool := bootPhase s == 5 && !s.inReset

/-! ### Width (R308) -/

/-- The width of the access is wrong: a host's that is not a word, one that is not aligned, a narrow register write. -/
def widthBad (o : Origin) (a size : Nat) (write : Bool) : Bool :=
  !(size == 1 || size == 2 || size == 4) || decide (a % size ≠ 0) || (o.isHost && size != 4) ||
  (write && size != 4 && !inAperture a)

/-! ### Before READY and in BOOT_FAIL (R276, R289) -/

/-- What step 2 of R307 says: go on with the other steps, skip those of windows and ownership, or refuse. -/
inductive Gate where
  | on
  | skip
  | stop (c : Code)
  deriving DecidableEq, Repr

/-- The reads that R276 serves. -/
def earlyRead (a : Nat) (write : Bool) : Bool := !write && (a == R.CHIP_ID || a == R.CHIP_REV || a == R.BOOT_STATUS)

/-- What Port S reaches in BOOT_FAIL (R289). -/
def failReach (a : Nat) (write : Bool) : Bool :=
  if write then a == R.BOOT_STAGE_CTRL || inSlot (slotBase 1) a
  else decide (a < 0x10000) || (decide (0x40000 ≤ a) && decide (a < 0x50000))

/-- Step 2 of R307 for a requester. Keepers run the start itself. In reset no host access is taken. -/
def gate (s : State) (o : Origin) (a : Nat) (write : Bool) : Gate :=
  if !o.isHost then .on
  else if s.inReset then .stop .busy
  else if bootPhase s = 5 then .on
  else if bootPhase s = 6 then
    if earlyRead a write then (if o = .portF then .stop .denied else .skip)
    else if (o = .portS ∨ o = .portJ) ∧ failReach a write then .skip
    else .stop .denied
  else if earlyRead a write then .skip
  else .stop .busy

/-! ### Windows (R313 to R315, R405) -/

/-- PORT and ATTR of a window record. -/
def PermWin.port (w : PermWin) : Nat := w.w0 % 256
def PermWin.attr (w : PermWin) : Nat := w.w0 / 256 % 256

/-- A window of the port covers the word with an attribute: bit 0 read, 1 write, 2 group. -/
def windowed (s : State) (p : Fin 3) (a bit : Nat) : Bool :=
  s.boot.perm.wins.any fun w => w.port == p.val && bitOf w.attr bit && decide (w.base ≤ a) && decide (a ≤ w.limit)

/-- The port's own mailbox, and the mailbox of any port, at the register's own address or its alias. -/
def ownMailbox (p : Fin 3) (a : Nat) : Bool := a / 0x1000 == 0x30 + p.val
def foreignMailbox (p : Fin 3) (a : Nat) : Bool :=
  let w := aliased a / 0x1000
  decide (0x30 ≤ w) && decide (w ≤ 0x32) && w != 0x30 + p.val

/-- What R313 gives every port whatever its windows say. -/
def granted (p : Fin 3) (a : Nat) (write : Bool) : Bool :=
  ownMailbox p a || a == R.CHIP_PORT_ERR p || a == R.CHIP_PORT_ADDR p || (decide (R.CHIP_SEM 0 ≤ a) && decide (a ≤ R.CHIP_SEM 15)) ||
  (!write && (a == R.CHIP_ID || a == R.CHIP_REV || a == R.CHIP_SEM_VIEW0 || a == R.CHIP_SEM_VIEW1))

/-- The port reaches the address (R313); a word of a group write also needs a window with GROUP, or the port's own mailbox
(R305). -/
def portReaches (s : State) (p : Fin 3) (a : Nat) (write group : Bool) : Bool :=
  let w := wordAddr a
  !foreignMailbox p w && (granted p w write || windowed s p w (if write then 1 else 0)) &&
  (!group || ownMailbox p w || windowed s p w 2)

/-- What Port J reaches at the debug level in force: nothing at CLOSED, reads at OBSERVE, all at FULL; never a read of the bucket
(R405). -/
def debugReaches (s : State) (a : Nat) (write : Bool) : Bool :=
  let l := debugLevel s
  (l == 2 || (l == 1 && !write)) && !(!write && inBucket a)

/-- A write of a register of SEC that only Port S may make: GO from Port S holding DEBUG, OPEN and CLOSE likewise, and any write by
the two other ports (R402, R406, R407, R413, R414). -/
def secForbids (s : State) (o : Origin) (a : Nat) (w : Word) : Bool :=
  let forS := o = .portS ∧ portHolds s 0 (Grp.sem .debug)
  if a = R.SEC_LC_CMD ∧ F.SEC_LC_CMD_GO.get w ≠ 0 then !decide forS
  else if a = R.SEC_DBG_CTRL ∧ (F.SEC_DBG_CTRL_OPEN.get w ≠ 0 ∨ F.SEC_DBG_CTRL_CLOSE.get w ≠ 0) then !decide forS
  else decide (0x80000 ≤ a ∧ a < 0x100000 ∧ (o = .portI ∨ o = .portF))

/-- While a ball-driving instruction runs in SEALED, no write enables the data path (R411). -/
def scanForbids (s : State) (a : Nat) (w : Word) : Bool :=
  s.sec.driven && lifecycle s == 2 &&
  ((a == R.LINE_LEN_CTRL && decide (Nat.land (w.toNat % 256) (w.toNat / 65536 % 256) ≠ 0)) ||
   (List.range 8).any fun n =>
    (a == R.HOST_LN_CFG n && decide (F.HOST_LN_CFG_EN.get w ≠ 0)) || (a == R.LINE_FE_CFG n && decide (F.LINE_FE_CFG_DAC_EN.get w ≠ 0)))

/-- Step 3 of R307: the requester reaches the address. -/
def reaches (s : State) (o : Origin) (a : Nat) (write group : Bool) : Bool :=
  match o with
  | .portS => portReaches s 0 a write false
  | .portI => portReaches s 1 a write group
  | .portF => portReaches s 2 a write false
  | .portJ => debugReaches s a write
  | _ => true

/-! ### Groups of a write (R316) -/

/-- The bits of a word that a write to the row changes: all, or those its mask selects (R11). -/
def writeMaskOf (r : RegSpec) (w : Word) : Nat := if r.masked then w.toNat / 65536 else 0xFFFFFFFF

/-- The write reaches the field. -/
def reachesFld (r : RegSpec) (w : Word) (f : Fld) : Bool :=
  decide (f.ty ≠ .ro) && decide (writeMaskOf r w / 2 ^ f.lo % 2 ^ f.w ≠ 0)

/-- A port writes REQ without DATAPATH by writing SG3_MON with its present value (R316, R366). -/
def groupExempt (s : State) (a : Nat) (w : Word) (f : Fld) : Bool :=
  a == R.SAF_SG3_CTRL && f == F.SAF_SG3_CTRL_SG3_MON && f.get w == s.fld a f

/-- A LOAD of a recipe from the verified image in staging (SRC = 1) also needs UPDATE (R66). -/
def loadDenied (s : State) (o : Origin) (a : Nat) (w : Word) : Bool :=
  (List.range 8).any (fun n => a == R.WELL_RECIPE n) && F.WELL_RECIPE_LOAD.get w == 1 && F.WELL_RECIPE_SRC.get w == 1 &&
    !ownsGroup s o .update

/-- Step 5 of R307 for a register: a field of a group that the requester does not hold is written. A field belongs to the group that
its block's row of the address map gives, where its chapter names no other: so the W1C bits of WELLn_STATUS and PUMP_ERR, which R66 does
not list, to DATAPATH (notes/assumptions/102.md). -/
def groupDenied (s : State) (o : Origin) (a : Nat) (w : Word) : Bool :=
  match specAt a with
  | none => false
  | some r =>
    loadDenied s o a w ||
    (r.flds.any fun f => match f.grp with
      | none => false
      | some g => reachesFld r w f && !groupExempt s a w f && !ownsGroup s o g)

/-! ### Restarting blocks (R35, R36) -/

/-- The lane of a per-lane register of the wells, the converters and the FEC block. -/
def lineLane (a : Nat) : Option Nat :=
  if 0x410000 ≤ a ∧ a < 0x418000 then some ((a - 0x410000) / 0x1000)
  else if 0x800000 ≤ a ∧ a < 0x1000000 then some ((a - 0x800000) / 0x100000)
  else if 0x1010000 ≤ a ∧ a < 0x1018000 then some ((a - 0x1010000) / 0x1000)
  else none

/-- The region reacts, and for the Line region the lane is one of those reinitialised. -/
def regionBusy (s : State) (r : Region) : Bool := s.region[r.idx].reacting
def lineBusy (s : State) (a : Nat) : Bool :=
  regionBusy s .line && (match lineLane a with | some n => bitOf s.region[Region.line.idx].lanes n | none => false)

/-- Step 7 of R307: the target block restarts. Registers of the always-on island go on answering, but for a restart of the
register fabric itself. -/
def targetBusy (s : State) (a : Nat) : Bool :=
  let aon := match specAt a with | some r => r.aon | none => false
  if blockReacting s .fabric then true
  else if inJournal a then blockReacting s .journal
  else if aon then false
  else if a < 0x20000 then false
  else if a < 0x30000 then blockReacting s .kic || regionBusy s .keep
  else if a < 0x100000 then false
  else if a < 0x200000 then blockReacting s .timeTransfer || regionBusy s .timing
  else if a < 0x400000 then decide (a < 0x208000) && groupReacting s (if (a - 0x200000) / 0x1000 < 4 then 0 else 1)
  else if a < 0x1000000 then lineBusy s a
  else if a < 0x1100000 then blockReacting s .fec || lineBusy s a
  else if a < 0x1200000 then blockReacting s .seep || regionBusy s .timing
  else if a < 0x1300000 then blockReacting s .atlas || (regionBusy s .line && s.region[Region.line.idx].lanes == 0)
  else blockReacting s .cistern || regionBusy s .cistern

/-! ### The order of R307 -/

/-- Steps 1 to 7 of R307 for an access of `size` bytes at `a`; a write carries its word. The first code that applies, or none. The
aperture's own codes follow in the cistern controller. -/
def accessCode (s : State) (o : Origin) (a size : Nat) (w : Option Word) (group : Bool) : Option Code :=
  let write := w.isSome
  let d := w.getD 0
  let b := wordAddr (aliased a)
  if widthBad o a size write then some .width
  else
    let g := gate s o (wordAddr a) write
    match g with
    | .stop c => some c
    | _ =>
      let on := decide (g = .on)
      let forbids := write && (secForbids s o b d && !inAlias a || (o.isHost && scanForbids s b d && !inAlias a) ||
        (o.isHost && inForceStaging s a))
      if (on && !reaches s o a write group) || forbids then some .denied
      else if inAperture a then
        if inReserved a then some .unmapped
        else if on && write && inStaging a && !ownsGroup s o .update then some .denied
        else if holdReset s then some .asleep
        else if blockReacting s .fabric then some .busy
        else none
      else if !mapped a write then some .unmapped
      else if on && write && groupDenied s o b d then some .denied
      else if !answers s b then some .asleep
      else if targetBusy s b then some .busy
      else none

end Sys2Proof.Machine
end

