-- ==== Sys2Proof/Machine/Store.lean ====
section
/-!
DEFINITION. How an accepted write sets the fields of a register (R10, R11, R309, R310 of spec/), and what a target register refuses
by its own definition (step 8 of R307).
-/
namespace Sys2Proof.Machine

/-! ### Setting fields -/

/-- Index of an address in an array of registers, if it names one of them. -/
def arrIdx (a base stride count : Nat) : Option Nat :=
  if base ≤ a ∧ (a - base) % stride = 0 ∧ (a - base) / stride < count then some ((a - base) / stride) else none

/-- The bits of a field that the write selects, and the data of the write (R11). -/
def fldBits (r : RegSpec) (w : Word) (f : Fld) : Nat := writeMaskOf r w / 2 ^ f.lo % 2 ^ f.w
def dataWord (r : RegSpec) (w : Word) : Nat := if r.masked then w.toNat % 65536 else w.toNat

/-- The lock of an RWL field is set, or an RWO field has had its first write (R10). Each register of an array has its own lock. -/
def fldLocked (s : State) (r : RegSpec) (a : Nat) (f : Fld) : Bool :=
  match f.ty with
  | .rwl => match r.lockAt with
    | some l => bitOf (s.reg (l + (a - r.base))).toNat 31
    | none => false
  | .rwo => s.fld a f != f.rst
  | _ => false

/-- The value of a field after a write of `v` under a mask `m`, by its access type (R10). -/
def fldNext (f : Fld) (old v m : Nat) : Nat :=
  match f.ty with
  | .ro | .wo => old
  | .w1c => old - Nat.land old (Nat.land v m)
  | .w1s => Nat.lor old (Nat.land v m)
  | .rw | .rwl | .rwo =>
    let x := Nat.lor (Nat.land v m) (old - Nat.land old m)
    match f.lim with | some (lo, hi) => clampNat lo hi x | none => x

/-- One field of a write, on the word as it stands. -/
def putFld (s : State) (r : RegSpec) (a : Nat) (w : Word) (x : Word) (f : Fld) : Word :=
  let m := fldBits r w f
  if m = 0 ∨ fldLocked s r a f then x else f.put x (fldNext f (f.get x) (dataWord r w / 2 ^ f.lo % 2 ^ f.w) m)

/-- The register's word after the write. -/
def storeWord (s : State) (r : RegSpec) (a : Nat) (w : Word) : Word := r.flds.foldl (putFld s r a w) (s.reg a)

/-- The write reaches a locked field (R310). -/
def lockHit (s : State) (r : RegSpec) (a : Nat) (w : Word) : Bool := r.flds.any fun f => fldBits r w f != 0 && fldLocked s r a f

/-- What R310 records of a violation. -/
def violate (o : Origin) (a : Nat) (s : State) : State :=
  let s := s.raise R.CHIP_VIOL F.CHIP_VIOL_LOCK_VIOL (2 ^ o.violBit) 7
  (s.addSat R.CHIP_VIOL F.CHIP_VIOL_COUNT 1).setFld R.CHIP_VIOL_ADDR F.CHIP_VIOL_ADDR_ADDR a

/-- Registers whose accepted writes act on state of their own and not on a register word: the semaphores, the mailbox words and
doorbells, the gateway and pre-distortion data windows, and the settings of reserved interrupt IDs (R333). -/
def storesNothing (a : Nat) : Bool :=
  (arrIdx a (R.CHIP_SEM 0) 4 16).isSome || (decide (0x20000 ≤ a) && decide (a < 0x21000) && irqReserved ((a - 0x20000) / 4)) ||
  (decide (0x30000 ≤ a) && decide (a < 0x33000) &&
    (decide (0x40 ≤ a % 0x1000) || a % 0x1000 == 0x20 || a % 0x1000 == 0x24 || a % 0x1000 == 0x28 || a % 0x1000 == 0x2C)) ||
  a == R.SEEP_GW_TXDATA || (arrIdx a (R.ATL_PD_DATA 0) 0x1000 8).isSome

/-- The monitor registers of a port that does not exist in the port configuration in force read 0 and ignore writes (R190). -/
def monAbsent (s : State) (a : Nat) : Bool :=
  decide (0x208100 ≤ a) && decide (a < 0x208900) && !portExists s ((a - 0x208100) / 0x100)

/-- A host write leaves WD_MIN unchanged (SAF_WD_CFG), in SEALED ALLOW_OLDER stays 0, AVG and SHIFT of channel 16 stay 8 and 4 (R393), and
taps above 40 have no field (R118). -/
def storeKeep (o : Origin) (a : Nat) (old s : State) : State :=
  let n := (a - 0x800000) / 0x100000
  if 0x800000 ≤ a ∧ a = R.WELL_FFE_INIT n 10 then s.setReg a (s.reg a &&& 0xFF)
  else if a = R.SAF_WD_CFG ∧ o.isHost then s.setFld a F.SAF_WD_CFG_WD_MIN (old.fld a F.SAF_WD_CFG_WD_MIN)
  else if a = R.MON_CH 16 then (s.setFld a F.MON_CH_AVG 8).setFld a F.MON_CH_SHIFT 4
  else if a = R.BOOT_STAGE_CTRL ∧ lifecycle s = 2 then s.setFld a F.BOOT_STAGE_CTRL_ALLOW_OLDER 0
  else s

/-- Sets the fields that an accepted write reaches. Band boundaries that are not ascending and a map that is no permutation are
discarded with the rest of their register; the map sets MAP_ERR (R174, R386). -/
def store (o : Origin) (r : RegSpec) (a : Nat) (w : Word) (s : State) : State :=
  if storesNothing a || monAbsent s a then s
  else
    let x := storeWord s r a w
    if (a = R.THM_BAND_LO ∧ !ascending (bounds x (s.reg R.THM_BAND_HI))) ∨
       (a = R.THM_BAND_HI ∧ !ascending (bounds (s.reg R.THM_BAND_LO) x)) then s
    else if (a = R.HOST_RX_MAP ∨ a = R.HOST_TX_MAP) ∧ !isPerm (F.HOST_RX_MAP_MAP.get x) then
      s.raise1 R.HOST_STATUS F.HOST_STATUS_MAP_ERR 342
    else storeKeep o a s (s.setReg a x)

/-! ### What targets refuse (step 8 of R307) -/

/-- A write of a semaphore other than a permitted release (R317). -/
def semRefuses (s : State) (o : Origin) (k : Nat) (w : Word) : Bool :=
  F.CHIP_SEM_CODE.get w != 0 || !(semHolder s k == o.holder || mayForce s o)

/-- The interrupt controller: only keepers write it, each its own EOI; a change of MODE may be refused BUSY (R338, R341). -/
def kicRefuses (s : State) (o : Origin) (a : Nat) (w : Word) : Option Code :=
  match o.keeper with
  | none => some .denied
  | some k =>
    if (List.finRange 3).any fun j => a == R.KIC_EOI j && j != k then some .denied
    else if (List.finRange 3).any fun j => a == R.KIC_MODE j && modeBusy s j (F.KIC_MODE_MODE.get w != 0) then some .busy
    else none

/-- A mailbox: keeper-only registers, data words and GO while a message waits, GO with a wrong length (R320, R329). -/
def mbxRefuses (s : State) (o : Origin) (a : Nat) (w : Word) : Option Code :=
  let p := (a - 0x30000) / 0x1000
  if 3 ≤ p then none
  else if o.isHost ∧ (a = R.MBX_DB_TODEV_ACK p ∨ a = R.MBX_DB_TOHOST_SET p ∨ a = R.MBX_DB_TODEV_MASK p) then some .denied
  else if o.isHost ∧ 0x40 ≤ a % 0x1000 ∧ mbxInFull s p then some .busy
  else if a = R.MBX_IN_CTRL p ∧ F.MBX_IN_CTRL_GO.get w ≠ 0 then
    match mbxGoCode (mbxInFull s p) (F.MBX_IN_CTRL_LEN.get w) with | .ok => none | c => some c
  else none

/-- Start-up, safety, thermal and security registers (R291, R292, R370, R376, R395, R402, R406). -/
def aonRefuses (s : State) (o : Origin) (a : Nat) (w : Word) : Option Code :=
  let calBusy := s.flag R.MON_STATUS F.MON_STATUS_CAL_BUSY
  if a = R.BOOT_STAGE_CTRL ∧ (F.BOOT_STAGE_CTRL_VERIFY.get w ≠ 0 ∨ F.BOOT_STAGE_CTRL_SWITCH.get w ≠ 0) then
    (if 2 ≤ pwrState s ∧ F.BOOT_STAGE_CTRL_SWITCH.get w ≠ 0 then some .asleep else if stageBusy s then some .busy else none)
  else if a = R.SAF_WD_KICK then
    (let own := match o.keeper with | some k => 2 ^ k.val | none => 0
     let k := F.SAF_WD_KICK_KICK.get w
     if k = 0 ∨ k = own then none else some .denied)
  else if a = R.SAF_FREP_CMD ∧ F.SAF_FREP_CMD_GO.get w ≠ 0 ∧ (lifecycle s = 1 ∨ lifecycle s = 2) then some .denied
  else if calBusy ∧ ((a = R.MON_CTRL ∧ F.MON_CTRL_CAL.get w ≠ 0) ∨ a = R.MON_CAL ∨ a = R.MON_CAL_LP) then some .busy
  else if a = R.SEC_LC_CMD ∧ F.SEC_LC_CMD_GO.get w ≠ 0 ∧ lcBusy s then some .busy
  else if a = R.SEC_DBG_CTRL ∧ F.SEC_DBG_CTRL_OPEN.get w ≠ 0 then
    match openCode s (F.SEC_DBG_CTRL_LEVEL.get w) 1 with | .ok => none | c => some c
  else none

/-- A well's registers: LOAD while a load, a switch or an update runs, and REACH likewise (R54, R115, R295). -/
def wellRefuses (s : State) (o : Origin) (a : Nat) (w : Word) : Option Code :=
  let n := (a - 0x800000) / 0x100000
  if a = R.WELL_RECIPE n ∧ F.WELL_RECIPE_LOAD.get w ≠ 0 ∧
     (reachBusy s n ∨ (o.isHost ∧ 1 ≤ updStep s ∧ updStep s ≤ 5)) then some .busy
  else if a = R.WELL_RX_CTRL n ∧ reachBusy s n then some .busy
  else none

/-- Timing, host, line and FEC registers (R84, R149, R174, R253). -/
def pathRefuses (s : State) (a : Nat) (w : Word) : Option Code :=
  let n := (a - 0x410000) / 0x1000
  if a = R.TOD_PHASE ∧ F.TOD_PHASE_GO.get w ≠ 0 ∧ s.flag a F.TOD_PHASE_BUSY then some .busy
  else if (a = R.HOST_RX_MAP ∨ a = R.HOST_TX_MAP) ∧ mapBusy s then some .busy
  else if a = R.LINE_CAL_CMD ∧ F.LINE_CAL_CMD_GO.get w ≠ 0 ∧ calGoBusy s (F.LINE_CAL_CMD_LANES.get w) then some .busy
  else if R.LINE_ICAL n 0 ≤ a ∧ a ≤ R.LINE_ICAL n 63 ∧ a < R.LINE_PLL_CFG 8 ∧ 0x410000 ≤ a ∧
          !s.flag (R.LINE_CAL_CFG n) F.LINE_CAL_CFG_MANUAL then some .denied
  else if a = R.FEC_PROFILE ∧ F.FEC_PROFILE_APPLY.get w ≠ 0 ∧ s.flag a F.FEC_PROFILE_BUSY then some .busy
  else none

/-- Seep, atlas and cistern registers (R143, R147, R216, R265, R269, R412). -/
def sideRefuses (s : State) (a : Nat) (w : Word) : Option Code :=
  let n := (a - 0x1210000) / 0x1000
  if a = R.SEEP_GW_CTL ∧ F.SEEP_GW_CTL_GO.get w ≠ 0 ∧ s.flag a F.SEEP_GW_CTL_TX_BUSY then some .busy
  else if a = R.ATL_RD_INDEX n ∧ s.flag a F.ATL_RD_INDEX_BUSY then some .busy
  else if a = R.ATL_PD_DATA n ∧ !pdWritable s n then some .denied
  else if a = R.CIS_SCRUB_CFG ∧ F.CIS_SCRUB_CFG_BG_GO.get w ≠ 0 ∧ cisFlag s F.CIS_STATUS_BG_BUSY then some .busy
  else if a = R.CIS_CAP_CTRL ∧ F.CIS_CAP_CTRL_GO.get w ≠ 0 ∧ captureDenied s then some .denied
  else if a = R.CIS_CAP_CTRL ∧ F.CIS_CAP_CTRL_GO.get w ≠ 0 ∧ captureBusy s then some .busy
  else if a = R.CIS_ZERO ∧ F.CIS_ZERO_GO.get w ≠ 0 ∧ s.flag R.SEC_DBG_STATUS F.SEC_DBG_STATUS_OPEN_BUSY then some .busy
  else none

/-- PWR_LTRp is written by its own port and by a keeper (R347). -/
def ltrOfOther (o : Origin) (a : Nat) : Bool :=
  (List.range 3).any fun p => a == R.PWR_LTR p && o.isHost && o != .portJ && (o.port.map (·.val)) != some p

/-- The code with which the target register refuses a write in its present state or from that requester, if it does. -/
def targetRefuses (s : State) (o : Origin) (a : Nat) (w : Word) : Option Code :=
  match arrIdx a (R.CHIP_SEM 0) 4 16 with
  | some k => if semRefuses s o k w then some .denied else none
  | none =>
    if a < 0x20000 then if ltrOfOther o a then some .denied else none
    else if a < 0x30000 then kicRefuses s o a w
    else if a < 0x40000 then mbxRefuses s o a w
    else if a < 0x100000 then aonRefuses s o a w
    else if a < 0x800000 then pathRefuses s a w
    else if a < 0x1000000 then wellRefuses s o a w
    else if a < 0x1100000 then pathRefuses s a w
    else sideRefuses s a w

end Sys2Proof.Machine
end

