-- ==== Sys2Proof/Machine/Effects.lean ====
section
/-!
DEFINITION. What a register write does beyond setting its fields: the command bits and the followings of the register tables of
spec/. `old` is the state before the write; `w` is the word written.
-/
namespace Sys2Proof.Machine

/-- A command bit of the written word. -/
def cmd (f : Fld) (w : Word) : Bool := f.get w != 0

/-- Applies an update when a condition holds. -/
def when (c : Bool) (g : State → State) (s : State) : State := if c then g s else s

/-- A field differs from what it was before the write. -/
def changed (old s : State) (a : Nat) (f : Fld) : Bool := s.fld a f != old.fld a f

/-- A semaphore is released; a release of another's is journalled (R317, R377). -/
def semWrite (o : Origin) (k : Nat) (s : State) : State :=
  let h := semHolder s k
  let s := s.setFld (R.CHIP_SEM k) F.CHIP_SEM_CODE 0
  if h = o.holder ∨ h = 0 then s else s.journal 0x200 (k + h * 16 + o.holder * 256)

/-- CHIP registers (R38, R328). -/
def effChip (a : Nat) (w : Word) (s : State) : State :=
  match arrIdx a (R.CHIP_PORT_ERR 0) 4 3 with
  | some _ => when (cmd F.CHIP_PORT_ERR_ERR w) (fun s => s.setFld a F.CHIP_PORT_ERR_COUNT 0) s
  | none => pendFollow s

/-- PWR registers (R344, R349). -/
def effPwr (a : Nat) (w : Word) (old s : State) : State :=
  if a = R.PWR_DP_IDLE then when (cmd F.PWR_DP_IDLE_CANCEL w) dpCancel (when (cmd F.PWR_DP_IDLE_DECLARE w) dpDeclare s)
  else if a = R.PWR_AVS_CFG then when (changed old s a F.PWR_AVS_CFG_MODE) avsModeFollow s
  else if a = R.PWR_AVS_ACK then avsAck (F.PWR_AVS_ACK_ACK_MV.get w) s
  else s

/-- KIC registers (R336, R377). -/
def effKic (o : Origin) (a : Nat) (w : Word) (old s : State) : State :=
  match o.keeper with
  | none => s
  | some k =>
    if a = R.KIC_EOI k then kicEoi k (F.KIC_EOI_ID.get w) s
    else if a = R.KIC_SWI then
      (List.range 3).foldl (fun s j =>
        when (bitOf (s.fld a F.KIC_SWI_SWI) j && !bitOf (old.fld a F.KIC_SWI_SWI) j) (fun s => s.journal (18 + j) (s.reg a).toNat) s) s
    else s

/-- OUT_CTRL as its keeper writes it: with FULL it posts the message, while none waits (R320). -/
def outCtrlWrite (p : Fin 3) (w : Word) (s : State) : State :=
  let c := R.MBX_OUT_CTRL p
  if mbxOutFull s p || !cmd F.MBX_OUT_CTRL_FULL w then s
  else
    let s := s.setFld c F.MBX_OUT_CTRL_LEN (F.MBX_OUT_CTRL_LEN.get w)
    let s := s.setFld c F.MBX_OUT_CTRL_OPCODE (F.MBX_OUT_CTRL_OPCODE.get w)
    let s := s.setFld c F.MBX_OUT_CTRL_TAG (F.MBX_OUT_CTRL_TAG.get w)
    let s := s.setFld c F.MBX_OUT_CTRL_FULL 1
    let s := s.setFld (R.MBX_STATUS p) F.MBX_STATUS_OUT_FULL 1
    s.setFld (R.MBX_STATUS p) F.MBX_STATUS_OUT_AVAIL 1

/-- A data word: a host fills the inbound mailbox, a keeper writes the outbound one (R319). -/
def mbxDataStore (o : Origin) (p : Fin 3) (k : Fin 16) (w : Word) (s : State) : State :=
  if o.isHost then mbxFill p k w s else s.setReg (R.MBX_DATA p k) w

/-- The registers of one mailbox (R319, R320, R324). -/
def effMailbox (o : Origin) (p : Fin 3) (a : Nat) (w : Word) (s : State) : State :=
  let host := o.isHost
  match arrIdx a (R.MBX_DATA p 0) 4 16 with
  | some k => mbxDataStore o p ⟨k % 16, Nat.mod_lt _ (by decide)⟩ w s
  | none =>
    if a = R.MBX_IN_CTRL p then when (cmd F.MBX_IN_CTRL_GO w) (fun s => doorbellWake p (mbxGo p s)) s
    else if a = R.MBX_DB_TODEV p then when (w != 0) (fun s => doorbellWake p (dbSetDev p w.toNat s)) s
    else if a = R.MBX_DB_TOHOST p then dbClearHost p w.toNat s
    else if a = R.MBX_OUT_ACK p then mbxOutAck p s
    else if host then s
    else if a = R.MBX_DB_TODEV_ACK p then dbAckDev p w.toNat s
    else if a = R.MBX_DB_TOHOST_SET p then dbSetHost p w.toNat s
    else if a = R.MBX_DB_TODEV_MASK p then s.setReg a w
    else if a = R.MBX_ACK p then mbxAck p (F.MBX_ACK_RC.get w) s
    else if a = R.MBX_OUT_CTRL p then outCtrlWrite p w s
    else s

/-- MBX registers. -/
def effMbx (o : Origin) (a : Nat) (w : Word) (s : State) : State :=
  match arrIdx (a / 0x1000) 0x30 1 3 with
  | some p => effMailbox o ⟨p % 3, Nat.mod_lt _ (by decide)⟩ a w s
  | none => s

/-- SWITCH written (R289, R292). -/
def switchWritten (s : State) : State :=
  if bootPhase s = 6 then
    (if stFlag s F.BOOT_STAGE_STATUS_VERIFIED then modBoot (fun b => { b with recover := true }) s else updErr 8 s)
  else updSwitch s

/-- BOOT registers (R274, R291, R292): of VERIFY and SWITCH in one write only VERIFY acts. -/
def effBoot (a : Nat) (w : Word) (s : State) : State :=
  if a = R.BOOT_STAGE_CTRL then
    let s := if cmd F.BOOT_STAGE_CTRL_VERIFY w then stageVerify s else when (cmd F.BOOT_STAGE_CTRL_SWITCH w) switchWritten s
    when (cmd F.BOOT_STAGE_CTRL_RESTART w) bootRestart s
  else s

/-- SAF registers (R361, R366, R370, R373, R376). -/
def effSaf (o : Origin) (a : Nat) (w : Word) (old s : State) : State :=
  if a = R.SAF_SG_REL then
    let s := when (cmd F.SAF_SG_REL_REL1 w) sg1Release s
    when (cmd F.SAF_SG_REL_REL4 w) sg4Release (when (cmd F.SAF_SG_REL_REL3 w) sg3Release s)
  else if a = R.SAF_SG3_CTRL then
    let s := sg3Follow old s
    when (!s.mon.scanning && changed old s a F.SAF_SG3_CTRL_SG3_MON) scanStart s
  else if a = R.SAF_WD_KICK then
    match o.keeper with | some k => when (cmd F.SAF_WD_KICK_KICK w) (wdKick k) s | none => s
  else if a = R.SAF_LBIST_CTRL then when (cmd F.SAF_LBIST_CTRL_GO w) lbistGo s
  else if a = R.SAF_FREP_CMD then when (cmd F.SAF_FREP_CMD_GO w) frepGo s
  else s

/-- THM and MON registers (R386, R388, R392, R395). -/
def effThm (a : Nat) (w : Word) (s : State) : State :=
  if a = R.THM_CFG then effortFollow s
  else if a = R.THM_BAND_LO ∨ a = R.THM_BAND_HI then bandsFollow s
  else if a = R.MON_CTRL ∨ a = R.MON_SCAN_MASK then
    let s := when (a == R.MON_CTRL && cmd F.MON_CTRL_CAL w) monCalStart s
    when (!s.mon.scanning) scanStart s
  else s

/-- SEC registers (R402, R406, R407, R409). -/
def effSec (a : Nat) (w : Word) (s : State) : State :=
  if a = R.SEC_LC_CMD then
    when (cmd F.SEC_LC_CMD_GO w) (lifecycleGo (F.SEC_LC_CMD_KEY.get w) (F.SEC_LC_CMD_TARGET.get w)) s
  else if a = R.SEC_DBG_CTRL then
    let s := when (cmd F.SEC_DBG_CTRL_OPEN w) (debugOpen (F.SEC_DBG_CTRL_LEVEL.get w) 1) s
    debugWakeFollow (when (cmd F.SEC_DBG_CTRL_CLOSE w) debugClose s)
  else s

/-- TOD registers (R221, R223, R224, R235, R250, R251). -/
def effTod (a : Nat) (w : Word) (old s : State) : State :=
  if a = R.TOD_CTRL then
    let s := validFollow (sourceChange (old.fld a F.TOD_CTRL_SRC) s)
    when (!s.mon.scanning && changed old s a F.TOD_CTRL_LEARN_EN) scanStart s
  else if a = R.TOD_SNAP_CTRL then when (cmd F.TOD_SNAP_CTRL_CAPTURE w) todCapture s
  else if a = R.TOD_SET_CTRL then when (cmd F.TOD_SET_CTRL_GO w) setSecondsGo s
  else if a = R.TOD_PHASE then when (cmd F.TOD_PHASE_GO w) phaseAdjust s
  else if a = R.TOD_FREQ_MAN_HI then manWritten s
  else if a = R.TOD_UNC_CFG ∨ a = R.TOD_CLKOUT ∨ a = R.TOD_PPS_CFG then validFollow s
  else s

/-- One host lane's registers (R175, R176, R179, R182). -/
def effHostLane (n : Fin 8) (a : Nat) (w : Word) (old s : State) : State :=
  if a = R.HOST_LN_CFG n then
    let s := when (s.flag a F.HOST_LN_CFG_CTLE_MAN)
      (fun s => s.setFld (R.HOST_LN_STATUS n) F.HOST_LN_STATUS_CTLE_EFF (s.fld a F.HOST_LN_CFG_CTLE)) s
    let s := if changed old s a F.HOST_LN_CFG_EN then hostEnable n (hostEn s n) s
      else when (changed old s a F.HOST_LN_CFG_RX_POL || changed old s a F.HOST_LN_CFG_TX_POL) (hostPolarity n) s
    hostFollow (when (cmd F.HOST_LN_CFG_RETRAIN w) (hostRetrain n) s)
  else if a = R.HOST_LN_TXFIR0 n ∨ a = R.HOST_LN_TXFIR1 n then when (regTaps s n) (firFromRegs n) s
  else s

/-- HOST registers (R174, R182, R187, R189, R190). -/
def effHost (a : Nat) (w : Word) (old s : State) : State :=
  if a < 0x208000 then effHostLane (lane ((a - 0x200000) / 0x1000)) a w old s
  else if a = R.HOST_RX_MAP ∨ a = R.HOST_TX_MAP then hostFollow s
  else if a = R.HOST_CTRL then
    let s := if hostTest s ≠ hostTest old then hostFollow (hostTestChange s) else rateFollow s
    when (changed old s a F.HOST_CTRL_TRAIN_MODE) trainModeChange s
  else if a = R.HOST_MON_SNAP then monSnapWrite (F.HOST_MON_SNAP_SNAP.get w) (F.HOST_MON_SNAP_CLEAR.get w) s
  else s

/-- LINE registers (R78, R84, R87, R88, R91, R110). A lane whose ADC is enabled, or whose interpolator goes over to the manual code,
retrains. -/
def effLine (a : Nat) (w : Word) (old s : State) : State :=
  if a = R.LINE_LEN_CTRL then forLanes muteUpdate (lenUpdate s)
  else if a = R.LINE_CAL_CMD then when (cmd F.LINE_CAL_CMD_GO w) calGo s
  else
    let n := lane ((a - 0x410000) / 0x1000)
    if a = R.LINE_FE_CFG n then
      when (changed old s a F.LINE_FE_CFG_ADC_EN && s.flag a F.LINE_FE_CFG_ADC_EN) (adcEnabled n) (muteUpdate n s)
    else if a = R.LINE_PI n then
      piFollow n (when (changed old s a F.LINE_PI_MANUAL && s.flag a F.LINE_PI_MANUAL) (fun s => hostFollow (retrainLane n s)) s)
    else if a = R.LINE_PI_MAN n then piFollow n s
    else s

/-- The well's switch is no longer still to be requested (R292, R297). -/
def pendClear (n : Fin 8) (s : State) : State := s.clrBits R.BOOT_STAGE_STATUS F.BOOT_STAGE_STATUS_WELL_PEND (2 ^ n.val)

/-- WELLn registers (R53, R54, R115, R117). -/
def effWell (a : Nat) (w : Word) (s : State) : State :=
  let n := lane ((a - 0x800000) / 0x100000)
  if a = R.WELL_RECIPE n then
    when (cmd F.WELL_RECIPE_LOAD w) (recipeLoad n (stFlag s F.BOOT_STAGE_STATUS_VERIFIED)) s
  else if a = R.WELL_IBANK n then when (cmd F.WELL_IBANK_SWITCH w) (fun s => switchRequest n false (pendClear n s)) s
  else if a = R.WELL_RX_CTRL n then reachSelect n (when (cmd F.WELL_RX_CTRL_RESTART w) (rxRestartWritten n) s)
  else if a = R.WELL_ROT_CFG n then poolFollow n s
  else match arrIdx a (R.WELL_PARAM n 0) 4 64 with
    | some k => { s with well := vmod s.well n fun w => { w with held := w.held.filter (· != k) } }
    | none => s

/-- FEC_PROFILE.APPLY (R149). How many codewords of the traffic in flight a change poisons is open. -/
def effFec (a : Nat) (w : Word) (s : State) : State :=
  if a = R.FEC_PROFILE ∧ cmd F.FEC_PROFILE_APPLY w then
    let (k, s) := s.fresh 16
    profileApply k s
  else s

/-- SEEP registers (R216, R217). -/
def effSeep (a : Nat) (w : Word) (old s : State) : State :=
  if a < 0x1108000 then
    let n := lane ((a - 0x1100000) / 0x1000)
    when (a == R.SEEP_LN_CFG n && changed old s a F.SEEP_LN_CFG_EN) (seepEnable n (s.flag a F.SEEP_LN_CFG_EN)) s
  else if a = R.SEEP_GW_CTL then when (cmd F.SEEP_GW_CTL_POP w) gwPop (when (cmd F.SEEP_GW_CTL_GO w) gwGo s)
  else if a = R.SEEP_GW_TXDATA then gwTxWrite w s
  else s

/-- ATL registers (R138, R141 to R145). -/
def effAtl (a : Nat) (w : Word) (old s : State) : State :=
  if a = R.ATL_CLEAR then atlasClearLanes (F.ATL_CLEAR_LANES.get w) s
  else if a = R.ATL_FREEZE then
    forLanes (fun n s =>
      let now := bitOf (s.fld a F.ATL_FREEZE_FREEZE) n
      when (now != bitOf (old.fld a F.ATL_FREEZE_FREEZE) n) (atlasFreeze n now) s) s
  else
    let n := lane ((a - 0x1210000) / 0x1000)
    if a = R.ATL_LANE_CFG n then when (changed old s a F.ATL_LANE_CFG_SRC) (atlasClear n) s
    else if a = R.ATL_TRAIN n then when (cmd F.ATL_TRAIN_START w) (trainStart n) s
    else if a = R.ATL_RD_INDEX n then atlasReadStart n s
    else if a = R.ATL_PD_DATA n then pdWrite n (F.ATL_PD_DATA_VALUE.get w) s
    else if a = R.ATL_PD_APPLY n then when (cmd F.ATL_PD_APPLY_APPLY w) (pdApplyWritten n) s
    else s

/-- CIS registers (R261, R265, R269, R271). A zeroisation that runs already goes on. -/
def effCis (a : Nat) (w : Word) (s : State) : State :=
  if a = R.CIS_SCRUB_CFG then when (cmd F.CIS_SCRUB_CFG_BG_GO w) engineStart s
  else if a = R.CIS_REMAP_CMD then when (cmd F.CIS_REMAP_CMD_GO w) remapGo s
  else if a = R.CIS_CAP_CTRL then
    when (cmd F.CIS_CAP_CTRL_ABORT w) captureAbort (when (cmd F.CIS_CAP_CTRL_GO w) captureGo s)
  else if a = R.CIS_ZERO then when (cmd F.CIS_ZERO_GO w && !cisFlag s F.CIS_STATUS_ZERO_BUSY) zeroGo s
  else s

/-- What an accepted write does after its fields are set. -/
def effects (o : Origin) (a : Nat) (w : Word) (old s : State) : State :=
  match arrIdx a (R.CHIP_SEM 0) 4 16 with
  | some k => semWrite o k s
  | none =>
    if a < 0x10000 then effChip a w s
    else if a < 0x20000 then effPwr a w old s
    else if a < 0x30000 then effKic o a w old s
    else if a < 0x40000 then effMbx o a w s
    else if a < 0x50000 then effBoot a w s
    else if a < 0x60000 then effSaf o a w old s
    else if a < 0x80000 then effThm a w s
    else if a < 0x100000 then effSec a w s
    else if a < 0x200000 then effTod a w old s
    else if a < 0x400000 then effHost a w old s
    else if a < 0x800000 then effLine a w old s
    else if a < 0x1000000 then effWell a w s
    else if a < 0x1100000 then effFec a w s
    else if a < 0x1200000 then effSeep a w old s
    else if a < 0x1300000 then effAtl a w old s
    else effCis a w s

/-- What runs up to a write under the old settings comes up to date first: a host receiver's figures, and the clocks that maps and
lanes steer, and the scrub engine's position (R74, R174, R176, R189, R265). -/
def before (a : Nat) (s : State) : State :=
  if 0x200000 ≤ a ∧ a < 0x208000 then hostMeasure (lane ((a - 0x200000) / 0x1000)) s
  else if a = R.HOST_CTRL then forLanes hostMeasure s
  else if a = R.HOST_RX_MAP ∨ a = R.HOST_TX_MAP ∨ (0x400000 ≤ a ∧ a < 0x800000) then hostTxFollow (steerFollow s)
  else if a = R.CIS_SCRUB_CFG then engineFollow s
  else s

/-- A GO of LINE_CAL_CMD that its target refuses sets REFUSED on the lanes that are running (R84). -/
def refused (a : Nat) (w : Word) (s : State) : State :=
  if a = R.LINE_CAL_CMD then calGoMarks (F.LINE_CAL_CMD_LANES.get w) s else s

/-- A write to a register that steps 1 to 7 of R307 let through: the target refuses it, or the fields that are not locked are set
and the command acts. -/
def regWrite (o : Origin) (a : Nat) (w : Word) (s : State) : Code × State :=
  match specAt a with
  | none => (.unmapped, s)
  | some r =>
    match targetRefuses s o a w with
    | some c => (c, refused a w s)
    | none =>
      let hit := lockHit s r a w
      let s := before a s
      let s1 := effects o a w s (store o r a w s)
      if hit then (.locked, violate o a s1) else (.ok, s1)

end Sys2Proof.Machine
end

