-- ==== Sys2Proof/Machine/Reads.lean ====
section
/-!
DEFINITION. What a register read returns, at its own address and at its alias, and what it does (R12, R309, R317, R320, R335 of
spec/ and the register tables).
-/
namespace Sys2Proof.Machine

/-! ### Values -/

/-- The holders of eight semaphores (CHIP_SEM_VIEW0, CHIP_SEM_VIEW1). -/
def semView (s : State) (lo : Nat) : Word := word ((List.range 8).foldl (fun v j => v + semHolder s (lo + j) * 16 ^ j) 0)

/-- Word k of the window record that INDEX names (CHIP_PERM_DATAk). -/
def permWord (s : State) (k : Nat) : Word :=
  match s.boot.perm.wins[s.fld R.CHIP_PERM_INDEX F.CHIP_PERM_INDEX_INDEX]? with
  | none => 0
  | some w => word (match k with | 0 => w.w0 | 1 => w.base | 2 => w.limit | _ => w.w3)

/-- KIC registers with their live fields (R341). -/
def kicView (s : State) (a : Nat) : Word :=
  if a < 0x21000 then srcCfgView s ((a - 0x20000) / 4)
  else match arrIdx a (R.KIC_RPRIO 0) 0x100 3 with
    | some k => rprioView s ⟨k % 3, Nat.mod_lt _ (by decide)⟩
    | none => match arrIdx a (R.KIC_PEND 0) 4 14 with
      | some j => pendView s j
      | none => if a = R.KIC_KSTATUS then kstatusView s else s.reg a

/-- MBX registers: the doorbell mirrors, and the data words as the requester's side reads them (R319, R324). -/
def mbxView (o : Origin) (s : State) (a : Nat) : Word :=
  let p := (a - 0x30000) / 0x1000
  if 3 ≤ p then s.reg a
  else if a = R.MBX_DB_TODEV_ACK p then s.reg (R.MBX_DB_TODEV p)
  else if a = R.MBX_DB_TOHOST_SET p then s.reg (R.MBX_DB_TOHOST p)
  else match arrIdx a (R.MBX_DATA p 0) 4 16 with
    | some k => if o.isHost then s.reg a else word (mbxIn s ⟨p % 3, Nat.mod_lt _ (by decide)⟩ k)
    | none => s.reg a

/-- ATL lane registers with their live fields (R143, R147). -/
def atlView (s : State) (a : Nat) : Word :=
  let n := lane ((a - 0x1210000) / 0x1000)
  if a = R.ATL_STATUS n then F.ATL_STATUS_LEARNING.put (s.reg a) (b2n (learning s n))
  else if a = R.ATL_DET_DATA n then word (detRead s n)
  else if a = R.ATL_PD_DATA n then word (pdView s n)
  else s.reg a

/-- Line lane registers: the offset that the multiplier in force gives, and the host lane that steers it (R73, R74, R174). -/
def lineView (s : State) (a : Nat) : Word :=
  let n := lane ((a - 0x410000) / 0x1000)
  if a = R.LINE_PLL_STATUS n then F.LINE_PLL_STATUS_FREQ_OFS.put (s.reg a) (unsigned 16 (freqOfs s n))
  else if a = R.LINE_PLL_CFG n then F.LINE_PLL_CFG_STEER_LANE.put (s.reg a) (steerLane s n)
  else s.reg a

/-- FEC lane registers: in a lane-spread port the codeword counters of every lane but the lowest read 0 (R172). -/
def fecView (s : State) (a : Nat) : Word :=
  let n := (a - 0x1010000) / 0x1000
  if counterLane s n = n then s.reg a
  else if a = R.FEC_LN_CW n ∨ a = R.FEC_LN_NC n ∨ a = R.FEC_LN_BITS n ∨ a = R.FEC_LN_POISON n then 0
  else if a = R.FEC_LN_OCT n then F.FEC_LN_OCT_OCT_CORR_SYM.put (F.FEC_LN_OCT_OCT_UNCORR.put (s.reg a) 0) 0
  else s.reg a

/-- What the register at an address holds for a reader: the pending copy, with the fields that are computed (R10, R12). -/
def regView (o : Origin) (s : State) (a : Nat) : Word :=
  if a < 0x20000 then
    if a = R.CHIP_SEM_VIEW0 then semView s 0
    else if a = R.CHIP_SEM_VIEW1 then semView s 8
    else match arrIdx a (R.CHIP_PERM_DATA 0) 4 4 with
      | some k => permWord s k
      | none => s.reg a
  else if a < 0x30000 then kicView s a
  else if a < 0x40000 then mbxView o s a
  else if a < 0x50000 then
    match arrIdx a (R.BOOT_RPR_DATA 0) 4 4 with
    | some k => word (rprWord s k)
    | none => s.reg a
  else if a = R.SEC_DBG_STATUS then F.SEC_DBG_STATUS_DP_DISABLED.put (s.reg a) (b2n (dpDisabled s))
  else if a = R.TOD_CLKOUT then F.TOD_CLKOUT_SQUELCHED.put (s.reg a) (b2n (clkoutLow s))
  else if a < 0x400000 then (if monAbsent s a then 0 else s.reg a)
  else if 0x410000 ≤ a ∧ a < 0x418000 then lineView s a
  else if 0x1010000 ≤ a ∧ a < 0x1018000 then fecView s a
  else if a = R.LINE_TRACE then F.LINE_TRACE_REFCLK_OK.put (s.reg a) (b2n (!refLost s || s.tod.refBack))
  else if a = R.SEEP_GW_TXDATA then gwTxWord s
  else if a = R.SEEP_GW_RXDATA then gwRxWord s
  else if 0x1210000 ≤ a ∧ a < 0x1218000 then atlView s a
  else s.reg a

/-- CE_COUNT of a pump comes up to date: how many errors of its data memory were corrected meanwhile is open (R66;
notes/assumptions/101.md). -/
def ceMeasure (n : Fin 8) (m : Nat) (s : State) : State :=
  if (pumpMem s n m).ceAt = s.now then s
  else
    let (v, s) := s.fresh 8
    (modPump n m (fun p => { p with ceAt := s.now }) s).addSat (R.PUMP_ERR n m) F.PUMP_ERR_CE_COUNT v

/-- Figures that the device measures all the time come up to date when they are read: those of a host receiver, CE_COUNT and
the scrub engine's position. -/
def measured (a : Nat) (s : State) : State :=
  if 0x200000 ≤ a ∧ a < 0x208000 then hostMeasure (lane ((a - 0x200000) / 0x1000)) s
  else if 0x800000 ≤ a ∧ a < 0x1000000 ∧ a = R.PUMP_ERR ((a - 0x800000) / 0x100000) (a / 0x1000 % 64)
  then ceMeasure (lane ((a - 0x800000) / 0x100000)) (a / 0x1000 % 64) s
  else if a = R.CIS_SCRUB_POS then engineFollow s
  else s

/-- A field is read at the alias from the active copy: every buffered field that software writes, and those whose table says so
(R12, R53, R97, R177). -/
def aliasActive (a : Nat) (f : Fld) : Bool :=
  (f.ap != .imm && f.ty != .ro) ||
  (decide (0x800000 ≤ a) && decide (a < 0x1000000) &&
    ((a % 0x100000 == 4 && f == F.WELL_IBANK_ACTIVE) || (decide (0x180 ≤ a % 0x100000) && decide (a % 0x100000 < 0x1AC)))) ||
  (decide (0x200000 ≤ a) && decide (a < 0x208000) && (a % 0x1000 == 0x10 || a % 0x1000 == 0x14))

/-- What the alias of a register returns. -/
def aliasView (o : Origin) (s : State) (a : Nat) : Word :=
  match specAt a with
  | none => 0
  | some r =>
    if (arrIdx a (R.KIC_CLAIM 0) 0x100 3).isSome then 0
    else r.flds.foldl (fun w f => if aliasActive a f && f.ty != .wo then f.put w (s.actFld a f) else w) (regView o s a)

/-! ### Reads with an effect -/

/-- A read of CHIP_SEMk claims it (R317). -/
def semRead (o : Origin) (k : Nat) (s : State) : Word × State :=
  let h := semHolder s k
  if h = 0 then
    if mayClaim s o k then (1, s.setFld (R.CHIP_SEM k) F.CHIP_SEM_CODE o.holder) else (0, s)
  else if h = o.holder then (1, s)
  else (word h, s)

/-- What the target refuses of a read (R143, R341). -/
def readRefuses (s : State) (o : Origin) (a : Nat) (al : Bool) : Option Code :=
  match arrIdx a (R.KIC_CLAIM 0) 0x100 3 with
  | some k => match o.keeper with
    | none => some .denied
    | some j => if al || j.val == k then none else some .denied
  | none =>
    let n := (a - 0x1210000) / 0x1000
    if (a = R.ATL_RD_DATA0 n ∨ a = R.ATL_RD_DATA1 n) ∧ s.flag (R.ATL_RD_INDEX n) F.ATL_RD_INDEX_BUSY then some .busy else none

/-- What a read at a register's own address does beside returning it: the completions of FLOW mode, the latch of TOD_FREQ_LO and
the indexes that advance (R309). -/
def readEffect (o : Origin) (a : Nat) (s : State) : State :=
  if a < 0x30000 then s
  else if a < 0x33000 then
    let p : Fin 3 := ⟨a / 0x1000 % 3, Nat.mod_lt _ (by decide)⟩
    match arrIdx a (R.MBX_DATA p 0) 4 16 with
    | some k => if o.isHost then mbxHostRead p k s else mbxKeeperRead p k s
    | none => s
  else if a = R.BOOT_RPR_DATA 3 then rprNext s
  else if a = R.TOD_FREQ_LO then freqLatch s
  else if a = R.SEEP_GW_TXDATA then gwTxNext s
  else if a = R.SEEP_GW_RXDATA then gwRxNext s
  else if 0x1210000 ≤ a ∧ a < 0x1218000 then
    let n := lane ((a - 0x1210000) / 0x1000)
    if a = R.ATL_DET_DATA n then detNext n s
    else if a = R.ATL_PD_DATA n then pdNext n s
    else s
  else s

/-- A read of a register that steps 1 to 7 of R307 let through: `al` at its alias, which has no effect on the device. -/
def regRead (o : Origin) (a : Nat) (al : Bool) (s : State) : Code × Word × State :=
  match readRefuses s o a al with
  | some c => (c, 0, s)
  | none =>
    let s := measured a s
    if al then (.ok, aliasView o s a, s)
    else match arrIdx a (R.CHIP_SEM 0) 4 16 with
      | some k => let (w, s) := semRead o k s; (.ok, w, s)
      | none => match arrIdx a (R.KIC_CLAIM 0) 0x100 3, o.keeper with
        | some _, some k => let (id, s) := kicClaim k s; (.ok, word id, s)
        | _, _ => (.ok, regView o s a, readEffect o a s)

end Sys2Proof.Machine
end

