-- ==== Sys2Proof/Machine/Fabric.lean ====
section
/-!
DEFINITION. Accesses through the register fabric (R307 of spec/12_host_access.md), the error registers of the ports (R328), the
answers, and what follows every command.
-/
namespace Sys2Proof.Machine

/-- A read of `size` bytes at `a` as the requester: its code, its data and the state. A read that does not complete gives 0. -/
def busRead (o : Origin) (a size : Nat) (s : State) : Code × Nat × State :=
  match accessCode s o a size none false with
  | some c => (c, 0, s)
  | none =>
    let b := wordAddr (aliased a)
    if inAperture a then cisLoad (CisReq.bus o).code o.isHost a size .none s
    else if inJournal b then (.ok, s.bytesNat (aliased a) size, s)
    else
      let (c, w, s) := regRead o b (inAlias a) s
      (c, w.toNat / 2 ^ (8 * (a % 4)) % 2 ^ (8 * size), s)

/-- A write of the cistern that its requester may make; one that reaches the staging area undoes its verification (R291). -/
def aperturePut (host : Bool) (a k v : Nat) (s : State) : Code × State :=
  let staged := inSlot (stagingBase s) a
  let (c, s) := cisSave host a k v s
  (c, if c = .ok ∧ staged then stageWritten s else s)

/-- A write of `size` bytes at `a` as the requester; `group` says that a group write brought it. -/
def busWrite (o : Origin) (a size : Nat) (w : Word) (group : Bool) (s : State) : Code × State :=
  match accessCode s o a size (some w) group with
  | some c => (c, s)
  | none =>
    if inAperture a then aperturePut o.isHost a size w.toNat s
    else regWrite o a w s

/-! ### Error registers (R328) -/

/-- Records a code in CHIP_PORT_ERRp: the first since ERR was cleared with its address, and the latest. -/
def recordErr (p : Fin 3) (c : Code) (a : Nat) (s : State) : State :=
  if c = .ok then s
  else
    let e := R.CHIP_PORT_ERR p
    let s := if s.flag e F.CHIP_PORT_ERR_ERR then s
      else (s.setFld e F.CHIP_PORT_ERR_FIRST_CODE c.num).setFld (R.CHIP_PORT_ADDR p) F.CHIP_PORT_ADDR_ADDR a
    let s := s.setFld e F.CHIP_PORT_ERR_LAST_CODE c.num
    (s.addSat e F.CHIP_PORT_ERR_COUNT 1).raise1 e F.CHIP_PORT_ERR_ERR (9 + p)

/-- A partial word was discarded (R302, R304). -/
def recordPartial (p : Fin 3) (a : Nat) (s : State) : State :=
  recordErr p .width a (s.setFld (R.CHIP_PORT_ERR p) F.CHIP_PORT_ERR_PARTIAL 1)

/-- The code of an access of a host port is recorded; those of keepers and of Port J are not. -/
def recordFor (o : Origin) (c : Code) (a : Nat) (s : State) : State :=
  match o with
  | .portS => recordErr 0 c a s
  | .portI => recordErr 1 c a s
  | .portF => recordErr 2 c a s
  | _ => s

/-! ### Answers -/

/-- What a requester's last transfer returned. -/
def respond (o : Origin) (l : List Resp) (s : State) : State := { s with resp := s.resp.set o.idx l }

/-- The fabric grants an access to a requester; grants in a row count while another requester waits (R27). Port J is granted as Port S,
whose front end it uses (R405). -/
def fabricGrant (o : Origin) (others : Bool) (s : State) : State :=
  let o := if o = .portJ then .portS else o
  modPort (fun p => { p with
    grantTo := some o, grantRun := if others then (if p.grantTo = some o then p.grantRun else 0) + 1 else 0 }) s

/-- A word of Port S or Port I waits in its queue. -/
def wordsWait (s : State) : Bool := !s.port.qS.isEmpty || !s.port.qI.isEmpty

/-- The queue of Port S or of Port I. -/
def portQueue (i3c : Bool) (s : State) : List Posted := if i3c then s.port.qI else s.port.qS

/-- Replaces it. -/
def setQueue (i3c : Bool) (q : List Posted) (s : State) : State :=
  if i3c then modPort (fun x => { x with qI := q }) s else modPort (fun x => { x with qS := q }) s

/-- The requester of a queue. -/
def queueOrigin (i3c : Bool) : Origin := if i3c then .portI else .portS

/-- The word at the head of a queue is performed, and its code recorded (R301); `others` says that another requester waits. -/
def postedOne (i3c others : Bool) (s : State) : State :=
  match portQueue i3c s with
  | [] => s
  | w :: rest =>
    let (c, s) := busWrite (queueOrigin i3c) w.addr 4 (word w.data) w.group (fabricGrant (queueOrigin i3c) others (setQueue i3c rest s))
    recordFor (queueOrigin i3c) c w.addr s

/-- The ports whose queued words wait for the fabric. -/
def queued (s : State) : List Origin :=
  (if s.port.qS.isEmpty then [] else [.portS]) ++ (if s.port.qI.isEmpty then [] else [.portI])

/-- The requester that the fabric grants next of those that wait (R27): the first in the fixed order, but another once the one last served
has received 8 grants in a row while another waited. -/
def fabricNext (s : State) (wait : List Origin) : Option Origin :=
  let l := [Origin.portS, .portI, .portF, .k0, .k1, .k2].filter (wait.contains ·)
  let full := decide (8 ≤ s.port.grantRun)
  let free := l.filter fun o => !(full && s.port.grantTo == some o)
  match free with
  | o :: _ => some o
  | [] => l.head?

/-- The fabric grants an access to a word that waits in a queue. -/
def queuedGrant (s : State) : State :=
  match fabricNext s (queued s) with
  | some .portS => postedOne false (!s.port.qI.isEmpty) s
  | some .portI => postedOne true (!s.port.qS.isEmpty) s
  | _ => s

/-- The requester as the fabric sees it: Port J uses the front end of Port S (R405). -/
def fabricAs (o : Origin) : Origin := if o = .portJ then .portS else o

/-- Up to `k` words that wait go before an access of the requester, until the fabric grants its own (R27). -/
def fabricWait (o : Origin) : Nat → State → State
  | 0, s => s
  | k + 1, s =>
    match fabricNext s (fabricAs o :: queued s) with
    | some .portS => if s.port.qS.isEmpty then s else fabricWait o k (postedOne false (fabricAs o != .portS || !s.port.qI.isEmpty) s)
    | some .portI => if s.port.qI.isEmpty then s else fabricWait o k (postedOne true (fabricAs o != .portI || !s.port.qS.isEmpty) s)
    | _ => s

/-- An access of the requester comes to its grant: words that wait and come first in the fabric's order are performed, those of the
requester's own queue among them (R27, R300, R301). -/
def fabricTurn (o : Origin) (s : State) : State := fabricWait o (s.port.qS.length + s.port.qI.length) s

/-- An access that nothing forbids meets a target that gives no response within 10 µs (R311): `silent` lists the addresses of such
targets. -/
def unanswered (silent : List Nat) (o : Origin) (a : Nat) (w : Option Word) (s : State) : Bool :=
  silent.contains a && (accessCode s o a 4 w false).isNone

/-- A read and a write that wait for their turn, of the requester `g` at the fabric with the permissions of `o`, and take their grant. -/
def turnRead (silent : List Nat) (g o : Origin) (a : Nat) (s : State) : Code × Nat × State :=
  let s := fabricTurn g s
  let (c, d, t) := if unanswered silent o a none s then (.timeout, 0, s) else busRead o a 4 s
  (c, d, fabricGrant g (wordsWait s) t)
def turnWrite (silent : List Nat) (g o : Origin) (a : Nat) (w : Word) (s : State) : Code × State :=
  let s := fabricTurn g s
  let (c, t) := if unanswered silent o a (some w) s then (.timeout, s) else busWrite o a 4 w false s
  (c, fabricGrant g (wordsWait s) t)

/-- What a requester's granted access returned, in the state that the access left. -/
def answer (old : State) (o : Origin) (r : Resp) (s : State) : State := respond o [r] (fabricGrant o (wordsWait old) s)

/-- A single write that has its turn, recorded and answered. -/
def writeNow (o : Origin) (a size : Nat) (w : Word) (s : State) : State :=
  let (c, t) := busWrite o a size w false s
  answer s o { code := c } (recordFor o c a t)

/-- A single write, once it is its turn. -/
def writeAs (o : Origin) (a size : Nat) (w : Word) (s : State) : State := writeNow o a size w (fabricTurn o s)

/-- A single read that has its turn, recorded and answered. -/
def readNow (o : Origin) (a size : Nat) (s : State) : State :=
  let (c, d, t) := busRead o a size s
  answer s o { code := c, data := d } (recordFor o c a t)

/-- A single read, once it is its turn. -/
def readAs (o : Origin) (a size : Nat) (s : State) : State := readNow o a size (fabricTurn o s)

/-- The word that leaves a register's stored fields as they stand when it is written: sets nothing and clears nothing. -/
def keepWord (s : State) (a : Nat) : Word :=
  match specAt a with
  | none => 0
  | some r => r.flds.foldl (fun w f => match f.ty with | .rw | .rwl => f.put w (s.fld a f) | _ => w) 0

/-- A write of one field: the register's other stored fields are written with what they hold. -/
def writeFld (o : Origin) (a : Nat) (f : Fld) (v : Nat) (s : State) : State := writeAs o a 4 (f.put (keepWord s a) v) s

/-- A word with a command bit set. -/
def withBit (f : Fld) (w : Word) : Word := f.put w 1

/-- A masked write of bit `n` of each field named. -/
def maskedBits (bits : Nat) (on : Bool) : Word := word (bits * 65536 + (if on then bits else 0))

/-! ### What follows every command -/

/-- A keeper serves the mailboxes of a port (R321, R331): Port F's in every power state, the others' while K0 and K1 are powered,
and none while the Keep region restarts (R36). -/
def mbxServed (s : State) (p : Fin 3) : Bool :=
  !regionBusy s .keep && (p == 2 || islandsOn s) && (List.finRange 3).any (fun k => pairServes s k)

/-- The keeper that serves a port's mailbox: its home, or its donor, or the one that remains (R331). -/
def servingKeeper (s : State) (p : Fin 3) : Fin 3 :=
  let l : List (Fin 3) := if p = 2 then [2, 1, 0] else [0, 1, 2]
  (l.find? fun k => pairServes s k).getD (if p = 2 then 2 else 0)

/-- Replies that wait are posted as soon as the outbound mailbox is empty (R321, R327). -/
def repliesPost (s : State) : State := (List.finRange 3).foldl (fun s p => when (mbxServed s p) (mbxPostNext p) s) s

end Sys2Proof.Machine
end

