-- ==== Sys2Proof/Machine/Boot.lean ====
section
/-!
DEFINITION. The cold start from the fuses to READY, BOOT_FAIL and its recovery, and the tail of an update (R274 to R289, R292, R314,
R315 of spec/).
-/
namespace Sys2Proof.Machine

/-! ### Fuses (R277, R278) -/

/-- The value of a repair record as a fuse word, and the record of a value. -/
def repairWord (r : RepairRec) : Nat := r.typ + r.unit * 2 ^ 8 + r.loc * 2 ^ 32 + r.data * 2 ^ 64
def repairOf (v : Nat) : RepairRec := { typ := v % 256, unit := v / 2 ^ 8 % 256, loc := v / 2 ^ 32 % 2 ^ 32, data := v / 2 ^ 64 % 2 ^ 64 }

/-- The burnt value of a copy. Of the analogue trims the VDD_CORE offset and the converters' have a value in the model; those of the
sensors and the paths act through what the sensors read and through Config.pathCoef. -/
def burntWord (s : State) (w : FuseWord) (i : Fin 3) : Nat :=
  match w with
  | .lifecycle => s.fuse.lc[i]
  | .key => s.fuse.key
  | .avs => s.fuse.avs
  | .ident => s.fuse.ident
  | .conv n => s.fuse.conv[n]
  | .repair k => match s.fuse.repairs[k.val]? with | some r => repairWord r | none => 0
  | _ => 0

/-- What a copy reads: its burnt value, or what the fault of that copy says. -/
def fuseCopy (s : State) (l : List FuseFault) (w : FuseWord) (i : Fin 3) : Option Nat :=
  match l.find? fun f => f.fword == w && f.copy == i with
  | some f => f.val
  | none => some (burntWord s w i)

/-- The resolution of *Fuse word resolution*: the value, none without a majority, and whether the word counts in REPAIRED. -/
def fuseResolve : List (Option Nat) → Option Nat × Bool
  | [some a, some b, some c] =>
    if a = b ∧ b = c then (some a, false)
    else if a = b ∨ a = c then (some a, true)
    else if b = c then (some b, true)
    else (none, false)
  | l => match l.filterMap id with
    | [a, b] => if a = b then (some a, true) else (none, false)
    | [a] => (some a, true)
    | _ => (none, false)

/-- A word as the device resolves it. -/
def fuseRead (s : State) (l : List FuseFault) (w : FuseWord) : Option Nat × Bool :=
  fuseResolve ((List.finRange 3).map (fuseCopy s l w))

/-- All fuse words. -/
def fuseWords : List FuseWord :=
  [.lifecycle, .key, .avs, .ident] ++ (List.finRange 36).map .sensor ++ (List.finRange 8).map .conv ++
  (List.finRange 8).map .path ++ (List.finRange 32).map .repair

/-- The bit of NOMAJ of a word's group. -/
def FuseWord.group : FuseWord → Nat
  | .lifecycle => 0
  | .key => 1
  | .repair _ => 3
  | .ident => 4
  | _ => 2

/-- A word without a majority: its group's bit, FUSE_NOMAJ, and a journal entry (R278). -/
def fuseNomaj (w : FuseWord) (s : State) : State :=
  let s := s.setFld R.BOOT_FUSE F.BOOT_FUSE_NOMAJ (Nat.lor (s.fld R.BOOT_FUSE F.BOOT_FUSE_NOMAJ) (2 ^ w.group))
  if s.flag R.BOOT_STATUS F.BOOT_STATUS_FUSE_NOMAJ then s.journal 385 (s.reg R.BOOT_STATUS).toNat
  else s.raise1 R.BOOT_STATUS F.BOOT_STATUS_FUSE_NOMAJ 385

/-- The lifecycle state in force (R399, R400): SEALED with FAULT_N where the word gives none. -/
def lifecycleLoad (v : Option Nat) (s : State) : State :=
  let a := R.SEC_LC_STATUS
  match v with
  | none => assertFault ((s.setFld a F.SEC_LC_STATUS_STATE 2).setFld a F.SEC_LC_STATUS_LC_NOMAJ 1)
  | some r =>
    let s := s.setFld a F.SEC_LC_STATUS_RAW r
    match lcState (r % 16) with
    | some st => s.setFld a F.SEC_LC_STATUS_STATE st
    | none => assertFault ((s.setFld a F.SEC_LC_STATUS_STATE 2).setFld a F.SEC_LC_STATUS_LC_INVALID 1)

/-- A memory row of an instance is replaced by a spare from the start. -/
def rowUse (inst row : Nat) (s : State) : State :=
  if s.saf.rows.contains (inst, row) || decide (4 ≤ rowsUsed s inst) then s
  else modSaf (fun x => { x with rows := (inst, row) :: x.rows }) s

/-- What each resolved word gives: trims take 0 without a majority, and a repair record is then not applied (R278, R376). -/
def fuseApply (w : FuseWord) (v : Option Nat) (s : State) : State :=
  match w with
  | .lifecycle => lifecycleLoad v s
  | .key =>
    { s.setFld R.SEC_LC_STATUS F.SEC_LC_STATUS_KEY_BLANK (b2n (decide (v = some 0))) with fuse := { s.fuse with keyEff := v } }
  | .avs => s.setFld R.PWR_AVS_REQ F.PWR_AVS_REQ_TRIM (v.getD 0)
  | .sensor k => if v.isNone then s.setFld (R.THM_SENS k) F.THM_SENS_UNTRIMMED 1 else s
  | .conv n =>
    let s := modLine n (fun l => { l with trim := fusedTrim (v.getD 0) }) s
    if v.isNone then { s with fuse := { s.fuse with noConv := Nat.lor s.fuse.noConv (2 ^ n.val) } } else s
  | .path n => if v.isNone then { s with fuse := { s.fuse with noPath := Nat.lor s.fuse.noPath (2 ^ n.val) } } else s
  | .repair _ => match v with
    | some x => if (repairOf x).typ = 4 then rowUse (repairOf x).unit (repairOf x).loc s else s
    | none => s
  | .ident => { s with fuse := { s.fuse with identEff := v.getD 0 } }

/-- Step 2: every fuse word is loaded and resolved. -/
def fuseStep (l : List FuseFault) (s : State) : State :=
  let s := { s with fuse := { s.fuse with noConv := 0, noPath := 0, keyEff := none } }
  let s := fuseWords.foldl (fun (s : State) w =>
    let (v, fixed) := fuseRead s l w
    let s := if fixed then s.addSat R.BOOT_FUSE F.BOOT_FUSE_REPAIRED 1 else s
    fuseApply w v (if v.isNone then fuseNomaj w s else s)) s
  let s := s.setFld R.SAF_REPAIR_STATUS F.SAF_REPAIR_STATUS_FUSE_USED s.fuse.repairs.length
  s.setFld R.PWR_AVS_REQ F.PWR_AVS_REQ_REQ_MV (vddMv s 0)

/-! ### The NVM (R280, R284) -/

/-- PHASE. -/
def setPhase (v : Nat) (s : State) : State := s.setFld R.BOOT_STATUS F.BOOT_STATUS_PHASE v

/-- The CRC-32 of IEEE 802.3 over bytes: reflected, from all ones, inverted at the end (R280; notes/assumptions/107.md). -/
def crc32 (l : List Nat) : Nat :=
  Nat.xor 0xFFFFFFFF (l.foldl (fun c b =>
    (List.range 8).foldl (fun c _ => if c % 2 = 1 then Nat.xor (c / 2) 0xEDB88320 else c / 2) (Nat.xor c b)) 0xFFFFFFFF)

/-- A little-endian word of a list of bytes. -/
def leWord (l : List Nat) (o : Nat) : Nat := (List.range 4).foldl (fun v i => v + l.getD (o + i) 0 * 256 ^ i) 0

/-- The fields of a directory copy; none unless it is intact: its marker and CRC are correct (R280). -/
def dirOf (l : List Nat) : Option Dir :=
  if leWord l 0 = 0x5A4E4452 ∧ leWord l 60 = crc32 (l.take 60) then
    some { seq := leWord l 4, lenA := leWord l 8, lenB := leWord l 12 }
  else none

/-- The directory in use, if one is intact, and DIR_TWIN (R280). -/
def dirStep (d : BootData) (s : State) : Option Dir × State :=
  match dirOf d.dir0, dirOf d.dir1 with
  | some x, some y =>
    if x.seq = y.seq then (some x, if d.dir0 = d.dir1 then s else s.raise1 R.BOOT_STATUS F.BOOT_STATUS_DIR_TWIN 380)
    else (some (if x.seq < y.seq then y else x), s)
  | some x, none => (some x, s)
  | none, y => (y, s)

/-- A copy's bytes in a slot: those it lists, 0 elsewhere up to its length. -/
def slotLoad (base len : Nat) (c : List (Nat × Nat)) (s : State) : State :=
  let s := s.clearBytes base (base + len - 1)
  c.foldl (fun (s : State) (x : Nat × Nat) => if x.1 < len then s.setByte (base + x.1) (BitVec.ofNat 8 x.2) else s) s

/-- The image of a copy, as its bytes read. -/
def copyImage (s : State) (c : List (Nat × Nat)) : Image := imageAt (slotBase 0) (slotLoad (slotBase 0) slotSize c s)

/-- A copy that is not absent, with its length: from the directory in use, or else from its own header. -/
def copyPresent (s : State) (len : Option Nat) (c : Option (List (Nat × Nat))) : Option (List (Nat × Nat) × Nat) :=
  c.bind fun c =>
    let l := len.getD (copyImage s c).length
    if l = 0 ∨ 29360128 < l then none else some (c, l)

/-- RESULT of a copy, A or B. -/
def setResult (b : Bool) (v : Nat) (s : State) : State :=
  s.setFld R.BOOT_COPY_INFO (if b then F.BOOT_COPY_INFO_RESULT_B else F.BOOT_COPY_INFO_RESULT_A) v

/-- A copy's bytes, its length and its image. -/
abbrev CopyImage := List (Nat × Nat) × Nat × Image

/-- Step 6 for one copy: it is absent, its header fails with a reason, or it is an image. -/
def copyExamine (b : Bool) (c : Option (List (Nat × Nat) × Nat)) (s : State) : Option CopyImage × State :=
  match c with
  | none => (none, setResult b 2 s)
  | some (c, l) =>
    let i := copyImage s c
    let h := headerResult s i
    if h = 0 then (some (c, l, i), s) else (none, setResult b (h + 2) s)

/-- Step 7: the copy is loaded into slot 0 and its body digest checked. -/
def copyLoad (b : Bool) (x : CopyImage) (s : State) : Option Image × State :=
  let s := slotLoad (slotBase 0) x.2.1 x.1 s
  if x.2.2.bodyOk then (some x.2.2, (setResult b 1 s).setFld R.BOOT_STATUS F.BOOT_STATUS_COPY (b2n b))
  else (none, setResult b 7 s)

/-- The choice of R284. -/
def copyChoose (xa xb : Option CopyImage) (s : State) : Option Image × State :=
  match xa, xb with
  | none, none => (none, s)
  | some a, none =>
    let (i, s) := copyLoad false a s
    (i, if i.isNone then s.raise1 R.BOOT_STATUS F.BOOT_STATUS_FALLBACK 382 else s)
  | none, some b =>
    let (i, s) := copyLoad true b s
    (i, if i.isNone then s.raise1 R.BOOT_STATUS F.BOOT_STATUS_FALLBACK 382 else s)
  | some a, some b =>
    let s := if a.2.2.seq = b.2.2.seq ∧ a.2.2.digest ≠ b.2.2.digest
      then s.raise1 R.BOOT_STATUS F.BOOT_STATUS_IMAGE_TWIN_CONFLICT 381 else s
    let bFirst := decide (a.2.2.seq < b.2.2.seq)
    let first := if bFirst then b else a
    let second := if bFirst then a else b
    match copyLoad bFirst first s with
    | (some i, s) => (some i, setResult (!bFirst) 8 s)
    | (none, s) => copyLoad (!bFirst) second (s.raise1 R.BOOT_STATUS F.BOOT_STATUS_FALLBACK 382)

/-- Steps 6 and 7: directories, headers, choice and load. -/
def imageStep (d : BootData) (s : State) : Option Image × State :=
  let (dir, s) := dirStep d s
  let (xa, s) := copyExamine false (copyPresent s (dir.map (·.lenA)) d.imgA) s
  let (xb, s) := copyExamine true (copyPresent s (dir.map (·.lenB)) d.imgB) s
  copyChoose xa xb s

/-! ### CONFIG records (R286) -/

/-- Why a record fails: the reason, and the code of reason ACCESS. -/
def cfgFail (idx reason : Nat) (c : Code) (s : State) : State :=
  let a := R.BOOT_CFG_ERR
  let s := if s.fld a F.BOOT_CFG_ERR_COUNT = 0 then
      ((s.setFld a F.BOOT_CFG_ERR_FIRST_INDEX idx).setFld a F.BOOT_CFG_ERR_CODE c.num).setFld a F.BOOT_CFG_ERR_REASON reason
    else s
  (s.addSat a F.BOOT_CFG_ERR_COUNT 1).raise1 R.BOOT_STATUS F.BOOT_STATUS_CONFIG_ERR 383

/-- Code of an apply point in CTL. -/
def Apply.code : Apply → Nat
  | .imm => 0 | .frame => 1 | .epoch => 2 | .seep => 3 | .second => 4

/-- APPLY of the record is among the apply points of the register's fields. -/
def cfgApplyOk (r : CfgRec) : Bool :=
  match specAt r.addr with
  | none => true
  | some x => x.flds.any fun f => f.ap.code == r.ctl % 8

/-- The active alias returns the written fields. -/
def cfgInForce (s : State) (r : CfgRec) : Bool :=
  match specAt r.addr with
  | none => true
  | some x => x.flds.all fun f => f.ap == .imm || f.ty == .ro || f.ty == .wo || fldBits x (word r.value) f == 0 ||
      s.actFld r.addr f == s.fld r.addr f

/-- A frame boundary of a lane whose lane PLL is on comes while K0 waits: the PLL has locked by then, and what the boundary brings into force
is in force, at an epoch boundary the EPOCH values with it (R12, R29, R286). -/
def cfgFrame (epoch : Bool) (n : Fin 8) (s : State) : State :=
  if !s.line[n].pllOn then s
  else
    let s := rxFrameWork n (txFrameWork n (lanePllLock n s))
    if epoch then rxEpochFields n (txEpochFields n s) else s

/-- The apply point that a record awaits comes (R286; notes/assumptions/160.md). -/
def cfgPoint (r : CfgRec) (s : State) : State :=
  match r.ctl % 8 with
  | 1 => forLanes (cfgFrame false) s
  | 2 => forLanes (cfgFrame true) s
  | 3 => forLanes seepApply s
  | 4 => secondWork s
  | _ => s

/-- K0 writes a record, unless it fails; whether its fields are awaited. -/
def cfgWrite (idx : Nat) (r : CfgRec) (s : State) : Bool × State :=
  if !cfgApplyOk r then (false, cfgFail idx 1 .ok s)
  else if !bitOf r.ctl 4 ∧ r.addr = R.LINE_LEN_CTRL then (false, cfgFail idx 2 .ok s)
  else
    let (c, s) := busWrite .k0 r.addr 4 (word r.value) false s
    if c ≠ .ok then (false, cfgFail idx 4 c s) else (bitOf r.ctl 3 && !cfgInForce s r, s)

/-- One record of the cold start. `met` says whether an awaited apply point comes within 10 ms. -/
def cfgRecord (idx : Nat) (r : CfgRec) (met : Bool) (s : State) : State :=
  let (wait, s) := cfgWrite idx r s
  if !wait then s
  else
    let s := if met then cfgPoint r s else s
    if cfgInForce s r then s else cfgFail idx 3 .ok s

/-- The records of a stage, in list order. -/
def cfgStage (l : List CfgRec) (stage : Bool) (waits : List Nat) (s : State) : State :=
  (l.take 16384).zipIdx.foldl (fun (s : State) (x : CfgRec × Nat) =>
    if bitOf x.1.ctl 4 = stage then cfgRecord x.2 x.1 (waits.contains x.2) s else s) s

/-! ### Repair records (R261, R288) -/

/-- A pump that the image retires starts quarantined, untested and without a slot (R61, R66). -/
def pumpRetire (n : Fin 8) (m : Nat) (s : State) : State := s.setReg (R.PUMP_STATE n m) 0xF

/-- The record's LOC exists and, for a cistern line, a spare is left. -/
def repairOk (r : RepairRec) (s : State) : Bool :=
  match r.typ with
  | 1 => inAperture (r.loc * 32) && !inReserved (r.loc * 32) && (freeSpare s).isSome
  | 2 | 3 => decide (r.unit < 8) && decide (r.loc < 64)
  | 4 => decide (r.loc < Config.memRows r.unit)
  | _ => false

/-- A record at start. What a repaired pump's DATA says to its memories is not state of the model. -/
def repairRecord (r : RepairRec) (s : State) : State :=
  if !repairOk r s then s.raise1 R.BOOT_STATUS F.BOOT_STATUS_REPAIR_ERR 384
  else match r.typ with
    | 1 => if (remapOf s r.loc).isSome then s else remapCreate r.loc 3 s
    | 2 => pumpRetire (lane r.unit) r.loc s
    | 4 => rowUse r.unit r.loc s
    | _ => s

/-- The REPAIR section at step 8; a well with a retired pump binds its slots as a restart does (R60, R61). -/
def repairStep (l : List RepairRec) (s : State) : State :=
  let s := l.foldl (fun s r => repairRecord r s) s
  forLanes (fun n s => if l.any (fun r => r.typ == 2 && r.unit == n.val) then fillSlots n s else s) s

/-- A record in the tail of an update: a line that has its entry and a pump that is quarantined already need nothing more. A pump
in service is quarantined, and its slot goes to a spare as after a fault; the first of its blocks that leaves as erasures is open. -/
def repairLive (r : RepairRec) (s : State) : State :=
  let n := lane r.unit
  let (b, s) := s.fresh 16
  if r.typ = 1 ∧ (remapOf s r.loc).isSome then s
  else if !repairOk r s then s.raise1 R.BOOT_STATUS F.BOOT_STATUS_REPAIR_ERR 384
  else match r.typ with
    | 1 => remapCopy r.loc 3 s
    | 2 =>
      if pumpQuar s n r.loc then s
      else
        let role := pumpRole s n r.loc
        let v : Vacancy := { role := role, slot := pumpSlot s n r.loc, pump := r.loc, start := b }
        let s := if role = 3 ∧ s.fld (R.WELL_POOL n) F.WELL_POOL_TEST_PUMP = r.loc then endSlice n s else s
        let s := quarantine n r.loc false s
        if role = 1 ∨ role = 2 then awaitTakeover n v s else s
    | 4 => rowUse r.unit r.loc s
    | _ => s

/-! ### Permission windows and ownership (R314, R315) -/

/-- A window record's fields have values of *PERM window record*. -/
def winOk (w : PermWin) : Bool :=
  decide (w.w0 < 0x10000) && decide (w.port ≤ 2) && decide (w.attr < 8) && (w.port == 1 || decide (w.attr < 4)) &&
  w.base % 4 == 0 && decide (w.base + 3 ≤ w.limit) && (w.limit + 1) % 4 == 0 && w.w3 == 0

/-- The group record's fields have values that R314 gives. -/
def grpOk (g : PermGrp) : Bool := decide (g.w0 / 0x10000 ≤ 1) && decide (g.w1 < 0x10000)

/-- The windows in force: at most 96 records, the first 32 of each port, those with bad fields skipped. -/
def winsKept (l : List PermWin) : List PermWin :=
  (l.take 96).foldl (fun k w => if winOk w && decide ((k.filter fun x => x.port == w.port).length < 32) then k ++ [w] else k) []

/-- The semaphores that the OWN bits give at release, and whether a bit was ignored. -/
def ownBits (g : Vector PermGrp 3) : List (Nat × Nat) × Bool :=
  (List.finRange 3).foldl (fun (x : List (Nat × Nat) × Bool) (p : Fin 3) =>
    (List.range 16).foldl (fun (x : List (Nat × Nat) × Bool) k =>
      if !bitOf g[p].w1 k then x
      else if bitOf g[p].w0 k && x.1.all (fun y => y.1 != k) then (x.1 ++ [(k, p.val + 2)], x.2)
      else (x.1, true)) x) ([], false)

/-- The defaults of R315. -/
def permDefault : PermSec :=
  { wins := [⟨0x300, 0, 0xAFFFFFFF, 0⟩, ⟨0x101, 0, 0x07FFFFFF, 0⟩],
    grps := Vector.ofFn fun p => if p = 0 then { w0 := 0x1FFFF, w1 := 0x3F } else { w0 := 0, w1 := 0 } }

/-- Step 11: windows, claimable groups and initial ownership come into force. -/
def permStep (o : Option PermSec) (s : State) : State :=
  let p := o.getD permDefault
  let wins := winsKept p.wins
  let good := p.grps.toList.all grpOk
  let grps := if good then p.grps else Vector.replicate 3 { w0 := 0, w1 := 0 }
  let (own, ignored) := ownBits grps
  let s := modBoot (fun b => { b with perm := { wins := wins, grps := grps } }) s
  let s := own.foldl (fun (s : State) (x : Nat × Nat) => s.setFld (R.CHIP_SEM x.1) F.CHIP_SEM_CODE x.2) s
  let s := s.setFld R.CHIP_PERM_STATUS F.CHIP_PERM_STATUS_PERM_LOADED 1
  let s := s.setFld R.CHIP_PERM_STATUS F.CHIP_PERM_STATUS_WINDOWS wins.length
  if wins.length < p.wins.length ∨ !good ∨ ignored then s.raise1 R.CHIP_PERM_STATUS F.CHIP_PERM_STATUS_PERM_ERR 8 else s

/-! ### The sequence (R274, R285, R289) -/

/-- The start ends in BOOT_FAIL. -/
def bootFail (s : State) : State := assertFault (setPhase 6 s)

/-- FILTER values, written with their SEEP apply point. -/
def filterStep (l : List (Nat × Nat × Nat)) (s : State) : State :=
  l.foldl (fun (s : State) (x : Nat × Nat × Nat) =>
    (s.setReg (R.SEEP_LN_FILT0 (x.1 % 8)) (Nat.land x.2.1 0x1F1F1F1F : Nat)).setReg (R.SEEP_LN_FILT1 (x.1 % 8))
      (Nat.land x.2.2 0x3FFF1F1F : Nat)) s

/-- K1 and K2 are released and K0 jumps out of its boot ROM, all to the firmware of the slot in force (R274, R285, R330). -/
def keepersStart (s : State) : State :=
  let s := (List.finRange 3).foldl (fun s k => modK k (fun x => { x with fw := some (inForceSlot s), kickAt := s.now, kicked := false }) s) s
  s.setFld R.KIC_KSTATUS F.KIC_KSTATUS_POWERED 7

/-- Step 8: the sections are distributed, K1 and K2 are released and stage 0 of CONFIG is applied. -/
def distribute (i : Image) (waits : List Nat) (s : State) : State :=
  let s := { setPhase 3 s with pumps := i.pump }
  let s := s.setReg R.BOOT_SEQ (word i.seq)
  let s := keepersStart (firmwareCopy (inForceSlot s) i (filterStep i.filter s))
  let s := match i.holdover with | some h => seedHoldover h s | none => s
  cfgStage i.config false waits (repairStep i.repair s)

/-- What LINE_TRACE shows of the references (R81). -/
def traceStep (d : BootData) (s : State) : State :=
  let a := R.LINE_TRACE
  let s := (s.setFld a F.LINE_TRACE_REXT_MEAS d.rext).setFld a F.LINE_TRACE_REXT_OK (b2n (decide (19000 ≤ d.rext ∧ d.rext ≤ 21000)))
  refFollow (s.setFld a F.LINE_TRACE_VREF_EXT_PRESENT (b2n d.vrefExt))

/-- Steps 8 to 11 with an image, up to the step `last`. -/
def bootRelease (d : BootData) (i : Image) (last : Nat) (s : State) : State :=
  if last < 8 then s
  else
    let s := distribute i d.waitsMet s
    if last < 9 then s
    else
      let s := setPhase 4 (monCalEnd d.mon (traceStep d s))
      if last < 10 then s
      else
        let s := forLanes (fun n s => calEnd n true 63 d.cal[n] s) s
        if last < 11 then s else scanStart (setPhase 5 (permStep i.perm (cfgStage i.config true d.waitsMet s)))

/-- The conditions of R274 for a cold start, with the device at step 1. -/
def coldReady (s : State) : Bool :=
  decide (bootPhase s = 0) && !s.vent && !s.saf.supplyHold && decide (s.rails = 0) && !refGone s

/-- Steps 6 to 11, up to the step `last`. -/
def imageRun (d : BootData) (last : Nat) (s : State) : State :=
  match imageStep d (setPhase 2 s) with
  | (none, s) => bootFail s
  | (some i, s) => bootRelease d i last s

/-- A fault of K0 in a step of the cold start restarts K0 at its boot ROM, which repeats the start from step 6; the device is not reset
(R331). How much K0 had done of that step is open: nothing of it, in the model (notes/assumptions/156.md). -/
def bootFaults (d : BootData) (s : State) : State :=
  d.k0Faults.foldl (fun s x =>
    let s := if 7 ≤ x.1 ∧ bootPhase s ≠ 6 then imageRun d (x.1 - 1) s else s
    if bootPhase s = 6 then s else keeperUp 0 (keeperFaulted 0 x.2 s)) s

/-- The sequence from step 1. -/
def coldRun (d : BootData) (s : State) : State :=
  let s := cisTrain d.trainOk (fuseStep d.fuses { s with inReset := false })
  if !d.trainOk then bootFail s
  else
    let s := bootFaults d (setPhase 1 s)
    if bootPhase s = 6 then s else imageRun d 11 s

/-- The start continues from step 8 with the verified image of slot 1 (R289). -/
def recoverRun (d : BootData) (s : State) : State :=
  match s.boot.staged with
  | none => s
  | some i =>
    let s := (s.setFld R.BOOT_STATUS F.BOOT_STATUS_FROM_STAGING 1).setFld R.BOOT_STATUS F.BOOT_STATUS_IN_FORCE_SLOT 1
    bootRelease d i 11 (unverify (modBoot (fun b => { b with recover := false }) s))

/-- COLD_START: the sequence runs when its conditions hold, or goes on from BOOT_FAIL after SWITCH. -/
def coldStart (d : BootData) (s : State) : State :=
  if coldReady s then coldRun d s
  else if bootPhase s = 6 ∧ s.boot.recover ∧ !s.inReset ∧ !cisFlag s F.CIS_STATUS_UNAVAILABLE then recoverRun d s
  else s

/-! ### The tail of an update (R292) -/

/-- A record whose target field is locked or already written is skipped and counted. -/
def cfgSkips (s : State) (r : CfgRec) : Bool :=
  match specAt r.addr with
  | none => false
  | some x => lockHit s x r.addr (word r.value)

/-- K0 goes through the records that are left of the CONFIG section, up to one whose fields it awaits. -/
def cfgRun : List (CfgRec × Nat) → State → List (CfgRec × Nat) × State
  | [], s => ([], s)
  | (r, i) :: t, s =>
    if cfgSkips s r then cfgRun t (s.addSat R.BOOT_STAGE_STATUS F.BOOT_STAGE_STATUS_SKIPPED 1)
    else
      let (wait, s) := cfgWrite i r s
      if wait then ((r, i) :: t, s) else cfgRun t s

/-- Step 8: the staged image is in force, and the switch-over is done. -/
def updEnd (i : Image) (s : State) : State :=
  let s := { s with pumps := i.pump }
  let s := s.setFld R.BOOT_STATUS F.BOOT_STATUS_IN_FORCE_SLOT (1 - inForceSlot s)
  let s := s.setReg R.BOOT_SEQ (word i.seq)
  let s := setSt F.BOOT_STAGE_STATUS_STEP 0 (setSt F.BOOT_STAGE_STATUS_SWITCH_BUSY 0 (unverify s))
  (modUpd (fun _ => {}) s).raise1 R.BOOT_STAGE_STATUS F.BOOT_STAGE_STATUS_UPD_DONE 386

/-- The tail goes on with the records given, and ends the switch-over with the last, unless a record restarted the device. -/
def tailRecords (i : Image) (l : List (CfgRec × Nat)) (s : State) : State :=
  let (l, s) := cfgRun l s
  if updStep s ≠ 6 then s
  else if l.isEmpty then updEnd i s
  else modUpd (fun u => { u with cfg := l, since := s.now }) s

/-- Step 7 begins once every well has switched or is left to the host. -/
def tailBegin (i : Image) (s : State) : State :=
  let s := setSt F.BOOT_STAGE_STATUS_STEP 6 s
  let s := i.repair.foldl (fun s r => repairLive r s) (filterStep i.filter s)
  tailRecords i (if s.flag R.BOOT_STAGE_CTRL F.BOOT_STAGE_CTRL_APPLY_CONFIG then (i.config.take 16384).zipIdx else []) s

/-- Steps 7 and 8 of the switch-over, which go on behind every command: a record that K0 awaits is in force, or 10 ms have passed (R286). -/
def updTail (s : State) : State :=
  match s.boot.upd.img with
  | none => s
  | some i =>
    if updTailDue s then tailBegin i s
    else if updStep s ≠ 6 then s
    else match s.boot.upd.cfg with
      | [] => s
      | (r, k) :: t =>
        if cfgInForce s r then tailRecords i t s
        else if s.boot.upd.since + 10 * cycMs ≤ s.now then tailRecords i t (cfgFail k 3 .ok s)
        else s

/-! ### What follows every command -/

/-- What follows a command: an update's tail goes on, waiting replies are posted, region reactions begin, the interrupt controller remembers its requests, the
power controller follows its conditions, and Port I learns whether an in-band interrupt is due. In reset nothing of this runs. At the
end LEN and the mutes stand as R87 and R88 ask for. -/
def follow (old s : State) : State :=
  lenUpdate (if s.inReset then s else ibiFollow old (powerFollow (requestsFollow (regionsBegin (repliesPost (updTail s))))))

/-! ### The outcome of a command -/

/-- A command runs and what follows it follows; the queue is not the command's. -/
def after (g : State → State) (s : State) : State := { follow s (g s) with pending := s.pending }

/-- The outcome of a command of the device's inside or of its ports: in reset none acts (R426). -/
def outcome (s : State) (g : State → State) : Host.Outcome State Fault Refusal :=
  .next (after (fun s => if s.inReset then s else g s) s)

/-- The outcome of a command on a pin that acts in reset too, and of a cold start. -/
def outcomePin (s : State) (g : State → State) : Host.Outcome State Fault Refusal := .next (after g s)

end Sys2Proof.Machine
end

