-- ==== Sys2Proof/Machine/HostPorts.lean ====
section
/-!
DEFINITION. The transfers of Port S, Port I, Port F and Port J (R299 to R306, R212 and R405 of spec/): frames, write queues, group
writes and Port F items.
-/
namespace Sys2Proof.Machine

/-! ### Write queues (R301, R304) -/

/-- A word enters a queue of 8, or finds it full (R301, R304). -/
def enqueue (i3c : Bool) (w : Posted) (s : State) : Bool × State :=
  if (portQueue i3c s).length < 8 then (true, setQueue i3c (portQueue i3c s ++ [w]) s) else (false, s)

/-- POSTED_WRITE_PERFORM (R27, R301): the fabric grants the next access to a waiting word. -/
def postedPerform (s : State) : State := queuedGrant s

/-- At most `k` grants go to waiting words until the queue has room. -/
def roomMade (i3c : Bool) : Nat → State → State
  | 0, s => s
  | k + 1, s => if (portQueue i3c s).length < 8 then s else roomMade i3c k (queuedGrant s)

/-- Whether the word at the head of a full queue has been performed by the time the next word arrives is open, but for a Port I
transfer of at most 8 words, whose words the fabric drains in time (R304). -/
def queueRoom (i3c sure : Bool) (s : State) : State :=
  if (portQueue i3c s).length < 8 then s
  else if sure then roomMade i3c (s.port.qS.length + s.port.qI.length) s
  else
    let (b, s) := s.fresh 1
    if b = 1 then queuedGrant s else s

/-! ### Port S (R299 to R302) -/

/-- The status of a frame that reads or writes from `a` (R299). -/
def frameStatus (s : State) (a : Nat) (write : Bool) : Code :=
  if a % 4 ≠ 0 then .width else match gate s .portS a write with | .stop .busy => .busy | _ => .ok

/-- The frame status is given; one that is not OK is recorded. -/
def frameGiven (c : Code) (a : Nat) (s : State) : State := recordErr 0 c a (modPort (fun x => { x with frame := c }) s)

/-- A frame that reads or writes begins; one whose status is not OK performs no access. -/
def frameBegin (a : Nat) (write : Bool) (s : State) : Code × State := (frameStatus s a write, frameGiven (frameStatus s a write) a s)

/-- Reads of `k` words from `a` by Port S, each with its status; `keep` says how many are delivered and recorded. -/
def readWords (a keep : Nat) : Nat → State → List Resp × State
  | 0, s => ([], s)
  | k + 1, s =>
    let (c, d, s) := turnRead [] .portS .portS a s
    let s := if keep = 0 then s else recordErr 0 c a s
    let (l, s) := readWords (a + 4) (keep - 1) k s
    (if keep = 0 then l else { code := c, data := d } :: l, s)

/-- PORT_S_READ (R300): the reads follow every earlier Port S write. -/
def portSRead (a count : Nat) (s : State) : State :=
  let (c, s) := frameBegin a false s
  if c ≠ .ok then respond .portS [] s
  else
    let (l, s) := readWords a count count s
    respond .portS l s

/-- The checks that the port makes at once on a word to be written (R301). -/
def writeCheck (s : State) (a : Nat) (w : Word) : Code :=
  if inAperture a && (accessCode s .portS a 4 (some w) false).isNone then (if deepSleep s then .asleep else .ok)
  else match accessCode s .portS a 4 (some w) false with
  | some .width => .width | some .denied => .denied | some .unmapped => .unmapped | some .asleep => .asleep
  | _ => .ok

/-- One data word of a WRITE frame: its status, and the word in the queue (R301). -/
def writeWord (a : Nat) (w : Word) (s : State) : Code × State :=
  match writeCheck s a w with
  | .ok =>
    let (ok, s) := enqueue false { addr := a, data := w.toNat } (queueRoom false false s)
    if ok then (.ok, s) else (.busy, recordErr 0 .busy a s)
  | c => (c, recordErr 0 c a s)

/-- The data words of a WRITE frame in order. -/
def writeWords (a : Nat) : List Word → State → List Resp × State
  | [], s => ([], s)
  | w :: t, s =>
    let (c, s) := writeWord a w s
    let (l, s) := writeWords (a + 4) t s
    ({ code := c } :: l, s)

/-- PORT_S_WRITE (R301). A frame carries at most 256 words. -/
def portSWrite (a : Nat) (l : List Word) (s : State) : State :=
  let (c, s) := frameBegin a true s
  if c ≠ .ok then respond .portS [] s
  else
    let (r, s) := writeWords a (l.take 256) s
    respond .portS r s

/-- The word of a STATUS frame (R301). -/
def statusWord (s : State) : Nat :=
  (s.reg (R.CHIP_PORT_ERR 0)).toNat % 2 ^ 24 + 2 ^ 24 * b2n s.port.qS.isEmpty + 2 ^ 25 * b2n (readyOut s)

/-- PORT_S_STATUS (R299, R301): the STATUS frame, OP 3, or a frame with a reserved OP, whose frame status is UNMAPPED. OP 1 and 2 are READ
and WRITE, here without data. -/
def portSStatus (op : Fin 16) (a : Nat) (s : State) : State :=
  match op with
  | 3 => respond .portS [{ data := statusWord s }] (frameGiven .ok a s)
  | 1 => portSRead a 1 s
  | 2 => portSWrite a [] s
  | _ => respond .portS [] (frameGiven .unmapped a s)

/-- PORT_S_FRAME_ABORT (R302): SPI_CS_N rises behind the `l` complete words: before the frame status has ended, so that nothing happens,
in the byte behind them, which ends the frame with no error, or in the word that follows, which is discarded as partial. In a READ the
words whose reads have been issued are read without being delivered: in the turnaround and behind a word the next one, and in a word also
the one after it. Once all words are complete nothing is left to abort. -/
def portSAbort (at' : AbortAt) (wr : Bool) (a count : Nat) (l : List Word) (s : State) : State :=
  let k := l.length
  if at' = .head then respond .portS [] s
  else if count ≤ k then (if wr then portSWrite a (l.take count) s else portSRead a count s)
  else
    let (c, s) := frameBegin a wr s
    if c ≠ .ok then respond .portS [] s
    else
      let issued := if at' = .word then k + 2 else k + 1
      let (r, s) := if wr then writeWords a l s else readWords a k (min count issued) s
      respond .portS r (if at' = .word then recordPartial 0 (a + 4 * k) s else s)

/-- PORT_S_READ_TIMEOUT (R300): the read completes inside the device, and its result is discarded. -/
def portSReadTimeout (a : Nat) (s : State) : State :=
  let (c, s) := frameBegin a false s
  if c ≠ .ok then respond .portS [] s
  else
    let (_, _, s) := turnRead [] .portS .portS a s
    respond .portS [{ code := .busy }] (recordErr 0 .busy a s)

/-! ### Port I (R303 to R305) -/

/-- One data word of a Port I write: before step 11 it is refused BUSY (R276), and one that finds the queue full is dropped, with BUSY
recorded (R304). -/
def postWord (group sure : Bool) (a : Nat) (w : Word) (s : State) : State :=
  if gate s .portI a true = .stop .busy then recordErr 1 .busy a s
  else
    let (ok, s) := enqueue true { addr := a, data := w.toNat, group := group } (queueRoom true sure s)
    if ok then s else recordErr 1 .busy a s

/-- The data words of a Port I write. -/
def postWords (group sure : Bool) (a : Nat) : List Word → State → State
  | [], s => s
  | w :: t, s => postWords group sure (a + 4) t (postWord group sure a w s)

/-- A write of Port I (R303, R304): the address, the words, and the bytes of a last, partial word. In reset nothing answers. -/
def portIWrite (group : Bool) (addrBytes a : Nat) (l : List Word) (tail : Nat) (s : State) : State :=
  if s.inReset then modPort (fun x => { x with nack := true }) s
  else
    let s := modPort (fun x => { x with nack := false }) s
    if addrBytes < 4 then recordPartial 1 a s
    else
      let b := a + 4 * l.length
      let s := postWords group (l.length ≤ 8) a l s
      let s := modPort (fun x => { x with ptr := b % 2 ^ 32 }) s
      if tail = 0 then s else recordPartial 1 b s

/-- PORT_I_GROUP_WRITE (R305): a member counts it; a device without a group address does not take it. -/
def portIGroupWrite (addrBytes a : Nat) (l : List Word) (tail : Nat) (s : State) : State :=
  if s.inReset || !s.flag R.CHIP_PI_GRP F.CHIP_PI_GRP_GRP_VALID then s
  else portIWrite true addrBytes a l tail (s.addWrap R.CHIP_PI_GRP F.CHIP_PI_GRP_GRP_WRITES 1)

/-- Words of a Port I read: the pointer advances by 4 per word, and a word whose code is not OK ends the read (R303, R304). -/
def pointerReads : Nat → State → List Resp × State
  | 0, s => ([], s)
  | k + 1, s =>
    let a := s.port.ptr
    let (c, d, s) := turnRead [] .portI .portI a s
    let s := recordErr 1 c a (modPort (fun x => { x with ptr := (a + 4) % 2 ^ 32 }) s)
    if c ≠ .ok then ([{ code := c }], s)
    else
      let (l, s) := pointerReads k s
      ({ code := c, data := d } :: l, s)

/-- The header of a Port I read is NACKed: a write still waits, or R276 requires BUSY (R304). -/
def readNacked (s : State) : Bool :=
  s.inReset || !s.port.qI.isEmpty || (match gate s .portI s.port.ptr false with | .stop .busy => true | _ => false)

/-- PORT_I_PRIVATE_READ (R303, R304); `group` says that the group address is read, which is NACKed (R305). -/
def portIRead (group : Bool) (count : Nat) (s : State) : State :=
  if group || readNacked s then respond .portI [] (modPort (fun x => { x with nack := true }) s)
  else
    let (l, s) := pointerReads count (modPort (fun x => { x with nack := false }) s)
    respond .portI l s

/-- PORT_I_ENTDAA (R303): the target answers with its provisional ID, part ID 0x0816 and the instance field of the fused
identity (four bits of it, as the I3C standard lays the field out: PRESUMED, log 109), and takes its dynamic address.
PORT_I_SETGRPA (R305) and PORT_I_ENEC (R325). -/
def portIEntdaa (dyn : Nat) (s : State) : State :=
  if s.inReset then s
  else modPort (fun x => { x with dyn := some (dyn % 128), pid := some (0x0816, s.fuse.identEff % 16) }) s
def portISetgrpa (grp : Nat) (s : State) : State :=
  if s.inReset then s
  else (s.setFld R.CHIP_PI_GRP F.CHIP_PI_GRP_GRP_ADDR grp).setFld R.CHIP_PI_GRP F.CHIP_PI_GRP_GRP_VALID 1
def portIEnec (s : State) : State := if s.inReset then s else modPort (fun x => { x with ibiEn := true }) s

/-! ### Accesses without an answer (R311) -/

/-- ACCESS_TIMEOUT (R311): the access ends with TIMEOUT. A word at the head of a host port's queue ends there (R301). -/
def accessTimeout (o : Origin) (a : Nat) (s : State) : State :=
  let drop (i3c : Bool) (s : State) : State := match portQueue i3c s with
    | w :: rest => if w.addr = a then setQueue i3c rest s else s
    | [] => s
  let s := match o with | .portS => drop false s | .portI => drop true s | _ => s
  respond o [{ code := .timeout }] (recordFor o .timeout a s)

/-! ### Port F (R212, R306) -/

/-- While the Keep region restarts, accesses that a keeper serves for a host return BUSY (R36). -/
def pfAccess (s : State) : Bool := !regionBusy s .keep

/-- Port F is served now: a keeper serves it (R331), or the restart answers for it. -/
def pfServed (s : State) : Bool := mbxServed s 2 || regionBusy s .keep

/-- The items of a PF_READ: values and codes. -/
def pfReads (silent : List Nat) : List Nat → State → List (Code × Nat) × State
  | [], s => ([], s)
  | a :: t, s =>
    let (c, d, s) := if pfAccess s then turnRead silent .portF .portF a s else (.busy, 0, s)
    let (l, s) := pfReads silent t (recordErr 2 c a s)
    ((c, d) :: l, s)

/-- The items of a PF_WRITE: pairs of address and value, and their codes. -/
def pfWrites (silent : List Nat) : List Nat → State → List Code × State
  | a :: v :: t, s =>
    let (c, s) := if pfAccess s then turnWrite silent .portF .portF a (word v) s else (.busy, s)
    let (l, s) := pfWrites silent t (recordErr 2 c a s)
    (c :: l, s)
  | _, s => ([], s)

/-- Codes packed two to a byte, the first in the high nibble (R208). -/
def packCodes : List Code → List Nat
  | [] => []
  | [c] => [16 * c.num]
  | c :: d :: t => (16 * c.num + d.num) :: packCodes t

/-- The first code that is not OK, or OK. -/
def firstCode (l : List Code) : Nat := match l.find? (fun c => decide (c ≠ .ok)) with | some c => c.num | none => 0

/-- PF_READ_RECEIVE and PF_WRITE_RECEIVE (R212, R306): a wrong length is answered WIDTH with no items; the items of `silent` targets get
TIMEOUT. -/
def pfReadReceive (n : Fin 8) (silent : List Nat) (s : State) : State :=
  match takeMsg n (fun m => m.mtype == 1 && consumed s m && pfServed s) s with
  | none => s
  | some (m, fr, s) =>
    let k := m.payload.length / 4
    if m.payload.length % 4 ≠ 0 ∨ k = 0 ∨ 16 < k then addReq n m fr Code.width.num [] s
    else
      let (l, s) := pfReads silent (wordsOf m.payload k) s
      addReq n m fr (firstCode (l.map (·.1))) (l.flatMap (fun x => beBytes 4 x.2) ++ packCodes (l.map (·.1))) s
def pfWriteReceive (n : Fin 8) (silent : List Nat) (s : State) : State :=
  match takeMsg n (fun m => m.mtype == 2 && consumed s m && pfServed s) s with
  | none => s
  | some (m, fr, s) =>
    let k := m.payload.length / 8
    if m.payload.length % 8 ≠ 0 ∨ k = 0 ∨ 16 < k then addReq n m fr Code.width.num [] s
    else
      let (l, s) := pfWrites silent (wordsOf m.payload (2 * k)) s
      addReq n m fr (firstCode l) (packCodes l) s

/-! ### Port J (R405) -/

/-- JTAG_DEBUG_ACCESS: through the Port S front end, after every earlier Port S write; its code goes to the debug data register. -/
def jtagAccess (a : Nat) (w : Option Word) (s : State) : State :=
  match w with
  | some w => writeAs .portJ a 4 w s
  | none => readAs .portJ a 4 s

end Sys2Proof.Machine
end

