-- ==== Sys2Proof/Machine/Service.lean ====
section
/-!
DEFINITION. What a keeper does for the message in an inbound mailbox: the opcodes of R322, with the return codes of R323 and the
queue of replies of R321 of spec/12_host_access.md. Every access is made as an access of the message's port.
-/
namespace Sys2Proof.Machine

/-- Return codes beyond those of R14 (R323). -/
def rcBadOpcode : Nat := 0x100
def rcBadLen : Nat := 0x101
def rcBadArg : Nat := 0x102
def rcNotOwner : Nat := 0x103

/-- The first return code that is not OK. -/
def rcFirst (x y : Nat) : Nat := if x = 0 then y else x

/-- What an opcode gives: the return code, the reply's length, and its words from DATA1. -/
structure Served where
  rc : Nat
  len : Nat := 8
  words : List Nat := []
  deriving DecidableEq, Repr

/-- An inbound message as the keeper reads it: its length and its sixteen words. -/
structure Request where
  len : Nat
  words : List Nat
  deriving DecidableEq, Repr

/-- Word k of a request. -/
def Request.word (q : Request) (k : Nat) : Nat := (q.words[k]?).getD 0

/-- The message in a port's inbound mailbox. -/
def requestOf (s : State) (p : Fin 3) : Request :=
  { len := mbxLen s p, words := (List.range 16).map fun k => mbxIn s p k }

/-- The keeper serves the waiting message, if its opcode is one of `ops`: it carries the opcode out, completes the message and
queues its reply. With the queue of replies full, a message that always replies is not carried out (R321). -/
def mbxServe (p : Fin 3) (ops : Nat → Bool) (act : Request → State → Served × State) (s : State) : State :=
  let op := mbxOpcode s p
  let tag := mbxTag s p
  let flow := mbxFlow s p
  if !(mbxInFull s p && mbxServed s p && ops op) then s
  else if opReplies flow op && decide (8 ≤ s.mbx[p].queue.length) then
    (if flow then (mbxInClear p s).setFld (R.MBX_STATUS p) F.MBX_STATUS_OUT_LOST 1 else mbxAck p Code.busy.num s)
  else
    let q := requestOf s p
    let (r, s) := act q (if flow then mbxInClear p s else s)
    let s := mbxAck p r.rc s
    if opReplies flow op || (flow && r.rc != 0) then
      mbxReply p { len := r.len, opcode := op, tag := tag, words := r.rc :: r.words } s
    else s

/-! ### The opcodes (R322) -/

/-- MBX_ECHO: DATA1 to DATA[LEN − 1] copied, with the request's LEN. -/
def mbxEcho (p : Fin 3) (s : State) : State :=
  mbxServe p (· == 0x01) (fun q s => ({ rc := 0, len := q.len, words := (q.words.take q.len).drop 1 }, s)) s

/-- The keeper that serves a port's mailbox, as a requester of the fabric (R27, R331). -/
def servedBy (s : State) (o : Origin) : Origin := keeperOrigin (servingKeeper s (match o with | .portI => 1 | .portF => 2 | _ => 0))

/-- A read and a write that a keeper makes with the permissions of a port: in the fabric it is the keeper's access (R27). -/
def servedRead (silent : List Nat) (o : Origin) (a : Nat) (s : State) : Code × Nat × State := turnRead silent (servedBy s o) o a s
def servedWrite (silent : List Nat) (o : Origin) (a : Nat) (w : Word) (s : State) : Code × State :=
  turnWrite silent (servedBy s o) o a w s

/-- Reads of `k` words from `a` as a port: the first code that is not OK, and the values, 0 for a failed word. -/
def serveReads (silent : List Nat) (o : Origin) (a : Nat) : Nat → State → Nat × List Nat × State
  | 0, s => (0, [], s)
  | k + 1, s =>
    let (c, d, s) := servedRead silent o a s
    let (rc, l, s) := serveReads silent o (a + 4) k s
    (rcFirst c.num rc, (if c = .ok then d else 0) :: l, s)

/-- MBX_READ: DATA0 the address, DATA1 the count; `silent` targets give TIMEOUT (R311). -/
def mbxRead (p : Fin 3) (silent : List Nat) (s : State) : State :=
  mbxServe p (· == 0x02) (fun q s =>
    let n := q.word 1
    if n = 0 ∨ 14 < n then ({ rc := rcBadArg }, s)
    else
      let (rc, l, s) := serveReads silent (portOrigin p) (q.word 0) n s
      ({ rc := rc, len := max 8 (n + 2), words := n :: l }, s)) s

/-- Writes of pairs of address and value as a port: the first code that is not OK; later pairs are still written. -/
def serveWrites (silent : List Nat) (o : Origin) : List Nat → State → Nat × State
  | a :: v :: t, s =>
    let (c, s) := servedWrite silent o a (word v) s
    let (rc, s) := serveWrites silent o t s
    (rcFirst c.num rc, s)
  | _, s => (0, s)

/-- MBX_WRITE: DATA0 the count, then the pairs. -/
def mbxWrite (p : Fin 3) (silent : List Nat) (s : State) : State :=
  mbxServe p (· == 0x03) (fun q s =>
    let n := q.word 0
    if n = 0 ∨ 7 < n then ({ rc := rcBadArg }, s)
    else if q.len < 1 + 2 * n then ({ rc := rcBadLen }, s)
    else
      let (rc, s) := serveWrites silent (portOrigin p) ((q.words.drop 1).take (2 * n)) s
      ({ rc := rc }, s)) s

/-- The words of an image block from offset `off` of the staging slot: words past its end are not written. -/
def serveBlock (o : Origin) (off : Nat) : List Nat → State → Nat × State
  | [], s => (0, s)
  | v :: t, s =>
    if slotSize ≤ off then (rcBadArg, s)
    else
      let (c, s) := servedWrite [] o (stagingBase s + off) (word v) s
      let (rc, s) := serveBlock o (off + 4) t s
      (rcFirst c.num rc, s)

/-- MBX_IMAGE_BLOCK: the words go to the staging slot that is not in force. -/
def mbxImageBlock (p : Fin 3) (s : State) : State :=
  mbxServe p (· == 0x10) (fun q s =>
    let off := q.word 0
    if !portHolds s p Grp.update.sem then ({ rc := rcNotOwner }, s)
    else if off % 4 ≠ 0 ∨ slotSize ≤ off then ({ rc := rcBadArg }, s)
    else
      let (rc, s) := serveBlock (portOrigin p) off ((q.words.take q.len).drop 1) s
      ({ rc := rc }, s)) s

/-- The four words of journal entry `i` as the port reads them; an entry that has not been written is an empty slot (R378). -/
def serveEntry (o : Origin) (i : Nat) (s : State) : Nat × List Nat × State :=
  if jnlNext s ≤ i then (0, [0, 0, 0, 0], s) else serveReads [] o (jnlAddr i) 4 s

/-- MBX_JOURNAL: three entries from DATA0, or the oldest three (R378). -/
def mbxJournal (p : Fin 3) (s : State) : State :=
  mbxServe p (· == 0x20) (fun q s =>
    let i := max (q.word 0) (jnlOldest s)
    let (r0, l0, s) := serveEntry (portOrigin p) i s
    let (r1, l1, s) := serveEntry (portOrigin p) (i + 1) s
    let (r2, l2, s) := serveEntry (portOrigin p) (i + 2) s
    ({ rc := rcFirst r0 (rcFirst r1 r2), len := 14, words := i :: (l0 ++ l1 ++ l2) }, s)) s

/-- One source of TELEMETRY: a source that answers ASLEEP reads 0 and leaves the return code as it is. -/
def telemetryWord (o : Origin) (a : Nat) (s : State) : Nat × Nat × State :=
  let (c, d, s) := servedRead [] o a s
  if c = .ok then (0, d, s) else (if c = .asleep then 0 else c.num, 0, s)

/-- Words of several sources: the first return code that is not OK, and the values. -/
def telemetryWords (o : Origin) : List Nat → State → Nat × List Nat × State
  | [], s => (0, [], s)
  | a :: t, s =>
    let (r, d, s) := telemetryWord o a s
    let (rc, l, s) := telemetryWords o t s
    (rcFirst r rc, d :: l, s)

/-- Packs values into fields of `w` bits, the first lowest. -/
def packBits (w : Nat) : List Nat → Nat
  | [] => 0
  | x :: t => x % 2 ^ w + 2 ^ w * packBits w t

/-- MBX_TELEMETRY. -/
def mbxTelemetry (p : Fin 3) (s : State) : State :=
  mbxServe p (· == 0x30) (fun _ s =>
    let o := portOrigin p
    let (r0, l, s) := telemetryWords o [R.CHIP_FAULT_STATUS, R.TOD_STATUS, R.TOD_UNC, R.THM_STATUS, R.PWR_STATUS] s
    let (r1, fom, s) := telemetryWords o ((List.range 8).map fun n => R.WELL_RX_FOM n) s
    let (r2, hst, s) := telemetryWords o ((List.range 8).map fun n => R.HOST_LN_STATUS n) s
    let at' (k : Nat) : Nat := (l[k]?).getD 0
    let tmax := unsigned 16 (signed F.THM_STATUS_T_MAX.w (F.THM_STATUS_T_MAX.get (word (at' 3))))
    let d6 := tmax + 2 ^ 16 * F.PWR_STATUS_STATE.get (word (at' 4))
    let foms := fom.map fun x => F.WELL_RX_FOM_FOM.get (word x)
    let states := hst.map fun x => F.HOST_LN_STATUS_STATE.get (word x)
    ({ rc := rcFirst r0 (rcFirst r1 r2),
       words := [at' 0, at' 1, at' 2, packBits 8 (foms.take 4), packBits 8 (foms.drop 4), d6, packBits 3 states] }, s)) s

/-- MBX_VENDOR_OPCODE: the firmware of the image in force defines what it returns and whether it replies in ACK mode. -/
def mbxVendor (p : Fin 3) (rc : Nat) (reply : Option Reply) (s : State) : State :=
  let op := mbxOpcode s p
  let tag := mbxTag s p
  let waits := mbxInFull s p && mbxServed s p && decide (0xF0 ≤ op)
  let flow := mbxFlow s p
  let r : Reply := reply.getD { len := 8, opcode := op, tag := tag, words := [] }
  let s := mbxServe p (0xF0 ≤ ·) (fun _ s => ({ rc := rc % 65536, len := r.len, words := r.words.drop 1 }, s)) s
  if waits && !flow && reply.isSome then
    mbxReply p { len := r.len, opcode := op, tag := tag, words := rc % 65536 :: r.words.drop 1 } s
  else s

/-- An opcode that no image serves (R322). -/
def opUnknown (op : Nat) : Bool :=
  !(op == 0x01 || op == 0x02 || op == 0x03 || op == 0x10 || op == 0x20 || op == 0x30) && decide (op < 0xF0)

/-- MBX_BAD_OPCODE. -/
def mbxBadOpcode (p : Fin 3) (s : State) : State := mbxServe p opUnknown (fun _ s => ({ rc := rcBadOpcode }, s)) s

/-! ### The keeper's side of a mailbox (R320) -/

/-- MBX_OUT_POST: the keeper writes the data words and then OUT_CTRL with FULL; it posts only while OUT_FULL is 0. -/
def mbxOutPost (k p : Fin 3) (r : Reply) (s : State) : State :=
  if mbxOutFull s p then s
  else
    let o := keeperOrigin k
    let s := (List.range (min 16 r.len)).foldl (fun s j => writeAs o (R.MBX_DATA p j) 4 (word ((r.words[j]?).getD 0)) s) s
    let w := F.MBX_OUT_CTRL_LEN.put (F.MBX_OUT_CTRL_OPCODE.put (F.MBX_OUT_CTRL_TAG.put (F.MBX_OUT_CTRL_FULL.put 0 1) r.tag) r.opcode) r.len
    writeAs o (R.MBX_OUT_CTRL p) 4 w s

end Sys2Proof.Machine
end

