-- ==== Sys2Proof/Machine/Glue.lean ====
section
/-!
DEFINITION. Operations that join several units: what a command's own unit does, with what the other units do at the same event.
-/
namespace Sys2Proof.Machine

/-- A read, or a write of a word, of one register. -/
def accessAs (o : Origin) (a : Nat) (w : Option Word) (s : State) : State :=
  match w with
  | some w => writeAs o a 4 w s
  | none => readAs o a 4 s

/-- No command waits: one cycle of the time-of-day counter passes (R220). -/
def idle (s : State) : Host.Outcome State Fault Refusal := outcome s (todRun 1)

/-! ### Wells and updates -/

/-- A block slot ends before its pump has delivered (R45): the pump of a working slot is faulted, and its blocks from number `blk` of the
frame in progress on leave as erasures. -/
def slotMissed (n : Fin 8) (m : Fin 64) (blk : Nat) (s : State) : State :=
  if pumpRole s n m = 1 ∨ pumpRole s n m = 2 then pumpFault n m .deadline blk (modPump n m (fun p => { p with slack := 0 }) s) else s

/-- What the lane's tables and targets follow when a side of its well has changed bank (R101, R145): the detection table in use, and the
atlas whose context or target has changed. -/
def bankFollows (n : Fin 8) (old s : State) : State := detFollow n (atlasRetarget n old s)

/-- WELL_RESTART (R48, R55, R60, R127, R292): the well restarts, a distillation in progress is dropped, parameters that a forced
switch brought take effect, and the well of a switch-over is checked. pz_adapt runs again on the sums of its epoch (R105). -/
def wellRestarted (n : Fin 8) (cw frames : Nat) (s : State) : State :=
  if !s.well[n].restarting then s
  else
    let s2 := sideParamsFollow n false s (sideParamsFollow n true s (atlasWellRestart n (wellRestart n cw frames s)))
    updWellCheck true n (bankFollows n s s2)

/-- RECIPE_LOAD_DONE (R53, R292): a switch-over that waited for its wells' loads goes on. -/
def loadFinished (n : Fin 8) (bad : List (Fin 64)) (s : State) : State := updNext (recipeLoadDone n bad s)

/-- BANK_SWITCH_SIDE (R55, R292). -/
def sideSwitched (n : Fin 8) (rx : Bool) (s : State) : State :=
  updWellCheck false n (bankFollows n s (bankSwitchStep n rx s))

/-- KEEPER_READY (R293). -/
def keeperBack (k : Fin 3) (s : State) : State := keeperReady k s

/-! ### Received headers -/

/-- FRAME_HEADER_RECEIVE (R156, R184, R186): what the loss of frame or a deskew error means for the host side follows at once. -/
def headerReceived (n : Fin 8) (pos skew : Nat) (s : State) : State :=
  if profileEff s ≠ .deep ∨ !s.line[n].rxRun then s else hostFollow (frameHeader n pos skew s)

/-! ### Faults of blocks -/

/-- BLOCK_FAULT and CROSSING_FAULT: a keeper's fault also counts as the failed switch of a pair that is being switched (R294). -/
def blockFaultAs (b : Block) (lanes : Nat) (tx : Bool) (poison : Nat) (quick : Bool) (s : State) : State :=
  match b with
  | .keeper k => keeperFault k .own s
  | b => blockFault b lanes tx poison quick s
def crossingFaultAs (b : Block) (lanes : Nat) (tx : Bool) (poison : Nat) (s : State) : State :=
  match b with
  | .keeper k => keeperFault k .crossing s
  | b => crossingFault b lanes tx poison s

/-! ### Seep frames -/

/-- SEEP_TX_FRAME_START (R209, R215): on an enabled lane the frame is filled, and the start of a Seep-L frame that is sent is
timestamped. -/
def seepTxStart (n : Fin 8) (s : State) : State :=
  if !seepEn s n then s
  else
    let s := seepTxFrame n s
    if lenOut s n then ttSeepTx n s else s

/-- SEEP_RX_FRAME (R203, R215): the start of a Seep-L frame whose tag is accepted is timestamped. -/
def seepRxArrive (n : Fin 8) (f : SRxFrame) (age : Nat) (s : State) : State :=
  let s := seepRxFrame n f s
  if f.modeL && seepEn s n && s.seepLn[n].rxTag.isSome then ttSeepRx n (foundTag f / 8) age s else s

/-- GATEWAY_GO (R216). -/
def gatewayGoAs (o : Origin) (l : Fin 8) (s : State) : State :=
  let w := F.SEEP_GW_CTL_LANE.put (keepWord s R.SEEP_GW_CTL) l.val
  writeAs o R.SEEP_GW_CTL 4 (withBit F.SEEP_GW_CTL_GO w) s

/-! ### Time -/

/-- Work of K2 on the oscillator model: FREQ_ADJ and the ledger hold until K2 resumes from a restart (R238, R240). While K2 switches in an
update, K1 does it (R293). -/
def k2Work (g : State → State) (s : State) : State := when (pairServes s 2 || (pairSwitching s 2 && pairServes s 1)) g s

/-- PPS_IN_EDGE (R247, R353): a rising edge is also an edge wake event where its source is enabled. -/
def ppsEdge (age : Nat) (s : State) : State := ppsWake (ppsInEdge age s)

/-! ### The cistern -/

/-- A read of the cistern, through the register fabric or by a requester inside the device, that meets `f` (R259, R260). -/
def cisternReadOne (q : CisReq) (a k : Nat) (f : CisFault) (s : State) : State :=
  match q with
  | .bus o =>
    let s := fabricTurn o s
    match accessCode s o a k none false with
    | some c => answer s o { code := c } (recordFor o c a s)
    | none =>
      if inAperture a then
        let (c, d, t) := cisLoad q.code o.isHost a k f s
        answer s o { code := c, data := d } (recordFor o c a t)
      else readNow o a k s
  | _ =>
    let (c, _, s) := cisLoad q.code false a k f s
    if c = .ecc then cisReadFails q a s else s

/-- A write of the cistern (R263). -/
def cisternWriteOne (q : CisReq) (a k v : Nat) (s : State) : State :=
  match q with
  | .bus o => writeAs o a k (word v) s
  | _ => (aperturePut false a k v s).2

/-- One access of at most 32 bits. -/
def cisternOne (s : State) (x : CisAccess) : State :=
  match x.w with
  | some v => cisternWriteOne x.q x.a x.k v s
  | none => cisternReadOne x.q x.a x.k x.f s

/-- What the second read of a word finds after the first: an uncorrectable error stands, a correctable one was written back (R259). -/
def CisFault.again : CisFault → CisFault
  | .uncorr false h => .uncorr false h
  | _ => .none

/-- The 32-bit accesses of an access: an aligned one of 64 bits by a requester inside the device is split, lower address first (R255). -/
def cisHalves (x : CisAccess) : List CisAccess :=
  if x.k = 8 ∧ x.a % 8 = 0 ∧ !x.q.isHost then
    [{ x with k := 4, w := x.w.map (· % 2 ^ 32) },
     { x with k := 4, a := x.a + 4, w := x.w.map (· / 2 ^ 32), f := x.f.again }]
  else [x]

/-- What the requester got last. -/
def answered (q : CisReq) (s : State) : List Resp := match q with | .bus o => s.resp[o.idx] | _ => []

/-- The accesses of a split one, whose requester gets both answers. -/
def cisternHalf (s : State) (x : CisAccess) : State :=
  match cisHalves x with
  | [a, b] =>
    let s := cisternOne s a
    let t := cisternOne s b
    match x.q with
    | .bus o => respond o (answered x.q s ++ answered x.q t) t
    | _ => t
  | _ => cisternOne s x

/-- One access that has its grant; those of requesters inside the device stall while the interface retrains (R36). -/
def cisternServe (s : State) (x : CisAccess) : State :=
  if cisStalls s x.q && inAperture x.a then modCis (fun c => { c with stalled := c.stalled ++ [x] }) s
  else cisternHalf s x

/-- Accesses that request together are granted one by one in the arbiter's order (R26). -/
def cisternServeAll (l : List CisAccess) (s : State) : State := (cisOrder l.length [] l).foldl cisternServe s

/-- CISTERN_READ and CISTERN_WRITE (R26): `others` request at the same time. -/
def cisternReadAs (q : CisReq) (a k : Nat) (f : CisFault) (others : List CisAccess) (s : State) : State :=
  cisternServeAll ({ q := q, a := a, k := k, f := f } :: others) s
def cisternWriteAs (q : CisReq) (a k v : Nat) (others : List CisAccess) (s : State) : State :=
  cisternServeAll ({ q := q, a := a, k := k, w := some v } :: others) s

/-- REGISTER_WRITE (R307): a keeper's access to the aperture stalls like every other while the interface retrains. -/
def registerWriteAs (o : Origin) (a size : Nat) (w : Word) (s : State) : State :=
  if inAperture a then cisternServe s { q := .bus o, a := a, k := size, w := some w.toNat } else writeAs o a size w s

/-- Accesses that stalled are served (R36). -/
def stalledServe (s : State) : State :=
  if cisStalls s .mirror then s else cisternServeAll s.cis.stalled (modCis (fun c => { c with stalled := [] }) s)

/-- REGION_REACTION_DONE (R36), and CISTERN_RETRAIN_DONE (R262): the interface is trained again, and requesters that stalled go on. -/
def regionFinished (r : Region) (inTime : Bool) (s : State) : State := stalledServe (regionDone r inTime s)
def retrainDone (s : State) : State := regionFinished .cistern true s

/-- A command that reads or writes the cistern. -/
def usesCistern : Instr → Bool
  | .cisternRead .. | .cisternWrite .. | .mergeEntryAge .. | .captureSegmentDrained | .scrubBgLapDone _ | .zeroiseDone
  | .atlasMissFill .. | .atlasReadDone .. | .atlasUpdate _ | .distilDone _ | .journalMirrorWrite | .holdoverEntry _ | .ledgerRecord _
  | .modelRefit _ | .holdoverPrediction _ | .mbxImageBlock _ => true
  | .registerWrite _ a _ _ | .portSRead a _ | .portSWrite a _ | .jtagDebugAccess a _ => inAperture a
  | _ => false

/-- Another class than the scrubber's requests the cistern: a command, a word in a write queue, or an access that stalled. -/
def cisternWaits (s : State) : Bool :=
  s.pending.any usesCistern || (s.port.qS ++ s.port.qI).any (fun w => inAperture w.addr) || !s.cis.stalled.isEmpty

/-- PATROL_LINE_READ (R26, R264): the scrubber takes only cycles in which no other class requests. -/
def patrolReadAs (f : Vector CisFault 4) (s : State) : State := if cisternWaits s then s else patrolRead f s

/-- REMAP_COMMAND (R261). -/
def remapAs (o : Origin) (line : Nat) (s : State) : State :=
  let w := F.CIS_REMAP_CMD_LINE_ADDR.put (keepWord s R.CIS_REMAP_CMD) line
  writeAs o R.CIS_REMAP_CMD 4 (withBit F.CIS_REMAP_CMD_GO w) s

/-- ZEROISE_GO (R271). -/
def zeroiseAs (o : Origin) (mirror : Bool) (s : State) : State :=
  let w := F.CIS_ZERO_MIRROR.put (keepWord s R.CIS_ZERO) (b2n mirror)
  writeAs o R.CIS_ZERO 4 (withBit F.CIS_ZERO_GO w) s

/-- ZEROISE_DONE (R271, R379): a zeroisation of journal payloads ends with it, unless the opening of a debug level waits for it. -/
def zeroiseFinished (s : State) : State :=
  if s.saf.jnlZero then (if s.sec.want.isSome then s else jnlZeroiseEnd s) else zeroDone s

/-! ### Start-up -/

/-- BOOT_FAIL_RECOVER (R289): SWITCH in BOOT_FAIL, and the start that goes on with the staged image. -/
def recoverAs (o : Origin) (d : BootData) (s : State) : State :=
  let s := writeFld o R.BOOT_STAGE_CTRL F.BOOT_STAGE_CTRL_SWITCH 1 s
  if s.boot.recover then coldStart d s else s

/-! ### Semaphores -/

/-- SEM_CLAIM (R27, R317): requesters that read one semaphore in the same cycle are served in the fixed order of the fabric, Port J
through the front end of Port S. -/
def semClaims (l : List Origin) (k : Fin 16) (s : State) : State :=
  ([Origin.portS, .portJ, .portI, .portF, .k0, .k1, .k2].filter (l.contains ·)).foldl (fun s o => readAs o (R.CHIP_SEM k) 4 s) s

/-! ### Mailboxes -/

/-- MBX_IN_FLOW_READ (R320): the keeper reads the last word of the inbound message. -/
def keeperReads (k p : Fin 3) (s : State) : State := readAs (keeperOrigin k) (R.MBX_DATA p (mbxLen s p - 1)) 4 s

/-- MBX_OUT_FLOW_READ (R320): the host reads the last word of the outbound message. -/
def hostReads (p : Fin 3) (s : State) : State :=
  readAs (portOrigin p) (R.MBX_DATA p (s.fld (R.MBX_OUT_CTRL p) F.MBX_OUT_CTRL_LEN - 1)) 4 s

/-! ### Interrupts -/

/-- IRQ_SOURCE_ASSERT (R334): a source whose members are set is routed to a keeper, whose request is asserted, or stays pending. The
request itself follows every command. -/
def sourceAssert (id : Nat) (s : State) : State := if asserted s id then requestsFollow s else s

/-! ### Sleep -/

/-- A register write by a host during the commit window. -/
def hostWrite (x : HostWrite) (s : State) : State := writeAs (portOrigin x.port) x.addr 4 (word x.data) s

/-- SLEEP_PREPARE_DONE (R350 steps 4 to 6): every block has accepted and prepared; the writes that hosts make and the PPS edge that
comes in the commit window, and then the target state. -/
def sleepEnter (writes : List HostWrite) (pps : Bool) (s : State) : State :=
  match s.pwr.entry with
  | none => s
  | some e =>
    if !e.delays.isEmpty then s
    else
      let s := writes.foldl (fun s x => hostWrite x s) (commitOpen e.target s)
      let s := if pps then ppsWake s else s
      if s.pwr.entry.isSome then observeClose e.target (stateEnter e.target s) else s

/-- SLEEP_EXIT_DONE (R354, R408): a debug request that waited for the wake starts its steps. -/
def sleepExit (cal : Vector CalResult 8) (s : State) : State :=
  let s := exitDone cal s
  if s.pwr.exiting then s else openAfterWake (heldWrite s)

/-! ### Temperature -/

/-- THERMAL_SAMPLE_DONE (R389): when the vent acts, every domain but the always-on island is held in reset. -/
def sampleFinished (rd : Vector (Option Int) 36) (s : State) : State :=
  let t := sampleDone rd s
  if t.vent && !s.vent then domainReset t else t

/-! ### Debug -/

/-- DEBUG_OPEN (R406). -/
def debugOpenAs (o : Origin) (level : Fin 4) (s : State) : State :=
  let w := F.SEC_DBG_CTRL_LEVEL.put (keepWord s R.SEC_DBG_CTRL) level.val
  writeAs o R.SEC_DBG_CTRL 4 (withBit F.SEC_DBG_CTRL_OPEN w) s

/-- JTAG_DBG_REQ (R406): the code goes to Port J. -/
def debugRequest (level : Fin 4) (s : State) : State :=
  respond .portJ [{ code := openCode s level.val 2 }] (debugOpen level.val 2 s)

/-- JTAG_IDCODE (R410): the identity shifts out. -/
def idcodeShift (s : State) : State := respond .portJ [{ data := 0xB0816A3D }] (scanLoad .idcode s)

/-- JTAG_SAMPLE_PRELOAD (R410). -/
def samplePreload (l : List (Nat × Bool)) (s : State) : State := cellsPut l (scanLoad .sample s)

end Sys2Proof.Machine
end

