-- ==== Sys2Proof/Machine/Acquisition.lean ====
section
/-!
DEFINITION. Acquisition and adaptation of the receive chain: the meanings of acqTimingTimeout to adaptUpdateDone, in the order of the command table.
-/
namespace Sys2Proof.Machine

/-- ACQ_TIMING_TIMEOUT (R111). -/
def execAcqTimingTimeout (n : Fin 8) (s : State) : Host.Outcome State Fault Refusal :=
  outcome s (Machine.acqTimingTimeout n)

/-- ACQ_ADAPT_TIMEOUT (R111). -/
def execAcqAdaptTimeout (n : Fin 8) (s : State) : Host.Outcome State Fault Refusal :=
  outcome s (Machine.acqAdaptTimeout n)

/-- HOLD_TIMEOUT (R112). -/
def execHoldTimeout (n : Fin 8) (s : State) : Host.Outcome State Fault Refusal :=
  outcome s (Machine.holdTimeout n)

/-- RX_LOSS_OF_LOCK (R113). -/
def execRxLossOfLock (n : Fin 8) (s : State) : Host.Outcome State Fault Refusal :=
  outcome s (rxLossOfLockStep n)

/-- RX_RESTART (R117). -/
def execRxRestart (o : Origin) (n : Fin 8) (v : Word) (s : State) : Host.Outcome State Fault Refusal :=
  outcome s (writeAs o (R.WELL_RX_CTRL n) 4 (withBit F.WELL_RX_CTRL_RESTART v))

/-- REACH_SELECT (R115). -/
def execReachSelect (o : Origin) (n : Fin 8) (v : Word) (s : State) : Host.Outcome State Fault Refusal :=
  outcome s (writeAs o (R.WELL_RX_CTRL n) 4 v)

/-- ADAPT_UPDATE_DONE (R106). -/
def execAdaptUpdateDone (n : Fin 8) (s : State) : Host.Outcome State Fault Refusal :=
  outcome s (Machine.adaptUpdateDone n)

end Sys2Proof.Machine
end

