-- ==== Sys2Proof/Machine/Converters.lean ====
section
/-!
DEFINITION. Lane PLLs, signal detection and converter calibration: the meanings of lanePllLock to piManual, in the order of the command table.
-/
namespace Sys2Proof.Machine

/-- LANE_PLL_LOCK (R75). -/
def execLanePllLock (n : Fin 8) (s : State) : Host.Outcome State Fault Refusal :=
  outcome s (Machine.lanePllLock n)

/-- LANE_PLL_LOL (R75). -/
def execLanePllLol (n : Fin 8) (s : State) : Host.Outcome State Fault Refusal :=
  outcome s (Machine.lanePllLol n)

/-- SIGNAL_DETECT (R71). -/
def execSignalDetect (n : Fin 8) (s : State) : Host.Outcome State Fault Refusal :=
  outcome s (Machine.signalDetect n)

/-- SIGNAL_LOSS (R71). -/
def execSignalLoss (n : Fin 8) (s : State) : Host.Outcome State Fault Refusal :=
  outcome s (Machine.signalLoss n)

/-- CONVERTER_CAL_DONE (R80). -/
def execConverterCalDone (n : Fin 8) (c : CalResult) (s : State) : Host.Outcome State Fault Refusal :=
  outcome s (calDone n c)

/-- FOREGROUND_CAL_GO (R84). -/
def execForegroundCalGo (o : Origin) (v : Word) (s : State) : Host.Outcome State Fault Refusal :=
  outcome s (writeAs o R.LINE_CAL_CMD 4 (withBit F.LINE_CAL_CMD_GO v))

/-- PI_MANUAL (R78). -/
def execPiManual (o : Origin) (n : Fin 8) (on : Bool) (s : State) : Host.Outcome State Fault Refusal :=
  outcome s (writeFld o (R.LINE_PI n) F.LINE_PI_MANUAL (b2n on))

end Sys2Proof.Machine
end

