-- ==== Sys2Proof/Machine/Debug.lean ====
section
/-!
DEFINITION. Lifecycle, debug levels and boundary scan: the meanings of lifecycleTransition to jtagTestLogicReset, in the order of the command table.
-/
namespace Sys2Proof.Machine

/-- LIFECYCLE_TRANSITION (R402). -/
def execLifecycleTransition (o : Origin) (v : Word) (s : State) : Host.Outcome State Fault Refusal :=
  outcome s (writeAs o R.SEC_LC_CMD 4 (withBit F.SEC_LC_CMD_GO v))

/-- LIFECYCLE_BURN_DONE (R402). -/
def execLifecycleBurnDone (bad : Option (Fin 3)) (s : State) : Host.Outcome State Fault Refusal :=
  outcome s (lifecycleDone bad)

/-- DEBUG_OPEN (R406). -/
def execDebugOpen (o : Origin) (level : Fin 4) (s : State) : Host.Outcome State Fault Refusal :=
  outcome s (debugOpenAs o level)

/-- DEBUG_OPEN_DONE (R406). -/
def execDebugOpenDone (s : State) : Host.Outcome State Fault Refusal :=
  outcome s (Machine.debugOpenDone)

/-- DEBUG_CLOSE (R407). -/
def execDebugClose (o : Origin) (s : State) : Host.Outcome State Fault Refusal :=
  outcome s (writeFld o R.SEC_DBG_CTRL F.SEC_DBG_CTRL_CLOSE 1)

/-- JTAG_DBG_REQ (R406). -/
def execJtagDbgReq (level : Fin 4) (s : State) : Host.Outcome State Fault Refusal :=
  outcome s (debugRequest level)

/-- JTAG_DBG_CLOSE (R407). -/
def execJtagDbgClose (s : State) : Host.Outcome State Fault Refusal :=
  outcome s (Machine.debugClose)

/-- TRST_ASSERT (R407). -/
def execTrstAssert (s : State) : Host.Outcome State Fault Refusal :=
  outcomePin s (Machine.trstAssert)

/-- JTAG_DEBUG_ACCESS (R405). -/
def execJtagDebugAccess (a : Nat) (w : Option Word) (s : State) : Host.Outcome State Fault Refusal :=
  outcome s (jtagAccess a w)

/-- JTAG_BYPASS (R410). -/
def execJtagBypass (s : State) : Host.Outcome State Fault Refusal :=
  outcome s (scanLoad .bypass)

/-- JTAG_IDCODE (R410). -/
def execJtagIdcode (s : State) : Host.Outcome State Fault Refusal :=
  outcome s (idcodeShift)

/-- JTAG_SAMPLE_PRELOAD (R410). -/
def execJtagSamplePreload (l : List (Nat × Bool)) (s : State) : Host.Outcome State Fault Refusal :=
  outcome s (samplePreload l)

/-- JTAG_EXTEST (R411). -/
def execJtagExtest (s : State) : Host.Outcome State Fault Refusal :=
  outcome s (scanLoad .extest)

/-- JTAG_CLAMP (R411). -/
def execJtagClamp (s : State) : Host.Outcome State Fault Refusal :=
  outcome s (scanLoad .clamp)

/-- JTAG_HIGHZ (R411). -/
def execJtagHighz (s : State) : Host.Outcome State Fault Refusal :=
  outcome s (scanLoad .highz)

/-- JTAG_EXTEST_PULSE (R411). -/
def execJtagExtestPulse (s : State) : Host.Outcome State Fault Refusal :=
  outcome s (scanLoad .extestPulse)

/-- JTAG_EXTEST_TRAIN (R411). -/
def execJtagExtestTrain (s : State) : Host.Outcome State Fault Refusal :=
  outcome s (scanLoad .extestTrain)

/-- JTAG_TEST_LOGIC_RESET (R411). -/
def execJtagTestLogicReset (s : State) : Host.Outcome State Fault Refusal :=
  outcome s (scanEnd .idcode)

end Sys2Proof.Machine
end

