-- ==== Sys2Proof/Machine/Framing.lean ====
section
/-!
DEFINITION. Profile changes, framing and decoding: the meanings of profileApply to octCodeword, in the order of the command table.
-/
namespace Sys2Proof.Machine

/-- PROFILE_APPLY (R149). -/
def execProfileApply (o : Origin) (v : Word) (s : State) : Host.Outcome State Fault Refusal :=
  outcome s (writeAs o R.FEC_PROFILE 4 (withBit F.FEC_PROFILE_APPLY v))

/-- PROFILE_CHANGE_DONE (R168). -/
def execProfileChangeDone (s : State) : Host.Outcome State Fault Refusal :=
  outcome s (profileDone)

/-- FRAME_HEADER_RECEIVE (R156). -/
def execFrameHeaderReceive (n : Fin 8) (pos : Nat) (skew : Nat) (s : State) : Host.Outcome State Fault Refusal :=
  outcome s (headerReceived n pos skew)

/-- CODEWORD_ASSEMBLED (R161). -/
def execCodewordAssembled (n : Fin 8) (s : State) : Host.Outcome State Fault Refusal :=
  outcome s (Machine.codewordAssembled n)

/-- DECODE_WINDOW_END (R161). -/
def execDecodeWindowEnd (n : Fin 8) (s : State) : Host.Outcome State Fault Refusal :=
  outcome s (Machine.decodeWindowEnd n)

/-- OCT_CODEWORD (R165). -/
def execOctCodeword (n : Fin 8) (s : State) : Host.Outcome State Fault Refusal :=
  outcome s (Machine.octCodeword n)

end Sys2Proof.Machine
end

