-- ==== Sys2Proof/Machine/HostLanes.lean ====
section
/-!
DEFINITION. Host lanes and KP4 monitors: the meanings of hostLaneEnable to kp4Clear, in the order of the command table.
-/
namespace Sys2Proof.Machine

/-- HOST_LANE_ENABLE (R179). -/
def execHostLaneEnable (o : Origin) (n : Fin 8) (on : Bool) (s : State) : Host.Outcome State Fault Refusal :=
  outcome s (writeFld o (R.HOST_LN_CFG n) F.HOST_LN_CFG_EN (b2n on))

/-- HOST_SIGNAL_DETECT (R179). -/
def execHostSignalDetect (n : Fin 8) (s : State) : Host.Outcome State Fault Refusal :=
  outcome s (hostSignal n)

/-- HOST_LOS (R179). -/
def execHostLos (n : Fin 8) (s : State) : Host.Outcome State Fault Refusal :=
  outcome s (Machine.hostLos n)

/-- HOST_CDR_LOCK (R179). -/
def execHostCdrLock (n : Fin 8) (ctle : Nat) (ofs : Int) (s : State) : Host.Outcome State Fault Refusal :=
  outcome s (Machine.hostCdrLock n ctle ofs)

/-- HOST_CDR_LOL (R179). -/
def execHostCdrLol (n : Fin 8) (s : State) : Host.Outcome State Fault Refusal :=
  outcome s (Machine.hostCdrLol n)

/-- HOST_FREQ_ERR (R178). -/
def execHostFreqErr (n : Fin 8) (ofs : Int) (s : State) : Host.Outcome State Fault Refusal :=
  outcome s (Machine.hostFreqErr n ofs)

/-- HOST_TRAIN_FRAMES (R180). -/
def execHostTrainFrames (n : Fin 8) (s : State) : Host.Outcome State Fault Refusal :=
  outcome s (Machine.hostTrainFrames n)

/-- HOST_TRAIN_NOPEER (R179). -/
def execHostTrainNopeer (n : Fin 8) (s : State) : Host.Outcome State Fault Refusal :=
  outcome s (hostTrainNoPeer n)

/-- HOST_COEFF_REQUEST (R182). -/
def execHostCoeffRequest (n : Fin 8) (q : CoefReq) (s : State) : Host.Outcome State Fault Refusal :=
  outcome s (hostCoefRequest n q)

/-- HOST_COEFF_STATUS (R181). -/
def execHostCoeffStatus (n : Fin 8) (r : CoefStatus) (s : State) : Host.Outcome State Fault Refusal :=
  outcome s (hostCoefStatus n r)

/-- HOST_TRIAL_MEASURE_DONE (R181). -/
def execHostTrialMeasureDone (n : Fin 8) (sum : Nat) (cnt : Nat) (s : State) : Host.Outcome State Fault Refusal :=
  outcome s (hostTrialDone n sum cnt)

/-- HOST_TRAIN_DONE (R181). -/
def execHostTrainDone (n : Fin 8) (s : State) : Host.Outcome State Fault Refusal :=
  outcome s (Machine.hostTrainDone n)

/-- HOST_TRAIN_TIMEOUT (R181). -/
def execHostTrainTimeout (n : Fin 8) (s : State) : Host.Outcome State Fault Refusal :=
  outcome s (Machine.hostTrainTimeout n)

/-- HOST_RETRAIN (R179). -/
def execHostRetrain (o : Origin) (n : Fin 8) (s : State) : Host.Outcome State Fault Refusal :=
  outcome s (writeFld o (R.HOST_LN_CFG n) F.HOST_LN_CFG_RETRAIN 1)

/-- HOST_POLARITY_CHANGE (R175). -/
def execHostPolarityChange (o : Origin) (n : Fin 8) (rx : Bool) (inv : Bool) (s : State) : Host.Outcome State Fault Refusal :=
  outcome s (writeFld o (R.HOST_LN_CFG n) (if rx then F.HOST_LN_CFG_RX_POL else F.HOST_LN_CFG_TX_POL) (b2n inv))

/-- HOST_MAP_WRITE (R174). -/
def execHostMapWrite (o : Origin) (rx : Bool) (v : Word) (s : State) : Host.Outcome State Fault Refusal :=
  outcome s (writeAs o (if rx then R.HOST_RX_MAP else R.HOST_TX_MAP) 4 v)

/-- HOST_TEST_MODE (R189). -/
def execHostTestMode (o : Origin) (v : Word) (s : State) : Host.Outcome State Fault Refusal :=
  outcome s (writeAs o R.HOST_CTRL 4 v)

/-- KP4_AM_RECEIVE (R186). -/
def execKp4AmReceive (p : Fin 8) (d : Fin 2) (k : Fin 8) (found : Bool) (s : State) : Host.Outcome State Fault Refusal :=
  outcome s (amReceive p d k found)

/-- KP4_MONITOR_CODEWORD (R187). -/
def execKp4MonitorCodeword (p : Fin 8) (d : Fin 2) (s : State) : Host.Outcome State Fault Refusal :=
  outcome s (monCodeword p d)

/-- KP4_DEGRADE_WINDOW (R188). -/
def execKp4DegradeWindow (p : Fin 8) (d : Fin 2) (s : State) : Host.Outcome State Fault Refusal :=
  outcome s (monWindow p d)

/-- KP4_SNAP (R187). -/
def execKp4Snap (o : Origin) (ports : Nat) (s : State) : Host.Outcome State Fault Refusal :=
  outcome s (writeFld o R.HOST_MON_SNAP F.HOST_MON_SNAP_SNAP ports)

/-- KP4_CLEAR (R187). -/
def execKp4Clear (o : Origin) (ports : Nat) (s : State) : Host.Outcome State Fault Refusal :=
  outcome s (writeFld o R.HOST_MON_SNAP F.HOST_MON_SNAP_CLEAR ports)

end Sys2Proof.Machine
end

