-- ==== Sys2Proof/Machine/Interrupts.lean ====
section
/-!
DEFINITION. Keeper interrupts, keeper faults and watchdogs: the meanings of irqSourceAssert to watchdogExpiry, in the order of the command table.
-/
namespace Sys2Proof.Machine

/-- IRQ_SOURCE_ASSERT (R334). -/
def execIrqSourceAssert (id : Nat) (s : State) : Host.Outcome State Fault Refusal :=
  outcome s (sourceAssert id)

/-- IRQ_CLAIM (R335). -/
def execIrqClaim (k : Fin 3) (s : State) : Host.Outcome State Fault Refusal :=
  outcome s (readAs (keeperOrigin k) (R.KIC_CLAIM k) 4)

/-- IRQ_EOI (R336). -/
def execIrqEoi (k : Fin 3) (id : Nat) (s : State) : Host.Outcome State Fault Refusal :=
  outcome s (writeAs (keeperOrigin k) (R.KIC_EOI k) 4 (word (id % 1024)))

/-- KIC_MODE_WRITE (R338). -/
def execKicModeWrite (k : Fin 3) (v : Word) (s : State) : Host.Outcome State Fault Refusal :=
  outcome s (writeAs (keeperOrigin k) (R.KIC_MODE k) 4 v)

/-- KEEPER_FAULT (R332). -/
def execKeeperFault (k : Fin 3) (c : KeeperCause) (s : State) : Host.Outcome State Fault Refusal :=
  outcome s (Machine.keeperFault k c.mech)

/-- WATCHDOG_KICK (R370). -/
def execWatchdogKick (k : Fin 3) (s : State) : Host.Outcome State Fault Refusal :=
  outcome s (writeAs (keeperOrigin k) R.SAF_WD_KICK 4 (word (2 ^ k.val)))

/-- WATCHDOG_EXPIRY (R370). -/
def execWatchdogExpiry (k : Fin 3) (s : State) : Host.Outcome State Fault Refusal :=
  outcome s (wdExpiry k)

end Sys2Proof.Machine
end

