-- ==== Sys2Proof/Machine/Laser.lean ====
section
/-!
DEFINITION. Laser enable: the meanings of lenEnSet to lenSettleExpiry, in the order of the command table.
-/
namespace Sys2Proof.Machine

/-- LEN_EN_SET (R89). -/
def execLenEnSet (o : Origin) (n : Fin 8) (s : State) : Host.Outcome State Fault Refusal :=
  outcome s (writeAs o R.LINE_LEN_CTRL 4 (maskedBits (2 ^ n.val) true))

/-- LEN_EN_CLEAR (R89). -/
def execLenEnClear (o : Origin) (n : Fin 8) (s : State) : Host.Outcome State Fault Refusal :=
  outcome s (writeAs o R.LINE_LEN_CTRL 4 (maskedBits (2 ^ n.val) false))

/-- TXDIS_ASSERT (R89). -/
def execTxdisAssert (s : State) : Host.Outcome State Fault Refusal :=
  outcomePin s (Machine.txdisAssert)

/-- TXDIS_DEASSERT (R89). -/
def execTxdisDeassert (s : State) : Host.Outcome State Fault Refusal :=
  outcomePin s (Machine.txdisDeassert)

/-- TXDIS_FILT_EXPIRY (R89). -/
def execTxdisFiltExpiry (s : State) : Host.Outcome State Fault Refusal :=
  outcome s (Machine.txdisFiltExpiry)

/-- LEN_SETTLE_EXPIRY (R89). -/
def execLenSettleExpiry (n : Fin 8) (s : State) : Host.Outcome State Fault Refusal :=
  outcome s (Machine.lenSettleExpiry n)

end Sys2Proof.Machine
end

