-- ==== Sys2Proof/Machine/Memory.lean ====
section
/-!
DEFINITION. The cistern, scrubbing, captures and zeroisation: the meanings of cisternRead to zeroiseDone, in the order of the command table.
-/
namespace Sys2Proof.Machine

/-- CISTERN_READ (R259). -/
def execCisternRead (q : CisReq) (a : Nat) (k : Nat) (f : CisFault) (others : List CisAccess) (s : State) : Host.Outcome State Fault Refusal :=
  outcome s (cisternReadAs q a k f others)

/-- CISTERN_WRITE (R263). -/
def execCisternWrite (q : CisReq) (a : Nat) (k : Nat) (v : Nat) (others : List CisAccess) (s : State) : Host.Outcome State Fault Refusal :=
  outcome s (cisternWriteAs q a k v others)

/-- MERGE_ENTRY_AGE (R263). -/
def execMergeEntryAge (line : Nat) (f : Vector CisFault 4) (s : State) : Host.Outcome State Fault Refusal :=
  outcome s (mergeAge line f)

/-- PATROL_LINE_READ (R264). -/
def execPatrolLineRead (f : Vector CisFault 4) (s : State) : Host.Outcome State Fault Refusal :=
  outcome s (patrolReadAs f)

/-- SCRUB_LAP_LIMIT (R265). -/
def execScrubLapLimit (s : State) : Host.Outcome State Fault Refusal :=
  outcome s (lapLimit)

/-- SCRUB_BG_GO (R265). -/
def execScrubBgGo (o : Origin) (v : Word) (s : State) : Host.Outcome State Fault Refusal :=
  outcome s (writeAs o R.CIS_SCRUB_CFG 4 (withBit F.CIS_SCRUB_CFG_BG_GO v))

/-- SCRUB_BG_LAP_DONE (R265). -/
def execScrubBgLapDone (found : List (Nat × CisFault)) (s : State) : Host.Outcome State Fault Refusal :=
  outcome s (engineDone found)

/-- REFRESH_TICK (R266). -/
def execRefreshTick (s : State) : Host.Outcome State Fault Refusal :=
  outcome s (Machine.refreshTick)

/-- REFRESH_RATE_POLL (R266). -/
def execRefreshRatePoll (rate : Nat) (s : State) : Host.Outcome State Fault Refusal :=
  outcome s (refreshPoll rate)

/-- REMAP_COMMAND (R261). -/
def execRemapCommand (o : Origin) (line : Nat) (s : State) : Host.Outcome State Fault Refusal :=
  outcome s (remapAs o line)

/-- CISTERN_ERROR_BURST (R262). -/
def execCisternErrorBurst (lockLoss : Bool) (s : State) : Host.Outcome State Fault Refusal :=
  outcome s (errorBurst lockLoss)

/-- CISTERN_RETRAIN_DONE (R36). -/
def execCisternRetrainDone (s : State) : Host.Outcome State Fault Refusal :=
  outcome s (retrainDone)

/-- CAPTURE_GO (R269). -/
def execCaptureGo (o : Origin) (v : Word) (s : State) : Host.Outcome State Fault Refusal :=
  outcome s (writeAs o R.CIS_CAP_CTRL 4 (withBit F.CIS_CAP_CTRL_GO v))

/-- CAPTURE_SEGMENT (R269). -/
def execCaptureSegment (samples : List Nat) (st : Strobe) (s : State) : Host.Outcome State Fault Refusal :=
  outcome s (Machine.captureSegment samples st)

/-- CAPTURE_SEGMENT_DRAINED (R269). -/
def execCaptureSegmentDrained (s : State) : Host.Outcome State Fault Refusal :=
  outcome s (captureDrained)

/-- CAPTURE_ABORT (R269). -/
def execCaptureAbort (o : Origin) (s : State) : Host.Outcome State Fault Refusal :=
  outcome s (writeFld o R.CIS_CAP_CTRL F.CIS_CAP_CTRL_ABORT 1)

/-- ZEROISE_GO (R271). -/
def execZeroiseGo (o : Origin) (mirror : Bool) (s : State) : Host.Outcome State Fault Refusal :=
  outcome s (zeroiseAs o mirror)

/-- ZEROISE_DONE (R271). -/
def execZeroiseDone (s : State) : Host.Outcome State Fault Refusal :=
  outcome s (zeroiseFinished)

end Sys2Proof.Machine
end

