-- ==== Sys2Proof/Machine/Messages.lean ====
section
/-!
DEFINITION. Semaphores, mailboxes and doorbells: the meanings of semClaim to doorbellTohostClear, in the order of the command table.
-/
namespace Sys2Proof.Machine

/-- SEM_CLAIM (R317). -/
def execSemClaim (l : List Origin) (k : Fin 16) (s : State) : Host.Outcome State Fault Refusal :=
  outcome s (semClaims l k)

/-- SEM_RELEASE (R317). -/
def execSemRelease (o : Origin) (k : Fin 16) (s : State) : Host.Outcome State Fault Refusal :=
  outcome s (writeAs o (R.CHIP_SEM k) 4 0)

/-- MBX_IN_GO (R320). -/
def execMbxInGo (p : Fin 3) (v : Word) (s : State) : Host.Outcome State Fault Refusal :=
  outcome s (writeAs (portOrigin p) (R.MBX_IN_CTRL p) 4 (withBit F.MBX_IN_CTRL_GO v))

/-- MBX_IN_ACK (R320). -/
def execMbxInAck (k : Fin 3) (p : Fin 3) (rc : Nat) (s : State) : Host.Outcome State Fault Refusal :=
  outcome s (writeAs (keeperOrigin k) (R.MBX_ACK p) 4 (word (rc % 65536)))

/-- MBX_IN_FLOW_READ (R320). -/
def execMbxInFlowRead (k : Fin 3) (p : Fin 3) (s : State) : Host.Outcome State Fault Refusal :=
  outcome s (keeperReads k p)

/-- MBX_OUT_POST (R320). -/
def execMbxOutPost (k : Fin 3) (p : Fin 3) (r : Reply) (s : State) : Host.Outcome State Fault Refusal :=
  outcome s (Machine.mbxOutPost k p r)

/-- MBX_OUT_FLOW_READ (R320). -/
def execMbxOutFlowRead (p : Fin 3) (s : State) : Host.Outcome State Fault Refusal :=
  outcome s (hostReads p)

/-- MBX_OUT_ACK (R320). -/
def execMbxOutAck (p : Fin 3) (rc : Nat) (s : State) : Host.Outcome State Fault Refusal :=
  outcome s (writeAs (portOrigin p) (R.MBX_OUT_ACK p) 4 (word (rc % 65536)))

/-- MBX_DATA_WRITE (R320). -/
def execMbxDataWrite (p : Fin 3) (i : Fin 16) (w : Word) (s : State) : Host.Outcome State Fault Refusal :=
  outcome s (writeAs (portOrigin p) (R.MBX_DATA p i) 4 w)

/-- MBX_MODE_APPLY (R319). -/
def execMbxModeApply (p : Fin 3) (s : State) : Host.Outcome State Fault Refusal :=
  outcome s (Machine.mbxModeApply p)

/-- MBX_ECHO (R322). -/
def execMbxEcho (p : Fin 3) (s : State) : Host.Outcome State Fault Refusal :=
  outcome s (Machine.mbxEcho p)

/-- MBX_READ (R322). -/
def execMbxRead (p : Fin 3) (silent : List Nat) (s : State) : Host.Outcome State Fault Refusal :=
  outcome s (Machine.mbxRead p silent)

/-- MBX_WRITE (R322). -/
def execMbxWrite (p : Fin 3) (silent : List Nat) (s : State) : Host.Outcome State Fault Refusal :=
  outcome s (Machine.mbxWrite p silent)

/-- MBX_IMAGE_BLOCK (R322). -/
def execMbxImageBlock (p : Fin 3) (s : State) : Host.Outcome State Fault Refusal :=
  outcome s (Machine.mbxImageBlock p)

/-- MBX_JOURNAL (R322). -/
def execMbxJournal (p : Fin 3) (s : State) : Host.Outcome State Fault Refusal :=
  outcome s (Machine.mbxJournal p)

/-- MBX_TELEMETRY (R322). -/
def execMbxTelemetry (p : Fin 3) (s : State) : Host.Outcome State Fault Refusal :=
  outcome s (Machine.mbxTelemetry p)

/-- MBX_VENDOR_OPCODE (R322). -/
def execMbxVendorOpcode (p : Fin 3) (rc : Nat) (reply : Option Reply) (s : State) : Host.Outcome State Fault Refusal :=
  outcome s (mbxVendor p rc reply)

/-- MBX_BAD_OPCODE (R322). -/
def execMbxBadOpcode (p : Fin 3) (s : State) : Host.Outcome State Fault Refusal :=
  outcome s (Machine.mbxBadOpcode p)

/-- DOORBELL_TODEV_SET (R324). -/
def execDoorbellTodevSet (p : Fin 3) (bits : Word) (s : State) : Host.Outcome State Fault Refusal :=
  outcome s (writeAs (portOrigin p) (R.MBX_DB_TODEV p) 4 bits)

/-- DOORBELL_TODEV_ACK (R324). -/
def execDoorbellTodevAck (k : Fin 3) (p : Fin 3) (bits : Word) (s : State) : Host.Outcome State Fault Refusal :=
  outcome s (writeAs (keeperOrigin k) (R.MBX_DB_TODEV_ACK p) 4 bits)

/-- DOORBELL_TOHOST_SET (R324). -/
def execDoorbellTohostSet (k : Fin 3) (p : Fin 3) (bits : Word) (s : State) : Host.Outcome State Fault Refusal :=
  outcome s (writeAs (keeperOrigin k) (R.MBX_DB_TOHOST_SET p) 4 bits)

/-- DOORBELL_TOHOST_CLEAR (R324). -/
def execDoorbellTohostClear (p : Fin 3) (bits : Word) (s : State) : Host.Outcome State Fault Refusal :=
  outcome s (writeAs (portOrigin p) (R.MBX_DB_TOHOST p) 4 bits)

end Sys2Proof.Machine
end

