-- ==== Sys2Proof/Machine/Patterns.lean ====
section
/-!
DEFINITION. The pattern atlas, distillation, pre-distortion and line-side training: the meanings of atlasSamplePick to detTableRead, in the order of the command table.
-/
namespace Sys2Proof.Machine

/-- ATLAS_SAMPLE_PICK (R122). -/
def execAtlasSamplePick (n : Fin 8) (s : State) : Host.Outcome State Fault Refusal :=
  outcome s (atlasPick n)

/-- ATLAS_UPDATE (R124). -/
def execAtlasUpdate (n : Fin 8) (s : State) : Host.Outcome State Fault Refusal :=
  outcome s (Machine.atlasUpdate n)

/-- ATLAS_MISS_FILL (R125). -/
def execAtlasMissFill (n : Fin 8) (i : Nat) (f : CisFault) (s : State) : Host.Outcome State Fault Refusal :=
  outcome s (atlasFill n i f)

/-- DISTIL_DONE (R128). -/
def execDistilDone (n : Fin 8) (s : State) : Host.Outcome State Fault Refusal :=
  outcome s (Machine.distilDone n)

/-- PD_BULK_SEGMENT_RECEIVE (R211). -/
def execPdBulkSegmentReceive (n : Fin 8) (s : State) : Host.Outcome State Fault Refusal :=
  outcome s (pdBulkReceive n)

/-- PD_UPDATE_STALL (R133). -/
def execPdUpdateStall (n : Fin 8) (s : State) : Host.Outcome State Fault Refusal :=
  outcome s (pdStall n)

/-- PD_TABLE_APPLY (R133). -/
def execPdTableApply (n : Fin 8) (s : State) : Host.Outcome State Fault Refusal :=
  outcome s (Machine.pdTableApply n)

/-- PD_ACK_RECEIVE (R134). -/
def execPdAckReceive (n : Fin 8) (s : State) : Host.Outcome State Fault Refusal :=
  outcome s (Machine.pdAckReceive n)

/-- PD_NOACK_TIMEOUT (R134). -/
def execPdNoackTimeout (n : Fin 8) (s : State) : Host.Outcome State Fault Refusal :=
  outcome s (pdNoAck n)

/-- TAP_REQ_RECEIVE (R139). -/
def execTapReqReceive (n : Fin 8) (s : State) : Host.Outcome State Fault Refusal :=
  outcome s (Machine.tapReqReceive n)

/-- TAP_STATUS_RECEIVE (R140). -/
def execTapStatusReceive (n : Fin 8) (s : State) : Host.Outcome State Fault Refusal :=
  outcome s (Machine.tapStatusReceive n)

/-- TAP_REQ_TIMEOUT (R140). -/
def execTapReqTimeout (n : Fin 8) (s : State) : Host.Outcome State Fault Refusal :=
  outcome s (Machine.tapReqTimeout n)

/-- TRAIN_MEASURE_DONE (R140). -/
def execTrainMeasureDone (n : Fin 8) (s : State) : Host.Outcome State Fault Refusal :=
  outcome s (Machine.trainMeasureDone n)

/-- TRAIN_START (R141). -/
def execTrainStart (o : Origin) (n : Fin 8) (v : Word) (s : State) : Host.Outcome State Fault Refusal :=
  outcome s (writeAs o (R.ATL_TRAIN n) 4 (withBit F.ATL_TRAIN_START v))

/-- TRAIN_INTERVAL_EXPIRY (R141). -/
def execTrainIntervalExpiry (n : Fin 8) (s : State) : Host.Outcome State Fault Refusal :=
  outcome s (trainInterval n)

/-- ATLAS_FREEZE (R142). -/
def execAtlasFreeze (o : Origin) (n : Fin 8) (on : Bool) (s : State) : Host.Outcome State Fault Refusal :=
  outcome s (writeAs o R.ATL_FREEZE 4 (maskedBits (2 ^ n.val) on))

/-- ATLAS_FROZEN (R142). -/
def execAtlasFrozen (n : Fin 8) (s : State) : Host.Outcome State Fault Refusal :=
  outcome s (Machine.atlasFrozen n)

/-- ATLAS_COHERENT_READ (R143). -/
def execAtlasCoherentRead (o : Origin) (n : Fin 8) (i : Nat) (s : State) : Host.Outcome State Fault Refusal :=
  outcome s (writeFld o (R.ATL_RD_INDEX n) F.ATL_RD_INDEX_INDEX i)

/-- ATLAS_READ_DONE (R143). -/
def execAtlasReadDone (n : Fin 8) (f : CisFault) (s : State) : Host.Outcome State Fault Refusal :=
  outcome s (Machine.atlasReadDone n f)

/-- ATLAS_CLEAR (R145). -/
def execAtlasClear (o : Origin) (lanes : Nat) (s : State) : Host.Outcome State Fault Refusal :=
  outcome s (writeFld o R.ATL_CLEAR F.ATL_CLEAR_LANES lanes)

/-- ATLAS_CLEAR_DONE (R145). -/
def execAtlasClearDone (n : Fin 8) (s : State) : Host.Outcome State Fault Refusal :=
  outcome s (Machine.atlasClearDone n)

/-- ATLAS_SRC_CHANGE (R144). -/
def execAtlasSrcChange (o : Origin) (n : Fin 8) (src : Bool) (s : State) : Host.Outcome State Fault Refusal :=
  outcome s (writeFld o (R.ATL_LANE_CFG n) F.ATL_LANE_CFG_SRC (b2n src))

/-- PD_TABLE_ACCESS (R138). -/
def execPdTableAccess (o : Origin) (n : Fin 8) (w : Option Word) (s : State) : Host.Outcome State Fault Refusal :=
  outcome s (accessAs o (R.ATL_PD_DATA n) w)

/-- PD_APPLY (R138). -/
def execPdApply (o : Origin) (n : Fin 8) (s : State) : Host.Outcome State Fault Refusal :=
  outcome s (writeFld o (R.ATL_PD_APPLY n) F.ATL_PD_APPLY_APPLY 1)

/-- DET_TABLE_READ (R147). -/
def execDetTableRead (o : Origin) (n : Fin 8) (s : State) : Host.Outcome State Fault Refusal :=
  outcome s (readAs o (R.ATL_DET_DATA n) 4)

end Sys2Proof.Machine
end

