-- ==== Sys2Proof/Machine/Recovery.lean ====
section
/-!
DEFINITION. Rails and clocks that come back, unanswered sleep requests, halted keepers and boundary updates: the meanings of railBackInWindow to boundaryUpdate, in the order of the command table.
-/
namespace Sys2Proof.Machine

/-- RAIL_BACK_IN_WINDOW (R370). -/
def execRailBackInWindow (r : Fin 8) (s : State) : Host.Outcome State Fault Refusal :=
  outcome s (railBack r)

/-- CLOCK_MONITOR_REARM (R370). -/
def execClockMonitorRearm (i : Fin 13) (s : State) : Host.Outcome State Fault Refusal :=
  outcome s (clockRearm i)

/-- SLEEP_NO_ANSWER (R350). -/
def execSleepNoAnswer (b : Nat) (edges : List WakeSrc) (s : State) : Host.Outcome State Fault Refusal :=
  outcome s (withEdges edges (Machine.sleepNoAnswer b))

/-- KEEPER_HALT (R405). -/
def execKeeperHalt (k : Fin 3) (s : State) : Host.Outcome State Fault Refusal :=
  outcome s (Machine.keeperHalt k)

/-- KEEPER_RESUME (R405). -/
def execKeeperResume (k : Fin 3) (s : State) : Host.Outcome State Fault Refusal :=
  outcome s (Machine.keeperResume k)

/-- BOUNDARY_UPDATE (R410). -/
def execBoundaryUpdate (l : List (Nat × Bool)) (s : State) : Host.Outcome State Fault Refusal :=
  outcome s (Machine.boundaryUpdate l)

end Sys2Proof.Machine
end

