-- ==== Sys2Proof/Machine/Regions.lean ====
section
/-!
DEFINITION. Register writes, boundaries of the line frames, and faults of wells, blocks and regions: the meanings of registerWrite to faultRelease, in the order of the command table.
-/
namespace Sys2Proof.Machine

/-- REGISTER_WRITE (R307). -/
def execRegisterWrite (o : Origin) (a : Nat) (size : Nat) (w : Word) (s : State) : Host.Outcome State Fault Refusal :=
  outcome s (registerWriteAs o a size w)

/-- FRAME_BOUNDARY (R12). -/
def execFrameBoundary (n : Fin 8) (rx : Bool) (d : FrameData) (s : State) : Host.Outcome State Fault Refusal :=
  outcome s (boundary n rx .frame d)

/-- EPOCH_BOUNDARY (R28). -/
def execEpochBoundary (n : Fin 8) (rx : Bool) (d : FrameData) (s : State) : Host.Outcome State Fault Refusal :=
  outcome s (boundary n rx .epoch d)

/-- DISTILLATION_BOUNDARY (R130). -/
def execDistillationBoundary (n : Fin 8) (d : FrameData) (s : State) : Host.Outcome State Fault Refusal :=
  outcome s (boundary n true .period d)

/-- CROSSING_FAULT (R20). -/
def execCrossingFault (b : Block) (lanes : Nat) (tx : Bool) (poison : Nat) (s : State) : Host.Outcome State Fault Refusal :=
  outcome s (crossingFaultAs b lanes tx poison)

/-- PUMP_FAULT (R58). -/
def execPumpFault (n : Fin 8) (m : Fin 64) (c : PumpCause) (blk : Nat) (s : State) : Host.Outcome State Fault Refusal :=
  outcome s (Machine.pumpFault n m c blk)

/-- BLOCK_SLOT_END (R45). -/
def execBlockSlotEnd (n : Fin 8) (m : Fin 64) (blk : Nat) (s : State) : Host.Outcome State Fault Refusal :=
  outcome s (slotMissed n m blk)

/-- PUMP_TAKEOVER (R58). -/
def execPumpTakeover (n : Fin 8) (s : State) : Host.Outcome State Fault Refusal :=
  outcome s (Machine.pumpTakeover n)

/-- WELL_FAULT (R33). -/
def execWellFault (n : Fin 8) (mech : WellMech) (s : State) : Host.Outcome State Fault Refusal :=
  outcome s (Machine.wellFault n mech)

/-- WELL_RESTART (R60). -/
def execWellRestart (n : Fin 8) (cw : Nat) (frames : Nat) (s : State) : Host.Outcome State Fault Refusal :=
  outcome s (wellRestarted n cw frames)

/-- BLOCK_FAULT (R35). -/
def execBlockFault (b : Block) (lanes : Nat) (tx : Bool) (poison : Nat) (quick : Bool) (s : State) : Host.Outcome State Fault Refusal :=
  outcome s (blockFaultAs b lanes tx poison quick)

/-- LOCAL_REACTION_TIMEOUT (R33). -/
def execLocalReactionTimeout (b : Block) (s : State) : Host.Outcome State Fault Refusal :=
  outcome s (reactionTimeout b)

/-- REGION_FAULT (R36). -/
def execRegionFault (r : Region) (block : Nat) (cause : Nat) (lanes : Nat) (sg : Nat) (s : State) : Host.Outcome State Fault Refusal :=
  outcome s (regionFaulted r block cause lanes sg)

/-- REGION_REACTION_DONE (R36). -/
def execRegionReactionDone (r : Region) (inTime : Bool) (s : State) : Host.Outcome State Fault Refusal :=
  outcome s (regionFinished r inTime)

/-- FAULT_RELEASE (R38). -/
def execFaultRelease (o : Origin) (s : State) : Host.Outcome State Fault Refusal :=
  outcome s (writeFld o R.CHIP_FAULT_STATUS F.CHIP_FAULT_STATUS_CHIP_FAULT 1)

end Sys2Proof.Machine
end

