-- ==== Sys2Proof/Machine/SafetyGoals.lean ====
section
/-!
DEFINITION. Safety goals, self-test, fuse repair and the journal: the meanings of sg1ParityError to journalMirrorWrite, in the order of the command table.
-/
namespace Sys2Proof.Machine

/-- SG1_PARITY_ERROR (R363). -/
def execSg1ParityError (p : Fin 8) (d : Fin 2) (s : State) : Host.Outcome State Fault Refusal :=
  outcome s (sg1Error p d)

/-- SG1_RELEASE (R361). -/
def execSg1Release (o : Origin) (s : State) : Host.Outcome State Fault Refusal :=
  outcome s (writeFld o R.SAF_SG_REL F.SAF_SG_REL_REL1 1)

/-- PPS_READBACK (R365). -/
def execPpsReadback (err : Int) (s : State) : Host.Outcome State Fault Refusal :=
  outcome s (Machine.ppsReadback err)

/-- SG3_REQUEST (R366). -/
def execSg3Request (o : Origin) (v : Word) (s : State) : Host.Outcome State Fault Refusal :=
  outcome s (writeAs o R.SAF_SG3_CTRL 4 v)

/-- SG3_RELEASE (R361). -/
def execSg3Release (o : Origin) (s : State) : Host.Outcome State Fault Refusal :=
  outcome s (writeFld o R.SAF_SG_REL F.SAF_SG_REL_REL3 1)

/-- SG4_RELEASE (R361). -/
def execSg4Release (o : Origin) (s : State) : Host.Outcome State Fault Refusal :=
  outcome s (writeFld o R.SAF_SG_REL F.SAF_SG_REL_REL4 1)

/-- LEN_PATH_TEST (R367). -/
def execLenPathTest (ok : Bool) (s : State) : Host.Outcome State Fault Refusal :=
  outcome s (Machine.lenPathTest ok)

/-- LEN_READBACK_MISMATCH (R367). -/
def execLenReadbackMismatch (s : State) : Host.Outcome State Fault Refusal :=
  outcome s (pathFail)

/-- SG4_SCAN (R369). -/
def execSg4Scan (found : List ScanFind) (s : State) : Host.Outcome State Fault Refusal :=
  outcome s (Machine.sg4Scan found)

/-- CLOCK_MONITOR_FAULT (R370). -/
def execClockMonitorFault (i : Fin 13) (s : State) : Host.Outcome State Fault Refusal :=
  outcome s (clockFault i)

/-- SUPPLY_OUT_OF_WINDOW (R370). -/
def execSupplyOutOfWindow (r : Fin 8) (s : State) : Host.Outcome State Fault Refusal :=
  outcome s (supplyOut r)

/-- SUPPLY_RESTART (R370). -/
def execSupplyRestart (lost : Option AonLoss) (s : State) : Host.Outcome State Fault Refusal :=
  outcome s (Machine.supplyRestart lost)

/-- SUPPLY_RESTART_RECOVER (R370). -/
def execSupplyRestartRecover (s : State) : Host.Outcome State Fault Refusal :=
  outcome s (supplyRecover)

/-- MEMORY_PATROL (R375). -/
def execMemoryPatrol (inst : Nat) (row : Nat) (f : PatrolFind) (s : State) : Host.Outcome State Fault Refusal :=
  outcome s (Machine.memoryPatrol inst row f)

/-- FUSE_REPAIR_BURN (R376). -/
def execFuseRepairBurn (o : Origin) (s : State) : Host.Outcome State Fault Refusal :=
  outcome s (writeFld o R.SAF_FREP_CMD F.SAF_FREP_CMD_GO 1)

/-- FUSE_REPAIR_BURN_DONE (R376). -/
def execFuseRepairBurnDone (s : State) : Host.Outcome State Fault Refusal :=
  outcome s (frepDone)

/-- JOURNAL_ENTRY_WRITE (R378). -/
def execJournalEntryWrite (s : State) : Host.Outcome State Fault Refusal :=
  outcome s (journalWrite)

/-- JOURNAL_MIRROR_WRITE (R267). -/
def execJournalMirrorWrite (s : State) : Host.Outcome State Fault Refusal :=
  outcome s (mirrorWrite)

end Sys2Proof.Machine
end

