-- ==== Sys2Proof/Machine/SeepChannel.lean ====
section
/-!
DEFINITION. The seep channel, Port F messages and the gateway: the meanings of seepTxFrameStart to seepLaneEnable, in the order of the command table.
-/
namespace Sys2Proof.Machine

/-- SEEP_TX_FRAME_START (R209). -/
def execSeepTxFrameStart (n : Fin 8) (s : State) : Host.Outcome State Fault Refusal :=
  outcome s (seepTxStart n)

/-- SEEP_RX_FRAME (R203). -/
def execSeepRxFrame (n : Fin 8) (f : SRxFrame) (age : Nat) (s : State) : Host.Outcome State Fault Refusal :=
  outcome s (seepRxArrive n f age)

/-- SEEP_FRAME_DECODED (R199). -/
def execSeepFrameDecoded (n : Fin 8) (d : SDemod) (late : Nat) (s : State) : Host.Outcome State Fault Refusal :=
  outcome s (seepDecoded n d late)

/-- SEEP_SYNC_LOSS (R203). -/
def execSeepSyncLoss (n : Fin 8) (s : State) : Host.Outcome State Fault Refusal :=
  outcome s (Machine.seepSyncLoss n)

/-- SEEP_FORWARD (R206). -/
def execSeepForward (n : Fin 8) (s : State) : Host.Outcome State Fault Refusal :=
  outcome s (Machine.seepForward n)

/-- PF_READ_RECEIVE (R212). -/
def execPfReadReceive (n : Fin 8) (silent : List Nat) (s : State) : Host.Outcome State Fault Refusal :=
  outcome s (Machine.pfReadReceive n silent)

/-- PF_WRITE_RECEIVE (R212). -/
def execPfWriteReceive (n : Fin 8) (silent : List Nat) (s : State) : Host.Outcome State Fault Refusal :=
  outcome s (Machine.pfWriteReceive n silent)

/-- MBX_IN_RECEIVE (R323). -/
def execMbxInReceive (n : Fin 8) (s : State) : Host.Outcome State Fault Refusal :=
  outcome s (Machine.mbxInReceive n)

/-- WAKE_REQ_RECEIVE (R214). -/
def execWakeReqReceive (n : Fin 8) (s : State) : Host.Outcome State Fault Refusal :=
  outcome s (Machine.wakeReqReceive n)

/-- GATEWAY_RX_MESSAGE (R216). -/
def execGatewayRxMessage (n : Fin 8) (s : State) : Host.Outcome State Fault Refusal :=
  outcome s (gwReceive n)

/-- PF_REPLY_DEADLINE (R210). -/
def execPfReplyDeadline (n : Fin 8) (s : State) : Host.Outcome State Fault Refusal :=
  outcome s (Machine.pfReplyDeadline n)

/-- PF_REPLY_READY (R210). -/
def execPfReplyReady (n : Fin 8) (s : State) : Host.Outcome State Fault Refusal :=
  outcome s (Machine.pfReplyReady n)

/-- EVENT_SEND (R213). -/
def execEventSend (s : State) : Host.Outcome State Fault Refusal :=
  outcome s (Machine.eventSend)

/-- EVENT_REPEAT (R213). -/
def execEventRepeat (s : State) : Host.Outcome State Fault Refusal :=
  outcome s (Machine.eventRepeat)

/-- GATEWAY_GO (R216). -/
def execGatewayGo (o : Origin) (lane : Fin 8) (s : State) : Host.Outcome State Fault Refusal :=
  outcome s (gatewayGoAs o lane)

/-- GATEWAY_POP (R216). -/
def execGatewayPop (o : Origin) (s : State) : Host.Outcome State Fault Refusal :=
  outcome s (writeFld o R.SEEP_GW_CTL F.SEEP_GW_CTL_POP 1)

/-- GATEWAY_DATA_ACCESS (R216). -/
def execGatewayDataAccess (o : Origin) (tx : Bool) (w : Option Word) (s : State) : Host.Outcome State Fault Refusal :=
  outcome s (accessAs o (if tx then R.SEEP_GW_TXDATA else R.SEEP_GW_RXDATA) w)

/-- SEEP_LANE_ENABLE (R217). -/
def execSeepLaneEnable (o : Origin) (n : Fin 8) (on : Bool) (s : State) : Host.Outcome State Fault Refusal :=
  outcome s (writeFld o (R.SEEP_LN_CFG n) F.SEEP_LN_CFG_EN (b2n on))

end Sys2Proof.Machine
end

