-- ==== Sys2Proof/Machine/Sensors.lean ====
section
/-!
DEFINITION. Temperature and the monitor ADC: the meanings of thermalSampleStart to monCalTimeout, in the order of the command table.
-/
namespace Sys2Proof.Machine

/-- THERMAL_SAMPLE_START (R385). -/
def execThermalSampleStart (s : State) : Host.Outcome State Fault Refusal :=
  outcome s (sampleStart)

/-- THERMAL_SAMPLE_DONE (R384). -/
def execThermalSampleDone (rd : Vector (Option Int) 36) (s : State) : Host.Outcome State Fault Refusal :=
  outcome s (sampleFinished rd)

/-- EFFORT_RISE_STEP (R388). -/
def execEffortRiseStep (s : State) : Host.Outcome State Fault Refusal :=
  outcome s (effortRise)

/-- VENT_COOLDOWN_EXPIRY (R389). -/
def execVentCooldownExpiry (s : State) : Host.Outcome State Fault Refusal :=
  outcome s (ventCooldown)

/-- MON_CHANNEL_RESULT (R393). -/
def execMonChannelResult (c : Fin 32) (l : List MonSample) (s : State) : Host.Outcome State Fault Refusal :=
  outcome s (monResult c l)

/-- MON_CAL_START (R395). -/
def execMonCalStart (o : Origin) (s : State) : Host.Outcome State Fault Refusal :=
  outcome s (writeFld o R.MON_CTRL F.MON_CTRL_CAL 1)

/-- MON_CAL_DONE (R395). -/
def execMonCalDone (r : MonCalRes) (s : State) : Host.Outcome State Fault Refusal :=
  outcome s (Machine.monCalDone r)

/-- MON_CAL_TIMEOUT (R395). -/
def execMonCalTimeout (s : State) : Host.Outcome State Fault Refusal :=
  outcome s (Machine.monCalTimeout)

end Sys2Proof.Machine
end

