-- ==== Sys2Proof/Machine/Sleep.lean ====
section
/-!
DEFINITION. Sleep states and performance levels: the meanings of dpIdleDeclare to avsTimeout, in the order of the command table.
-/
namespace Sys2Proof.Machine

/-- DP_IDLE_DECLARE (R349). -/
def execDpIdleDeclare (o : Origin) (s : State) : Host.Outcome State Fault Refusal :=
  outcome s (writeFld o R.PWR_DP_IDLE F.PWR_DP_IDLE_DECLARE 1)

/-- DP_IDLE_CANCEL (R349). -/
def execDpIdleCancel (o : Origin) (s : State) : Host.Outcome State Fault Refusal :=
  outcome s (writeFld o R.PWR_DP_IDLE F.PWR_DP_IDLE_CANCEL 1)

/-- LTR_WRITE (R347). -/
def execLtrWrite (o : Origin) (p : Fin 3) (v : Word) (s : State) : Host.Outcome State Fault Refusal :=
  outcome s (writeAs o (R.PWR_LTR p) 4 v)

/-- SLEEP_ENTRY_START (R350). -/
def execSleepEntryStart (edges : List WakeSrc) (s : State) : Host.Outcome State Fault Refusal :=
  outcome s (withEdges edges entryStartScan)

/-- SLEEP_DELAY_RETRY (R350). -/
def execSleepDelayRetry (b : Nat) (edges : List WakeSrc) (s : State) : Host.Outcome State Fault Refusal :=
  outcome s (withEdges edges (delayRetry b))

/-- SLEEP_PREPARE_DONE (R350). -/
def execSleepPrepareDone (writes : List HostWrite) (pps : Bool) (s : State) : Host.Outcome State Fault Refusal :=
  outcome s (sleepEnter writes pps)

/-- SLEEP_HOLDOFF_EXPIRY (R351). -/
def execSleepHoldoffExpiry (edges : List WakeSrc) (s : State) : Host.Outcome State Fault Refusal :=
  outcome s (holdoffExpiry edges)

/-- WAKE_EVENT (R353). -/
def execWakeEvent (w : WakeSrc) (s : State) : Host.Outcome State Fault Refusal :=
  outcomePin s (Machine.wakeEvent w)

/-- SLEEP_EXIT_DONE (R354). -/
def execSleepExitDone (cal : Vector CalResult 8) (s : State) : Host.Outcome State Fault Refusal :=
  outcome s (sleepExit cal)

/-- PERF_LEVEL_CHANGE (R343). -/
def execPerfLevelChange (s : State) : Host.Outcome State Fault Refusal :=
  outcome s (Machine.perfLevelChange)

/-- AVS_ACK (R344). -/
def execAvsAck (o : Origin) (v : Word) (s : State) : Host.Outcome State Fault Refusal :=
  outcome s (writeAs o R.PWR_AVS_ACK 4 v)

/-- AVS_TIMEOUT (R344). -/
def execAvsTimeout (s : State) : Host.Outcome State Fault Refusal :=
  outcome s (Machine.avsTimeout)

end Sys2Proof.Machine
end

