-- ==== Sys2Proof/Machine/Startup.lean ====
section
/-!
DEFINITION. Reset, cold start, image updates and repair records: the meanings of resetAssert to repairRecordRead, in the order of the command table.
-/
namespace Sys2Proof.Machine

/-- RESET_ASSERT (R426). -/
def execResetAssert (s : State) : Host.Outcome State Fault Refusal :=
  outcomePin s (Machine.resetAssert)

/-- COLD_START (R274). -/
def execColdStart (d : BootData) (s : State) : Host.Outcome State Fault Refusal :=
  outcomePin s (Machine.coldStart d)

/-- BOOT_RESTART (R274). -/
def execBootRestart (o : Origin) (s : State) : Host.Outcome State Fault Refusal :=
  outcome s (writeFld o R.BOOT_STAGE_CTRL F.BOOT_STAGE_CTRL_RESTART 1)

/-- STAGE_VERIFY (R291). -/
def execStageVerify (o : Origin) (s : State) : Host.Outcome State Fault Refusal :=
  outcome s (writeFld o R.BOOT_STAGE_CTRL F.BOOT_STAGE_CTRL_VERIFY 1)

/-- STAGE_VERIFY_DONE (R291). -/
def execStageVerifyDone (s : State) : Host.Outcome State Fault Refusal :=
  outcome s (Machine.stageVerifyDone)

/-- UPDATE_SWITCH (R292). -/
def execUpdateSwitch (o : Origin) (v : Word) (s : State) : Host.Outcome State Fault Refusal :=
  outcome s (writeAs o R.BOOT_STAGE_CTRL 4 (withBit F.BOOT_STAGE_CTRL_SWITCH v))

/-- BOOT_FAIL_RECOVER (R289). -/
def execBootFailRecover (o : Origin) (d : BootData) (s : State) : Host.Outcome State Fault Refusal :=
  outcome s (recoverAs o d)

/-- KEEPER_READY (R293). -/
def execKeeperReady (k : Fin 3) (s : State) : Host.Outcome State Fault Refusal :=
  outcome s (keeperBack k)

/-- KEEPER_SWITCH_TIMEOUT (R294). -/
def execKeeperSwitchTimeout (s : State) : Host.Outcome State Fault Refusal :=
  outcome s (updTimeout)

/-- REPAIR_RECORD_READ (R288). -/
def execRepairRecordRead (o : Origin) (s : State) : Host.Outcome State Fault Refusal :=
  outcome s (readAs o (R.BOOT_RPR_DATA 3) 4)

end Sys2Proof.Machine
end

