-- ==== Sys2Proof/Machine/TimeOfDay.lean ====
section
/-!
DEFINITION. Time of day, time transfer and holdover: the meanings of todSecondWrap to refclkRestore, in the order of the command table.
-/
namespace Sys2Proof.Machine

/-- TOD_SECOND_WRAP (R220). -/
def execTodSecondWrap (s : State) : Host.Outcome State Fault Refusal :=
  outcome s (Machine.todSecondWrap)

/-- PPS_OUT_FALL (R248). -/
def execPpsOutFall (s : State) : Host.Outcome State Fault Refusal :=
  outcome s (Machine.ppsOutFall)

/-- TOD_TX_SEND (R249). -/
def execTodTxSend (s : State) : Host.Outcome State Fault Refusal :=
  outcome s (Machine.todTxSend)

/-- TT_MARKING_INSTANT (R229). -/
def execTtMarkingInstant (lag : Strobe) (s : State) : Host.Outcome State Fault Refusal :=
  outcome s (ttMarking lag)

/-- TT_MARKED_FRAME_RX (R230). -/
def execTtMarkedFrameRx (age : Strobe) (s : State) : Host.Outcome State Fault Refusal :=
  outcome s (ttMarkedRx age)

/-- TT_TS_RECEIVE (R230). -/
def execTtTsReceive (s : State) : Host.Outcome State Fault Refusal :=
  outcome s (Machine.ttTsReceive)

/-- TT_L_SEND (R234). -/
def execTtLSend (s : State) : Host.Outcome State Fault Refusal :=
  outcome s (Machine.ttLSend)

/-- TT_L_RECEIVE (R234). -/
def execTtLReceive (s : State) : Host.Outcome State Fault Refusal :=
  outcome s (Machine.ttLReceive)

/-- PPS_IN_EDGE (R247). -/
def execPpsInEdge (age : Nat) (s : State) : Host.Outcome State Fault Refusal :=
  outcome s (ppsEdge age)

/-- TOD_RX_MESSAGE (R247). -/
def execTodRxMessage (bytes : List Nat) (ms : Nat) (s : State) : Host.Outcome State Fault Refusal :=
  outcome s (Machine.todRxMessage bytes ms)

/-- HOLDOVER_ENTRY (R236). -/
def execHoldoverEntry (found : List (Nat × CisFault)) (s : State) : Host.Outcome State Fault Refusal :=
  outcome s (Machine.holdoverEntry found)

/-- TOD_UNC_EXCEEDED (R236). -/
def execTodUncExceeded (s : State) : Host.Outcome State Fault Refusal :=
  outcome s (uncExceeded)

/-- HOLDOVER_PREDICTION (R240). -/
def execHoldoverPrediction (found : List (Nat × CisFault)) (s : State) : Host.Outcome State Fault Refusal :=
  outcome s (k2Work (Machine.holdoverPrediction found))

/-- OSC_TEMP_SAMPLE (R238). -/
def execOscTempSample (s : State) : Host.Outcome State Fault Refusal :=
  outcome s (k2Work oscSample)

/-- LEDGER_RECORD (R238). -/
def execLedgerRecord (found : List (Nat × CisFault)) (s : State) : Host.Outcome State Fault Refusal :=
  outcome s (k2Work (Machine.ledgerRecord found))

/-- MODEL_REFIT (R238). -/
def execModelRefit (found : List (Nat × CisFault)) (s : State) : Host.Outcome State Fault Refusal :=
  outcome s (k2Work (Machine.modelRefit found))

/-- TOD_COUNTER_REPAIR (R225). -/
def execTodCounterRepair (isB : Bool) (s : State) : Host.Outcome State Fault Refusal :=
  outcome s (counterRepair isB)

/-- TOD_NO_MAJORITY (R225). -/
def execTodNoMajority (k : NoMaj) (s : State) : Host.Outcome State Fault Refusal :=
  outcome s (noMajority k)

/-- TOD_SET_SECONDS (R223). -/
def execTodSetSeconds (o : Origin) (s : State) : Host.Outcome State Fault Refusal :=
  outcome s (writeFld o R.TOD_SET_CTRL F.TOD_SET_CTRL_GO 1)

/-- TOD_PHASE_ADJUST (R223). -/
def execTodPhaseAdjust (o : Origin) (v : Word) (s : State) : Host.Outcome State Fault Refusal :=
  outcome s (writeAs o R.TOD_PHASE 4 (withBit F.TOD_PHASE_GO v))

/-- TOD_SLEW_DONE (R222). -/
def execTodSlewDone (s : State) : Host.Outcome State Fault Refusal :=
  outcome s (slewDone)

/-- TOD_CAPTURE (R224). -/
def execTodCapture (o : Origin) (v : Word) (s : State) : Host.Outcome State Fault Refusal :=
  outcome s (writeAs o R.TOD_SNAP_CTRL 4 (withBit F.TOD_SNAP_CTRL_CAPTURE v))

/-- TOD_FREQ_LATCH (R309). -/
def execTodFreqLatch (o : Origin) (s : State) : Host.Outcome State Fault Refusal :=
  outcome s (readAs o R.TOD_FREQ_LO 4)

/-- TOD_FREQ_MAN_WRITE (R221). -/
def execTodFreqManWrite (o : Origin) (v : Word) (s : State) : Host.Outcome State Fault Refusal :=
  outcome s (writeAs o R.TOD_FREQ_MAN_HI 4 v)

/-- TOD_SOURCE_SELECT (R235). -/
def execTodSourceSelect (o : Origin) (v : Word) (s : State) : Host.Outcome State Fault Refusal :=
  outcome s (writeAs o R.TOD_CTRL 4 v)

/-- REFCLK_LOSS (R245). -/
def execRefclkLoss (cycles : Nat) (period : Nat) (s : State) : Host.Outcome State Fault Refusal :=
  outcome s (Machine.refclkLoss cycles period)

/-- REFCLK_RETURN (R245). -/
def execRefclkReturn (s : State) : Host.Outcome State Fault Refusal :=
  outcome s (Machine.refclkReturn)

/-- REFCLK_RESTORE (R245). -/
def execRefclkRestore (s : State) : Host.Outcome State Fault Refusal :=
  outcome s (Machine.refclkRestore)

end Sys2Proof.Machine
end

