-- ==== Sys2Proof/Machine/Transfers.lean ====
section
/-!
DEFINITION. Host port transfers: the meanings of portSRead to accessTimeout, in the order of the command table.
-/
namespace Sys2Proof.Machine

/-- PORT_S_READ (R300). -/
def execPortSRead (a : Nat) (count : Fin 256) (s : State) : Host.Outcome State Fault Refusal :=
  outcome s (Machine.portSRead a (count.val + 1))

/-- PORT_S_WRITE (R301). -/
def execPortSWrite (a : Nat) (l : List Word) (s : State) : Host.Outcome State Fault Refusal :=
  outcome s (Machine.portSWrite a l)

/-- PORT_S_STATUS (R301). -/
def execPortSStatus (op : Fin 16) (a : Nat) (s : State) : Host.Outcome State Fault Refusal :=
  outcome s (Machine.portSStatus op a)

/-- PORT_S_FRAME_ABORT (R302). -/
def execPortSFrameAbort (place : AbortAt) (wr : Bool) (a : Nat) (count : Fin 256) (l : List Word) (s : State) : Host.Outcome State Fault Refusal :=
  outcome s (portSAbort place wr a (count.val + 1) l)

/-- PORT_S_READ_TIMEOUT (R300). -/
def execPortSReadTimeout (a : Nat) (s : State) : Host.Outcome State Fault Refusal :=
  outcome s (Machine.portSReadTimeout a)

/-- POSTED_WRITE_PERFORM (R301). -/
def execPostedWritePerform (s : State) : Host.Outcome State Fault Refusal :=
  outcome s (postedPerform)

/-- PORT_I_PRIVATE_WRITE (R303). -/
def execPortIPrivateWrite (addrBytes : Nat) (a : Nat) (l : List Word) (tail : Nat) (s : State) : Host.Outcome State Fault Refusal :=
  outcome s (portIWrite false addrBytes a l tail)

/-- PORT_I_PRIVATE_READ (R304). -/
def execPortIPrivateRead (group : Bool) (count : Nat) (s : State) : Host.Outcome State Fault Refusal :=
  outcome s (portIRead group count)

/-- PORT_I_GROUP_WRITE (R305). -/
def execPortIGroupWrite (addrBytes : Nat) (a : Nat) (l : List Word) (tail : Nat) (s : State) : Host.Outcome State Fault Refusal :=
  outcome s (Machine.portIGroupWrite addrBytes a l tail)

/-- PORT_I_ENTDAA (R303). -/
def execPortIEntdaa (dyn : Nat) (s : State) : Host.Outcome State Fault Refusal :=
  outcome s (Machine.portIEntdaa dyn)

/-- PORT_I_SETGRPA (R305). -/
def execPortISetgrpa (grp : Nat) (s : State) : Host.Outcome State Fault Refusal :=
  outcome s (Machine.portISetgrpa grp)

/-- PORT_I_ENEC (R325). -/
def execPortIEnec (s : State) : Host.Outcome State Fault Refusal :=
  outcome s (Machine.portIEnec)

/-- IBI_SEND (R325). -/
def execIbiSend (acked : Bool) (s : State) : Host.Outcome State Fault Refusal :=
  outcome s (Machine.ibiSend acked)

/-- IBI_RETRY (R325). -/
def execIbiRetry (acked : Bool) (s : State) : Host.Outcome State Fault Refusal :=
  outcome s (Machine.ibiRetry acked)

/-- ACCESS_TIMEOUT (R311). -/
def execAccessTimeout (o : Origin) (a : Nat) (s : State) : Host.Outcome State Fault Refusal :=
  outcome s (Machine.accessTimeout o a)

end Sys2Proof.Machine
end

