-- ==== Sys2Proof/Machine/Wells.lean ====
section
/-!
DEFINITION. Recipe loads, bank switches, rotation and test slices: the meanings of recipeLoad to lbistGo, in the order of the command table.
-/
namespace Sys2Proof.Machine

/-- RECIPE_LOAD (R53). -/
def execRecipeLoad (o : Origin) (n : Fin 8) (v : Word) (s : State) : Host.Outcome State Fault Refusal :=
  outcome s (writeAs o (R.WELL_RECIPE n) 4 (withBit F.WELL_RECIPE_LOAD v))

/-- RECIPE_LOAD_DONE (R53). -/
def execRecipeLoadDone (n : Fin 8) (bad : List (Fin 64)) (s : State) : Host.Outcome State Fault Refusal :=
  outcome s (loadFinished n bad)

/-- BANK_SWITCH_REQUEST (R54). -/
def execBankSwitchRequest (o : Origin) (n : Fin 8) (s : State) : Host.Outcome State Fault Refusal :=
  outcome s (writeFld o (R.WELL_IBANK n) F.WELL_IBANK_SWITCH 1)

/-- BANK_SWITCH_SIDE (R55). -/
def execBankSwitchSide (n : Fin 8) (rx : Bool) (s : State) : Host.Outcome State Fault Refusal :=
  outcome s (sideSwitched n rx)

/-- ROTATION_STEP (R56). -/
def execRotationStep (n : Fin 8) (s : State) : Host.Outcome State Fault Refusal :=
  outcome s (Machine.rotationStep n)

/-- TEST_SLICE_DONE (R59). -/
def execTestSliceDone (n : Fin 8) (r : SliceResult) (s : State) : Host.Outcome State Fault Refusal :=
  outcome s (Machine.testSliceDone n r)

/-- TEST_SLICE_TIMEOUT (R31). -/
def execTestSliceTimeout (n : Fin 8) (s : State) : Host.Outcome State Fault Refusal :=
  outcome s (Machine.testSliceTimeout n)

/-- LBIST_GO (R373). -/
def execLbistGo (o : Origin) (v : Word) (s : State) : Host.Outcome State Fault Refusal :=
  outcome s (writeAs o R.SAF_LBIST_CTRL 4 (withBit F.SAF_LBIST_CTRL_GO v))

end Sys2Proof.Machine
end

