-- ==== Sys2Proof/Machine/Dispatch.lean ====
section
/-!
DEFINITION. The dispatch of a command to its meaning: one arm per constructor of Instr.
-/
namespace Sys2Proof.Machine

/-- The effect of a command on everything but the queue. -/
def exec (i : Instr) (s : State) : Host.Outcome State Fault Refusal :=
  match i with
  | .registerWrite o a size w => Sys2Proof.Machine.execRegisterWrite o a size w s
  | .frameBoundary n rx d => Sys2Proof.Machine.execFrameBoundary n rx d s
  | .epochBoundary n rx d => Sys2Proof.Machine.execEpochBoundary n rx d s
  | .distillationBoundary n d => Sys2Proof.Machine.execDistillationBoundary n d s
  | .crossingFault b lanes tx poison => Sys2Proof.Machine.execCrossingFault b lanes tx poison s
  | .pumpFault n m c blk => Sys2Proof.Machine.execPumpFault n m c blk s
  | .blockSlotEnd n m blk => Sys2Proof.Machine.execBlockSlotEnd n m blk s
  | .pumpTakeover n => Sys2Proof.Machine.execPumpTakeover n s
  | .wellFault n mech => Sys2Proof.Machine.execWellFault n mech s
  | .wellRestart n cw frames => Sys2Proof.Machine.execWellRestart n cw frames s
  | .blockFault b lanes tx poison quick => Sys2Proof.Machine.execBlockFault b lanes tx poison quick s
  | .localReactionTimeout b => Sys2Proof.Machine.execLocalReactionTimeout b s
  | .regionFault r block cause lanes sg => Sys2Proof.Machine.execRegionFault r block cause lanes sg s
  | .regionReactionDone r inTime => Sys2Proof.Machine.execRegionReactionDone r inTime s
  | .faultRelease o => Sys2Proof.Machine.execFaultRelease o s
  | .recipeLoad o n v => Sys2Proof.Machine.execRecipeLoad o n v s
  | .recipeLoadDone n bad => Sys2Proof.Machine.execRecipeLoadDone n bad s
  | .bankSwitchRequest o n => Sys2Proof.Machine.execBankSwitchRequest o n s
  | .bankSwitchSide n rx => Sys2Proof.Machine.execBankSwitchSide n rx s
  | .rotationStep n => Sys2Proof.Machine.execRotationStep n s
  | .testSliceDone n r => Sys2Proof.Machine.execTestSliceDone n r s
  | .testSliceTimeout n => Sys2Proof.Machine.execTestSliceTimeout n s
  | .lbistGo o v => Sys2Proof.Machine.execLbistGo o v s
  | .lenEnSet o n => Sys2Proof.Machine.execLenEnSet o n s
  | .lenEnClear o n => Sys2Proof.Machine.execLenEnClear o n s
  | .txdisAssert => Sys2Proof.Machine.execTxdisAssert s
  | .txdisDeassert => Sys2Proof.Machine.execTxdisDeassert s
  | .txdisFiltExpiry => Sys2Proof.Machine.execTxdisFiltExpiry s
  | .lenSettleExpiry n => Sys2Proof.Machine.execLenSettleExpiry n s
  | .lanePllLock n => Sys2Proof.Machine.execLanePllLock n s
  | .lanePllLol n => Sys2Proof.Machine.execLanePllLol n s
  | .signalDetect n => Sys2Proof.Machine.execSignalDetect n s
  | .signalLoss n => Sys2Proof.Machine.execSignalLoss n s
  | .converterCalDone n c => Sys2Proof.Machine.execConverterCalDone n c s
  | .foregroundCalGo o v => Sys2Proof.Machine.execForegroundCalGo o v s
  | .piManual o n on => Sys2Proof.Machine.execPiManual o n on s
  | .acqTimingTimeout n => Sys2Proof.Machine.execAcqTimingTimeout n s
  | .acqAdaptTimeout n => Sys2Proof.Machine.execAcqAdaptTimeout n s
  | .holdTimeout n => Sys2Proof.Machine.execHoldTimeout n s
  | .rxLossOfLock n => Sys2Proof.Machine.execRxLossOfLock n s
  | .rxRestart o n v => Sys2Proof.Machine.execRxRestart o n v s
  | .reachSelect o n v => Sys2Proof.Machine.execReachSelect o n v s
  | .adaptUpdateDone n => Sys2Proof.Machine.execAdaptUpdateDone n s
  | .atlasSamplePick n => Sys2Proof.Machine.execAtlasSamplePick n s
  | .atlasUpdate n => Sys2Proof.Machine.execAtlasUpdate n s
  | .atlasMissFill n k f => Sys2Proof.Machine.execAtlasMissFill n k f s
  | .distilDone n => Sys2Proof.Machine.execDistilDone n s
  | .pdBulkSegmentReceive n => Sys2Proof.Machine.execPdBulkSegmentReceive n s
  | .pdUpdateStall n => Sys2Proof.Machine.execPdUpdateStall n s
  | .pdTableApply n => Sys2Proof.Machine.execPdTableApply n s
  | .pdAckReceive n => Sys2Proof.Machine.execPdAckReceive n s
  | .pdNoackTimeout n => Sys2Proof.Machine.execPdNoackTimeout n s
  | .tapReqReceive n => Sys2Proof.Machine.execTapReqReceive n s
  | .tapStatusReceive n => Sys2Proof.Machine.execTapStatusReceive n s
  | .tapReqTimeout n => Sys2Proof.Machine.execTapReqTimeout n s
  | .trainMeasureDone n => Sys2Proof.Machine.execTrainMeasureDone n s
  | .trainStart o n v => Sys2Proof.Machine.execTrainStart o n v s
  | .trainIntervalExpiry n => Sys2Proof.Machine.execTrainIntervalExpiry n s
  | .atlasFreeze o n on => Sys2Proof.Machine.execAtlasFreeze o n on s
  | .atlasFrozen n => Sys2Proof.Machine.execAtlasFrozen n s
  | .atlasCoherentRead o n k => Sys2Proof.Machine.execAtlasCoherentRead o n k s
  | .atlasReadDone n f => Sys2Proof.Machine.execAtlasReadDone n f s
  | .atlasClear o lanes => Sys2Proof.Machine.execAtlasClear o lanes s
  | .atlasClearDone n => Sys2Proof.Machine.execAtlasClearDone n s
  | .atlasSrcChange o n src => Sys2Proof.Machine.execAtlasSrcChange o n src s
  | .pdTableAccess o n w => Sys2Proof.Machine.execPdTableAccess o n w s
  | .pdApply o n => Sys2Proof.Machine.execPdApply o n s
  | .detTableRead o n => Sys2Proof.Machine.execDetTableRead o n s
  | .profileApply o v => Sys2Proof.Machine.execProfileApply o v s
  | .profileChangeDone => Sys2Proof.Machine.execProfileChangeDone s
  | .frameHeaderReceive n pos skew => Sys2Proof.Machine.execFrameHeaderReceive n pos skew s
  | .codewordAssembled n => Sys2Proof.Machine.execCodewordAssembled n s
  | .decodeWindowEnd n => Sys2Proof.Machine.execDecodeWindowEnd n s
  | .octCodeword n => Sys2Proof.Machine.execOctCodeword n s
  | .hostLaneEnable o n on => Sys2Proof.Machine.execHostLaneEnable o n on s
  | .hostSignalDetect n => Sys2Proof.Machine.execHostSignalDetect n s
  | .hostLos n => Sys2Proof.Machine.execHostLos n s
  | .hostCdrLock n ctle ofs => Sys2Proof.Machine.execHostCdrLock n ctle ofs s
  | .hostCdrLol n => Sys2Proof.Machine.execHostCdrLol n s
  | .hostFreqErr n ofs => Sys2Proof.Machine.execHostFreqErr n ofs s
  | .hostTrainFrames n => Sys2Proof.Machine.execHostTrainFrames n s
  | .hostTrainNopeer n => Sys2Proof.Machine.execHostTrainNopeer n s
  | .hostCoeffRequest n q => Sys2Proof.Machine.execHostCoeffRequest n q s
  | .hostCoeffStatus n r => Sys2Proof.Machine.execHostCoeffStatus n r s
  | .hostTrialMeasureDone n sum cnt => Sys2Proof.Machine.execHostTrialMeasureDone n sum cnt s
  | .hostTrainDone n => Sys2Proof.Machine.execHostTrainDone n s
  | .hostTrainTimeout n => Sys2Proof.Machine.execHostTrainTimeout n s
  | .hostRetrain o n => Sys2Proof.Machine.execHostRetrain o n s
  | .hostPolarityChange o n rx inv => Sys2Proof.Machine.execHostPolarityChange o n rx inv s
  | .hostMapWrite o rx v => Sys2Proof.Machine.execHostMapWrite o rx v s
  | .hostTestMode o v => Sys2Proof.Machine.execHostTestMode o v s
  | .kp4AmReceive p d k found => Sys2Proof.Machine.execKp4AmReceive p d k found s
  | .kp4MonitorCodeword p d => Sys2Proof.Machine.execKp4MonitorCodeword p d s
  | .kp4DegradeWindow p d => Sys2Proof.Machine.execKp4DegradeWindow p d s
  | .kp4Snap o ports => Sys2Proof.Machine.execKp4Snap o ports s
  | .kp4Clear o ports => Sys2Proof.Machine.execKp4Clear o ports s
  | .seepTxFrameStart n => Sys2Proof.Machine.execSeepTxFrameStart n s
  | .seepRxFrame n f age => Sys2Proof.Machine.execSeepRxFrame n f age s
  | .seepFrameDecoded n d late => Sys2Proof.Machine.execSeepFrameDecoded n d late s
  | .seepSyncLoss n => Sys2Proof.Machine.execSeepSyncLoss n s
  | .seepForward n => Sys2Proof.Machine.execSeepForward n s
  | .pfReadReceive n silent => Sys2Proof.Machine.execPfReadReceive n silent s
  | .pfWriteReceive n silent => Sys2Proof.Machine.execPfWriteReceive n silent s
  | .mbxInReceive n => Sys2Proof.Machine.execMbxInReceive n s
  | .wakeReqReceive n => Sys2Proof.Machine.execWakeReqReceive n s
  | .gatewayRxMessage n => Sys2Proof.Machine.execGatewayRxMessage n s
  | .pfReplyDeadline n => Sys2Proof.Machine.execPfReplyDeadline n s
  | .pfReplyReady n => Sys2Proof.Machine.execPfReplyReady n s
  | .eventSend => Sys2Proof.Machine.execEventSend s
  | .eventRepeat => Sys2Proof.Machine.execEventRepeat s
  | .gatewayGo o lane => Sys2Proof.Machine.execGatewayGo o lane s
  | .gatewayPop o => Sys2Proof.Machine.execGatewayPop o s
  | .gatewayDataAccess o tx w => Sys2Proof.Machine.execGatewayDataAccess o tx w s
  | .seepLaneEnable o n on => Sys2Proof.Machine.execSeepLaneEnable o n on s
  | .todSecondWrap => Sys2Proof.Machine.execTodSecondWrap s
  | .ppsOutFall => Sys2Proof.Machine.execPpsOutFall s
  | .todTxSend => Sys2Proof.Machine.execTodTxSend s
  | .ttMarkingInstant lag => Sys2Proof.Machine.execTtMarkingInstant lag s
  | .ttMarkedFrameRx age => Sys2Proof.Machine.execTtMarkedFrameRx age s
  | .ttTsReceive => Sys2Proof.Machine.execTtTsReceive s
  | .ttLSend => Sys2Proof.Machine.execTtLSend s
  | .ttLReceive => Sys2Proof.Machine.execTtLReceive s
  | .ppsInEdge age => Sys2Proof.Machine.execPpsInEdge age s
  | .todRxMessage bytes ms => Sys2Proof.Machine.execTodRxMessage bytes ms s
  | .holdoverEntry found => Sys2Proof.Machine.execHoldoverEntry found s
  | .todUncExceeded => Sys2Proof.Machine.execTodUncExceeded s
  | .holdoverPrediction found => Sys2Proof.Machine.execHoldoverPrediction found s
  | .oscTempSample => Sys2Proof.Machine.execOscTempSample s
  | .ledgerRecord found => Sys2Proof.Machine.execLedgerRecord found s
  | .modelRefit found => Sys2Proof.Machine.execModelRefit found s
  | .todCounterRepair isB => Sys2Proof.Machine.execTodCounterRepair isB s
  | .todNoMajority k => Sys2Proof.Machine.execTodNoMajority k s
  | .todSetSeconds o => Sys2Proof.Machine.execTodSetSeconds o s
  | .todPhaseAdjust o v => Sys2Proof.Machine.execTodPhaseAdjust o v s
  | .todSlewDone => Sys2Proof.Machine.execTodSlewDone s
  | .todCapture o v => Sys2Proof.Machine.execTodCapture o v s
  | .todFreqLatch o => Sys2Proof.Machine.execTodFreqLatch o s
  | .todFreqManWrite o v => Sys2Proof.Machine.execTodFreqManWrite o v s
  | .todSourceSelect o v => Sys2Proof.Machine.execTodSourceSelect o v s
  | .refclkLoss cycles period => Sys2Proof.Machine.execRefclkLoss cycles period s
  | .refclkReturn => Sys2Proof.Machine.execRefclkReturn s
  | .refclkRestore => Sys2Proof.Machine.execRefclkRestore s
  | .cisternRead q a k f others => Sys2Proof.Machine.execCisternRead q a k f others s
  | .cisternWrite q a k v others => Sys2Proof.Machine.execCisternWrite q a k v others s
  | .mergeEntryAge line f => Sys2Proof.Machine.execMergeEntryAge line f s
  | .patrolLineRead f => Sys2Proof.Machine.execPatrolLineRead f s
  | .scrubLapLimit => Sys2Proof.Machine.execScrubLapLimit s
  | .scrubBgGo o v => Sys2Proof.Machine.execScrubBgGo o v s
  | .scrubBgLapDone found => Sys2Proof.Machine.execScrubBgLapDone found s
  | .refreshTick => Sys2Proof.Machine.execRefreshTick s
  | .refreshRatePoll rate => Sys2Proof.Machine.execRefreshRatePoll rate s
  | .remapCommand o line => Sys2Proof.Machine.execRemapCommand o line s
  | .cisternErrorBurst lockLoss => Sys2Proof.Machine.execCisternErrorBurst lockLoss s
  | .cisternRetrainDone => Sys2Proof.Machine.execCisternRetrainDone s
  | .captureGo o v => Sys2Proof.Machine.execCaptureGo o v s
  | .captureSegment samples st => Sys2Proof.Machine.execCaptureSegment samples st s
  | .captureSegmentDrained => Sys2Proof.Machine.execCaptureSegmentDrained s
  | .captureAbort o => Sys2Proof.Machine.execCaptureAbort o s
  | .zeroiseGo o mirror => Sys2Proof.Machine.execZeroiseGo o mirror s
  | .zeroiseDone => Sys2Proof.Machine.execZeroiseDone s
  | .resetAssert => Sys2Proof.Machine.execResetAssert s
  | .coldStart d => Sys2Proof.Machine.execColdStart d s
  | .bootRestart o => Sys2Proof.Machine.execBootRestart o s
  | .stageVerify o => Sys2Proof.Machine.execStageVerify o s
  | .stageVerifyDone => Sys2Proof.Machine.execStageVerifyDone s
  | .updateSwitch o v => Sys2Proof.Machine.execUpdateSwitch o v s
  | .bootFailRecover o d => Sys2Proof.Machine.execBootFailRecover o d s
  | .keeperReady k => Sys2Proof.Machine.execKeeperReady k s
  | .keeperSwitchTimeout => Sys2Proof.Machine.execKeeperSwitchTimeout s
  | .repairRecordRead o => Sys2Proof.Machine.execRepairRecordRead o s
  | .portSRead a count => Sys2Proof.Machine.execPortSRead a count s
  | .portSWrite a l => Sys2Proof.Machine.execPortSWrite a l s
  | .portSStatus op a => Sys2Proof.Machine.execPortSStatus op a s
  | .portSFrameAbort place wr a count l => Sys2Proof.Machine.execPortSFrameAbort place wr a count l s
  | .portSReadTimeout a => Sys2Proof.Machine.execPortSReadTimeout a s
  | .postedWritePerform => Sys2Proof.Machine.execPostedWritePerform s
  | .portIPrivateWrite addrBytes a l tail => Sys2Proof.Machine.execPortIPrivateWrite addrBytes a l tail s
  | .portIPrivateRead group count => Sys2Proof.Machine.execPortIPrivateRead group count s
  | .portIGroupWrite addrBytes a l tail => Sys2Proof.Machine.execPortIGroupWrite addrBytes a l tail s
  | .portIEntdaa dyn => Sys2Proof.Machine.execPortIEntdaa dyn s
  | .portISetgrpa grp => Sys2Proof.Machine.execPortISetgrpa grp s
  | .portIEnec => Sys2Proof.Machine.execPortIEnec s
  | .ibiSend acked => Sys2Proof.Machine.execIbiSend acked s
  | .ibiRetry acked => Sys2Proof.Machine.execIbiRetry acked s
  | .accessTimeout o a => Sys2Proof.Machine.execAccessTimeout o a s
  | .semClaim l k => Sys2Proof.Machine.execSemClaim l k s
  | .semRelease o k => Sys2Proof.Machine.execSemRelease o k s
  | .mbxInGo p v => Sys2Proof.Machine.execMbxInGo p v s
  | .mbxInAck k p rc => Sys2Proof.Machine.execMbxInAck k p rc s
  | .mbxInFlowRead k p => Sys2Proof.Machine.execMbxInFlowRead k p s
  | .mbxOutPost k p r => Sys2Proof.Machine.execMbxOutPost k p r s
  | .mbxOutFlowRead p => Sys2Proof.Machine.execMbxOutFlowRead p s
  | .mbxOutAck p rc => Sys2Proof.Machine.execMbxOutAck p rc s
  | .mbxDataWrite p k w => Sys2Proof.Machine.execMbxDataWrite p k w s
  | .mbxModeApply p => Sys2Proof.Machine.execMbxModeApply p s
  | .mbxEcho p => Sys2Proof.Machine.execMbxEcho p s
  | .mbxRead p silent => Sys2Proof.Machine.execMbxRead p silent s
  | .mbxWrite p silent => Sys2Proof.Machine.execMbxWrite p silent s
  | .mbxImageBlock p => Sys2Proof.Machine.execMbxImageBlock p s
  | .mbxJournal p => Sys2Proof.Machine.execMbxJournal p s
  | .mbxTelemetry p => Sys2Proof.Machine.execMbxTelemetry p s
  | .mbxVendorOpcode p rc reply => Sys2Proof.Machine.execMbxVendorOpcode p rc reply s
  | .mbxBadOpcode p => Sys2Proof.Machine.execMbxBadOpcode p s
  | .doorbellTodevSet p bits => Sys2Proof.Machine.execDoorbellTodevSet p bits s
  | .doorbellTodevAck k p bits => Sys2Proof.Machine.execDoorbellTodevAck k p bits s
  | .doorbellTohostSet k p bits => Sys2Proof.Machine.execDoorbellTohostSet k p bits s
  | .doorbellTohostClear p bits => Sys2Proof.Machine.execDoorbellTohostClear p bits s
  | .irqSourceAssert id => Sys2Proof.Machine.execIrqSourceAssert id s
  | .irqClaim k => Sys2Proof.Machine.execIrqClaim k s
  | .irqEoi k id => Sys2Proof.Machine.execIrqEoi k id s
  | .kicModeWrite k v => Sys2Proof.Machine.execKicModeWrite k v s
  | .keeperFault k c => Sys2Proof.Machine.execKeeperFault k c s
  | .watchdogKick k => Sys2Proof.Machine.execWatchdogKick k s
  | .watchdogExpiry k => Sys2Proof.Machine.execWatchdogExpiry k s
  | .dpIdleDeclare o => Sys2Proof.Machine.execDpIdleDeclare o s
  | .dpIdleCancel o => Sys2Proof.Machine.execDpIdleCancel o s
  | .ltrWrite o p v => Sys2Proof.Machine.execLtrWrite o p v s
  | .sleepEntryStart edges => Sys2Proof.Machine.execSleepEntryStart edges s
  | .sleepDelayRetry b edges => Sys2Proof.Machine.execSleepDelayRetry b edges s
  | .sleepPrepareDone writes pps => Sys2Proof.Machine.execSleepPrepareDone writes pps s
  | .sleepHoldoffExpiry edges => Sys2Proof.Machine.execSleepHoldoffExpiry edges s
  | .wakeEvent w => Sys2Proof.Machine.execWakeEvent w s
  | .sleepExitDone cal => Sys2Proof.Machine.execSleepExitDone cal s
  | .perfLevelChange => Sys2Proof.Machine.execPerfLevelChange s
  | .avsAck o v => Sys2Proof.Machine.execAvsAck o v s
  | .avsTimeout => Sys2Proof.Machine.execAvsTimeout s
  | .sg1ParityError p d => Sys2Proof.Machine.execSg1ParityError p d s
  | .sg1Release o => Sys2Proof.Machine.execSg1Release o s
  | .ppsReadback err => Sys2Proof.Machine.execPpsReadback err s
  | .sg3Request o v => Sys2Proof.Machine.execSg3Request o v s
  | .sg3Release o => Sys2Proof.Machine.execSg3Release o s
  | .sg4Release o => Sys2Proof.Machine.execSg4Release o s
  | .lenPathTest ok => Sys2Proof.Machine.execLenPathTest ok s
  | .lenReadbackMismatch => Sys2Proof.Machine.execLenReadbackMismatch s
  | .sg4Scan found => Sys2Proof.Machine.execSg4Scan found s
  | .clockMonitorFault k => Sys2Proof.Machine.execClockMonitorFault k s
  | .supplyOutOfWindow r => Sys2Proof.Machine.execSupplyOutOfWindow r s
  | .supplyRestart lost => Sys2Proof.Machine.execSupplyRestart lost s
  | .supplyRestartRecover => Sys2Proof.Machine.execSupplyRestartRecover s
  | .memoryPatrol inst row f => Sys2Proof.Machine.execMemoryPatrol inst row f s
  | .fuseRepairBurn o => Sys2Proof.Machine.execFuseRepairBurn o s
  | .fuseRepairBurnDone => Sys2Proof.Machine.execFuseRepairBurnDone s
  | .journalEntryWrite => Sys2Proof.Machine.execJournalEntryWrite s
  | .journalMirrorWrite => Sys2Proof.Machine.execJournalMirrorWrite s
  | .thermalSampleStart => Sys2Proof.Machine.execThermalSampleStart s
  | .thermalSampleDone rd => Sys2Proof.Machine.execThermalSampleDone rd s
  | .effortRiseStep => Sys2Proof.Machine.execEffortRiseStep s
  | .ventCooldownExpiry => Sys2Proof.Machine.execVentCooldownExpiry s
  | .monChannelResult c l => Sys2Proof.Machine.execMonChannelResult c l s
  | .monCalStart o => Sys2Proof.Machine.execMonCalStart o s
  | .monCalDone r => Sys2Proof.Machine.execMonCalDone r s
  | .monCalTimeout => Sys2Proof.Machine.execMonCalTimeout s
  | .lifecycleTransition o v => Sys2Proof.Machine.execLifecycleTransition o v s
  | .lifecycleBurnDone bad => Sys2Proof.Machine.execLifecycleBurnDone bad s
  | .debugOpen o level => Sys2Proof.Machine.execDebugOpen o level s
  | .debugOpenDone => Sys2Proof.Machine.execDebugOpenDone s
  | .debugClose o => Sys2Proof.Machine.execDebugClose o s
  | .jtagDbgReq level => Sys2Proof.Machine.execJtagDbgReq level s
  | .jtagDbgClose => Sys2Proof.Machine.execJtagDbgClose s
  | .trstAssert => Sys2Proof.Machine.execTrstAssert s
  | .jtagDebugAccess a w => Sys2Proof.Machine.execJtagDebugAccess a w s
  | .jtagBypass => Sys2Proof.Machine.execJtagBypass s
  | .jtagIdcode => Sys2Proof.Machine.execJtagIdcode s
  | .jtagSamplePreload l => Sys2Proof.Machine.execJtagSamplePreload l s
  | .jtagExtest => Sys2Proof.Machine.execJtagExtest s
  | .jtagClamp => Sys2Proof.Machine.execJtagClamp s
  | .jtagHighz => Sys2Proof.Machine.execJtagHighz s
  | .jtagExtestPulse => Sys2Proof.Machine.execJtagExtestPulse s
  | .jtagExtestTrain => Sys2Proof.Machine.execJtagExtestTrain s
  | .jtagTestLogicReset => Sys2Proof.Machine.execJtagTestLogicReset s
  | .railBackInWindow r => Sys2Proof.Machine.execRailBackInWindow r s
  | .clockMonitorRearm k => Sys2Proof.Machine.execClockMonitorRearm k s
  | .sleepNoAnswer b edges => Sys2Proof.Machine.execSleepNoAnswer b edges s
  | .keeperHalt k => Sys2Proof.Machine.execKeeperHalt k s
  | .keeperResume k => Sys2Proof.Machine.execKeeperResume k s
  | .boundaryUpdate l => Sys2Proof.Machine.execBoundaryUpdate l s

end Sys2Proof.Machine
end

