-- ==== Sys2Proof/Machine/Pins.lean ====
section
/-!
DEFINITION. The levels of the output balls (R87, R193, R248, R250, R251, R274, R279, R325, R361, R426 of spec/). They follow from the state, and no
command writes them.
-/
namespace Sys2Proof.Machine

/-- What CLKOUT_REC is made from (R250): the timing island with FREQ_ADJ in 1e-15, or the recovered rate of a line lane, as its PLL's
FREQ_OFS and the timing loop's integrator. -/
inductive ClkSource where
  | tod (freq : Int)
  | lane (n : Fin 8) (pll integrator : Int)
  deriving DecidableEq, Repr

/-- CLKOUT_REC's nominal frequency in Hz and its source; none while it is held low (R250). -/
def clkout (s : State) : Option (Nat × ClkSource) :=
  let a := R.TOD_CLKOUT
  let n := lane (s.fld a F.TOD_CLKOUT_LANE)
  let hz := match s.fld a F.TOD_CLKOUT_FREQ with | 0 => 10000000 | 1 => 25000000 | _ => 156250000
  if s.inReset || clkoutLow s then none
  else some (hz, if s.flag a F.TOD_CLKOUT_SRC then .lane n (freqOfs s n) s.sig[n].trecI else .tod s.tod.freq)

/-- The balls that are high-impedance unless a transfer runs on them (R279, R426, R430). -/
inductive Ball where
  | spiMiso | tdo | nvm
  deriving DecidableEq, Repr

/-- The levels of the status, timing and control balls; an active-low ball is true while it is released. -/
structure PinLevels where
  len : Nat
  ready : Bool
  irqN : Bool
  safeN : Bool
  faultN : Bool
  ppsOut : Bool
  todValid : Bool
  clkout : Option (Nat × ClkSource)
  scan : Option (List (Nat × Bool))
  todTxLow : Bool                -- TOD_TX is held low
  biasmod : List Int             -- BIASMOD0 to BIASMOD7 from their midpoint, in 1/8 mV
  nvmCsN : Bool                  -- NVM_CS_N is high
  driven : List Ball             -- balls that are high-impedance while nothing is transferred, and that the device drives now
  deriving DecidableEq, Repr

/-- What a ball-driving instruction puts on the balls (R410, R411): the values of the boundary cells, nothing in HIGHZ. The order of
the cells is not in the spec. -/
def scanDrive (s : State) : Option (List (Nat × Bool)) :=
  if s.sec.driven then some (if s.sec.instr = .highz then [] else s.sec.cells) else none

/-- The DAC codes that line lane n's pair sends: none while the DAC is muted (R88) or a boundary-scan instruction overrides the
functional output (R411). -/
def lineOut (s : State) (n : Fin 8) : List Nat := if s.light[n].muted || s.sec.driven then [] else s.sig[n].dac

/-- The levels now. While a boundary-scan instruction drives the balls (`scan`) LEN0 to LEN7 are low, SAFE_N and FAULT_N keep their
functional values, and every other ball shows its cell and not the level given here (R410). While RESET_N is low LEN0 to LEN7, PPS_OUT, TOD_VALID, CLKOUT_REC and READY are low, and IRQ_N, SAFE_N and FAULT_N
are released (R426).
Every command is a whole transfer, so between commands the NVM, SPI_MISO and TDO are not driven, and NVM_CS_N is high by its pull-up (R279);
of the NVM that holds after step 7 for good. -/
def pinLevels (s : State) : PinLevels :=
  { len := if s.inReset || s.sec.driven then 0 else s.fld R.LINE_LEN_STATUS F.LINE_LEN_STATUS_LEN_OUT
    ready := readyOut s
    irqN := s.inReset || irqN s
    safeN := s.inReset || safeN s
    faultN := s.inReset || faultN s
    ppsOut := !s.inReset && s.tod.ppsHigh
    todValid := !s.inReset && s.flag R.TOD_STATUS F.TOD_STATUS_VALID
    clkout := clkout s
    scan := scanDrive s
    todTxLow := s.inReset
    biasmod := (List.finRange 8).map fun n => if s.inReset then 0 else biasmod s n
    nvmCsN := true
    driven := [] }

end Sys2Proof.Machine
end

