-- ==== Sys2Proof/Safety.lean ====
section
/-!
DEFINITION. The terms in which claims about the block are stated: how a command completes, when a register write is accepted and what
it then does, and what makes the laser enables safe.
-/
namespace Sys2Proof.Machine

/-! ### Completion -/

/-- The command's own effect brings `s` to `u`, and the next state is `u` after what follows every command; the queue is not the
command's. -/
def Completes (c : Instr) (s u : State) : Prop := exec c s = .next { follow s u with pending := s.pending }

/-- RESET_N is high, so commands act (R426). -/
def Running (s : State) : Prop := s.inReset = false

/-! ### Writes of registers (R307) -/

/-- A write of the whole word `w` to the register at `a` passes every step of R307, and it reaches no locked field. -/
def WriteFits (o : Origin) (a : Nat) (w : Word) (s : State) : Bool :=
  !s.inReset && (accessCode s o a 4 (some w) false).isNone && !inAperture a && (targetRefuses s o a w).isNone &&
  (match specAt a with | some r => !lockHit s r a w | none => false)

/-- The write passes, and no word waits in a write queue, so that the fabric grants it at once (R27). -/
def WriteOk (o : Origin) (a : Nat) (w : Word) (s : State) : Bool := !wordsWait s && WriteFits o a w s

/-- What the old settings governed is up to date, and the fields that the write reaches are set. -/
def stored (o : Origin) (a : Nat) (w : Word) (s : State) : State :=
  match specAt a with | some r => store o r a w (before a s) | none => s

/-- The fields are set, and then the command bits and followings of the register act. -/
def accepted (o : Origin) (a : Nat) (w : Word) (s : State) : State := effects o a w (before a s) (stored o a w s)

/-- The requester's answer to the access that `s` granted is the single code OK. -/
def answeredOk (s : State) (o : Origin) (u : State) : State := answer s o { code := .ok } u

/-- A command that is a register write completes with the register's effect and the answer OK. -/
def CompletesWrite (c : Instr) (o : Origin) (a : Nat) (w : Word) (s : State) : Prop :=
  Completes c s (answeredOk s o (accepted o a w s))

/-! ### Reads of registers -/

/-- A read of the whole word at `a` passes every step of R307, and the fabric grants it at once. -/
def ReadOk (o : Origin) (a : Nat) (s : State) : Bool :=
  !s.inReset && !wordsWait s && (accessCode s o a 4 none false).isNone && !inAperture a && (readRefuses s o (wordAddr (aliased a)) (inAlias a)).isNone

/-- A command that is a register read completes with the read's effect and the answer OK with the data `d`. -/
def CompletesRead (c : Instr) (o : Origin) (a : Nat) (d : Nat) (s : State) : Prop :=
  Completes c s (readAs o a 4 s) ∧ (readAs o a 4 s).resp[o.idx] = [{ code := .ok, data := d }]

/-! ### Laser enables (R87, R88) -/

/-- Every LEN[n] is high exactly while R87 allows it, and the DAC of a lane is muted whenever a condition of R88 holds. -/
def LaserSafe (s : State) : Prop :=
  ∀ n : Fin 8, lenOut s n = (lenAllowed s && lenEn s n) ∧ (muteCond s n = true → s.light[n].muted = true)

/-! ### What follows a command when nothing is due -/

/-- No region reaction is to begin, no reply waits in a mailbox that is served and empty, no sleep exit is due or in progress, and no update of the
device's images goes on behind the commands. -/
def Quiet (s : State) : Bool :=
  !s.inReset && (List.finRange 5).all (fun r => !s.region[r].fresh) &&
  (List.finRange 3).all (fun p => s.mbx[p].queue.isEmpty || mbxOutFull s p || !mbxServed s p) && (pwrState s == 0) && !s.pwr.exiting &&
  s.boot.upd.img.isNone

end Sys2Proof.Machine
end

