-- ==== Sys2Proof/Certificates/Slice0/Obligations.lean ====
section
/-!
DEFINITION. The statements about the block that provers are asked to prove or refute.
-/
open Sys2Proof Sys2Proof.Machine

/-- A step with command c at the front of the queue is the meaning of c on the state with the queue's rest (R16). -/
def Obligations.FrontCommandRuns : Prop :=
  ∀ (s : State) (c : Instr) (rest : List Instr), step { s with pending := c :: rest } = exec c { s with pending := rest }

/-- With no command waiting a step is one cycle of the time-of-day counter, and in reset nothing of it (the model's choice, log entry 3) (R220). -/
def Obligations.EmptyQueueIsOneCounterCycle : Prop :=
  ∀ s : State, s.pending = [] →
    (Running s → step s = .next { follow s (todRun 1 s) with pending := [] }) ∧
    (s.inReset = true → step s = .next { follow s s with pending := [] })

/-- Every command answers a next state with the queue unchanged: there is no fault and no refusal (R14, R33). -/
def Obligations.EveryCommandAnswers : Prop :=
  ∀ (c : Instr) (s : State), ∃ t, exec c s = .next t ∧ t.pending = s.pending

/-- While RESET_N is low only the commands on pins and the cold start have an effect of their own (R426, R274). -/
def Obligations.InResetOnlyPinsAct : Prop :=
  ∀ (c : Instr) (s : State), s.inReset = true →
    c ≠ .txdisAssert → c ≠ .txdisDeassert → (∀ w, c ≠ .wakeEvent w) → c ≠ .trstAssert → c ≠ .resetAssert → (∀ d, c ≠ .coldStart d) →
    Completes c s s

/-- After every step LEN[n] is high exactly while every condition of R87 holds, and a DAC with a mute condition of R88 is muted (R87, R88). -/
def Obligations.LaserEnablesStaySafe : Prop :=
  ∀ s t : State, step s = .next t → LaserSafe t

/-- After reset every LEN ball is low, every DAC is muted, and the laser invariant holds (R87, R88, R426). -/
def Obligations.LaserEnablesSafeAtReset : Prop :=
  LaserSafe State.reset ∧ (∀ n : Fin 8, lenOut State.reset n = false ∧ State.reset.light[n].muted = true) ∧
    readyOut State.reset = false

/-- When nothing is due, what follows a command changes only the power and laser status, the lights, seen requests and Port I's in-band state (R87, R325, R335, R347, R348). -/
def Obligations.QuietCommandsSettle : Prop :=
  ∀ old u : State, Quiet u = true →
    let t := follow old u
    t.mem = u.mem ∧ t.act = u.act ∧ t.now = u.now ∧ t.tod = u.tod ∧ t.region = u.region ∧ t.blocks = u.blocks ∧ t.well = u.well ∧
    t.line = u.line ∧ t.rx = u.rx ∧ t.sig = u.sig ∧ t.frm = u.frm ∧ t.cores = u.cores ∧ t.atlas = u.atlas ∧ t.seepLn = u.seepLn ∧ t.seep = u.seep ∧
    t.host = u.host ∧ t.cis = u.cis ∧ t.fuse = u.fuse ∧ t.boot = u.boot ∧ t.mbx = u.mbx ∧ { t.pwr with levels := u.pwr.levels } = u.pwr ∧ t.saf = u.saf ∧
    t.thm = u.thm ∧ t.mon = u.mon ∧ t.sec = u.sec ∧ t.resp = u.resp ∧
    (∀ a, a ≠ R.PWR_LTR_EFF → a ≠ R.PWR_STATUS → a ≠ R.LINE_LEN_STATUS → a ≠ R.SAF_JNL_STATUS → t.reg a = u.reg a) ∧
    t.fld R.PWR_LTR_EFF F.PWR_LTR_EFF_EFF = ltrEff u

/-- FRAME_, EPOCH_ and DISTILLATION_BOUNDARY count frames and epochs on a running side where such a boundary is next, and else do nothing (R12, R13, R28, R29, R88). -/
def Obligations.FrameAndEpochBoundariesComplete : Prop :=
  ∀ (s : State) (n : Fin 8) (d : FrameData), Running s →
    (s.line[n].rxRun = true →
      let ends := s.line[n].realign = true ∨ (s.line[n].rxCnt + 1) % 1024 = 0
      let counts (u : State) := u.line[n].rxCnt = s.line[n].rxCnt + 1 ∧
        u.line[n].rxEpochs = s.line[n].rxEpochs + (if ends then 1 else 0) ∧
        (∀ k : Fin 8, u.line[k].txCnt = s.line[k].txCnt ∧ (k ≠ n → u.line[k].rxCnt = s.line[k].rxCnt))
      (∃ u, Completes (.frameBoundary n true d) s u ∧ counts u) ∧
      (ends → ∃ u, Completes (.epochBoundary n true d) s u ∧ counts u) ∧
      (¬ ends → Completes (.epochBoundary n true d) s s ∧ Completes (.distillationBoundary n d) s s) ∧
      (ends → (s.line[n].rxEpochs + 1) % 1024 = 0 → ∃ u, Completes (.distillationBoundary n d) s u ∧ counts u) ∧
      ((s.line[n].rxEpochs + 1) % 1024 ≠ 0 → Completes (.distillationBoundary n d) s s)) ∧
    (s.line[n].txRun = true →
      let counts (u : State) := (∀ k ∈ txLanes s n, u.line[k].txCnt = s.line[k].txCnt + 1 ∧ u.light[k].muted = muteCond u k) ∧
        (∀ k : Fin 8, u.line[k].rxCnt = s.line[k].rxCnt ∧ (k ∉ txLanes s n → u.line[k].txCnt = s.line[k].txCnt))
      n ∈ txLanes s n ∧ (∃ u, Completes (.frameBoundary n false d) s u ∧ counts u) ∧
      ((s.line[n].txCnt + 1) % 1024 = 0 →
        ∃ u, Completes (.epochBoundary n false d) s u ∧ counts u ∧ u.line[n].txEpochs = s.line[n].txEpochs + 1) ∧
      ((s.line[n].txCnt + 1) % 1024 ≠ 0 → Completes (.epochBoundary n false d) s s)) ∧
    (s.line[n].rxRun = false → Completes (.frameBoundary n true d) s s ∧ Completes (.epochBoundary n true d) s s ∧
      Completes (.distillationBoundary n d) s s) ∧
    (s.line[n].txRun = false → Completes (.frameBoundary n false d) s s ∧ Completes (.epochBoundary n false d) s s)

/-- A lane PLL's lock starts the frame counts at 0, its loss stops them and mutes; signal detection and loss set and clear SIG_DET (R28, R29, R71, R75, R112). -/
def Obligations.LanePllAndSignalEventsComplete : Prop :=
  ∀ (s : State) (n : Fin 8), Running s →
    (s.line[n].pllOn = true → s.flag (R.LINE_PLL_STATUS n) F.LINE_PLL_STATUS_LOCK = false →
      ∃ u, Completes (.lanePllLock n) s u ∧ u.flag (R.LINE_PLL_STATUS n) F.LINE_PLL_STATUS_LOCK = true ∧
        u.line[n].txRun = true ∧ u.line[n].rxRun = true ∧ u.line[n].rxCnt = 0 ∧
        u.line[n].rxEpochs = 0 ∧ (∀ k ∈ spreadLanes s n, u.line[k].txCnt = 0 ∧ u.line[k].txEpochs = 0) ∧ n ∈ spreadLanes s n) ∧
    (s.flag (R.LINE_PLL_STATUS n) F.LINE_PLL_STATUS_LOCK = true →
      ∃ u, Completes (.lanePllLol n) s u ∧ u.flag (R.LINE_PLL_STATUS n) F.LINE_PLL_STATUS_LOCK = false ∧
        u.flag (R.LINE_PLL_STATUS n) F.LINE_PLL_STATUS_LOL = true ∧
        u.fld (R.LINE_PLL_STATUS n) F.LINE_PLL_STATUS_LOL_COUNT =
          min 255 (s.fld (R.LINE_PLL_STATUS n) F.LINE_PLL_STATUS_LOL_COUNT + 1) ∧
        u.line[n].txRun = false ∧ u.line[n].rxRun = false ∧ u.light[n].muted = true) ∧
    (s.line[n].pllEver = true → s.flag (R.LINE_FE_CFG n) F.LINE_FE_CFG_ADC_EN = true →
      s.flag (R.LINE_FE_STATUS n) F.LINE_FE_STATUS_SIG_DET = false →
      ∃ u, Completes (.signalDetect n) s u ∧ u.flag (R.LINE_FE_STATUS n) F.LINE_FE_STATUS_SIG_DET = true) ∧
    (s.flag (R.LINE_FE_STATUS n) F.LINE_FE_STATUS_SIG_DET = true →
      ∃ u, Completes (.signalLoss n) s u ∧ u.flag (R.LINE_FE_STATUS n) F.LINE_FE_STATUS_SIG_DET = false ∧
        u.flag (R.LINE_FE_STATUS n) F.LINE_FE_STATUS_SIG_LOSS = true ∧ (rxState s n ≠ 0 → rxState u n = 4))

/-- A pump fault sets its flag and quarantines the pump at once; the lowest free spare takes over the slot of the oldest fault (R32, R33, R45, R57, R58). -/
def Obligations.PumpFaultsQuarantineAndTakeOver : Prop :=
  ∀ (s : State) (n : Fin 8), Running s →
    (∀ (m : Fin 64) (c : PumpCause) (blk : Nat), ∃ u, Completes (.pumpFault n m c blk) s u ∧ u.flag (R.PUMP_ERR n m) c.fld = true ∧
      (s.well[n].restarting = false → pumpQuar s n m = false → pumpQuar u n m = true ∧ pumpRole u n m = 3)) ∧
    (∀ (m : Fin 64) (blk : Nat), pumpRole s n m = 1 ∨ pumpRole s n m = 2 →
      ∃ u, Completes (.blockSlotEnd n m blk) s u ∧ u.flag (R.PUMP_ERR n m) F.PUMP_ERR_DEADLINE = true) ∧
    (∀ (m : Fin 64) (blk : Nat), pumpRole s n m ≠ 1 → pumpRole s n m ≠ 2 → Completes (.blockSlotEnd n m blk) s s) ∧
    (∀ (v : Vacancy) (rest : List Vacancy) (m : Nat) (l : List Nat), s.well[n].vacant = v :: rest → spares s n = m :: l →
      v.role ≤ 3 → v.slot < 64 →
      ∃ u, Completes (.pumpTakeover n) s u ∧ pumpRole u n m = v.role ∧
        u.fld (R.PUMP_STATE n m) F.PUMP_STATE_SLOT = v.slot ∧ u.well[n].vacant = rest ∧
        u.flag (R.WELL_STATUS n) F.WELL_STATUS_TAKEOVER = true)

/-- A well fault is recorded and schedules a restart, the restart sets RESTART and BURST, and a crossing fault is the destination block's (R20, R33, R34, R37, R39, R60). -/
def Obligations.WellFaultsAndRestartsComplete : Prop :=
  ∀ (s : State) (n : Fin 8), Running s →
    (∀ mech, ∃ u, Completes (.wellFault n mech) s u ∧ u.well[n].mech = some mech ∧ u.well[n].faultCount = s.well[n].faultCount + 1 ∧
      (reacting s .line = false → s.well[n].restarting = false →
        u.well[n].restarting = true ∧ u.well[n].switch = none ∧ u.well[n].vacant = [])) ∧
    (∀ (k : Nat) (tx : Bool) (p : Nat),
      exec (.crossingFault (.well n) k tx p) s = exec (.wellFault n .crossing) s) ∧
    (∀ (j : Fin 3) (k : Nat) (tx : Bool) (p : Nat),
      Completes (.crossingFault (.keeper j) k tx p) s (keeperFault j .crossing s) ∧
      (pairPowered s j = true → (blockSt (keeperFault j .crossing s) (.keeper j)).mech = some .crossing)) ∧
    (∀ (b : Block) (k : Nat) (tx : Bool) (p : Nat), (∀ j, b ≠ .well j) → (∀ j, b ≠ .keeper j) →
      ∃ u, Completes (.crossingFault b k tx p) s u ∧ (blockSt u b).mech = some .crossing ∧
        (blockSt u b).count = (blockSt s b).count + 1) ∧
    (∀ cw fr, s.well[n].restarting = true → s.well[n].quiet = false → updStep s = 0 → ∃ u, Completes (.wellRestart n cw fr) s u ∧
      u.flag (R.WELL_STATUS n) F.WELL_STATUS_RESTART = true ∧ u.flag (R.WELL_STATUS n) F.WELL_STATUS_BURST = true) ∧
    (∀ cw fr, s.well[n].restarting = false → Completes (.wellRestart n cw fr) s s)

/-- Block faults react locally, a late reaction escalates with CAUSE 5, a region fault is recorded and reacts, and a release lets FAULT_N go (R33, R35, R36, R37, R38, R39, R361). -/
def Obligations.BlockAndRegionFaultsComplete : Prop :=
  ∀ s : State, Running s →
    (∀ (b : Block) (k : Nat) (tx quick : Bool) (p : Nat), (∀ j, b ≠ .well j) → (∀ j, b ≠ .keeper j) →
      ∃ u, Completes (.blockFault b k tx p quick) s u ∧ (blockSt u b).mech = some .own ∧
        (blockSt u b).count = (blockSt s b).count + 1 ∧
        (s.region[b.region.idx].reacting = false → blockRecent s b = [] → (b ≠ .fec → quick = false → blockReacting u b = true) ∧
          (b = .fec → ∀ n : Fin 8, bitOf k n = true → if tx then s.line[n].txRun = true → u.frm[n].txRestart = some p
            else s.line[n].rxRun = true → u.frm[n].rxRestart = some p))) ∧
    (∀ b : Block, (∀ j, b ≠ .well j) → (∀ j, b ≠ .keeper j) → blockReacting s b = true →
      ∃ u, Completes (.localReactionTimeout b) s u ∧ u.fld (R.CHIP_RERR b.region.idx) F.CHIP_RERR_CAUSE = 5 ∧
        u.flag (R.CHIP_RERR b.region.idx) F.CHIP_RERR_PEND = true ∧ u.region[b.region.idx].reacting = true) ∧
    (∀ (r : Region) (blk cause lanes sg : Nat), blk < 16 → cause < 16 →
      ∃ u, Completes (.regionFault r blk cause lanes sg) s u ∧ u.flag (R.CHIP_RERR r.idx) F.CHIP_RERR_PEND = true ∧
        u.fld (R.CHIP_RERR r.idx) F.CHIP_RERR_LAST_BLOCK = blk ∧ u.fld (R.CHIP_RERR r.idx) F.CHIP_RERR_CAUSE = cause ∧
        u.region[r.idx].reacting = true) ∧
    (∀ (r : Region) (inTime : Bool), s.region[r.idx].reacting = true →
      ∃ u, Completes (.regionReactionDone r inTime) s u ∧ u.region[r.idx].reacting = false ∧ (inTime = false → faultN u = false)) ∧
    (∀ o, let w := F.CHIP_FAULT_STATUS_CHIP_FAULT.put (keepWord s R.CHIP_FAULT_STATUS) 1
      WriteOk o R.CHIP_FAULT_STATUS w s = true →
      CompletesWrite (.faultRelease o) o R.CHIP_FAULT_STATUS w s ∧ faultN (accepted o R.CHIP_FAULT_STATUS w s) = true)

/-- An accepted LOAD with a recipe that matches and fits starts a load into the inactive bank; its completion installs the recipe (R51, R53, R54). -/
def Obligations.RecipeLoadsComplete : Prop :=
  ∀ (s : State) (n : Fin 8), Running s →
    (∀ (o : Origin) (v : Word), let a := R.WELL_RECIPE n
      let w := withBit F.WELL_RECIPE_LOAD v
      let x := stored o a w s
      WriteOk o a w s = true →
      CompletesWrite (.recipeLoad o n v) o a w s ∧
      accepted o a w s = recipeLoad n (stFlag x F.BOOT_STAGE_STATUS_VERIFIED) x ∧
      (x.flag a F.WELL_RECIPE_SRC = false → findRecipe x.pumps (x.fld a F.WELL_RECIPE_SEL) = none →
        (accepted o a w s).flag (R.WELL_STATUS n) F.WELL_STATUS_LOAD_ERR = true) ∧
      (∀ r, x.flag a F.WELL_RECIPE_SRC = false → findRecipe x.pumps (x.fld a F.WELL_RECIPE_SEL) = some r →
        x.pumps.intact = true → recipeMatches x n r = true → recipeFits x n r = true →
        ((accepted o a w s).well[n].load.map (·.bank)) = some (1 - x.fld (R.WELL_IBANK n) F.WELL_IBANK_ACTIVE) ∧
        (accepted o a w s).flag (R.WELL_IBANK n) F.WELL_IBANK_LOADING = true)) ∧
    (∀ (l : Load) (bad : List (Fin 64)), s.well[n].load = some l → l.bank ≤ 1 →
      Completes (.recipeLoadDone n bad) s (updNext (recipeLoadDone n bad s)) ∧
      (recipeLoadDone n bad s).well[n].load = none ∧ bankRecipe (recipeLoadDone n bad s) n l.bank = some l.recipe ∧
      (recipeLoadDone n bad s).flag (R.WELL_IBANK n) F.WELL_IBANK_LOADING = false)

/-- An accepted SWITCH requests the other bank; each side switches at its boundary, and a target bank that cannot run is refused (R54, R55). -/
def Obligations.BankSwitchesComplete : Prop :=
  ∀ (s : State) (n : Fin 8), Running s →
    (∀ o, let a := R.WELL_IBANK n
      let w := F.WELL_IBANK_SWITCH.put (keepWord s a) 1
      WriteOk o a w s = true → s.well[n].switch = none →
      CompletesWrite (.bankSwitchRequest o n) o a w s ∧
      (accepted o a w s).well[n].switch.map (·.target) = some (1 - s.fld a F.WELL_IBANK_ACTIVE) ∧
      (accepted o a w s).flag a F.WELL_IBANK_SWITCH_PEND = true) ∧
    (∀ (w : Switch) (t c : Recipe), updStep s = 0 → s.well[n].switch = some w → w.rxDone = false → s.well[n].load = none →
      bankRecipe s n w.target = some t → bankRecipe s n (bankInForce s n 1) = some c → bankValidFor s n 1 w.target = true →
      recipeMatches s n t = true → c.sig = t.sig →
      ∃ u, Completes (.bankSwitchSide n true) s u ∧
        u.well[n].switch = (if w.txDone then none else some { w with rxDone := true })) ∧
    (∀ (rx : Bool) (w : Switch), updStep s = 0 → s.well[n].switch = some w → w.rxDone = false → w.txDone = false →
      s.well[n].load = none → bankRecipe s n w.target = none →
      ∃ u, Completes (.bankSwitchSide n rx) s u ∧ u.well[n].switch = none ∧
        u.flag (R.WELL_STATUS n) F.WELL_STATUS_SWITCH_REFUSED = true ∧ u.fld (R.WELL_STATUS n) F.WELL_STATUS_REFUSE_REASON = 1) ∧
    (∀ rx : Bool, updStep s = 0 → s.well[n].switch = none → Completes (.bankSwitchSide n rx) s s)

/-- A rotation step isolates its victim for a slice; a passing slice returns it as a spare, a failing one quarantines it, a late one counts (R31, R56, R59, R372, R373, R374). -/
def Obligations.TestSlicesComplete : Prop :=
  ∀ (s : State) (n : Fin 8), Running s →
    (s.well[n].rotDue = false → Completes (.rotationStep n) s s) ∧
    (∀ (m : Nat) (l : List Nat), s.well[n].rotDue = true → s.well[n].move = none → s.flag (R.WELL_ROT_CFG n) F.WELL_ROT_CFG_ROT_EN = true → testBusy s n = false →
      s.well[n].restarting = false → s.well[n].retest = m :: l → m < 64 →
      ∃ u, Completes (.rotationStep n) s u ∧ testBusy u n = true ∧ u.fld (R.WELL_POOL n) F.WELL_POOL_TEST_PUMP = m ∧ pumpRole u n m = 3) ∧
    (testBusy s n = true → let m := s.fld (R.WELL_POOL n) F.WELL_POOL_TEST_PUMP
      (∃ u, Completes (.testSliceDone n .pass) s u ∧ testBusy u n = false ∧ pumpRole u n m = 0 ∧ pumpQuar u n m = false ∧
        u.flag (R.PUMP_STATE n m) F.PUMP_STATE_TEST_PASS = true) ∧
      (∃ u, Completes (.testSliceDone n .sigFail) s u ∧ testBusy u n = false ∧ pumpRole u n m = 3 ∧ pumpQuar u n m = true ∧
        u.flag R.SAF_LBIST_STATUS F.SAF_LBIST_STATUS_SLICE_FAIL = true) ∧
      (∃ u, Completes (.testSliceTimeout n) s u ∧ testBusy u n = false ∧
        u.flag R.SAF_LBIST_STATUS F.SAF_LBIST_STATUS_SLICE_LATE = true)) ∧
    (∀ (o : Origin) (v : Word), let a := R.SAF_LBIST_CTRL
      let w := withBit F.SAF_LBIST_CTRL_GO v
      let x := stored o a w s
      WriteOk o a w s = true →
      CompletesWrite (.lbistGo o v) o a w s ∧
      (pumpQuar x (x.fld a F.SAF_LBIST_CTRL_WELL % 8) (x.fld a F.SAF_LBIST_CTRL_PUMP) = true →
        (accepted o a w s).flag a F.SAF_LBIST_CTRL_NAK = true) ∧
      (pumpQuar x (x.fld a F.SAF_LBIST_CTRL_WELL % 8) (x.fld a F.SAF_LBIST_CTRL_PUMP) = false →
        (accepted o a w s).well[lane (x.fld a F.SAF_LBIST_CTRL_WELL)].named = some (x.fld a F.SAF_LBIST_CTRL_PUMP)))

/-- Takeovers, rotation steps and test slices of a well leave memory, time, the other wells, the lanes and every other unit as they are (R18, R33, R57, R58, R59). -/
def Obligations.WellCommandsKeepTheRest : Prop :=
  ∀ (s : State) (n : Fin 8) (c : Instr), Running s →
    (c = .pumpTakeover n ∨ c = .rotationStep n ∨ (∃ r, c = .testSliceDone n r) ∨ c = .testSliceTimeout n) →
    (∀ m ∈ s.well[n].retest, m < 64) → (∀ m, s.well[n].named = some m → m < 64) →
    ∃ u, Completes c s u ∧ u.mem = s.mem ∧ u.act = s.act ∧ u.tod = s.tod ∧ u.region = s.region ∧ u.line = s.line ∧ u.rx = s.rx ∧
      u.sig = s.sig ∧ u.blocks = s.blocks ∧ u.cores = s.cores ∧ u.boot = s.boot ∧ u.mon = s.mon ∧ u.frm = s.frm ∧ u.atlas = s.atlas ∧ u.seepLn = s.seepLn ∧ u.seep = s.seep ∧ u.host = s.host ∧ u.cis = s.cis ∧
      u.light = s.light ∧ u.fuse = s.fuse ∧ u.port = s.port ∧ u.mbx = s.mbx ∧ u.kic = s.kic ∧ u.pwr = s.pwr ∧ u.thm = s.thm ∧
      u.sec = s.sec ∧ u.resp = s.resp ∧ (∀ k : Fin 8, k ≠ n → u.well[k] = s.well[k]) ∧
      (∀ a, (∀ m, m < 64 → a ≠ R.PUMP_STATE n m ∧ a ≠ R.PUMP_ERR n m) → a ≠ R.WELL_STATUS n → a ≠ R.WELL_CNT n →
        a ≠ R.WELL_POOL n → a ≠ R.WELL_QUAR0 n → a ≠ R.WELL_QUAR1 n → a ≠ R.SAF_LBIST_STATUS → a ≠ R.SAF_REPAIR_STATUS →
        a ≠ R.SAF_JNL_STATUS → a ≠ R.BOOT_RPR_COUNT → u.reg a = s.reg a)

/-- LEN_EN sets and clears one lane's enable; TXDIS_N low drops every LEN ball at once; the filter and the settle time run out (R87, R89). -/
def Obligations.LaserCommandsComplete : Prop :=
  ∀ (s : State) (n : Fin 8),
    (∀ o, let a := R.LINE_LEN_CTRL
      let w := maskedBits (2 ^ n.val) true
      let u := accepted o a w s
      WriteOk o a w s = true → CompletesWrite (.lenEnSet o n) o a w s ∧ lenEn u n = true ∧ lenOut u n = lenAllowed u ∧
        (∀ k : Fin 8, k ≠ n → lenEn u k = lenEn s k)) ∧
    (∀ o, let a := R.LINE_LEN_CTRL
      let w := maskedBits (2 ^ n.val) false
      let u := accepted o a w s
      WriteOk o a w s = true → CompletesWrite (.lenEnClear o n) o a w s ∧ lenEn u n = false ∧ lenOut u n = false ∧
        u.light[n].muted = true ∧ (∀ k : Fin 8, k ≠ n → lenEn u k = lenEn s k)) ∧
    (∃ u, Completes .txdisAssert s u ∧ u.txdisHigh = false ∧ u.txdisOk = false ∧
      ∀ k : Fin 8, lenOut u k = false ∧ u.light[k].muted = true) ∧
    (∃ u, Completes .txdisDeassert s u ∧ u.txdisHigh = true ∧ u.txdisOk = (s.txdisHigh && s.txdisOk)) ∧
    (Running s → ∃ u, Completes .txdisFiltExpiry s u ∧ u.txdisOk = s.txdisHigh ∧ u.txdisHigh = s.txdisHigh) ∧
    (Running s → lenOut s n = true → ∃ u, Completes (.lenSettleExpiry n) s u ∧ u.light[n].settled = true ∧ u.regs = s.regs) ∧
    (Running s → lenOut s n = false → Completes (.lenSettleExpiry n) s s)

/-- A foreground calibration runs until its results arrive; a lane with light or traffic is refused unless forced; PI_MANUAL moves the phase (R77, R78, R79, R80, R84). -/
def Obligations.ConverterCommandsComplete : Prop :=
  ∀ (s : State) (n : Fin 8), Running s →
    (∀ c, s.flag (R.LINE_CAL_STATUS n) F.LINE_CAL_STATUS_RUNNING = true →
      ∃ u, Completes (.converterCalDone n c) s u ∧ u.flag (R.LINE_CAL_STATUS n) F.LINE_CAL_STATUS_RUNNING = false ∧
        u.flag (R.LINE_CAL_STATUS n) F.LINE_CAL_STATUS_DONE = true) ∧
    (∀ c, s.flag (R.LINE_CAL_STATUS n) F.LINE_CAL_STATUS_RUNNING = false → Completes (.converterCalDone n c) s s) ∧
    (∀ (o : Origin) (v : Word), let w := withBit F.LINE_CAL_CMD_GO v
      WriteOk o R.LINE_CAL_CMD w s = true → CompletesWrite (.foregroundCalGo o v) o R.LINE_CAL_CMD w s ∧
        accepted o R.LINE_CAL_CMD w s = calGo (stored o R.LINE_CAL_CMD w s)) ∧
    (∀ (steps : Nat) (force : Bool), s.flag (R.LINE_CAL_STATUS n) F.LINE_CAL_STATUS_RUNNING = false →
      (carriesTraffic s n = false → lenOut s n = false →
        (calGoLane n steps force s).flag (R.LINE_CAL_STATUS n) F.LINE_CAL_STATUS_RUNNING = true) ∧
      (carriesTraffic s n = true ∨ lenOut s n = true →
        (calGoLane n steps false s).flag (R.LINE_CAL_STATUS n) F.LINE_CAL_STATUS_REFUSED = true)) ∧
    (∀ (o : Origin) (on : Bool), let w := F.LINE_PI_MANUAL.put (keepWord s (R.LINE_PI n)) (b2n on)
      WriteOk o (R.LINE_PI n) w s = true → CompletesWrite (.piManual o n on) o (R.LINE_PI n) w s ∧
        (on = true → (accepted o (R.LINE_PI n) w s).fld (R.LINE_PI n) F.LINE_PI_PHASE = s.fld (R.LINE_PI_MAN n) F.LINE_PI_MAN_CODE))

/-- Acquisition timeouts start a new attempt, HOLD ends in IDLE, loss of lock is flagged and starts again, restarts and reach take effect (R106, R111, R112, R113, R115, R117). -/
def Obligations.AcquisitionCommandsComplete : Prop :=
  ∀ (s : State) (n : Fin 8), Running s →
    (rxState s n = 1 → s.flag (R.WELL_RX_STATUS n) F.WELL_RX_STATUS_TREC_LOCK = false →
      ∃ u, Completes (.acqTimingTimeout n) s u ∧ rxState u n = 1 ∧ u.flag (R.WELL_RX_STATUS n) F.WELL_RX_STATUS_ACQ_FAIL = true) ∧
    (rxState s n = 2 → acqTimeout s n ≤ s.rx[n].epochs →
      ∃ u, Completes (.acqAdaptTimeout n) s u ∧ rxState u n = 1 ∧ u.flag (R.WELL_RX_STATUS n) F.WELL_RX_STATUS_ACQ_FAIL = true) ∧
    (rxState s n = 4 → ∃ u, Completes (.holdTimeout n) s u ∧ rxState u n = 0 ∧ u.rx[n].useInit = true) ∧
    (rxState s n = 3 → lossOfLockCond s n = true → s.rx[n].startPend = false → s.rx[n].restartPend = false →
      s.pending.contains (.signalLoss n) = false →
      ∃ u, Completes (.rxLossOfLock n) s u ∧ u.rx[n].startPend = true ∧
        u.flag (R.WELL_RX_STATUS n) F.WELL_RX_STATUS_LOL = true) ∧
    (s.rx[n].adaptRun = true → ∃ u, Completes (.adaptUpdateDone n) s u ∧ u.rx[n].adaptRun = false) ∧
    (∀ (o : Origin) (v : Word), let a := R.WELL_RX_CTRL n
      let w := withBit F.WELL_RX_CTRL_RESTART v
      WriteOk o a w s = true → CompletesWrite (.rxRestart o n v) o a w s ∧ (accepted o a w s).rx[n].restartPend = true) ∧
    (∀ (o : Origin) (v : Word), let a := R.WELL_RX_CTRL n
      WriteOk o a v s = true → F.WELL_RX_CTRL_RESTART.get v = 0 →
      CompletesWrite (.reachSelect o n v) o a v s ∧ accepted o a v s = reachSelect n (stored o a v s) ∧
      (reachRecipe (stored o a v s) n ((stored o a v s).fld a F.WELL_RX_CTRL_REACH) = none →
        (accepted o a v s).flag (R.WELL_RX_STATUS n) F.WELL_RX_STATUS_REACH_ERR = true))

/-- Picked samples are held, then applied, dropped or excluded, a miss fills the cache, distillation gets its results, a freeze writes back (R122, R123, R124, R125, R128, R142, R36). -/
def Obligations.AtlasLearningComplete : Prop :=
  ∀ (s : State) (n : Fin 8), Running s →
    (let a := s.atlas[n]
      let g := s.sig[n]
      let k := 2 ^ effortShift a.effort
      (∀ v, (if atlSrc s n then g.x else g.y)[a.pick]? = some v →
        ∃ u, Completes (.atlasSamplePick n) s u ∧ u.regs = s.regs ∧ u.mem = s.mem ∧
          a.pick + 2048 * k ≤ u.atlas[n].pick ∧ u.atlas[n].pick ≤ a.pick + 6144 * k ∧
          u.atlas[n].held = if atlasOn s n then a.held ++
            [{ frame := s.frm[n].frameNo, pos := a.pick, y := learnSample v, erased := decide ((g.dec[a.pick]?).join = none) }] else a.held) ∧
      ((if atlSrc s n then g.x else g.y)[a.pick]? = none → Completes (.atlasSamplePick n) s s)) ∧
    (∀ (h : Held) (rest : List Held), s.atlas[n].held = h :: rest →
      let ctx := ctxSyms s n h
      let out := h.erased || ctx.contains .excluded || atlFrozen s n || s.atlas[n].resume
      (out = true → ∃ u, Completes (.atlasUpdate n) s u ∧ u.atlas[n].held = rest ∧ u.mem = s.mem ∧
        u.fld (R.ATL_CNT1 n) F.ATL_CNT1_EXCLUDED = (s.fld (R.ATL_CNT1 n) F.ATL_CNT1_EXCLUDED + 1) % 65536) ∧
      (out = false → ctxEntry ctx = none → Completes (.atlasUpdate n) s s) ∧
      (∀ i, out = false → ctxEntry ctx = some i → ∃ u, Completes (.atlasUpdate n) s u ∧ u.atlas[n].held = rest ∧
        (atlasOn s n = false → u.regs = s.regs ∧ u.mem = s.mem) ∧
        (atlasOn s n = true → (s.atlas[n].cache.any fun c => c.idx == i) = true →
          (u.atlas[n].cache.head?.map (·.idx)) = some i ∧ u.mem = s.mem ∧
          u.fld (R.ATL_CNT0 n) F.ATL_CNT0_UPDATES = (s.fld (R.ATL_CNT0 n) F.ATL_CNT0_UPDATES + 1) % 2 ^ 32) ∧
        (atlasOn s n = true → (s.atlas[n].cache.any fun c => c.idx == i) = false →
          ((s.atlas[n].misses.any fun m => m.idx == i) = true ∨ s.atlas[n].misses.length < 16 →
            (u.atlas[n].misses.any fun m => m.idx == i) = true) ∧
          ((s.atlas[n].misses.any fun m => m.idx == i) = false → 16 ≤ s.atlas[n].misses.length →
            u.fld (R.ATL_CNT1 n) F.ATL_CNT1_DROPPED = min 65535 (s.fld (R.ATL_CNT1 n) F.ATL_CNT1_DROPPED + 1) ∧ u.mem = s.mem)))) ∧
    (s.atlas[n].held = [] → Completes (.atlasUpdate n) s s) ∧
    (∀ (i : Nat) (f : CisFault),
      ((s.atlas[n].misses.any fun m => m.idx == i) = true → reacting s .cistern = false →
        cisFlag s F.CIS_STATUS_UNAVAILABLE = false → ∃ u, Completes (.atlasMissFill n i f) s u ∧ (u.atlas[n].misses.any fun m => m.idx == i) = false ∧
          (u.atlas[n].cache.head?.map (·.idx)) = some i) ∧
      ((s.atlas[n].misses.any fun m => m.idx == i) = false ∨ reacting s .cistern = true ∨ cisFlag s F.CIS_STATUS_UNAVAILABLE = true →
        Completes (.atlasMissFill n i f) s s)) ∧
    (∀ r, s.atlas[n].run = some r → r.result = none → 1020 ≤ s.line[n].rxEpochs % 1024 → s.line[n].rxEpochs % 1024 < 1023 →
      ∃ u, Completes (.distilDone n) s u ∧ (u.atlas[n].run.map (·.result.isSome)) = some true ∧ u.regs = s.regs) ∧
    (s.line[n].rxEpochs % 1024 < 1020 ∨ s.line[n].rxEpochs % 1024 = 1023 ∨ s.atlas[n].run = none → Completes (.distilDone n) s s) ∧
    (atlFrozen s n = true → s.atlas[n].misses = [] → ∃ u, Completes (.atlasFrozen n) s u ∧
      u.flag (R.ATL_STATUS n) F.ATL_STATUS_FROZEN = true ∧ u.atlas[n].cache.all (fun c => !c.dirty) = true) ∧
    (atlFrozen s n = false ∨ s.atlas[n].misses ≠ [] → Completes (.atlasFrozen n) s s)

/-- Clears, freezes, source changes and coherent reads of the atlas start at their register write and end with their own event (R141, R143, R144, R145). -/
def Obligations.AtlasRegisterCommandsComplete : Prop :=
  ∀ (s : State) (n : Fin 8), Running s →
    (∀ (o : Origin) (lanes : Nat), let w := F.ATL_CLEAR_LANES.put (keepWord s R.ATL_CLEAR) lanes
      WriteOk o R.ATL_CLEAR w s = true → CompletesWrite (.atlasClear o lanes) o R.ATL_CLEAR w s ∧
      (bitOf lanes n = true → atlClearing s n = false →
        atlClearing (accepted o R.ATL_CLEAR w s) n = true ∧ (accepted o R.ATL_CLEAR w s).atlas[n].cache = [] ∧
        (accepted o R.ATL_CLEAR w s).flag (R.ATL_STATUS n) F.ATL_STATUS_CLEAR_BUSY = true)) ∧
    (atlClearing s n = true → ∃ u, Completes (.atlasClearDone n) s u ∧ atlClearing u n = false ∧
      u.flag (R.ATL_STATUS n) F.ATL_STATUS_CLEAR_BUSY = false ∧ (Memory.wf s.mem = true → Memory.wf u.mem = true) ∧
      ∀ a, u.byte a = if atlasAddr n 0 ≤ a ∧ a ≤ atlasAddr n 0 + 0x7FFFFF then 0 else s.byte a) ∧
    (∀ (o : Origin) (on : Bool), let w := maskedBits (2 ^ n.val) on
      WriteOk o R.ATL_FREEZE w s = true → CompletesWrite (.atlasFreeze o n on) o R.ATL_FREEZE w s ∧
      atlFrozen (accepted o R.ATL_FREEZE w s) n = on ∧
      (on = false → atlFrozen s n = true → (accepted o R.ATL_FREEZE w s).atlas[n].resume = true)) ∧
    (∀ (o : Origin) (src : Bool), let w := F.ATL_LANE_CFG_SRC.put (keepWord s (R.ATL_LANE_CFG n)) (b2n src)
      WriteOk o (R.ATL_LANE_CFG n) w s = true → CompletesWrite (.atlasSrcChange o n src) o (R.ATL_LANE_CFG n) w s ∧
      (s.flag (R.ATL_LANE_CFG n) F.ATL_LANE_CFG_SRC = !src → atlClearing (accepted o (R.ATL_LANE_CFG n) w s) n = true)) ∧
    (∀ (o : Origin) (i : Nat), let a := R.ATL_RD_INDEX n
      let w := F.ATL_RD_INDEX_INDEX.put (keepWord s a) i
      WriteOk o a w s = true → i < 2 ^ 20 → CompletesWrite (.atlasCoherentRead o n i) o a w s ∧
      (accepted o a w s).atlas[n].rd = some i ∧ (accepted o a w s).flag a F.ATL_RD_INDEX_BUSY = true) ∧
    (∀ (i : Nat) (f : CisFault), s.atlas[n].rd = some i → atlasStalls s = false →
      ∃ u, Completes (.atlasReadDone n f) s u ∧ u.atlas[n].rd = none ∧ u.flag (R.ATL_RD_INDEX n) F.ATL_RD_INDEX_BUSY = false) ∧
    (∀ f, s.atlas[n].rd = none ∨ atlasStalls s = true → Completes (.atlasReadDone n f) s s)

/-- Segments build an update or discard it, stalls and acknowledgements end their waits, tables come into force, entries are written and read (R133, R134, R138, R141, R146, R147, R208, R211). -/
def Obligations.PredistortionUpdatesComplete : Prop :=
  ∀ (s : State) (n : Fin 8), Running s →
    (s.seepLn[n].segs = [] → Completes (.pdBulkSegmentReceive n) s s) ∧
    (∀ (g : Seg) (rest : List Seg), s.seepLn[n].segs = g :: rest →
      ∃ u, Completes (.pdBulkSegmentReceive n) s u ∧ u.seepLn[n].segs = rest ∧
        (g.low = true → u.flag (R.ATL_STATUS n) F.ATL_STATUS_PD_DISCARD = true ∧ u.atlas[n].rx = s.atlas[n].rx) ∧
        (g.low = false → g.seg = 0 → s.atlas[n].rx = none →
          u.atlas[n].rx = some { upd := g.upd, ext := g.frag, next := 1, stream := g.data }) ∧
        (∀ r, g.low = false → s.atlas[n].rx = some r → g.upd = r.upd → g.seg ≠ r.next →
          u.atlas[n].rx = none ∧ u.atlas[n].reject = some r.upd ∧ u.flag (R.ATL_STATUS n) F.ATL_STATUS_PD_DISCARD = true) ∧
        (∀ r, g.low = false → s.atlas[n].rx = some r → g.upd = r.upd → g.seg = r.next →
          let ext := if g.seg ≤ 7 then r.ext + g.frag * 4 ^ g.seg else r.ext
          let total := if bitOf ext 3 then 16 else 80
          let k := lane (ext % 8)
          (g.seg + 1 < 8 ∨ g.seg + 1 < total → u.atlas[n].rx =
            some { upd := r.upd, ext := ext, next := g.seg + 1, stream := r.stream * 2 ^ 1024 + g.data, idle := 0 }) ∧
          (8 ≤ g.seg + 1 → total ≤ g.seg + 1 → u.atlas[n].rx = none ∧
            (s.flag (R.ATL_LANE_CFG k) F.ATL_LANE_CFG_PD_SRC = false → deepSleep s = false → r.upd < 65536 →
              r.upd ≠ s.fld (R.ATL_PD_STATE k) F.ATL_PD_STATE_RX_UPD →
              u.atlas[k].pdDue = true ∧ u.fld (R.ATL_PD_STATE k) F.ATL_PD_STATE_RX_UPD = r.upd ∧
              u.flag (R.ATL_STATUS k) F.ATL_STATUS_PD_APPLIED = true)))) ∧
    (∀ r, s.atlas[n].rx = some r → 8 ≤ r.idle → ∃ u, Completes (.pdUpdateStall n) s u ∧ u.atlas[n].rx = none ∧
      u.flag (R.ATL_STATUS n) F.ATL_STATUS_PD_DISCARD = true) ∧
    (s.atlas[n].rx = none ∨ (∃ r, s.atlas[n].rx = some r ∧ r.idle < 8) → Completes (.pdUpdateStall n) s s) ∧
    (s.atlas[n].pdDue = true → ∃ u, Completes (.pdTableApply n) s u ∧ u.atlas[n].pd = s.atlas[n].pdPend ∧ u.atlas[n].pdDue = false) ∧
    (s.atlas[n].pdDue = false → Completes (.pdTableApply n) s s) ∧
    (∀ (m : SMsg) (fr : Option Nat) (x : State), takeMsg n (fun m => m.mtype == 0x20) s = some (m, fr, x) →
      let upd := (m.payload[0]?).getD 0 * 256 + (m.payload[1]?).getD 0
      let cur := (s.atlas[n].tx.map (·.upd)).getD (s.fld (R.ATL_PD_STATE n) F.ATL_PD_STATE_TX_UPD)
      let fits := (s.atlas[n].ackWait.isSome || s.atlas[n].tx.isSome) && (m.payload.isEmpty || upd == cur)
      (fits = true → ∃ u, Completes (.pdAckReceive n) s u ∧ u.flag (R.ATL_STATUS n) F.ATL_STATUS_PD_ACKED = true ∧
        u.atlas[n].ackWait = none ∧ u.atlas[n].settle = some 0 ∧ u.seepLn = x.seepLn) ∧
      (fits = false → Completes (.pdAckReceive n) s (badMsg x))) ∧
    (takeMsg n (fun m => m.mtype == 0x20) s = none → Completes (.pdAckReceive n) s s) ∧
    (∀ k, s.atlas[n].ackWait = some k → 16 ≤ k → ∃ u, Completes (.pdNoackTimeout n) s u ∧ u.atlas[n].ackWait = none ∧
      u.flag (R.ATL_STATUS n) F.ATL_STATUS_PD_NOACK = true) ∧
    (s.atlas[n].ackWait = none ∨ (∃ k, s.atlas[n].ackWait = some k ∧ k < 16) → Completes (.pdNoackTimeout n) s s) ∧
    (∀ (o : Origin) (v : Word), let a := R.ATL_PD_DATA n
      let u := accepted o a v s
      let p := s.fld (R.ATL_PD_INDEX n) F.ATL_PD_INDEX_INDEX
      WriteOk o a v s = true → CompletesWrite (.pdTableAccess o n (some v)) o a v s ∧
      (∀ k, pdWord u.atlas[n].pdPend k = if k = p then v.toNat / 2 ^ 15 % 2 * 2 ^ 15 +
        unsigned 12 (clampInt (-256) 256 (signed 12 v.toNat)) else pdWord s.atlas[n].pdPend k) ∧
      u.fld (R.ATL_PD_INDEX n) F.ATL_PD_INDEX_INDEX = (p + 1) % 1024) ∧
    (∀ o, ReadOk o (R.ATL_PD_DATA n) s = true →
      CompletesRead (.pdTableAccess o n none) o (R.ATL_PD_DATA n) (word (pdView s n)).toNat s ∧
      (readAs o (R.ATL_PD_DATA n) 4 s).fld (R.ATL_PD_INDEX n) F.ATL_PD_INDEX_INDEX =
        (s.fld (R.ATL_PD_INDEX n) F.ATL_PD_INDEX_INDEX + 1) % 1024) ∧
    (∀ o, let w := F.ATL_PD_APPLY_APPLY.put (keepWord s (R.ATL_PD_APPLY n)) 1
      WriteOk o (R.ATL_PD_APPLY n) w s = true → CompletesWrite (.pdApply o n) o (R.ATL_PD_APPLY n) w s ∧
      (accepted o (R.ATL_PD_APPLY n) w s).flag (R.ATL_PD_APPLY n) F.ATL_PD_APPLY_PEND =
        (s.flag (R.ATL_LANE_CFG n) F.ATL_LANE_CFG_PD_SRC || s.flag (R.ATL_PD_APPLY n) F.ATL_PD_APPLY_PEND)) ∧
    (∀ o, ReadOk o (R.ATL_DET_DATA n) s = true →
      CompletesRead (.detTableRead o n) o (R.ATL_DET_DATA n) (word (detRead s n)).toNat s ∧
      (readAs o (R.ATL_DET_DATA n) 4 s).fld (R.ATL_DET_INDEX n) F.ATL_DET_INDEX_INDEX =
        (s.fld (R.ATL_DET_INDEX n) F.ATL_DET_INDEX_INDEX + 1) % 4096)

/-- Training starts with the preset request; requests are answered, statuses and timeouts move it on, and its measurements decide each step (R139, R140). -/
def Obligations.LineTapTrainingComplete : Prop :=
  ∀ (s : State) (n : Fin 8), Running s →
    (∀ (o : Origin) (v : Word), let a := R.ATL_TRAIN n
      let w := withBit F.ATL_TRAIN_START v
      WriteOk o a w s = true → CompletesWrite (.trainStart o n v) o a w s ∧
      (s.atlas[n].train = none → (accepted o a w s).fld a F.ATL_TRAIN_TRAIN_STATE = 1 ∧
        ((accepted o a w s).atlas[n].train.map fun t => (t.phase, t.waiting)) = some (.preset, true))) ∧
    (2 ≤ s.fld (R.ATL_TRAIN n) F.ATL_TRAIN_TRAIN_MODE → rxState s n = 3 → s.atlas[n].train = none →
      ∃ u, Completes (.trainIntervalExpiry n) s u ∧ u.fld (R.ATL_TRAIN n) F.ATL_TRAIN_TRAIN_STATE = 1 ∧
        (u.atlas[n].train.map fun t => (t.phase, t.waiting)) = some (.preset, true)) ∧
    (∀ (m : SMsg) (fr : Option Nat) (x : State), takeMsg n (fun m => m.mtype == 0x21) s = some (m, fr, x) →
      ∃ u, Completes (.tapReqReceive n) s u ∧
        u.fld (R.ATL_PD_QUAL (lane ((m.payload[0]?).getD 0))) F.ATL_PD_QUAL_FAR_FOM = (m.payload[1]?).getD 0 % 256 ∧
        (fr.isSome = true →
          (u.seep.reqs.getLast?.map fun q => (q.dst, q.src, q.tid, q.reply.map (·.1))) = some (m.dst, m.src, m.tid, some 0)) ∧
        (fr = none → u.seep.reqs = s.seep.reqs)) ∧
    (∀ (m : SMsg) (fr : Option Nat) (x : State) (t : TrainRun), takeMsg n (fun m => m.mtype == 0x22) s = some (m, fr, x) →
      x.atlas[n].train = some t → t.waiting = true →
      (m.tid ≠ t.tid → Completes (.tapStatusReceive n) s (badMsg x)) ∧
      (m.tid = t.tid → m.rc = 8 → Completes (.tapStatusReceive n) s x) ∧
      (m.tid = t.tid → m.rc ≠ 8 → Completes (.tapStatusReceive n) s (trainAnswer n t
        (some (((m.payload[1]?).getD 0 * 256 + (m.payload[2]?).getD 0) / 4 ^ (7 - trainOrder t.i) % 4)) x))) ∧
    (∀ t, s.atlas[n].train = some t → t.waiting = true → 4 ≤ t.frames →
      Completes (.tapReqTimeout n) s (trainAnswer n t none s) ∧
      (t.phase = .step → (trainAnswer n t none s).atlas[n].train = none ∧
        (trainAnswer n t none s).flag (R.ATL_STATUS n) F.ATL_STATUS_TRAIN_FAIL = true)) ∧
    (∀ t, s.atlas[n].train = some t → t.waiting = false → t.skip = 0 → t.left = 0 → t.phase = .base →
      ∃ u, Completes (.trainMeasureDone n) s u ∧ (u.atlas[n].train.map fun t => (t.bSum, t.bCnt, t.waiting, t.i)) =
        some (t.sum, t.cnt, true, 0))

/-- Profile changes start and end, frame headers move the tracker, codewords enter and leave the decoder, terminated codewords are counted (R149, R155, R156, R159, R160, R161, R163, R164, R165, R168). -/
def Obligations.FramingAndCodesComplete : Prop :=
  ∀ (s : State) (n : Fin 8), Running s →
    (∀ (o : Origin) (v : Word), let a := R.FEC_PROFILE
      let w := withBit F.FEC_PROFILE_APPLY v
      let x := stored o a w s
      let prof := x.fld a F.FEC_PROFILE_PROFILE
      let leg := x.fld a F.FEC_PROFILE_LEGACY
      let cfg := x.fld a F.FEC_PROFILE_PORT_CFG
      WriteOk o a w s = true → CompletesWrite (.profileApply o v) o a w s ∧
      (profileRefused prof leg cfg x = true → (accepted o a w s).flag a F.FEC_PROFILE_REFUSED = true) ∧
      (profileRefused prof leg cfg x = false → profileSame prof leg cfg x = false → availLevel x ≤ comboNeed prof leg x →
        (accepted o a w s).flag a F.FEC_PROFILE_BUSY = true ∧
        (accepted o a w s).fld a F.FEC_PROFILE_PROFILE_EFF = prof ∧ (accepted o a w s).fld a F.FEC_PROFILE_PORT_EFF = cfg)) ∧
    (s.flag R.FEC_PROFILE F.FEC_PROFILE_BUSY = true → s.pwr.held = none →
      ∃ u, Completes .profileChangeDone s u ∧ u.flag R.FEC_PROFILE F.FEC_PROFILE_BUSY = false) ∧
    (s.flag R.FEC_PROFILE F.FEC_PROFILE_BUSY = false ∨ s.pwr.held ≠ none → Completes .profileChangeDone s s) ∧
    (∀ pos skew, let h := (headerAt n (headerPlace s n pos) s).1
      let hit := decide (syncDiff h ≤ s.fld (R.WELL_FRM_CFG n) F.WELL_FRM_CFG_SYNC_TOL)
      let last := decide (max 1 (s.fld (R.WELL_FRM_CFG n) F.WELL_FRM_CFG_CONFIRM_N) ≤ s.frm[n].confirm + 1)
      let lost := decide (max 2 (s.fld (R.WELL_FRM_CFG n) F.WELL_FRM_CFG_LOF_N) ≤ s.frm[n].misses + 1)
      (profileEff s = .deep → s.line[n].rxRun = true → ∃ u, Completes (.frameHeaderReceive n pos skew) s u ∧
        (frmState s n = 0 → frmState u n = if hit then 1 else 0) ∧
        (frmState s n = 1 → frmState u n = if hit then (if last then 2 else 1) else 0) ∧
        (frmState s n = 1 → hit = true → last = true → u.line[n].rxCnt = hdrField h 64 95) ∧
        (frmState s n = 2 → hit = true ∨ lost = false → frmState u n = 2 ∧ u.frm[n].misses = if hit then 0 else s.frm[n].misses + 1) ∧
        (frmState s n = 2 → hit = false → lost = true →
          frmState u n = 0 ∧ u.flag (R.WELL_FRM_STATUS n) F.WELL_FRM_STATUS_LOF = true)) ∧
      (profileEff s ≠ .deep ∨ s.line[n].rxRun = false → Completes (.frameHeaderReceive n pos skew) s s)) ∧
    (pwrState s = 0 → profileEff s = .standard → s.sig[n].llr ≠ [] → ∃ u, Completes (.codewordAssembled n) s u ∧
      u.fld (R.FEC_LN_CW n) F.FEC_LN_CW_CODEWORDS = (s.fld (R.FEC_LN_CW n) F.FEC_LN_CW_CODEWORDS + 1) % 2 ^ 32 ∧
      u.frm[n].cwNext = s.frm[n].cwNext + 1) ∧
    (let k := spreadLead s n
     pwrState s = 0 → profileEff s = .deep → framesAligned s n = true → deskewOk s n = true →
      s.frm[k].cwNext < 128 * (spreadLanes s n).length → s.cores.length < 128 →
      ∃ u, Completes (.codewordAssembled n) s u ∧ u.cores.length = s.cores.length + 1 ∧
        u.frm[k].cwNext = s.frm[k].cwNext + 1 ∧ u.regs = s.regs) ∧
    (let k := spreadLead s n
     pwrState s = 0 → profileEff s = .deep → framesAligned s n = true → deskewOk s n = false →
      s.frm[k].cwNext < 128 * (spreadLanes s n).length →
      ∃ u, Completes (.codewordAssembled n) s u ∧ u.cores = s.cores ∧ u.frm[k].cwNext = s.frm[k].cwNext + 1) ∧
    (pwrState s ≠ 0 ∨ profileEff s = .spring → Completes (.codewordAssembled n) s s) ∧
    ((s.cores.any fun w => w.lane == n.val) = true → ∃ u, Completes (.decodeWindowEnd n) s u ∧
      u.cores.length + 1 = s.cores.length ∧
      u.fld (R.FEC_LN_CW n) F.FEC_LN_CW_CODEWORDS = (s.fld (R.FEC_LN_CW n) F.FEC_LN_CW_CODEWORDS + 1) % 2 ^ 32) ∧
    ((s.cores.any fun w => w.lane == n.val) = false → Completes (.decodeWindowEnd n) s s) ∧
    (let lanes := lanesOfPort s (portOfLane s n)
      let on := octOn s n && isLead s n
      let lock := dirLocked s false n
      let whole := lanes.all (fun i => decide (groupBits s ≤ s.frm[i].oct.length))
      let lead := lanes.all (fun i => octLead s i == 0)
      let c := s.frm[n].octNext
      let k := laneKey R.FEC_OCT_CFG n
      let a := R.FEC_LN_OCT n
      let bits := (kp4Places lanes.length c).map fun p => match lanes[p.1]? with
        | some i => (s.frm[i].oct[p.2]?).getD { bit := false }
        | none => { bit := false }
      let er := erasures (s.actFld k F.FEC_OCT_CFG_ERASE_THRESH) (min 30 (s.actFld k F.FEC_OCT_CFG_ERASE_MAX)) (rsWeak 544 0 bits)
      let got := octDecode (rsSymbols 544 (bits.map (·.bit))) er
      (on = true → lock = true → lead = true → whole = true → ∃ u, Completes (.octCodeword n) s u ∧
        u.frm[n].octNext = (if 3 ≤ c then 0 else c + 1) ∧
        (∀ x, got = some x → u.fld a F.FEC_LN_OCT_OCT_CORR_SYM = (s.fld a F.FEC_LN_OCT_OCT_CORR_SYM + x.2) % 2 ^ 24 ∧
          u.fld a F.FEC_LN_OCT_OCT_UNCORR = s.fld a F.FEC_LN_OCT_OCT_UNCORR) ∧
        (got = none → u.fld a F.FEC_LN_OCT_OCT_UNCORR = min 127 (s.fld a F.FEC_LN_OCT_OCT_UNCORR + 1) ∧
          u.fld a F.FEC_LN_OCT_OCT_CORR_SYM = s.fld a F.FEC_LN_OCT_OCT_CORR_SYM)) ∧
      (on = true → lock = true → octLead s n ≠ 0 → ∃ u, Completes (.octCodeword n) s u ∧
        u.frm[n].oct.length = s.frm[n].oct.length - octLead s n) ∧
      (on = true → lock = false → whole = true → ∃ u, Completes (.octCodeword n) s u ∧ u.reg a = s.reg a ∧
        u.frm[n].oct = s.frm[n].oct.drop (groupBits s)) ∧
      (on = false ∨ (whole = false ∧ (lock = false ∨ lead = true)) → Completes (.octCodeword n) s s))

/-- The iterations permitted are the smaller of ITER_CAP and the larger of 4 and 12 E / 100 (R162). -/
def Obligations.IterationsPermittedUnderTheThrottle : Prop :=
  ∀ cap e : Nat, 1 ≤ cap → cap ≤ 12 → capEff cap e = min cap (max 4 (12 * e / 100)) ∧ capEff cap 40 = min cap 4

/-- A host lane's signal, clock recovery and frequency events set their flags and move the lane through its bring-up (R175, R178, R179, R183, R184). -/
def Obligations.HostLaneSignalEventsComplete : Prop :=
  ∀ (s : State) (n : Fin 8), Running s → let st := R.HOST_LN_STATUS n
    (hostEn s n = true → deepSleep s = false → s.flag st F.HOST_LN_STATUS_SIG_DET = false →
      ∃ u, Completes (.hostSignalDetect n) s u ∧ u.flag st F.HOST_LN_STATUS_SIG_DET = true ∧
        hostState u n = if hostState s n ≤ 1 then 1 else hostState s n) ∧
    (hostEn s n = false ∨ deepSleep s = true ∨ s.flag st F.HOST_LN_STATUS_SIG_DET = true → Completes (.hostSignalDetect n) s s) ∧
    (s.flag st F.HOST_LN_STATUS_SIG_DET = true → ∃ u, Completes (.hostLos n) s u ∧ u.flag st F.HOST_LN_STATUS_SIG_DET = false ∧
      u.flag st F.HOST_LN_STATUS_LOS = true ∧ u.flag st F.HOST_LN_STATUS_CDR_LOCK = false ∧
      hostState u n = if hostState s n = 5 then 5 else 1) ∧
    (s.flag st F.HOST_LN_STATUS_SIG_DET = false → Completes (.hostLos n) s s) ∧
    (∀ (ctle : Nat) (ofs : Int), s.flag st F.HOST_LN_STATUS_SIG_DET = true → s.flag st F.HOST_LN_STATUS_CDR_LOCK = false →
      (ofs.natAbs ≤ freqLimit s → ∃ u, Completes (.hostCdrLock n ctle ofs) s u ∧ u.flag st F.HOST_LN_STATUS_CDR_LOCK = true ∧
        (hostState u n = if hostState s n = 1 then (if s.host.lanes[n].skip || !trainAuto s then 4 else 2) else hostState s n) ∧
        u.fld st F.HOST_LN_STATUS_CTLE_EFF =
          if s.flag (R.HOST_LN_CFG n) F.HOST_LN_CFG_CTLE_MAN then s.fld (R.HOST_LN_CFG n) F.HOST_LN_CFG_CTLE
          else if s.host.lanes[n].skip then s.fld st F.HOST_LN_STATUS_CTLE_EFF else ctle % 2 ^ F.HOST_LN_STATUS_CTLE_EFF.w) ∧
      (freqLimit s < ofs.natAbs → exec (.hostCdrLock n ctle ofs) s = exec (.hostFreqErr n ofs) s)) ∧
    (∀ (ctle : Nat) (ofs : Int), s.flag st F.HOST_LN_STATUS_SIG_DET = false ∨ s.flag st F.HOST_LN_STATUS_CDR_LOCK = true →
      Completes (.hostCdrLock n ctle ofs) s s) ∧
    (s.flag st F.HOST_LN_STATUS_CDR_LOCK = true → ∃ u, Completes (.hostCdrLol n) s u ∧
      u.flag st F.HOST_LN_STATUS_CDR_LOCK = false ∧ u.flag st F.HOST_LN_STATUS_CDR_LOL = true ∧
      hostState u n = if hostState s n = 5 then 5 else 1) ∧
    (s.flag st F.HOST_LN_STATUS_CDR_LOCK = false → Completes (.hostCdrLol n) s s) ∧
    (∀ ofs : Int, s.flag st F.HOST_LN_STATUS_SIG_DET = true → freqLimit s < ofs.natAbs →
      ∃ u, Completes (.hostFreqErr n ofs) s u ∧ u.flag st F.HOST_LN_STATUS_FREQ_ERR = true ∧
        u.flag st F.HOST_LN_STATUS_CDR_LOCK = false ∧ hostState u n = if hostState s n = 5 then 5 else 1) ∧
    (∀ ofs : Int, s.flag st F.HOST_LN_STATUS_SIG_DET = false ∨ ofs.natAbs ≤ freqLimit s → Completes (.hostFreqErr n ofs) s s)

/-- Host training starts, answers requests, follows its search and ends in ACTIVE by completion, by time or for want of a peer (R179, R180, R181, R182). -/
def Obligations.HostLaneTrainingComplete : Prop :=
  ∀ (s : State) (n : Fin 8), Running s → let st := R.HOST_LN_STATUS n
    (trainAuto s = true → hostTest s = 0 → hostState s n = 2 ∨ hostState s n = 4 →
      ∃ u, Completes (.hostTrainFrames n) s u ∧ hostState u n = 3 ∧ u.host.lanes[n].train = some {}) ∧
    (trainAuto s = false ∨ hostTest s ≠ 0 ∨ (hostState s n ≠ 2 ∧ hostState s n ≠ 4) → Completes (.hostTrainFrames n) s s) ∧
    (hostState s n = 2 → ∃ u, Completes (.hostTrainNopeer n) s u ∧ hostState u n = 4 ∧
      u.flag st F.HOST_LN_STATUS_TRAIN_NOPEER = true) ∧
    (hostState s n ≠ 2 → Completes (.hostTrainNopeer n) s s) ∧
    (∀ q, let takes := !groupReacting s (if n.val < 4 then 0 else 1) && (hostState s n == 3 || (hostState s n == 4 && !trainAuto s))
      (takes = true → ∃ u, Completes (.hostCoeffRequest n q) s u ∧ u.host.lanes[n].resp = some (coefAnswer s n q).1 ∧ u.regs = s.regs) ∧
      (takes = false → Completes (.hostCoeffRequest n q) s s)) ∧
    (∀ t q r, s.host.lanes[n].train = some t → s.host.lanes[n].req = some q →
      (t.phase = .preset → ∃ u, Completes (.hostCoeffStatus n r) s u ∧ u.host.lanes[n].train = some { t with phase := .base } ∧
        u.host.lanes[n].req = none) ∧
      (t.phase = .step → r = .updated → ∃ u, Completes (.hostCoeffStatus n r) s u ∧
        u.host.lanes[n].train = some { t with phase := .trial } ∧ u.host.lanes[n].req = none)) ∧
    (∀ t sum cnt, s.host.lanes[n].train = some t → ∃ u, Completes (.hostTrialMeasureDone n sum cnt) s u ∧ u.regs = s.regs ∧
      (t.phase = .base → u.host.lanes[n].train = some { t with bSum := sum, bCnt := cnt, i := 0, up := true, phase := .step } ∧
        u.host.lanes[n].req = some (.step (hostOrder 0) true)) ∧
      (t.phase = .trial → let worse := sum * t.bCnt < (t.bSum + s.fld R.HOST_CTRL F.HOST_CTRL_TRAIN_MIN_GAIN * t.bCnt) * cnt
        (worse → u.host.lanes[n].train = some { t with phase := .revert } ∧
          u.host.lanes[n].req = some (.step (hostOrder t.i) (!t.up))) ∧
        (¬ worse → u.host.lanes[n].train =
            some { t with bSum := sum, bCnt := cnt, moved := true, kept := t.kept + 1, phase := .step } ∧
          u.host.lanes[n].req = some (.step (hostOrder t.i) t.up)))) ∧
    (∀ sum cnt, s.host.lanes[n].train = none → Completes (.hostTrialMeasureDone n sum cnt) s s) ∧
    (∀ t, s.host.lanes[n].train = some t → t.ready = true → hostState s n = 3 →
      ∃ u, Completes (.hostTrainDone n) s u ∧ hostState u n = 4 ∧ u.flag st F.HOST_LN_STATUS_TRAIN_DONE = true) ∧
    (hostState s n = 3 → ∃ u, Completes (.hostTrainTimeout n) s u ∧ hostState u n = 4 ∧
      u.flag st F.HOST_LN_STATUS_TRAIN_FAIL = true) ∧
    (hostState s n ≠ 3 → Completes (.hostTrainDone n) s s ∧ Completes (.hostTrainTimeout n) s s)

/-- Accepted host commands enable, retrain, invert, map and test; a map that is no permutation is discarded and sets MAP_ERR (R174, R175, R179, R182, R189). -/
def Obligations.HostRegisterCommandsComplete : Prop :=
  ∀ (s : State) (n : Fin 8),
    (∀ (o : Origin) (on : Bool), let a := R.HOST_LN_CFG n
      let w := F.HOST_LN_CFG_EN.put (keepWord s a) (b2n on)
      let u := accepted o a w s
      WriteOk o a w s = true → hostEn s n = !on → CompletesWrite (.hostLaneEnable o n on) o a w s ∧ hostEn u n = on ∧
        hostState u n = (if on && decide (hostTest s ≠ 0) then 5 else 0) ∧
        u.flag (R.HOST_LN_STATUS n) F.HOST_LN_STATUS_SIG_DET = false) ∧
    (∀ o, let a := R.HOST_LN_CFG n
      let w := F.HOST_LN_CFG_RETRAIN.put (keepWord s a) 1
      WriteOk o a w s = true → CompletesWrite (.hostRetrain o n) o a w s ∧
        (hostState s n = 4 → trainAuto s = true → hostState (accepted o a w s) n = 2)) ∧
    (∀ (o : Origin) (rx inv : Bool), let a := R.HOST_LN_CFG n
      let f := if rx then F.HOST_LN_CFG_RX_POL else F.HOST_LN_CFG_TX_POL
      let w := f.put (keepWord s a) (b2n inv)
      WriteOk o a w s = true → CompletesWrite (.hostPolarityChange o n rx inv) o a w s ∧
        (s.flag a f = !inv → hostEn s n = true → 1 ≤ hostState s n → hostState s n ≤ 4 →
          hostState (accepted o a w s) n = 1 ∧ (accepted o a w s).flag a f = inv)) ∧
    (∀ (o : Origin) (rx : Bool) (v : Word), let a := if rx then R.HOST_RX_MAP else R.HOST_TX_MAP
      WriteOk o a v s = true → CompletesWrite (.hostMapWrite o rx v) o a v s ∧
        (isPerm (F.HOST_RX_MAP_MAP.get v) = true → (accepted o a v s).fld a F.HOST_RX_MAP_MAP = F.HOST_RX_MAP_MAP.get v) ∧
        (isPerm (F.HOST_RX_MAP_MAP.get v) = false → (accepted o a v s).fld a F.HOST_RX_MAP_MAP = s.fld a F.HOST_RX_MAP_MAP ∧
          (accepted o a v s).flag R.HOST_STATUS F.HOST_STATUS_MAP_ERR = true)) ∧
    (∀ (o : Origin) (v : Word), let a := R.HOST_CTRL
      let u := accepted o a v s
      WriteOk o a v s = true → CompletesWrite (.hostTestMode o v) o a v s ∧ u.fld a F.HOST_CTRL_TEST = F.HOST_CTRL_TEST.get v ∧
        (hostTest s = 0 → hostTest u ≠ 0 → u.flag a F.HOST_CTRL_TRAIN_MODE = s.flag a F.HOST_CTRL_TRAIN_MODE →
          hostEn s n = true → hostState u n = 5))

/-- A monitor's window of 2^24 codewords: DEGRADE at its end when more than DEG_COUNT were high, UNCORR_EV on every uncorrectable codeword (R188). -/
def Obligations.DegradeWindowOfAMonitor : Prop :=
  ∀ (s : State) (p : Fin 8) (d : Fin 2), Running s →
    let a := R.HOST_MON_STATUS p d
    let m := s.host.mon[monIdx p d]
    (monReady s p d = true → ∃ u, Completes (.kp4MonitorCodeword p d) s u ∧ u.host.mon[monIdx p d].win = m.win + 1 ∧
      ((monErrors p d s).1 = none → u.host.mon[monIdx p d].winHigh = m.winHigh + 1 ∧
        u.host.mon[monIdx p d].uncorr = (m.uncorr + 1) % 2 ^ 32 ∧ u.flag a F.HOST_MON_STATUS_UNCORR_EV = true) ∧
      (∀ k, (monErrors p d s).1 = some k → u.host.mon[monIdx p d].bins = m.bins.set k (((m.bins[k]?).getD 0 + 1) % 2 ^ 32) ∧
        u.host.mon[monIdx p d].winHigh = m.winHigh + (if max 1 (s.fld R.HOST_MON_CFG F.HOST_MON_CFG_DEG_BIN) ≤ k then 1 else 0) ∧
        u.host.mon[monIdx p d].uncorr = m.uncorr ∧ u.regs = s.regs)) ∧
    (monReady s p d = false → Completes (.kp4MonitorCodeword p d) s s) ∧
    (2 ^ 24 ≤ m.win → ∃ u, Completes (.kp4DegradeWindow p d) s u ∧ u.host.mon[monIdx p d].win = 0 ∧
      u.host.mon[monIdx p d].winHigh = 0 ∧
      (s.fld R.HOST_MON_CFG F.HOST_MON_CFG_DEG_COUNT < m.winHigh → u.flag a F.HOST_MON_STATUS_DEGRADE = true) ∧
      (m.winHigh ≤ s.fld R.HOST_MON_CFG F.HOST_MON_CFG_DEG_COUNT → u.regs = s.regs)) ∧
    (m.win < 2 ^ 24 → Completes (.kp4DegradeWindow p d) s s)

/-- Missing alignment markers end a monitor's lock; a snapshot copies the running counters and a clear empties them (R186, R187). -/
def Obligations.MonitorMarkersAndSnapshotsComplete : Prop :=
  ∀ (s : State) (p k : Fin 8) (d : Fin 2),
    (Running s → portExists s p = true → portFails s p d = false → monLocked s p d = true →
      k.val < (lanesOfPort s p).length → s.host.mon[monIdx p d].bad.length = 8 →
      amLossN s ≤ (s.host.mon[monIdx p d].bad[k.val]?).getD 0 + 1 →
      ∃ u, Completes (.kp4AmReceive p d k false) s u ∧ monLocked u p d = false ∧
        u.flag (R.HOST_MON_STATUS p d) F.HOST_MON_STATUS_LOCK_LOSS = true) ∧
    (Running s → portExists s p = true → portFails s p d = false → monLocked s p d = false →
      s.host.mon[monIdx p d].good.length = 8 →
      ∃ u, Completes (.kp4AmReceive p d k true) s u ∧
        u.host.mon[monIdx p d].good[k.val]? = some ((s.host.mon[monIdx p d].good[k.val]?).getD 0 + 1) ∧
        ((∀ j : Fin 8, j.val < (lanesOfPort s p).length →
            amLockN s ≤ (s.host.mon[monIdx p d].good[j.val]?).getD 0 + if j = k then 1 else 0) → monLocked u p d = true)) ∧
    (Running s → portExists s p = false ∨ portFails s p d = true → ∀ found, Completes (.kp4AmReceive p d k found) s s) ∧
    (∀ (o : Origin) (ports : Nat), let a := R.HOST_MON_SNAP
      let w := F.HOST_MON_SNAP_SNAP.put (keepWord s a) ports
      let u := accepted o a w s
      WriteOk o a w s = true → CompletesWrite (.kp4Snap o ports) o a w s ∧
        (bitOf ports p = true → portExists s p = true →
          u.reg (R.HOST_MON_CW_LO p d) = word s.host.mon[monIdx p d].cw ∧
          u.reg (R.HOST_MON_UNCORR p d) = word s.host.mon[monIdx p d].uncorr ∧
          u.reg (R.HOST_MON_SYM p d) = word s.host.mon[monIdx p d].sym)) ∧
    (∀ (o : Origin) (ports : Nat), let a := R.HOST_MON_SNAP
      let w := F.HOST_MON_SNAP_CLEAR.put (keepWord s a) ports
      let u := accepted o a w s
      WriteOk o a w s = true → CompletesWrite (.kp4Clear o ports) o a w s ∧
        (bitOf ports p = true → portExists s p = true →
          u.host.mon[monIdx p d].cw = 0 ∧ u.host.mon[monIdx p d].uncorr = 0 ∧ u.host.mon[monIdx p d].sym = 0))

/-- Seep frames start, arrive, decode and are missed; three missed frames end the synchronisation; messages for other nodes are forwarded (R194, R196, R202, R203, R206, R209). -/
def Obligations.SeepFramesComplete : Prop :=
  ∀ (s : State) (n : Fin 8), Running s → let st := R.SEEP_LN_STATUS n
    let l := s.seepLn[n]
    (seepEn s n = true → lenOut s n = true → s.atlas[n].tx = none →
      (l.q = [] → ∃ u, Completes (.seepTxFrameStart n) s u ∧ u.seepLn[n].cur = .idle ∧ u.seepLn[n].fseq = (l.fseq + 1) % 256 ∧
        u.fld (R.SEEP_LN_TXCNT n) F.SEEP_LN_TXCNT_TX_FRAMES =
          (s.fld (R.SEEP_LN_TXCNT n) F.SEEP_LN_TXCNT_TX_FRAMES + 1) % 2 ^ F.SEEP_LN_TXCNT_TX_FRAMES.w) ∧
      (∀ e : QMsg, l.q = [e] → e.due = none → e.sent = 0 → 1 ≤ e.cls → e.cls ≤ 3 → cellCount e.msg = 1 →
        ∃ u, Completes (.seepTxFrameStart n) s u ∧ u.seepLn[n].cur = .cells [e] ∧ u.seepLn[n].q = [])) ∧
    (seepEn s n = true → lenOut s n = false → ∃ u, Completes (.seepTxFrameStart n) s u ∧ u.seepLn[n].cur = .none ∧
      u.reg (R.SEEP_LN_TXCNT n) = s.reg (R.SEEP_LN_TXCNT n)) ∧
    (seepEn s n = false → Completes (.seepTxFrameStart n) s s) ∧
    (∀ (f : SRxFrame) (age : Nat), let good := tagAccepted (s.actFld (R.SEEP_LN_FILT1 n) F.SEEP_LN_FILT1_TAG_MARGIN) f
      let off := s.flag st F.SEEP_LN_STATUS_RX_SYNC && decide (2 < f.place.natAbs)
      (seepEn s n = true → deepSleep s = false ∨ f.modeL = true →
        (f.found = true → seepFed s n = true → off = false → f.unsettled = false → good = true →
          ∃ u, Completes (.seepRxFrame n f age) s u ∧ u.flag st F.SEEP_LN_STATUS_RX_SYNC = true ∧
            u.seepLn[n].missed = 0 ∧ u.seepLn[n].rxTag = some (f.modeL, foundTag f)) ∧
        (f.found = true → seepFed s n = true → off = false → f.unsettled = true ∨ good = false →
          ∃ u, Completes (.seepRxFrame n f age) s u ∧ u.seepLn[n].missed = min 3 (l.missed + 1) ∧ u.seepLn[n].rxTag = none ∧
            u.fld (R.SEEP_LN_CNT1 n) F.SEEP_LN_CNT1_LOST =
              min (2 ^ F.SEEP_LN_CNT1_LOST.w - 1) (s.fld (R.SEEP_LN_CNT1 n) F.SEEP_LN_CNT1_LOST + 1)) ∧
        (f.found = false ∨ seepFed s n = false ∨ off = true → ∃ u, Completes (.seepRxFrame n f age) s u ∧
          u.seepLn[n].missed = min 3 (l.missed + 1) ∧ u.seepLn[n].rxTag = none ∧ u.regs = s.regs)) ∧
      (seepEn s n = false ∨ (deepSleep s = true ∧ f.modeL = false) → Completes (.seepRxFrame n f age) s s)) ∧
    (∀ (d : SDemod) (late : Nat), l.rxTag.isSome = true →
      ∃ u, Completes (.seepFrameDecoded n d late) s u ∧ u.seepLn[n].rxTag = none ∧
        u.fld (R.SEEP_LN_CNT0 n) F.SEEP_LN_CNT0_RX_FRAMES =
          (s.fld (R.SEEP_LN_CNT0 n) F.SEEP_LN_CNT0_RX_FRAMES + 1) % 2 ^ F.SEEP_LN_CNT0_RX_FRAMES.w) ∧
    (s.flag st F.SEEP_LN_STATUS_RX_SYNC = true → 3 ≤ l.missed → ∃ u, Completes (.seepSyncLoss n) s u ∧
      u.flag st F.SEEP_LN_STATUS_RX_SYNC = false ∧ u.flag st F.SEEP_LN_STATUS_SYNC_LOSS = true) ∧
    (s.flag st F.SEEP_LN_STATUS_RX_SYNC = false ∨ l.missed < 3 → Completes (.seepSyncLoss n) s s) ∧
    (∀ (m : SMsg) (rest : List SMsg) (k : Fin 8), l.inbox = m :: rest → consumed s m = false →
      (seepNode s = 0 ∨ s.flag (R.SEEP_LN_CFG n) F.SEEP_LN_CFG_FWD_EN = false ∨ m.hops = 0 ∨ routeLane s m.dst = none ∨
          (routeLane s m.dst = some k ∧ (k = n ∨ seepEn s k = false)) → ∃ u, Completes (.seepForward n) s u ∧ u.seepLn[n].inbox = rest ∧
        u.flag R.SEEP_STATUS F.SEEP_STATUS_NOROUTE = true) ∧
      (seepNode s ≠ 0 → s.flag (R.SEEP_LN_CFG n) F.SEEP_LN_CFG_FWD_EN = true → m.hops ≠ 0 → routeLane s m.dst = some k → k ≠ n →
        seepEn s k = true → s.seepLn[k].q.length < 32 →
        ∃ u, Completes (.seepForward n) s u ∧ u.seepLn[n].inbox = rest ∧
          u.seepLn[k].q = s.seepLn[k].q ++ [{ cls := 3, msg := { m with hops := m.hops - 1 } }] ∧
          u.fld R.SEEP_CNT F.SEEP_CNT_FORWARDED = (s.fld R.SEEP_CNT F.SEEP_CNT_FORWARDED + 1) % 2 ^ F.SEEP_CNT_FORWARDED.w))

/-- Port F requests at the front of a lane's inbox are served and answered with the code that R212, R214 or R323 gives; replies are queued (R207, R208, R210, R212, R214, R323). -/
def Obligations.PortFRequestsComplete : Prop :=
  ∀ (s : State) (n : Fin 8), Running s →
    (∀ (m : SMsg) (rest : List SMsg) (silent : List Nat), s.seepLn[n].inbox = m :: rest → consumed s m = true →
      (s.seepLn[n].inFrames[0]?).getD (some 0) ≠ none →
      (m.mtype = 1 → pfServed s = true → m.payload.length % 4 ≠ 0 ∨ m.payload.length = 0 ∨ 64 < m.payload.length →
        ∃ u q, Completes (.pfReadReceive n silent) s u ∧ u.seep.reqs = s.seep.reqs ++ [q] ∧ q.tid = m.tid ∧ q.reply = some (6, []) ∧
          u.regs = s.regs) ∧
      (m.mtype = 1 → pfServed s = true → ∃ u q, Completes (.pfReadReceive n silent) s u ∧ u.seep.reqs.getLast? = some q ∧
        q.lane = n.val ∧ q.mtype = 1 ∧ q.src = m.src ∧ q.tid = m.tid ∧ q.reply.isSome = true) ∧
      (m.mtype = 2 → pfServed s = true → m.payload.length % 8 ≠ 0 ∨ m.payload.length = 0 ∨ 128 < m.payload.length →
        ∃ u q, Completes (.pfWriteReceive n silent) s u ∧ u.seep.reqs = s.seep.reqs ++ [q] ∧ q.tid = m.tid ∧ q.reply = some (6, []) ∧
          u.regs = s.regs) ∧
      (m.mtype = 2 → pfServed s = true → ∃ u q, Completes (.pfWriteReceive n silent) s u ∧ u.seep.reqs.getLast? = some q ∧
        q.lane = n.val ∧ q.mtype = 2 ∧ q.src = m.src ∧ q.tid = m.tid ∧ q.reply.isSome = true) ∧
      (m.mtype = 5 → mbxInFull s 2 = true → ∃ u q, Completes (.mbxInReceive n) s u ∧ u.seep.reqs = s.seep.reqs ++ [q] ∧
        q.tid = m.tid ∧ q.reply = some (7, []) ∧ u.regs = s.regs ∧ u.mbx = s.mbx) ∧
      (m.mtype = 5 → mbxInFull s 2 = false → ∀ ctrl : Nat, (wordsOf m.payload (m.payload.length / 4))[0]? = some ctrl →
        8 ≤ ctrl % 32 → ctrl % 32 ≤ 16 → m.payload.length = 4 + 4 * (ctrl % 32) →
        ∃ u q, Completes (.mbxInReceive n) s u ∧ mbxInFull u 2 = true ∧ u.seep.reqs = s.seep.reqs ++ [q] ∧ q.tid = m.tid ∧
          u.fld (R.MBX_IN_CTRL 2) F.MBX_IN_CTRL_LEN = ctrl % 32 ∧
          u.fld (R.MBX_IN_CTRL 2) F.MBX_IN_CTRL_OPCODE = ctrl / 2 ^ 8 % 256) ∧
      (m.mtype = 8 → s.flag R.SEEP_CFG F.SEEP_CFG_PF_WAKE_EN = true → m.src < 4096 →
        ∃ u q, Completes (.wakeReqReceive n) s u ∧ u.seep.reqs = s.seep.reqs ++ [q] ∧ q.reply = some (0, []) ∧
          u.flag R.SEEP_WAKE F.SEEP_WAKE_WAKE_PEND = true ∧ u.fld R.SEEP_WAKE F.SEEP_WAKE_WAKE_LANE = n.val ∧
          u.fld R.SEEP_WAKE F.SEEP_WAKE_WAKE_NODE = m.src) ∧
      (m.mtype = 8 → s.flag R.SEEP_CFG F.SEEP_CFG_PF_WAKE_EN = false →
        ∃ u q, Completes (.wakeReqReceive n) s u ∧ u.seep.reqs = s.seep.reqs ++ [q] ∧ q.reply = some (4, []) ∧ u.regs = s.regs)) ∧
    (∀ (q : SReq) (rest : List SReq), s.seep.reqs = q :: rest → q.lane = n.val → seepEn s n = true → s.seepLn[n].q.length < 32 →
      (∀ (rc : Nat) (pl : List Nat), q.reply = some (rc, pl) → ∃ u e, Completes (.pfReplyReady n) s u ∧ u.seep.reqs = rest ∧
        u.seepLn[n].q = s.seepLn[n].q ++ [e] ∧ e.cls = 1 ∧ e.msg.rc = rc ∧ e.msg.payload = pl ∧ e.msg.tid = q.tid ∧
        e.msg.mtype = replyType q.mtype) ∧
      (1 ≤ q.frames → lenOut s n = true → ∃ u e, Completes (.pfReplyDeadline n) s u ∧ u.seep.reqs = rest ∧
        u.seepLn[n].q = s.seepLn[n].q ++ [e] ∧ e.cls = 1 ∧ e.msg.rc = 8 ∧ e.msg.tid = q.tid ∧
        u.flag (R.SEEP_LN_STATUS n) F.SEEP_LN_STATUS_REPLY_LATE = true) ∧
      (1 ≤ q.frames → lenOut s n = false → ∃ u, Completes (.pfReplyDeadline n) s u ∧ u.seep.reqs = rest ∧
        u.seepLn = s.seepLn ∧ u.regs = s.regs))

/-- Events are announced and repeated, the gateway sends, receives and pops messages, and disabling a seep lane empties its queue (R208, R213, R216, R217). -/
def Obligations.EventsAndGatewayComplete : Prop :=
  ∀ (s : State) (n : Fin 8),
    (Running s → s.flag R.SEEP_PF_PEER F.SEEP_PF_PEER_EN = true → Nat.lor s.seep.evLast (eventBits s) ≠ s.seep.evLast →
      ∃ u, Completes .eventSend s u ∧ u.seep.evLast = eventBits s ∧ u.seep.evFrames = 0) ∧
    (Running s → s.flag R.SEEP_PF_PEER F.SEEP_PF_PEER_EN = true → eventBits s ≠ 0 →
      max 1 (s.fld R.SEEP_CFG F.SEEP_CFG_EVENT_REPEAT) ≤ s.seep.evFrames →
      ∃ u, Completes .eventRepeat s u ∧ u.seep.evLast = eventBits s ∧ u.seep.evFrames = 0) ∧
    (Running s → s.flag R.SEEP_PF_PEER F.SEEP_PF_PEER_EN = false ∨ eventBits s = 0 →
      (s.seep.evLast = Nat.lor s.seep.evLast (eventBits s) ∨ s.flag R.SEEP_PF_PEER F.SEEP_PF_PEER_EN = false →
        Completes .eventSend s s) ∧ Completes .eventRepeat s s) ∧
    (Running s → s.seep.evFrames < max 1 (s.fld R.SEEP_CFG F.SEEP_CFG_EVENT_REPEAT) → Completes .eventRepeat s s) ∧
    (∀ (m : SMsg) (rest : List SMsg), Running s → s.seepLn[n].inbox = m :: rest → consumed s m = true →
      (m.mtype = 7 → s.seep.gwRx.length < 4 → ∃ u, Completes (.gatewayRxMessage n) s u ∧ u.seep.gwRx = s.seep.gwRx ++ [m] ∧
        u.flag R.SEEP_GW_CTL F.SEEP_GW_CTL_RX_AVAIL = true ∧ u.seepLn[n].inbox = rest) ∧
      (m.mtype = 7 → 4 ≤ s.seep.gwRx.length → ∃ u, Completes (.gatewayRxMessage n) s u ∧ u.seep.gwRx = s.seep.gwRx ∧
        u.flag R.SEEP_GW_CTL F.SEEP_GW_CTL_RX_OVF = true) ∧
      (m.mtype ∈ [3, 4, 6, 9] → s.seep.gwReqs.any (gwMatches m) = true → s.seep.gwRx.length < 4 →
        ∃ u, Completes (.gatewayRxMessage n) s u ∧ u.seep.gwRx = s.seep.gwRx ++ [m] ∧
          u.flag R.SEEP_GW_CTL F.SEEP_GW_CTL_RX_AVAIL = true ∧ u.seepLn[n].inbox = rest) ∧
      (m.mtype ∈ [3, 4, 6, 9] → s.seep.gwReqs.any (gwMatches m) = false → ∃ u, Completes (.gatewayRxMessage n) s u ∧
        u.seep = s.seep ∧ u.flag R.SEEP_STATUS F.SEEP_STATUS_BAD_MSG = true)) ∧
    (∀ o : Origin, let a := R.SEEP_GW_CTL
      let w := withBit F.SEEP_GW_CTL_GO (F.SEEP_GW_CTL_LANE.put (keepWord s a) n.val)
      WriteOk o a w s = true → CompletesWrite (.gatewayGo o n) o a w s ∧
        (gwMessage (stored o a w s) = none → (accepted o a w s).flag a F.SEEP_GW_CTL_GW_ERR = true)) ∧
    (∀ o : Origin, let a := R.SEEP_GW_CTL
      let w := F.SEEP_GW_CTL_POP.put (keepWord s a) 1
      WriteOk o a w s = true → CompletesWrite (.gatewayPop o) o a w s ∧
        (s.seep.gwRx ≠ [] → (accepted o a w s).seep.gwRx = s.seep.gwRx.tail ∧
          (accepted o a w s).fld R.SEEP_GW_RXIDX F.SEEP_GW_RXIDX_IDX = 0)) ∧
    (∀ (o : Origin) (w : Word), let a := R.SEEP_GW_TXDATA
      let i := s.fld R.SEEP_GW_TXIDX F.SEEP_GW_TXIDX_IDX
      WriteOk o a w s = true → CompletesWrite (.gatewayDataAccess o true (some w)) o a w s ∧
        (accepted o a w s).seep.gwTx[i % 64]? = some w ∧
        (accepted o a w s).fld R.SEEP_GW_TXIDX F.SEEP_GW_TXIDX_IDX = (i + 1) % 64) ∧
    (∀ o : Origin, let i := s.fld R.SEEP_GW_RXIDX F.SEEP_GW_RXIDX_IDX
      ReadOk o R.SEEP_GW_RXDATA s = true →
        CompletesRead (.gatewayDataAccess o false none) o R.SEEP_GW_RXDATA (gwRxWord s).toNat s ∧
        (readAs o R.SEEP_GW_RXDATA 4 s).fld R.SEEP_GW_RXIDX F.SEEP_GW_RXIDX_IDX = (i + 1) % 64) ∧
    (∀ (o : Origin) (on : Bool), let a := R.SEEP_LN_CFG n
      let w := F.SEEP_LN_CFG_EN.put (keepWord s a) (b2n on)
      WriteOk o a w s = true → CompletesWrite (.seepLaneEnable o n on) o a w s ∧ seepEn (accepted o a w s) n = on ∧
        (on = false → seepEn s n = true → (accepted o a w s).seepLn[n].q = [] ∧ (accepted o a w s).seepLn[n].cur = .none))

/-- At the wrap of counter A the seconds advance by one, a waiting seconds set is loaded, PPS_OUT rises when allowed, and the message is sent (R220, R223, R248, R249). -/
def Obligations.SecondWrapsAndPpsComplete : Prop :=
  ∀ s : State, Running s →
    (refLost s = false → pwrState s ≠ 4 → uncGrowth s = 0 → 0 < todInc s → todInc s ≤ secOne → 0 < bareInc s → bareInc s ≤ secOne →
      s.tod.part = 0 →
      s.tod.a.sec < 2 ^ 48 → s.tod.a.ns < 1000000000 → s.tod.a.frac < fracOne →
      ∃ u, Completes .todSecondWrap s u ∧ u.tod.a.toNat % secOne < max (todInc s) (bareInc s) ∧
        u.tod.a.sec = (if s.flag R.TOD_SET_CTRL F.TOD_SET_CTRL_PEND then setSec s else (s.tod.a.sec + 1) % 2 ^ 48) ∧
        u.flag R.TOD_SET_CTRL F.TOD_SET_CTRL_PEND = false ∧
        (s.flag R.TOD_STATUS F.TOD_STATUS_VALID = true → s.flag R.TOD_CTRL F.TOD_CTRL_PPS_OUT_EN = true →
          u.tod.ppsHigh = true)) ∧
    Completes .ppsOutFall s { s with tod := { s.tod with ppsHigh := false } } ∧
    (s.flag R.TOD_CTRL F.TOD_CTRL_TOD_TX_EN = true → ∃ u, Completes .todTxSend s u ∧ u.tod.txMsg = todMessage s ∧
      u.tod.txMsg.take 3 = [0xC5, 0x3A, 1] ∧ u.tod.txMsg.length = 16 ∧ u.regs = s.regs) ∧
    (s.flag R.TOD_CTRL F.TOD_CTRL_TOD_TX_EN = false → Completes .todTxSend s s)

/-- Accepted time commands set the seconds, step the phase, capture a counter, latch the frequency, put MAN in force and select the source (R221, R222, R223, R224, R225, R226, R235, R236, R309). -/
def Obligations.TimeRegisterCommandsComplete : Prop :=
  ∀ (s : State) (o : Origin),
    (let a := R.TOD_SET_CTRL
     let w := F.TOD_SET_CTRL_GO.put (keepWord s a) 1
     WriteOk o a w s = true → CompletesWrite (.todSetSeconds o) o a w s ∧
      ((s.flag R.TOD_STATUS F.TOD_STATUS_VALID = true ∧ s.fld R.TOD_CTRL F.TOD_CTRL_SRC ≠ 0 →
          (accepted o a w s).flag R.TOD_STATUS F.TOD_STATUS_SET_REFUSED = true ∧
          (accepted o a w s).flag a F.TOD_SET_CTRL_PEND = s.flag a F.TOD_SET_CTRL_PEND) ∧
        (s.flag R.TOD_STATUS F.TOD_STATUS_VALID = false ∨ s.fld R.TOD_CTRL F.TOD_CTRL_SRC = 0 →
          (accepted o a w s).flag a F.TOD_SET_CTRL_PEND = true))) ∧
    (∀ v : Word, let a := R.TOD_PHASE
      let w := withBit F.TOD_PHASE_GO v
      WriteOk o a w s = true → CompletesWrite (.todPhaseAdjust o v) o a w s ∧
        (F.TOD_PHASE_STEP.get v = 1 → s.flag R.TOD_STATUS F.TOD_STATUS_VALID = false →
          s.flag R.TOD_STATUS F.TOD_STATUS_NO_MAJORITY = false →
          let t := todOfInt (s.tod.a.toNat + signed 28 (F.TOD_PHASE_OFFSET.get v) * 281474976710656)
          (accepted o a w s).tod.a = t ∧ (accepted o a w s).tod.b = t ∧
          (accepted o a w s).flag R.TOD_STATUS F.TOD_STATUS_STEP_EV = true)) ∧
    (∀ v : Word, let a := R.TOD_SNAP_CTRL
      let w := withBit F.TOD_SNAP_CTRL_CAPTURE v
      let t := if F.TOD_SNAP_CTRL_SEL.get v = 1 then s.tod.b else s.tod.a
      WriteOk o a w s = true → CompletesWrite (.todCapture o v) o a w s ∧
        (accepted o a w s).fld R.TOD_SNAP_NS F.TOD_SNAP_NS_NS = t.ns % 2 ^ 32 ∧
        (accepted o a w s).fld R.TOD_SNAP_SEC_LO F.TOD_SNAP_SEC_LO_SEC_LO = t.sec % 2 ^ 32 ∧
        (accepted o a w s).fld R.TOD_SNAP_SEC_HI F.TOD_SNAP_SEC_HI_SEC_HI = t.sec / 2 ^ 32 % 2 ^ 16 ∧
        (accepted o a w s).fld R.TOD_SNAP_SEC_HI F.TOD_SNAP_SEC_HI_FRAC = t.frac / 2 ^ 36 % 2 ^ 16) ∧
    (ReadOk o R.TOD_FREQ_LO s = true → CompletesRead (.todFreqLatch o) o R.TOD_FREQ_LO (s.reg R.TOD_FREQ_LO).toNat s ∧
      (readAs o R.TOD_FREQ_LO 4 s).fld R.TOD_FREQ_HI F.TOD_FREQ_HI_ADJ_HI = unsigned 48 s.tod.freq / 2 ^ 32) ∧
    (∀ v : Word, let a := R.TOD_FREQ_MAN_HI
      let m := clampInt (-500000000000) 500000000000
        (signed 48 (s.fld R.TOD_FREQ_MAN_LO F.TOD_FREQ_MAN_LO_MAN_LO + F.TOD_FREQ_MAN_HI_MAN_HI.get v * 2 ^ 32))
      WriteOk o a v s = true → CompletesWrite (.todFreqManWrite o v) o a v s ∧ (accepted o a v s).tod.man = m ∧
        (servo s = 0 → s.fld R.TOD_CTRL F.TOD_CTRL_SRC = 0 → (accepted o a v s).tod.freq = m)) ∧
    (∀ v : Word, let a := R.TOD_CTRL
      WriteOk o a v s = true → CompletesWrite (.todSourceSelect o v) o a v s ∧
        (accepted o a v s).fld a F.TOD_CTRL_SRC = F.TOD_CTRL_SRC.get v ∧
        (F.TOD_CTRL_SRC.get v = 0 → s.fld a F.TOD_CTRL_SRC ≠ 0 → servo (accepted o a v s) = 0 ∧
          (accepted o a v s).tod.freq = clampInt (-500000000000) 500000000000 s.tod.man))

/-- Marking instants, marked frames and time-transfer messages make the timestamps, the replies and the completed exchanges of R230 to R234 (R215, R227, R229, R230, R231, R232, R234, R236). -/
def Obligations.TimeTransferComplete : Prop :=
  ∀ s : State, Running s → let n := ttLane s
    (∀ lag : Strobe, s.tod.a.sec * 16 + s.tod.a.ns / 62500000 ≠ s.tod.lastMark →
      ∃ u, Completes (.ttMarkingInstant lag) s u ∧ u.tod.lastMark = s.tod.a.sec * 16 + s.tod.a.ns / 62500000 ∧
        (s.tod.exch.isSome = true → followsLine s = true → u.flag R.TOD_STATUS F.TOD_STATUS_EXCH_LATE = true) ∧
        (profileEff s = .deep → s.line[n].txRun = true → dataOn s = true → u.tod.exch = some ((s.line[n].txCnt + 1) % 2 ^ 32) ∧
          (u.tod.txMarks.head?.map (·.fcnt)) = some ((s.line[n].txCnt + 1) % 2 ^ 32)) ∧
        (profileEff s ≠ .deep ∨ s.line[n].txRun = false ∨ dataOn s = false → u.tod.exch = none)) ∧
    (∀ lag : Strobe, s.tod.a.sec * 16 + s.tod.a.ns / 62500000 = s.tod.lastMark → s.tod.a.ns / 62500000 = 15 →
      Completes (.ttMarkingInstant lag) s s) ∧
    (∀ lag : Strobe, s.tod.a.sec * 16 + s.tod.a.ns / 62500000 = s.tod.lastMark → s.tod.a.ns / 62500000 < 15 → s.tod.a.sec < 2 ^ 48 →
      s.tod.a.frac < fracOne → 0 < todInc s → todInc s * 16 ≤ secOne → 0 < bareInc s → bareInc s * 16 ≤ secOne → s.tod.part = 0 → refLost s = false → pwrState s ≠ 4 →
      ∃ u, Completes (.ttMarkingInstant lag) s u ∧ u.tod.lastMark = s.tod.lastMark + 1 ∧
        u.tod.a.sec * 16 + u.tod.a.ns / 62500000 = u.tod.lastMark) ∧
    (∀ (age : Strobe) (f : Nat), s.frm[n].tmf = true → s.frm[n].fcnt = some f → seepEn s n = true → s.seepLn[n].q.length < 32 →
      ∃ u e, Completes (.ttMarkedFrameRx age) s u ∧ (u.tod.rxMarks.head?.map (·.fcnt)) = some f ∧
        u.seepLn[n].q = s.seepLn[n].q ++ [e] ∧ e.cls = 2 ∧ e.msg.mtype = 0x10 ∧ e.msg.dst = 0) ∧
    (∀ age : Strobe, s.frm[n].tmf = false → Completes (.ttMarkedFrameRx age) s s) ∧
    (∀ (m : SMsg) (rest : List SMsg) (t1 t4 : Mark), s.seepLn[n].inbox = m :: rest → m.mtype = 0x10 →
      s.tod.exch = some (beNat ((m.payload.drop 20).take 4)) → findMark (beNat ((m.payload.drop 20).take 4)) s.tod.txMarks = some t1 →
      findMark (beNat ((m.payload.drop 4).take 4)) s.tod.rxMarks = some t4 →
      let flags := beNat ((m.payload.drop 2).take 2)
      ∃ u, Completes .ttTsReceive s u ∧ u.tod.exch = none ∧ u.seepLn[n].inbox = rest ∧
        (servo s ≠ 2 → refLost s = false → followsLine s = true → t1.lock = true → t4.lock = true → bitOf flags 0 = true → bitOf flags 1 = false →
          u.fld R.TOD_STATUS F.TOD_STATUS_METHOD = 1 ∧
          u.fld R.TOD_TT_CNT F.TOD_TT_CNT_ACCEPTED = (s.fld R.TOD_TT_CNT F.TOD_TT_CNT_ACCEPTED + 1) % 2 ^ 16)) ∧
    (seepTxL s n = true → seepEn s n = true → s.tod.lInt ≠ some (ttInterval s) → s.seepLn[n].q.length < 32 →
      ∃ u e, Completes .ttLSend s u ∧ u.tod.exchL = some s.tod.a.ts ∧ u.tod.lInt = some (ttInterval s) ∧ u.seepLn[n].q = s.seepLn[n].q ++ [e] ∧ e.cls = 2 ∧
        e.msg.mtype = 0x11 ∧ e.msg.dst = 0) ∧
    (seepTxL s n = false ∨ seepEn s n = false ∨ s.tod.lInt = some (ttInterval s) → Completes .ttLSend s s) ∧
    (∀ (m : SMsg) (rest : List SMsg) (t1 t4 : Mark) (x : Int), s.seepLn[n].inbox = m :: rest → m.mtype = 0x11 → s.tod.exchL = some x →
      findMark (beNat ((m.payload.drop 20).take 4)) s.tod.lTx = some t1 →
      findMark (beNat ((m.payload.drop 4).take 4)) s.tod.lRx = some t4 →
      ∃ u, Completes .ttLReceive s u ∧ u.seepLn[n].inbox = rest ∧
        (x - fourSeconds ≤ t1.t → u.tod.exchL = none) ∧ (t1.t < x - fourSeconds → u.tod = s.tod ∧ u.regs = s.regs))

/-- PPS_IN edges, TOD_RX messages, counter repairs, lost majorities, finished slews and REFCLK's loss and return act as the rules say (R222, R225, R228, R235, R236, R241, R244, R245, R247, R365). -/
def Obligations.TimeEventsComplete : Prop :=
  ∀ s : State, Running s → let st := R.TOD_STATUS
    (∀ age : Nat, s.fld R.TOD_CTRL F.TOD_CTRL_SRC = 1 ∨ s.fld R.TOD_CTRL F.TOD_CTRL_SRC = 3 → refLost s = false →
      let at0 := s.now - age / 200
      ∃ u, Completes (.ppsInEdge age) s u ∧
        (∀ v, servo s < 2 → edgeLabel s at0 = some v → u.tod.ppsAt = some s.now ∧ u.tod.ppsSec = some (v, at0) ∧
          u.fld st F.TOD_STATUS_METHOD = 3) ∧
        (∀ v, 2 ≤ servo s → edgeLabel s at0 = some v → (u.tod.ppsAt = some s.now ∧ u.tod.ppsSec = some (v, at0)) ∨
          (u.tod = { s.tod with ppsAt := u.tod.ppsAt } ∧ u.flag st F.TOD_STATUS_PPSIN_REJ = true)) ∧
        (servo s < 2 → edgeLabel s at0 = none → u.tod = s.tod)) ∧
    (∀ age : Nat, kindSelected s .pps = false → s.flag R.PWR_WAKE_EN F.PWR_WAKE_EN_PPS_EN = false →
      Completes (.ppsInEdge age) s s) ∧
    (∀ (body : List Nat) (c1 c0 ms : Nat), body.length = 12 → body.head? = some 1 →
      crc16 (body.flatMap fun b => (List.range 8).map fun i => bitOf b (7 - i)) = 256 * c1 + c0 → 10 ≤ ms → ms ≤ 990 →
      s.flag R.TOD_CTRL F.TOD_CTRL_TOD_RX_EN = true → ∃ u, Completes (.todRxMessage ([0xC5, 0x3A] ++ body ++ [c1, c0]) ms) s u ∧
        u.tod.ppsSec = some (beNat ((body.drop 1).take 6), s.now - ms * (cycSecond / 1000)) ∧ u.regs = s.regs) ∧
    (∀ (bytes : List Nat) (ms : Nat), s.flag R.TOD_CTRL F.TOD_CTRL_TOD_RX_EN = false ∨ bytes.length ≠ 16 ∨ ms < 10 ∨ 990 < ms →
      Completes (.todRxMessage bytes ms) s s) ∧
    (∀ isB : Bool, ∃ u, Completes (.todCounterRepair isB) s u ∧ u.flag st F.TOD_STATUS_CNT_REPAIR = true ∧
      u.tod.a = (if isB then s.tod.a else s.tod.b) ∧ u.tod.b = u.tod.a) ∧
    (∃ u, Completes (.todNoMajority .bothFail) s u ∧ u.flag st F.TOD_STATUS_NO_MAJORITY = true ∧
      u.flag st F.TOD_STATUS_NOMAJ_EV = true ∧ u.flag st F.TOD_STATUS_VALID = false ∧ servo u = 0 ∧
      u.flag R.TOD_CMP F.TOD_CMP_INTACT_A = false ∧ u.flag R.TOD_CMP F.TOD_CMP_INTACT_B = false) ∧
    (∀ (isB : Bool) (v : Tod), let other := if isB then s.tod.a else s.tod.b
      let d := max v.toNat other.toNat - min v.toNat other.toNat
      ∃ u, Completes (.todNoMajority (.differ isB v)) s u ∧ (if isB then u.tod.b else u.tod.a) = v ∧
        (if isB then u.tod.a else u.tod.b) = other ∧
        (todInc s < d → u.flag st F.TOD_STATUS_NO_MAJORITY = true ∧ u.flag st F.TOD_STATUS_NOMAJ_EV = true ∧
          u.flag st F.TOD_STATUS_VALID = false ∧ servo u = 0) ∧
        (d ≤ todInc s → u.reg st = s.reg st)) ∧
    (∃ u, Completes (.todNoMajority .inStep) s u ∧ u.tod = s.tod ∧ u.reg st = s.reg st) ∧
    (s.tod.slewLeft = 0 → ∃ u, Completes .todSlewDone s u ∧ u.tod = s.tod ∧ u.flag R.TOD_PHASE F.TOD_PHASE_BUSY = false) ∧
    (s.tod.slewLeft ≠ 0 → slewPer s ≠ 0 → ∃ u, Completes .todSlewDone s u ∧ u.tod.slewLeft = 0 ∧
      u.flag R.TOD_PHASE F.TOD_PHASE_BUSY = false ∧
      (let k := (s.tod.slewLeft.natAbs + slewPer s - 1) / slewPer s
       pwrState s ≠ 4 → s.tod.part = 0 → k < cyclesToWrap s →
        u.tod.a = todOfInt (s.tod.a.toNat + ((bareInc s * k : Nat) : Int) + s.tod.slewLeft))) ∧
    (s.tod.slewLeft ≠ 0 → slewPer s = 0 → Completes .todSlewDone s s) ∧
    (∀ cycles period : Nat, refLost s = false → s.tod.uncFine < 10000000000000000 →
      ∃ u, Completes (.refclkLoss cycles period) s u ∧ refLost u = true ∧ u.flag st F.TOD_STATUS_DEGRADED = true ∧
        u.tod.ringPeriod = period ∧ u.fld R.TOD_UNC F.TOD_UNC_UNC = min 0xFFFFFFFF (s.fld R.TOD_UNC F.TOD_UNC_UNC + 10)) ∧
    (∀ cycles period : Nat, refLost s = true → ∃ u, Completes (.refclkLoss cycles period) s u ∧ u.tod.refBack = false ∧
      u.regs = s.regs) ∧
    (refLost s = true → ∃ u, Completes .refclkReturn s u ∧ u.tod.refBack = true ∧ u.regs = s.regs) ∧
    (refLost s = true → s.tod.refBack = true → ∃ u, Completes .refclkRestore s u ∧ refLost u = false ∧ u.tod.a = s.tod.a ∧
      u.tod.b = s.tod.b) ∧
    (refLost s = false → Completes .refclkReturn s s) ∧
    (refLost s = false ∨ s.tod.refBack = false → Completes .refclkRestore s s) ∧
    (let out := decide (servo s = 3) || refLost s || s.flag st F.TOD_STATUS_DEGRADED
     (out = true → s.tod.uncFine < 10000000000000000 → ∃ u, Completes .todUncExceeded s u ∧
        (s.fld R.TOD_UNC_CFG F.TOD_UNC_CFG_UNC_LIMIT < 0xFFFFFFFF → uncLimit s < u.fld R.TOD_UNC F.TOD_UNC_UNC) ∧
        (servo s = 3 → u.flag st F.TOD_STATUS_VALID = false)) ∧
      (out = false → Completes .todUncExceeded s s))

/-- LOCKED enters HOLDOVER with HO_TIME 0, predictions count seconds, samples and minute records enter the ledger, refits are taken or not (R221, R236, R238, R239, R240, R331). -/
def Obligations.HoldoverAndLedgerComplete : Prop :=
  ∀ (s : State) (found : List (Nat × CisFault)), Running s → let hs := R.TOD_HO_STATUS
    let learns := decide (servo s = 2) && s.flag R.TOD_CTRL F.TOD_CTRL_LEARN_EN
    let k2 := pairServes s 2 || (pairSwitching s 2 && pairServes s 1)
    let due := decide (servo s = 2 ∧ s.tod.measAt + hoEntry s * cycSecond ≤ s.now)
    (due = true → ∃ u, Completes (.holdoverEntry found) s u ∧ servo u = 3 ∧
      u.fld R.TOD_HO_TIME F.TOD_HO_TIME_HO_TIME = 0 ∧ u.fld R.TOD_STATUS F.TOD_STATUS_METHOD = 0 ∧
      u.flag R.TOD_STATUS F.TOD_STATUS_STATE_EV = true ∧ u.tod.freq = s.tod.freq ∧ u.tod.fixedFreq = s.tod.freq ∧
      u.tod.fixed.coefs = s.tod.coefs ∧ u.tod.fixed.fitted = u.flag hs F.TOD_HO_STATUS_FITTED ∧
      u.flag hs F.TOD_HO_STATUS_FITTED =
        (!(ledgerOpen s && (ledgerFetch ledger 88 found s).1) && s.flag hs F.TOD_HO_STATUS_FITTED)) ∧
    (due = false → Completes (.holdoverEntry found) s s) ∧
    (k2 = true →
      (predicting s = true → ∃ u, Completes (.holdoverPrediction found) s u ∧
        u.fld R.TOD_HO_TIME F.TOD_HO_TIME_HO_TIME = (if servo s = 3 then min 0xFFFFFFFF (s.fld R.TOD_HO_TIME F.TOD_HO_TIME_HO_TIME + 1)
          else s.fld R.TOD_HO_TIME F.TOD_HO_TIME_HO_TIME) ∧
        u.fld hs F.TOD_HO_STATUS_PRED = (if modelOk s then 2 else if (bandY found s).1.isSome then 1 else 0) ∧
        (modelOk s = false → (bandY found s).1 = none → refLost s = false →
          u.tod.freq = clampInt (-500000000000) 500000000000 s.tod.fixedFreq) ∧
        (refLost s = true → u.tod.freq = s.tod.freq)) ∧
      (predicting s = false → Completes (.holdoverPrediction found) s s) ∧
      ((learns || predicting s) = true →
        ∃ u t, Completes .oscTempSample s u ∧ u.fld hs F.TOD_HO_STATUS_OSC_TEMP = unsigned 16 t ∧
          u.tod.temps = lastMinute s.now ((s.now, t) :: s.tod.temps) ∧
          u.tod.osc = if learns then lastMinute s.now ((s.now, t, s.tod.freq) :: s.tod.osc) else s.tod.osc) ∧
      ((learns || predicting s) = false → Completes .oscTempSample s s) ∧
      (learns = true → lastMinute s.now s.tod.osc ≠ [] → s.tod.a.sec < 2 ^ 48 →
        (deepSleep s = false → ledgerOpen s = true → ∃ u, Completes (.ledgerRecord found) s u ∧ u.tod.recN = s.tod.recN + 1 ∧
          u.bytesNat (recAddr s.tod.recN) 8 = s.tod.a.sec) ∧
        (deepSleep s = true → ∃ u, Completes (.ledgerRecord found) s u ∧ u.mem = s.mem ∧ u.regs = s.regs ∧
          (u.tod.recHeld.getLast?.map (·.sec)) = some s.tod.a.sec)) ∧
      (learns = false ∨ lastMinute s.now s.tod.osc = [] → Completes (.ledgerRecord found) s s) ∧
      (∃ u, Completes (.modelRefit found) s u ∧ ((u.flag hs F.TOD_HO_STATUS_FITTED = true ∧ u.tod.tFit = s.tod.a.sec) ∨
        (u.tod = s.tod ∧ u.flag hs F.TOD_HO_STATUS_FITTED = s.flag hs F.TOD_HO_STATUS_FITTED))) ∧
      (s.tod.recN ≤ s.tod.recBase ∨ ledgerOpen s = false → Completes (.modelRefit found) s s)) ∧
    (k2 = false → Completes (.holdoverPrediction found) s s ∧ Completes .oscTempSample s s ∧ Completes (.ledgerRecord found) s s ∧
      Completes (.modelRefit found) s s)

/-- An accepted cistern write changes exactly its bytes; an accepted read answers the bytes, or ECC with data 0; accesses stall while the interface retrains (R26, R36, R254, R256, R259, R260, R263). -/
def Obligations.CisternAccessesComplete : Prop :=
  ∀ (s : State) (a k : Nat), Running s →
    (∀ (q : CisReq) (f : CisFault) (others : List CisAccess), Completes (.cisternRead q a k f others) s
      ((cisOrder (others.length + 1) [] ({ q := q, a := a, k := k, f := f } :: others)).foldl cisternServe s)) ∧
    (∀ (q : CisReq) (v : Nat) (others : List CisAccess), Completes (.cisternWrite q a k v others) s
      ((cisOrder (others.length + 1) [] ({ q := q, a := a, k := k, w := some v } :: others)).foldl cisternServe s)) ∧
    (∀ (q : CisReq) (f : CisFault) (v : Nat), cisStalls s q = true → inAperture a = true →
      (∃ u, Completes (.cisternRead q a k f []) s u ∧ u.cis.stalled = s.cis.stalled ++ [{ q := q, a := a, k := k, f := f }] ∧
        u.mem = s.mem ∧ u.regs = s.regs ∧ u.resp = s.resp) ∧
      (∃ u, Completes (.cisternWrite q a k v []) s u ∧ u.cis.stalled = s.cis.stalled ++ [{ q := q, a := a, k := k, w := some v }] ∧
        u.mem = s.mem ∧ u.regs = s.regs ∧ u.resp = s.resp)) ∧
    (∀ (o : Origin) (v : Nat), wordsWait s = false → cisStalls s (.bus o) = false → accessCode s o a k (some (word v)) false = none → inAperture a = true →
      cisRefusal o.isHost a k false s = none →
      ∃ u, Completes (.cisternWrite (.bus o) a k v []) s u ∧ u.resp[o.idx] = [{ code := .ok }] ∧
        (∀ i, i < k → (u.byte (a + i)).toNat = v / 256 ^ i % 256) ∧ (∀ b, b < a ∨ a + k ≤ b → u.byte b = s.byte b) ∧
        (Memory.wf s.mem = true → Memory.wf u.mem = true)) ∧
    (∀ (q : CisReq) (v : Nat), (∀ o, q ≠ .bus o) → cisStalls s q = false → cisRefusal false a k false s = none →
      ∃ u, Completes (.cisternWrite q a k v []) s u ∧ u.resp = s.resp ∧
        (∀ i, i < k → (u.byte (a + i)).toNat = v / 256 ^ i % 256) ∧ (∀ b, b < a ∨ a + k ≤ b → u.byte b = s.byte b) ∧
        (Memory.wf s.mem = true → Memory.wf u.mem = true)) ∧
    (∀ (q : CisReq) (v : Nat), (∀ o, q ≠ .bus o) → cisStalls s q = false → cisRefusal false a 4 false s = none → a % 8 = 0 →
      ∃ u, Completes (.cisternWrite q a 8 v []) s u ∧ u.resp = s.resp ∧
        (∀ i, i < 8 → (u.byte (a + i)).toNat = v / 256 ^ i % 256) ∧ (∀ b, b < a ∨ a + 8 ≤ b → u.byte b = s.byte b)) ∧
    (∀ q : CisReq, (∀ o, q ≠ .bus o) → cisStalls s q = false → poisonAt s (a / 8) = false →
      Completes (.cisternRead q a k .none []) s s) ∧
    (∀ o : Origin, wordsWait s = false → cisStalls s (.bus o) = false → accessCode s o a k none false = none → inAperture a = true → cisRefusal o.isHost a k true s = none →
      mergeHolds s a k = false → poisonAt s (a / 8) = false →
      (∃ u, Completes (.cisternRead (.bus o) a k .none []) s u ∧ u.resp[o.idx] = [{ code := .ok, data := s.bytesNat a k }] ∧
        u.mem = s.mem ∧ u.regs = s.regs) ∧
      (∃ u, Completes (.cisternRead (.bus o) a k (.uncorr false) []) s u ∧ u.resp[o.idx] = [{ code := .ecc }] ∧ u.mem = s.mem ∧
        u.flag R.CIS_STATUS F.CIS_STATUS_UE_EV = true ∧ u.fld R.CIS_UE_ADDR F.CIS_UE_ADDR_ADDR = a / 8 * 8 ∧
        u.fld R.CIS_UE_INFO F.CIS_UE_INFO_SOURCE = (CisReq.bus o).code)) ∧
    (∀ (line : Nat) (f : Vector CisFault 4), s.cis.merge.any (fun e => e.line == line) = true →
      ∃ u, Completes (.mergeEntryAge line f) s u ∧ u.cis.merge.any (fun e => e.line == line) = false ∧ u.mem = s.mem) ∧
    (∀ (line : Nat) (f : Vector CisFault 4), s.cis.merge.any (fun e => e.line == line) = false → Completes (.mergeEntryAge line f) s s)

/-- The patrol advances and laps, the engine starts and hands back, the refresh follows its report, a remap takes the lowest spare (R26, R261, R262, R264, R265, R266). -/
def Obligations.ScrubRefreshAndRemapComplete : Prop :=
  ∀ s : State,
    (∀ f : Vector CisFault 4, Running s → cisternWaits s = false → scrubRuns s = true → s.flag R.CIS_SCRUB_POS F.CIS_SCRUB_POS_BY_ENGINE = false →
      ∃ u, Completes (.patrolLineRead f) s u ∧ let p := s.fld R.CIS_SCRUB_POS F.CIS_SCRUB_POS_LINE
        (p + 1 < scrubLines → u.fld R.CIS_SCRUB_POS F.CIS_SCRUB_POS_LINE = p + 1) ∧
        (scrubLines ≤ p + 1 → u.fld R.CIS_SCRUB_POS F.CIS_SCRUB_POS_LINE = 0 ∧
          u.fld R.CIS_SCRUB_STATUS F.CIS_SCRUB_STATUS_LAPS = (s.fld R.CIS_SCRUB_STATUS F.CIS_SCRUB_STATUS_LAPS + 1) % 2 ^ 12)) ∧
    (∀ f : Vector CisFault 4, Running s →
      cisternWaits s = true ∨ scrubRuns s = false ∨ s.flag R.CIS_SCRUB_POS F.CIS_SCRUB_POS_BY_ENGINE = true →
      Completes (.patrolLineRead f) s s) ∧
    (Running s → scrubRuns s = true → cisFlag s F.CIS_STATUS_BG_BUSY = false →
      ∃ u, Completes .scrubLapLimit s u ∧ cisFlag u F.CIS_STATUS_LAP_LATE = true ∧ cisFlag u F.CIS_STATUS_BG_BUSY = true) ∧
    (Running s → cisFlag s F.CIS_STATUS_BG_BUSY = true ∨ scrubRuns s = false → Completes .scrubLapLimit s s) ∧
    (∀ (o : Origin) (v : Word), let a := R.CIS_SCRUB_CFG
      let w := withBit F.CIS_SCRUB_CFG_BG_GO v
      WriteOk o a w s = true → CompletesWrite (.scrubBgGo o v) o a w s ∧
        (scrubRuns (stored o a w s) = true → cisFlag (accepted o a w s) F.CIS_STATUS_BG_BUSY = true ∧
          (cisFlag (stored o a w s) F.CIS_STATUS_BG_BUSY = false →
            (accepted o a w s).flag R.CIS_SCRUB_POS F.CIS_SCRUB_POS_BY_ENGINE = true))) ∧
    (∀ found : List (Nat × CisFault), Running s → cisFlag s F.CIS_STATUS_BG_BUSY = false ∨ scrubRuns s = false →
      Completes (.scrubBgLapDone found) s s) ∧
    (∀ found : List (Nat × CisFault), Running s → cisFlag s F.CIS_STATUS_BG_BUSY = true → scrubRuns s = true →
      ∃ u, Completes (.scrubBgLapDone found) s u ∧ cisFlag u F.CIS_STATUS_BG_BUSY = false ∧
        u.flag R.CIS_SCRUB_POS F.CIS_SCRUB_POS_BY_ENGINE = false ∧
        u.fld R.CIS_SCRUB_STATUS F.CIS_SCRUB_STATUS_LAPS = (s.fld R.CIS_SCRUB_STATUS F.CIS_SCRUB_STATUS_LAPS + 1) % 2 ^ 12) ∧
    (Running s → ∃ u, Completes .refreshTick s u ∧ u.fld R.CIS_REF F.CIS_REF_MULT_EFF =
      max (min 2 (s.fld R.CIS_REF F.CIS_REF_MULT / 4 ^ s.fld R.CIS_REF F.CIS_REF_BAND_EFF % 4))
        (mr4Mult (s.fld R.CIS_REF F.CIS_REF_MR4_RATE))) ∧
    (∀ rate : Nat, Running s → ∃ u, Completes (.refreshRatePoll rate) s u ∧ u.fld R.CIS_REF F.CIS_REF_MR4_RATE = rate % 8 ∧
      u.fld R.CIS_REF F.CIS_REF_MULT_EFF = s.fld R.CIS_REF F.CIS_REF_MULT_EFF) ∧
    (∀ (o : Origin) (line : Nat), line < 2 ^ 27 → let a := R.CIS_REMAP_CMD
      let w := withBit F.CIS_REMAP_CMD_GO (F.CIS_REMAP_CMD_LINE_ADDR.put (keepWord s a) line)
      let u := accepted o a w s
      WriteOk o a w s = true → CompletesWrite (.remapCommand o line) o a w s ∧
        (inAperture (line * 32) = false ∨ inReserved (line * 32) = true ∨ (remapOf s line).isSome = true ∨ freeSpare s = none →
          u.flag a F.CIS_REMAP_CMD_ERR = true) ∧
        (∀ k, inAperture (line * 32) = true → inReserved (line * 32) = false → remapOf s line = none → freeSpare s = some k →
          u.flag (R.CIS_REMAP k) F.CIS_REMAP_VALID = true ∧ u.fld (R.CIS_REMAP k) F.CIS_REMAP_LINE_ADDR = line ∧
          u.fld (R.CIS_REMAP k) F.CIS_REMAP_CAUSE = 2)) ∧
    (Running s → s.region[Region.cistern.idx].reacting = false → ∃ u, Completes (.cisternErrorBurst true) s u ∧
      u.region[Region.cistern.idx].reacting = true ∧ u.region[Region.cistern.idx].fresh = true ∧
      u.fld (R.CHIP_RERR 4) F.CHIP_RERR_CAUSE = 0xB) ∧
    (s.region[Region.cistern.idx].fresh = true → cisFlag s F.CIS_STATUS_UNAVAILABLE = false → let u := regionBegin .cistern s
      cisFlag u F.CIS_STATUS_RETRAIN_EV = true ∧ cisFlag u F.CIS_STATUS_SELF_REFRESH = true ∧ u.cis.merge = [] ∧
      u.region[Region.cistern.idx].fresh = false) ∧
    (Running s → (recent s.now cycMs s.cis.burst).length < 16 → Completes (.cisternErrorBurst false) s s) ∧
    (Running s → s.region[Region.cistern.idx].reacting = true → ∃ u, Completes .cisternRetrainDone s u ∧
      u.region[Region.cistern.idx].reacting = false ∧ cisFlag u F.CIS_STATUS_SELF_REFRESH = false)

/-- A capture starts or is refused, takes and drains its segments into their slots, and ends; a zeroisation leaves zeros and nothing else (R269, R270, R271). -/
def Obligations.CapturesAndZeroisationComplete : Prop :=
  ∀ s : State,
    (∀ (o : Origin) (v : Word), let a := R.CIS_CAP_CTRL
      let w := withBit F.CIS_CAP_CTRL_GO v
      let n := F.CIS_CAP_CTRL_LANE.get v
      let ready := s.flag (R.LINE_FE_CFG n) F.LINE_FE_CFG_ADC_EN && s.flag (R.LINE_PLL_STATUS n) F.LINE_PLL_STATUS_LOCK
      let u := accepted o a w s
      WriteOk o a w s = true → CompletesWrite (.captureGo o v) o a w s ∧
        (F.CIS_CAP_CTRL_ABORT.get v = 0 → ready = true → cisFlag u F.CIS_STATUS_CAP_BUSY = true ∧ u.cis.capture.isSome = true ∧
          u.fld R.CIS_CAP_STATUS F.CIS_CAP_STATUS_SEGS_DONE = 0) ∧
        (ready = false → cisFlag u F.CIS_STATUS_CAP_REFUSED = true)) ∧
    (∀ (samples : List Nat) (st : Strobe) (c : Capture) (d : Nat), Running s → s.cis.capture = some c → c.ending = false →
      c.taken < segCount s → c.nextDue = some d →
      let locked := s.flag (R.LINE_PLL_STATUS (lane c.lane)) F.LINE_PLL_STATUS_LOCK
      (s.cis.bufs.length < 2 → locked = true → s.region[Region.cistern.idx].reacting = false →
        ∃ u, Completes (.captureSegment samples st) s u ∧ u.cis.bufs.length = s.cis.bufs.length + 1 ∧
          u.cis.capture.map (·.taken) = some (c.taken + 1) ∧ u.regs = s.regs) ∧
      (locked = false ∨ 2 ≤ s.cis.bufs.length ∨ s.region[Region.cistern.idx].reacting = true →
        ∃ u, Completes (.captureSegment samples st) s u ∧ u.cis.bufs = s.cis.bufs ∧
        u.fld R.CIS_CAP_STATUS F.CIS_CAP_STATUS_SKIPPED = min 65535 (s.fld R.CIS_CAP_STATUS F.CIS_CAP_STATUS_SKIPPED + 1))) ∧
    (Running s → cisStalls s .bucket = true → Completes .captureSegmentDrained s s) ∧
    (∀ (samples : List Nat) (st : Strobe), Running s → s.cis.capture = none →
      Completes (.captureSegment samples st) s s ∧ Completes .captureSegmentDrained s s) ∧
    (∀ (c : Capture) (b : CapBuf) (rest : List CapBuf), Running s → cisStalls s .bucket = false → s.cis.capture = some c → s.cis.bufs = b :: rest →
      let done := s.fld R.CIS_CAP_STATUS F.CIS_CAP_STATUS_SEGS_DONE
      let l := b.header ++ b.samples
      ∃ u, Completes .captureSegmentDrained s u ∧ u.fld R.CIS_CAP_STATUS F.CIS_CAP_STATUS_SEGS_DONE = (done + 1) % 2 ^ 15 ∧
        (∀ (i : Nat) (h : i < l.length), (u.byte (0x44000000 + done * 0x10000 + i)).toNat = l[i] % 256) ∧
        (∀ x, x < 0x44000000 + done * 0x10000 ∨ 0x44000000 + done * 0x10000 + l.length ≤ x → u.byte x = s.byte x) ∧
        (c.ending = true ∨ segCount s ≤ (done + 1) % 2 ^ 15 → u.cis.capture = none ∧ cisFlag u F.CIS_STATUS_CAP_DONE = true ∧
          cisFlag u F.CIS_STATUS_CAP_BUSY = false) ∧
        (c.ending = false → (done + 1) % 2 ^ 15 < segCount s → u.cis.bufs = rest ∧ u.cis.capture = some c)) ∧
    (∀ (o : Origin) (c : Capture), let a := R.CIS_CAP_CTRL
      let w := F.CIS_CAP_CTRL_ABORT.put (keepWord s a) 1
      let u := accepted o a w s
      WriteOk o a w s = true → CompletesWrite (.captureAbort o) o a w s ∧
        (s.cis.capture = some c → s.cis.bufs = [] → u.cis.capture = none ∧ cisFlag u F.CIS_STATUS_CAP_DONE = true) ∧
        (s.cis.capture = some c → s.cis.bufs ≠ [] → u.cis.capture = some { c with ending := true } ∧
          u.cis.bufs = s.cis.bufs.take 1)) ∧
    (∀ (o : Origin) (m : Bool), let a := R.CIS_ZERO
      let w := withBit F.CIS_ZERO_GO (F.CIS_ZERO_MIRROR.put (keepWord s a) (b2n m))
      let u := accepted o a w s
      WriteOk o a w s = true → CompletesWrite (.zeroiseGo o m) o a w s ∧ cisFlag u F.CIS_STATUS_ZERO_BUSY = true ∧
        (cisFlag s F.CIS_STATUS_ZERO_BUSY = false → u.cis.zeroMirror = m ∧ u.cis.capture = none)) ∧
    (Running s → s.saf.jnlZero = false → cisFlag s F.CIS_STATUS_ZERO_BUSY = true → ∃ u, Completes .zeroiseDone s u ∧
      cisFlag u F.CIS_STATUS_ZERO_BUSY = false ∧ cisFlag u F.CIS_STATUS_ZERO_DONE = true ∧
      (∀ x, 0x44000000 ≤ x → x ≤ 0x83FFFFFF → u.byte x = 0) ∧
      (∀ x, x < 0x44000000 ∨ 0x83FFFFFF < x → x < 0x89000000 ∨ 0x89FFFFFF < x → u.byte x = s.byte x))

/-- Reset and RESTART bring every register and every laser enable to its reset state; a cold start ends released or in BOOT_FAIL (R258, R274, R289, R426). -/
def Obligations.ResetsAndColdStartsComplete : Prop :=
  ∀ s : State,
    (∃ u, Completes .resetAssert s u ∧ u.inReset = true ∧ (∀ n : Fin 8, lenOut u n = false) ∧ u.mem = s.mem) ∧
    (∀ o : Origin, let a := R.BOOT_STAGE_CTRL
      let w := F.BOOT_STAGE_CTRL_RESTART.put (keepWord s a) 1
      let u := accepted o a w s
      WriteOk o a w s = true → CompletesWrite (.bootRestart o) o a w s ∧ bootPhase u = 0 ∧ (∀ n : Fin 8, lenOut u n = false) ∧
        u.mem = s.mem) ∧
    (∀ d : BootData, coldReady s = true →
      (d.trainOk = false → ∃ u, Completes (.coldStart d) s u ∧ u.inReset = false ∧ bootPhase u = 6) ∧
      (d.trainOk = true → ∃ u, Completes (.coldStart d) s u ∧ u.inReset = false ∧ (bootPhase u = 5 ∨ bootPhase u = 6)) ∧
      (d.trainOk = true → d.k0Faults = [] →
        let x := imageStep d (setPhase 2 (setPhase 1 (cisTrain true (fuseStep d.fuses { s with inReset := false }))))
        ∃ u, Completes (.coldStart d) s u ∧ bootPhase u = if x.1.isSome then 5 else 6)) ∧
    (∀ d : BootData, coldReady s = false →
      bootPhase s ≠ 6 ∨ s.boot.recover = false ∨ s.inReset = true ∨ cisFlag s F.CIS_STATUS_UNAVAILABLE = true ∨
        s.boot.staged = none → Completes (.coldStart d) s s) ∧
    (∀ d : BootData, bootPhase s = 6 → s.boot.recover = true → s.inReset = false → cisFlag s F.CIS_STATUS_UNAVAILABLE = false →
      s.boot.staged.isSome = true → ∃ u, Completes (.coldStart d) s u ∧ bootPhase u = 5) ∧
    (∀ (o : Origin) (d : BootData), let a := R.BOOT_STAGE_CTRL
      let w := F.BOOT_STAGE_CTRL_SWITCH.put (keepWord s a) 1
      WriteOk o a w s = true → bootPhase s = 6 →
        (stFlag s F.BOOT_STAGE_STATUS_VERIFIED = true → s.boot.staged.isSome = true →
          cisFlag s F.CIS_STATUS_UNAVAILABLE = false →
          ∃ u, Completes (.bootFailRecover o d) s u ∧ bootPhase u = 5) ∧
        (stFlag s F.BOOT_STAGE_STATUS_VERIFIED = false → s.boot.recover = false →
          ∃ u, Completes (.bootFailRecover o d) s u ∧ bootPhase u = 6 ∧ stFlag u F.BOOT_STAGE_STATUS_UPD_ERR = true ∧
            u.fld R.BOOT_STAGE_STATUS F.BOOT_STAGE_STATUS_REASON = 8))

/-- Staged images are verified with a reason, a switch-over moves through the keepers in order, time-outs roll back, repair records are read (R288, R290, R291, R292, R293, R294, R297). -/
def Obligations.UpdatesComplete : Prop :=
  ∀ s : State,
    (∀ o : Origin, let a := R.BOOT_STAGE_CTRL
      let w := F.BOOT_STAGE_CTRL_VERIFY.put (keepWord s a) 1
      WriteOk o a w s = true → CompletesWrite (.stageVerify o) o a w s ∧
        stFlag (accepted o a w s) F.BOOT_STAGE_STATUS_VERIFY_BUSY = true ∧
        stFlag (accepted o a w s) F.BOOT_STAGE_STATUS_VERIFIED = false) ∧
    (Running s → stFlag s F.BOOT_STAGE_STATUS_VERIFY_BUSY = true → let i := stagedImage s
      let older := decide (i.seq < s.fld R.BOOT_SEQ F.BOOT_SEQ_SEQ_EFF) && !s.flag R.BOOT_STAGE_CTRL F.BOOT_STAGE_CTRL_ALLOW_OLDER
      let bad := if headerResult s i ≠ 0 then headerResult s i else if i.bodyOk = false then 5 else if older then 7 else 0
      (bad ≠ 0 → ∃ u, Completes .stageVerifyDone s u ∧ stFlag u F.BOOT_STAGE_STATUS_VERIFY_BUSY = false ∧
        stFlag u F.BOOT_STAGE_STATUS_UPD_ERR = true ∧ u.fld R.BOOT_STAGE_STATUS F.BOOT_STAGE_STATUS_REASON = bad ∧
        u.boot = s.boot) ∧
      (bad = 0 → ∃ u, Completes .stageVerifyDone s u ∧ stFlag u F.BOOT_STAGE_STATUS_VERIFY_BUSY = false ∧
        stFlag u F.BOOT_STAGE_STATUS_VERIFIED = true ∧ u.fld R.BOOT_STAGE_SEQ F.BOOT_STAGE_SEQ_SEQ = i.seq % 2 ^ 32 ∧
        u.boot.staged = some i ∧ u.stagedPumps = i.pump)) ∧
    (Running s → stFlag s F.BOOT_STAGE_STATUS_VERIFY_BUSY = false → Completes .stageVerifyDone s s) ∧
    (∀ (o : Origin) (v : Word), let a := R.BOOT_STAGE_CTRL
      let w := withBit F.BOOT_STAGE_CTRL_SWITCH v
      let u := accepted o a w s
      WriteOk o a w s = true → CompletesWrite (.updateSwitch o v) o a w s ∧
      (F.BOOT_STAGE_CTRL_VERIFY.get v = 0 → F.BOOT_STAGE_CTRL_RESTART.get v = 0 → bootPhase s ≠ 6 →
        (stFlag s F.BOOT_STAGE_STATUS_VERIFIED = false → stFlag u F.BOOT_STAGE_STATUS_UPD_ERR = true ∧
          u.fld R.BOOT_STAGE_STATUS F.BOOT_STAGE_STATUS_REASON = 8) ∧
        (stFlag s F.BOOT_STAGE_STATUS_VERIFIED = true → (∀ n : Fin 8, updWell s n = false) → (∀ k : Fin 3, s.kic.k[k].down = false) →
          stFlag u F.BOOT_STAGE_STATUS_SWITCH_BUSY = true ∧ updStep u = 2 ∧ u.boot.upd.keeper = some 1 ∧
          pairSwitching u 1 = true))) ∧
    (Running s → pairSwitching s 1 = true → s.boot.upd.keeper = some 1 → s.boot.upd.rollback = false → updStep s = 2 →
      stFlag s F.BOOT_STAGE_STATUS_SWITCH_BUSY = true → s.kic.k[(0 : Fin 3)].down = false → s.kic.k[(2 : Fin 3)].down = false →
      ∃ u, Completes (.keeperReady 1) s u ∧ updStep u = 3 ∧ u.boot.upd.keeper = some 0 ∧
        u.boot.upd.updated = 1 :: s.boot.upd.updated ∧ pairSwitching u 0 = true) ∧
    (∀ k : Fin 3, Running s → pairSwitching s k = false → s.kic.k[k].down = true →
      stFlag s F.BOOT_STAGE_STATUS_SWITCH_BUSY = false →
      ∃ u, Completes (.keeperReady k) s u ∧ u.kic.k[k].down = false ∧ u.kic.k[k].kickAt = s.now ∧ u.regs = s.regs) ∧
    (∀ k : Fin 3, Running s → s.boot.upd.keeper = some k.val → s.boot.upd.rollback = false →
      ∃ u, Completes .keeperSwitchTimeout s u ∧ u.boot.upd.rollback = true ∧ u.boot.upd.keeper = some k.val ∧
        u.reg (R.KIC_MODE k) = 0xF1) ∧
    (Running s → s.boot.upd.keeper = none → Completes .keeperSwitchTimeout s s) ∧
    (∀ o : Origin, let a := R.BOOT_RPR_DATA 3
      let i := s.fld R.BOOT_RPR_INDEX F.BOOT_RPR_INDEX_INDEX
      ReadOk o a s = true → CompletesRead (.repairRecordRead o) o a (rprWord s 3) s ∧
        (readAs o a 4 s).fld R.BOOT_RPR_INDEX F.BOOT_RPR_INDEX_INDEX = (i + 1) % 64)

/-- Rails and clock monitors come back, unanswered sleep requests refuse the entry, keepers halt and resume, boundary cells are driven (R350, R370, R405, R410). -/
def Obligations.RecoveriesComplete : Prop :=
  ∀ s : State, Running s →
    (∀ r : Fin 8, ∃ u, Completes (.railBackInWindow r) s u ∧ bitOf u.rails r.val = false ∧
      (∀ j, j ≠ r.val → bitOf u.rails j = bitOf s.rails j) ∧ u.saf.railOk = s.now) ∧
    (∀ i : Fin 13, ∃ u, Completes (.clockMonitorRearm i) s u ∧ bitOf u.saf.clkBad i.val = false ∧
      (∀ j, j ≠ i.val → bitOf u.saf.clkBad j = bitOf s.saf.clkBad j) ∧ u.regs = s.regs) ∧
    (∀ (b : Nat) (edges : List WakeSrc), s.pwr.entry.isSome = true → edges = [] ∨ pwrFlag s F.PWR_STATUS_HOLDOFF = false →
      ∃ u, Completes (.sleepNoAnswer b edges) s u ∧ u.pwr.entry = none ∧
      u.fld R.PWR_STATUS F.PWR_STATUS_REASON = 8 ∧ u.fld R.PWR_STATUS F.PWR_STATUS_BLOCK = b % 32 ∧
      u.flag R.PWR_STATUS F.PWR_STATUS_REFUSED = true ∧
      (∀ w, edges = [w] → edgeCause s w ≠ 0 → pwrFlag u F.PWR_STATUS_DP_IDLE = false ∧ pwrFlag u F.PWR_STATUS_WAKE_EV = true)) ∧
    (∀ (b : Nat) (edges : List WakeSrc), s.pwr.entry = none →
      Completes (.sleepNoAnswer b edges) s (edges.foldl (fun s w => wakeEvent w s) s)) ∧
    (∀ k : Fin 3, debugLevel s = 2 → pairUp s k = true → ∃ u, Completes (.keeperHalt k) s u ∧ u.kic.k[k].halted = true ∧
      u.regs = s.regs) ∧
    (∀ k : Fin 3, debugLevel s = 2 → s.kic.k[k].halted = true → ∃ u, Completes (.keeperResume k) s u ∧
      u.kic.k[k].halted = false ∧ u.kic.k[k].kickAt = s.now ∧ u.regs = s.regs) ∧
    (∀ k : Fin 3, debugLevel s ≠ 2 ∨ pairUp s k = false → Completes (.keeperHalt k) s s) ∧
    (∀ k : Fin 3, debugLevel s ≠ 2 ∨ s.kic.k[k].halted = false → Completes (.keeperResume k) s s) ∧
    (∀ (j : Nat) (v : Bool), s.sec.driven = true → ∃ u, Completes (.boundaryUpdate [(j, v)]) s u ∧
      u.sec.cells.head? = some (j, v && decide (8 ≤ j)) ∧ u.regs = s.regs) ∧
    (∀ l, s.sec.driven = false → Completes (.boundaryUpdate l) s s)

/-- Port S frames answer a status per word: READ reads, WRITE queues or says why not, STATUS reports; waiting words are performed in the fabric's order (R27, R299, R300, R301, R302). -/
def Obligations.PortSFramesComplete : Prop :=
  ∀ s : State, Running s →
    (∀ (a : Nat) (c : Fin 256) (l : List Word), a % 4 ≠ 0 →
      (∃ u, Completes (.portSRead a c) s u ∧ u.resp[(0 : Fin 7)] = [] ∧ u.port.frame = .width ∧ u.port.qS = s.port.qS ∧
        u.flag (R.CHIP_PORT_ERR 0) F.CHIP_PORT_ERR_ERR = true ∧ u.fld (R.CHIP_PORT_ERR 0) F.CHIP_PORT_ERR_LAST_CODE = 6) ∧
      (∃ u, Completes (.portSWrite a l) s u ∧ u.resp[(0 : Fin 7)] = [] ∧ u.port.frame = .width ∧ u.port.qS = s.port.qS ∧
        u.flag (R.CHIP_PORT_ERR 0) F.CHIP_PORT_ERR_ERR = true)) ∧
    (∀ (a : Nat) (c : Fin 256), frameStatus s a false = .ok →
      ∃ u, Completes (.portSRead a c) s u ∧ u.resp[(0 : Fin 7)].length = c.val + 1) ∧
    (∀ a : Nat, frameStatus s a false = .ok →
      let x := busRead .portS a 4 (fabricTurn .portS { s with port := { s.port with frame := .ok } })
      ∃ u, Completes (.portSRead a 0) s u ∧ u.resp[(0 : Fin 7)] = [{ code := x.1, data := x.2.1 }] ∧ u.port.qS = []) ∧
    (∀ (a : Nat) (w : Word), frameStatus s a true = .ok →
      (writeCheck s a w = .ok → s.port.qS.length < 8 → ∃ u, Completes (.portSWrite a [w]) s u ∧
        u.resp[(0 : Fin 7)] = [{ code := .ok }] ∧ u.port.qS = s.port.qS ++ [{ addr := a, data := w.toNat }] ∧ u.regs = s.regs) ∧
      (writeCheck s a w ≠ .ok → ∃ u, Completes (.portSWrite a [w]) s u ∧ u.resp[(0 : Fin 7)] = [{ code := writeCheck s a w }] ∧
        u.port.qS = s.port.qS ∧ u.fld (R.CHIP_PORT_ERR 0) F.CHIP_PORT_ERR_LAST_CODE = (writeCheck s a w).num)) ∧
    (∀ a : Nat, ∃ u, Completes (.portSStatus 3 a) s u ∧ u.resp[(0 : Fin 7)] = [{ data := statusWord s }] ∧ u.regs = s.regs ∧
      u.port.qS = s.port.qS) ∧
    (∀ (op : Fin 16) (a : Nat), op ≠ 1 → op ≠ 2 → op ≠ 3 → ∃ u, Completes (.portSStatus op a) s u ∧ u.resp[(0 : Fin 7)] = [] ∧
      u.port.frame = .unmapped ∧ u.port.qS = s.port.qS ∧ u.flag (R.CHIP_PORT_ERR 0) F.CHIP_PORT_ERR_ERR = true ∧
      u.fld (R.CHIP_PORT_ERR 0) F.CHIP_PORT_ERR_LAST_CODE = Code.unmapped.num) ∧
    (∀ (wr : Bool) (a : Nat) (c : Fin 256) (l : List Word),
      Completes (.portSFrameAbort .head wr a c l) s (respond .portS [] s)) ∧
    (∀ (wr : Bool) (a : Nat) (c : Fin 256) (l : List Word), frameStatus s a wr = .ok → l.length ≤ c.val →
      (∃ u, Completes (.portSFrameAbort .word wr a c l) s u ∧ u.resp[(0 : Fin 7)].length = l.length ∧
        u.flag (R.CHIP_PORT_ERR 0) F.CHIP_PORT_ERR_PARTIAL = true) ∧
      (∃ u, Completes (.portSFrameAbort .gap wr a c l) s u ∧ u.resp[(0 : Fin 7)].length = l.length ∧
        (l = [] → wr = true → u.regs = s.regs))) ∧
    (∀ a : Nat, frameStatus s a false = .ok → ∃ u, Completes (.portSReadTimeout a) s u ∧ u.resp[(0 : Fin 7)] = [{ code := .busy }] ∧
      u.fld (R.CHIP_PORT_ERR 0) F.CHIP_PORT_ERR_LAST_CODE = 7) ∧
    (∀ (i3c : Bool) (w : Posted) (rest : List Posted),
      (if s.port.qS = [] then i3c = true
       else i3c = (decide (s.port.qI ≠ []) && decide (s.port.grantTo = some .portS) && decide (8 ≤ s.port.grantRun))) →
      portQueue i3c s = w :: rest → w.group = false →
      let x := fabricGrant (queueOrigin i3c) (!(portQueue (!i3c) s).isEmpty) (setQueue i3c rest s)
      WriteFits (queueOrigin i3c) w.addr (word w.data) x = true →
      Completes .postedWritePerform s (accepted (queueOrigin i3c) w.addr (word w.data) x)) ∧
    (s.port.qS = [] → s.port.qI = [] → Completes .postedWritePerform s s)

/-- Port I writes queue their words and move the pointer, reads answer from it, group writes are counted, in-band interrupts are sent (R303, R304, R305, R311, R325). -/
def Obligations.PortITransfersComplete : Prop :=
  ∀ s : State, Running s →
    (∀ (k a : Nat) (l : List Word), 4 ≤ k → s.port.qI.length + l.length ≤ 8 → (∀ b, gate s .portI b true ≠ .stop .busy) →
      let words (g : Bool) : List Posted := l.zipIdx.map (fun p => { addr := a + 4 * p.2, data := p.1.toNat, group := g })
      (∃ u, Completes (.portIPrivateWrite k a l 0) s u ∧ u.port.qI = s.port.qI ++ words false ∧
        u.port.ptr = (a + 4 * l.length) % 2 ^ 32 ∧ u.port.nack = false ∧ u.regs = s.regs) ∧
      (s.flag R.CHIP_PI_GRP F.CHIP_PI_GRP_GRP_VALID = true → ∃ u, Completes (.portIGroupWrite k a l 0) s u ∧
        u.port.qI = s.port.qI ++ words true ∧ u.fld R.CHIP_PI_GRP F.CHIP_PI_GRP_GRP_WRITES =
          (s.fld R.CHIP_PI_GRP F.CHIP_PI_GRP_GRP_WRITES + 1) % 2 ^ 16)) ∧
    (∀ (k a : Nat) (l : List Word), 4 ≤ k → l ≠ [] → (∀ b, gate s .portI b true = .stop .busy) →
      ∃ u, Completes (.portIPrivateWrite k a l 0) s u ∧ u.port.qI = s.port.qI ∧ u.port.ptr = (a + 4 * l.length) % 2 ^ 32 ∧
        u.flag (R.CHIP_PORT_ERR 1) F.CHIP_PORT_ERR_ERR = true ∧
        u.fld (R.CHIP_PORT_ERR 1) F.CHIP_PORT_ERR_LAST_CODE = Code.busy.num) ∧
    (∀ (k a t : Nat) (l : List Word), k < 4 → ∃ u, Completes (.portIPrivateWrite k a l t) s u ∧ u.port.qI = s.port.qI ∧
      u.flag (R.CHIP_PORT_ERR 1) F.CHIP_PORT_ERR_PARTIAL = true) ∧
    (∀ (k a t : Nat) (l : List Word), s.flag R.CHIP_PI_GRP F.CHIP_PI_GRP_GRP_VALID = false →
      Completes (.portIGroupWrite k a l t) s s) ∧
    (∀ (g : Bool) (c : Nat), g = true ∨ s.port.qI ≠ [] → ∃ u, Completes (.portIPrivateRead g c) s u ∧ u.resp[(1 : Fin 7)] = [] ∧
      u.port.nack = true ∧ u.regs = s.regs ∧ u.port.ptr = s.port.ptr) ∧
    (readNacked s = false →
      let x := busRead .portI s.port.ptr 4 (fabricTurn .portI { s with port := { s.port with nack := false } })
      ∃ u, Completes (.portIPrivateRead false 1) s u ∧ u.port.ptr = (s.port.ptr + 4) % 2 ^ 32 ∧
        u.resp[(1 : Fin 7)] = [{ code := x.1, data := if x.1 = .ok then x.2.1 else 0 }]) ∧
    (∀ d : Nat, Completes (.portIEntdaa d) s
      { s with port := { s.port with dyn := some (d % 128), pid := some (0x0816, s.fuse.identEff % 16) } }) ∧
    (∀ g : Nat, ∃ u, Completes (.portISetgrpa g) s u ∧ u.fld R.CHIP_PI_GRP F.CHIP_PI_GRP_GRP_ADDR = g % 128 ∧
      u.flag R.CHIP_PI_GRP F.CHIP_PI_GRP_GRP_VALID = true) ∧
    Completes .portIEnec s { s with port := { s.port with ibiEn := true } } ∧
    (∀ acked : Bool, s.port.ibiDue = true → s.port.ibiEn = true → irqCauses s 1 ≠ 0 →
      (s.port.dyn.isSome = true → s.port.ibiRetry = false → ∃ u, Completes (.ibiSend acked) s u ∧ u.port.ibiByte = ibiByte s ∧
        u.port.ibiDue = !acked ∧ u.port.ibiRetry = !acked ∧ u.regs = s.regs) ∧
      (s.port.ibiRetry = true → ∃ u, Completes (.ibiRetry acked) s u ∧ u.port.ibiByte = ibiByte s ∧
        u.port.ibiDue = !acked ∧ u.port.ibiRetry = !acked ∧ u.regs = s.regs)) ∧
    (∀ acked : Bool, s.port.ibiDue = false → Completes (.ibiSend acked) s s ∧ Completes (.ibiRetry acked) s s) ∧
    (∀ (o : Origin) (a : Nat), ∃ u, Completes (.accessTimeout o a) s u ∧ u.resp[o.idx] = [{ code := .timeout }]) ∧
    (∀ (p : Fin 3) (a : Nat), ∃ u, Completes (.accessTimeout (portOrigin p) a) s u ∧
      u.fld (R.CHIP_PORT_ERR p) F.CHIP_PORT_ERR_LAST_CODE = 8 ∧ u.flag (R.CHIP_PORT_ERR p) F.CHIP_PORT_ERR_ERR = true)

/-- A read claims a free semaphore, a write of 0 releases it; mailbox words and modes are set; doorbell bits set and clear by side (R27, R317, R319, R320, R324). -/
def Obligations.SemaphoresAndDoorbellsComplete : Prop :=
  ∀ s : State,
    (∀ (o : Origin) (k : Fin 16), let a := R.CHIP_SEM k
      ReadOk o a s = true →
        (semHolder s k = 0 → mayClaim s o k = true → CompletesRead (.semClaim [o] k) o a 1 s ∧
          semHolder (readAs o a 4 s) k = o.holder) ∧
        (semHolder s k ≠ 0 → semHolder s k ≠ o.holder → CompletesRead (.semClaim [o] k) o a (semHolder s k) s ∧
          (readAs o a 4 s).regs = s.regs)) ∧
    (∀ (l : List Origin) (k : Fin 16), Running s → Completes (.semClaim l k) s
      (([Origin.portS, .portJ, .portI, .portF, .k0, .k1, .k2].filter (l.contains ·)).foldl (fun s o => readAs o (R.CHIP_SEM k) 4 s) s)) ∧
    (∀ (o : Origin) (k : Fin 16), let a := R.CHIP_SEM k
      WriteOk o a 0 s = true → CompletesWrite (.semRelease o k) o a 0 s ∧ semHolder (accepted o a 0 s) k = 0 ∧
        (∀ j : Fin 16, j ≠ k → semHolder (accepted o a 0 s) j = semHolder s j)) ∧
    (∀ (p : Fin 3) (i : Fin 16) (w : Word), let o := portOrigin p
      let a := R.MBX_DATA p i
      WriteOk o a w s = true → CompletesWrite (.mbxDataWrite p i w) o a w s ∧ (accepted o a w s).mbx[p].inb[i] = w ∧
        (∀ j : Fin 16, j ≠ i → (accepted o a w s).mbx[p].inb[j] = s.mbx[p].inb[j]) ∧ (accepted o a w s).regs = s.regs) ∧
    (∀ p : Fin 3, Running s → mbxInFull s p = false → mbxOutFull s p = false → ∃ u, Completes (.mbxModeApply p) s u ∧
      mbxFlow u p = s.flag R.MBX_CFG (if p = 0 then F.MBX_CFG_MODE_S else if p = 1 then F.MBX_CFG_MODE_I else F.MBX_CFG_MODE_F)) ∧
    (∀ p : Fin 3, Running s → mbxInFull s p = true ∨ mbxOutFull s p = true → Completes (.mbxModeApply p) s s) ∧
    (∀ (p k : Fin 3) (b : Word),
      (let o := portOrigin p
       let a := R.MBX_DB_TODEV p
       WriteOk o a b s = true → CompletesWrite (.doorbellTodevSet p b) o a b s ∧
        (accepted o a b s).fld a F.MBX_DB_TODEV_DB = Nat.lor (s.fld a F.MBX_DB_TODEV_DB) b.toNat) ∧
      (let o := keeperOrigin k
       let a := R.MBX_DB_TODEV_ACK p
       let d := R.MBX_DB_TODEV p
       WriteOk o a b s = true → CompletesWrite (.doorbellTodevAck k p b) o a b s ∧
        (∀ j, j < 32 → bitOf ((accepted o a b s).fld d F.MBX_DB_TODEV_DB) j =
          (bitOf (s.fld d F.MBX_DB_TODEV_DB) j && !bitOf b.toNat j))) ∧
      (let o := keeperOrigin k
       let a := R.MBX_DB_TOHOST_SET p
       let d := R.MBX_DB_TOHOST p
       WriteOk o a b s = true → CompletesWrite (.doorbellTohostSet k p b) o a b s ∧
        (accepted o a b s).fld d F.MBX_DB_TOHOST_DB = Nat.lor (s.fld d F.MBX_DB_TOHOST_DB) b.toNat) ∧
      (let o := portOrigin p
       let a := R.MBX_DB_TOHOST p
       WriteOk o a b s = true → CompletesWrite (.doorbellTohostClear p b) o a b s ∧
        (∀ j, j < 32 → bitOf ((accepted o a b s).fld a F.MBX_DB_TOHOST_DB) j =
          (bitOf (s.fld a F.MBX_DB_TOHOST_DB) j && !bitOf b.toNat j))))

/-- GO fills the inbound mailbox, the keeper's acknowledgement or last read empties it, OUT_CTRL posts and the host's side completes (R319, R320). -/
def Obligations.MailboxHandshakesComplete : Prop :=
  ∀ (s : State) (p k : Fin 3), let st := R.MBX_STATUS p
    (∀ v : Word, let o := portOrigin p
      let a := R.MBX_IN_CTRL p
      let w := withBit F.MBX_IN_CTRL_GO v
      let u := accepted o a w s
      WriteOk o a w s = true → CompletesWrite (.mbxInGo p v) o a w s ∧ mbxInFull u p = true ∧
        mbxLen u p = F.MBX_IN_CTRL_LEN.get v ∧ mbxOpcode u p = F.MBX_IN_CTRL_OPCODE.get v ∧
        mbxTag u p = F.MBX_IN_CTRL_TAG.get v ∧ u.flag (R.MBX_ACK p) F.MBX_ACK_VALID = false) ∧
    (∀ rc : Nat, let o := keeperOrigin k
      let a := R.MBX_ACK p
      let w := word (rc % 65536)
      let u := accepted o a w s
      WriteOk o a w s = true → CompletesWrite (.mbxInAck k p rc) o a w s ∧
        (mbxFlow s p = false → mbxInFull u p = false ∧ u.flag st F.MBX_STATUS_IN_DONE = true ∧
          u.fld a F.MBX_ACK_RC = rc % 65536 ∧ u.flag a F.MBX_ACK_VALID = true)) ∧
    (let o := keeperOrigin k
     let a := R.MBX_DATA p (mbxLen s p - 1)
     mbxFlow s p = true → mbxInFull s p = true → 1 ≤ mbxLen s p → mbxLen s p ≤ 16 → ReadOk o a s = true →
      CompletesRead (.mbxInFlowRead k p) o a (mbxIn s p (mbxLen s p - 1)) s ∧ mbxInFull (readAs o a 4 s) p = false) ∧
    (let o := portOrigin p
     let len := s.fld (R.MBX_OUT_CTRL p) F.MBX_OUT_CTRL_LEN
     let a := R.MBX_DATA p (len - 1)
     mbxFlow s p = true → mbxOutFull s p = true → 1 ≤ len → len ≤ 16 → ReadOk o a s = true →
      CompletesRead (.mbxOutFlowRead p) o a (s.reg a).toNat s ∧ mbxOutFull (readAs o a 4 s) p = false ∧
        (readAs o a 4 s).flag st F.MBX_STATUS_OUT_AVAIL = false) ∧
    (∀ rc : Nat, let o := portOrigin p
      let a := R.MBX_OUT_ACK p
      let w := word (rc % 65536)
      WriteOk o a w s = true → CompletesWrite (.mbxOutAck p rc) o a w s ∧
        (mbxFlow s p = false → mbxOutFull (accepted o a w s) p = false ∧
          (accepted o a w s).flag (R.MBX_OUT_CTRL p) F.MBX_OUT_CTRL_FULL = false)) ∧
    (∀ r : Reply, Running s → mbxOutFull s p = true → Completes (.mbxOutPost k p r) s s) ∧
    (∀ r : Reply, let o := keeperOrigin k
      let w := F.MBX_OUT_CTRL_LEN.put (F.MBX_OUT_CTRL_OPCODE.put (F.MBX_OUT_CTRL_TAG.put (F.MBX_OUT_CTRL_FULL.put 0 1) r.tag) r.opcode) r.len
      mbxOutFull s p = false → r.len ≤ 16 → WriteOk o (R.MBX_OUT_CTRL p) w s = true →
      (∀ j : Fin 16, WriteOk o (R.MBX_DATA p j) (word ((r.words[j.val]?).getD 0)) s = true) →
      ∃ u, Completes (.mbxOutPost k p r) s u ∧ mbxOutFull u p = true ∧ u.flag st F.MBX_STATUS_OUT_AVAIL = true ∧
        u.fld (R.MBX_OUT_CTRL p) F.MBX_OUT_CTRL_LEN = r.len ∧ u.fld (R.MBX_OUT_CTRL p) F.MBX_OUT_CTRL_OPCODE = r.opcode % 256 ∧
        u.fld (R.MBX_OUT_CTRL p) F.MBX_OUT_CTRL_TAG = r.tag % 256 ∧
        (∀ j, j < r.len → u.reg (R.MBX_DATA p j) = word ((r.words[j]?).getD 0)))

/-- In ACK mode a serving keeper carries out each opcode, acknowledges it with its return code and posts the reply that the opcode has (R321, R322, R323). -/
def Obligations.MailboxOpcodesComplete : Prop :=
  ∀ (s : State) (p : Fin 3), Running s → mbxInFull s p = true → mbxServed s p = true → mbxFlow s p = false →
    mbxOutFull s p = false → s.mbx[p].queue = [] → let op := mbxOpcode s p
    let rcIs (u : State) (rc : Nat) : Prop := mbxInFull u p = false ∧ u.flag (R.MBX_ACK p) F.MBX_ACK_VALID = true ∧
      u.fld (R.MBX_ACK p) F.MBX_ACK_RC = rc
    let posts (u : State) (len : Nat) : Prop := mbxOutFull u p = true ∧
      u.fld (R.MBX_OUT_CTRL p) F.MBX_OUT_CTRL_LEN = len ∧ u.fld (R.MBX_OUT_CTRL p) F.MBX_OUT_CTRL_OPCODE = op ∧
      u.fld (R.MBX_OUT_CTRL p) F.MBX_OUT_CTRL_TAG = mbxTag s p
    (op = 1 → 8 ≤ mbxLen s p → mbxLen s p ≤ 16 → ∃ u, Completes (.mbxEcho p) s u ∧ rcIs u 0 ∧ posts u (mbxLen s p) ∧
      (∀ j, 1 ≤ j → j < mbxLen s p → u.reg (R.MBX_DATA p j) = word (mbxIn s p j)) ∧ u.reg (R.MBX_DATA p 0) = 0) ∧
    (∀ l, op = 2 → mbxIn s p 1 = 0 ∨ 14 < mbxIn s p 1 → ∃ u, Completes (.mbxRead p l) s u ∧ rcIs u 0x102 ∧ posts u 8 ∧
      u.reg (R.MBX_DATA p 0) = 0x102) ∧
    (∀ l, op = 2 → 1 ≤ mbxIn s p 1 → mbxIn s p 1 ≤ 14 → ∃ u, Completes (.mbxRead p l) s u ∧ posts u (max 8 (mbxIn s p 1 + 2)) ∧
      mbxInFull u p = false ∧ u.reg (R.MBX_DATA p 1) = word (mbxIn s p 1)) ∧
    (∀ l, op = 3 → mbxIn s p 0 = 0 ∨ 7 < mbxIn s p 0 → ∃ u, Completes (.mbxWrite p l) s u ∧ rcIs u 0x102 ∧ mbxOutFull u p = false) ∧
    (∀ l, op = 3 → 1 ≤ mbxIn s p 0 → mbxIn s p 0 ≤ 7 → mbxLen s p < 1 + 2 * mbxIn s p 0 →
      ∃ u, Completes (.mbxWrite p l) s u ∧ rcIs u 0x101 ∧ mbxOutFull u p = false) ∧
    (∀ l : List Nat, op = 3 → mbxIn s p 0 = 1 → 3 ≤ mbxLen s p → let a := mbxIn s p 1
      let w := word (mbxIn s p 2)
      let granted := fabricGrant (servedBy s (portOrigin p)) false
      WriteOk (portOrigin p) a w s = true →
        (l.contains a = false → Completes (.mbxWrite p l) s (mbxAck p 0 (granted (accepted (portOrigin p) a w s)))) ∧
        (l.contains a = true → Completes (.mbxWrite p l) s (mbxAck p Code.timeout.num (granted s)))) ∧
    (op = 0x10 → portHolds s p Grp.update.sem = false → ∃ u, Completes (.mbxImageBlock p) s u ∧ rcIs u 0x103 ∧ u.mem = s.mem) ∧
    (op = 0x10 → portHolds s p Grp.update.sem = true → let off := mbxIn s p 0
      (off % 4 ≠ 0 ∨ slotSize ≤ off → ∃ u, Completes (.mbxImageBlock p) s u ∧ rcIs u 0x102 ∧ u.mem = s.mem) ∧
      (wordsWait s = false → off % 4 = 0 → 8 ≤ mbxLen s p → mbxLen s p ≤ 16 → off + 4 * (mbxLen s p - 1) ≤ slotSize →
        (∀ i, i < mbxLen s p - 1 → accessCode s (portOrigin p) (stagingBase s + off + 4 * i) 4 (some (word (mbxIn s p (i + 1)))) false = none ∧
          cisRefusal true (stagingBase s + off + 4 * i) 4 false s = none) →
        ∃ u, Completes (.mbxImageBlock p) s u ∧ rcIs u 0 ∧ mbxOutFull u p = false ∧
          (∀ i, i < mbxLen s p - 1 → u.bytesNat (stagingBase s + off + 4 * i) 4 = mbxIn s p (i + 1)))) ∧
    (op = 0x20 → ∃ u, Completes (.mbxJournal p) s u ∧ posts u 14 ∧ mbxInFull u p = false ∧
      u.reg (R.MBX_DATA p 1) = word (max (mbxIn s p 0) (jnlOldest s))) ∧
    (op = 0x30 → ∃ u, Completes (.mbxTelemetry p) s u ∧ posts u 8 ∧ mbxInFull u p = false) ∧
    (∀ rc : Nat, 0xF0 ≤ op → ∃ u, Completes (.mbxVendorOpcode p rc none) s u ∧ rcIs u (rc % 65536) ∧ mbxOutFull u p = false) ∧
    (∀ (rc : Nat) (r : Reply), 0xF0 ≤ op → ∃ u, Completes (.mbxVendorOpcode p rc (some r)) s u ∧ rcIs u (rc % 65536) ∧
      posts u (r.len % 32)) ∧
    (opUnknown op = true → ∃ u, Completes (.mbxBadOpcode p) s u ∧ rcIs u 0x100 ∧ mbxOutFull u p = false)

/-- Sources request, claims take the top source in service, ends of interrupt close it, keeper faults reset the pair, watchdogs run (R332, R334, R335, R336, R338, R341, R373). -/
def Obligations.KeeperInterruptsAndFaultsComplete : Prop :=
  ∀ (s : State) (k : Fin 3),
    (∀ id : Nat, Running s → asserted s id = true → requested s k = true → ∃ u, Completes (.irqSourceAssert id) s u ∧
      u.kic.k[k].seen = true ∧ u.regs = s.regs) ∧
    (∀ id : Nat, Running s → asserted s id = false → Completes (.irqSourceAssert id) s s) ∧
    (∀ id : Nat, let o := keeperOrigin k
      let a := R.KIC_CLAIM k
      ReadOk o a s = true → topRouted s k = some id → CompletesRead (.irqClaim k) o a (word id).toNat s ∧
        (readAs o a 4 s).kic.k[k].svc = s.kic.k[k].svc ++ [id] ∧
        (thrMode s k = false → (readAs o a 4 s).kic.k[k].stack = (srcPrio s id, id) :: s.kic.k[k].stack)) ∧
    (∀ id : Nat, let o := keeperOrigin k
      let a := R.KIC_EOI k
      let w := word (id % 1024)
      WriteOk o a w s = true → CompletesWrite (.irqEoi k id) o a w s ∧
        (thrMode s k = false →
          (∀ pr t, s.kic.k[k].stack = (pr, id % 1024) :: t → (accepted o a w s).kic.k[k].stack = t) ∧
          (∀ pr j t, s.kic.k[k].stack = (pr, j) :: t → j ≠ id % 1024 → (accepted o a w s).kic.k[k].stack = s.kic.k[k].stack ∧
            bitOf ((accepted o a w s).fld R.KIC_STATUS F.KIC_STATUS_EOI_ERR) k.val = true))) ∧
    (∀ v : Word, let o := keeperOrigin k
      let a := R.KIC_MODE k
      WriteOk o a v s = true → CompletesWrite (.kicModeWrite k v) o a v s ∧
        (accepted o a v s).fld a F.KIC_MODE_MODE = F.KIC_MODE_MODE.get v ∧
        (accepted o a v s).fld a F.KIC_MODE_THRESH = F.KIC_MODE_THRESH.get v) ∧
    (∀ c : KeeperCause, Running s → pairPowered s k = true → s.boot.upd.keeper ≠ some k.val →
      ∃ u, Completes (.keeperFault k c) s u ∧ u.kic.k[k].down = true ∧ u.kic.k[k].stack = [] ∧
        u.fld R.KIC_KSTATUS F.KIC_KSTATUS_FAULTS = min 255 (s.fld R.KIC_KSTATUS F.KIC_KSTATUS_FAULTS + 1) ∧
        bitOf (u.fld R.KIC_KSTATUS F.KIC_KSTATUS_RESTARTED) k.val = true) ∧
    (∀ c : KeeperCause, Running s → pairPowered s k = false → s.boot.upd.keeper = none → Completes (.keeperFault k c) s s) ∧
    (let o := keeperOrigin k
     let a := R.SAF_WD_KICK
     let w := word (2 ^ k.val)
     WriteOk o a w s = true → CompletesWrite (.watchdogKick k) o a w s ∧
      (pairServes s k = true → s.kic.k[k].kicked = false →
        (accepted o a w s).kic.k[k].kicked = true ∧ (accepted o a w s).kic.k[k].kickAt = s.now)) ∧
    (Running s → pairServes s k = true → s.boot.upd.keeper ≠ some k.val → ∃ u, Completes (.watchdogExpiry k) s u ∧
      u.kic.k[k].down = true ∧ u.fld R.KIC_KSTATUS F.KIC_KSTATUS_FAULTS = min 255 (s.fld R.KIC_KSTATUS F.KIC_KSTATUS_FAULTS + 1)) ∧
    (Running s → pairServes s k = false → Completes (.watchdogExpiry k) s s)

/-- DP_IDLE, tolerances, sleep entries with their delays, refusals and commit, wake events, exits, levels and AVS acknowledgements act by the rules (R343, R344, R347, R348, R349, R350, R351, R353, R354). -/
def Obligations.SleepStatesComplete : Prop :=
  (∀ (s : State) (low : Bool), Completes (.wakeEvent (.wakeN low)) s { s with pwr := { s.pwr with wakeN := !low } }) ∧
  ∀ s : State, Running s → let st := R.PWR_STATUS
    (∀ o : Origin, let a := R.PWR_DP_IDLE
      (let w := F.PWR_DP_IDLE_DECLARE.put (keepWord s a) 1
       WriteOk o a w s = true → CompletesWrite (.dpIdleDeclare o) o a w s ∧
        (accepted o a w s).flag st F.PWR_STATUS_DP_IDLE = true ∧ (accepted o a w s).pwr = s.pwr) ∧
      (let w := F.PWR_DP_IDLE_CANCEL.put (keepWord s a) 1
       WriteOk o a w s = true → CompletesWrite (.dpIdleCancel o) o a w s ∧
        (accepted o a w s).flag st F.PWR_STATUS_DP_IDLE = false ∧
        (s.pwr.commit = false → (accepted o a w s).pwr.entry = none))) ∧
    (∀ (o : Origin) (p : Fin 3) (v : Word), let a := R.PWR_LTR p
      WriteOk o a v s = true → CompletesWrite (.ltrWrite o p v) o a v s ∧ (accepted o a v s).reg a = v) ∧
    (entryAllowed s = true → s.sec.driven = false →
      (∀ r b : Nat, firstRefusal s (sleepTarget s) = some (r, b) → ∃ u, Completes (.sleepEntryStart []) s u ∧
        u.flag st F.PWR_STATUS_REFUSED = true ∧ u.fld st F.PWR_STATUS_REASON = r % 16 ∧ u.fld st F.PWR_STATUS_BLOCK = b % 32 ∧
        u.flag st F.PWR_STATUS_HOLDOFF = true ∧ u.pwr.entry = none) ∧
      (firstRefusal s (sleepTarget s) = none → ∃ u, Completes (.sleepEntryStart []) s u ∧ u.flag st F.PWR_STATUS_ENTERING = true ∧
        u.pwr.entry = some { target := sleepTarget s, delays := delaying s (sleepTarget s) }) ∧
      (∀ p : Fin 3, bitOf (s.reg R.PWR_WAKE_EN).toNat (3 + p) = true → ∃ u, Completes (.sleepEntryStart [.doorbell p]) s u ∧
        u.pwr.entry = none ∧ u.flag st F.PWR_STATUS_ENTERING = false ∧ u.flag st F.PWR_STATUS_DP_IDLE = false ∧
        u.flag st F.PWR_STATUS_WAKE_EV = true ∧
        u.flag st F.PWR_STATUS_HOLDOFF = (firstRefusal s (sleepTarget s)).isSome)) ∧
    (entryAllowed s = true → s.sec.driven = true → ∃ u, Completes (.sleepEntryStart []) s u ∧ u.sec.driven = false ∧
      (u.flag st F.PWR_STATUS_ENTERING = true ∨ u.flag st F.PWR_STATUS_REFUSED = true)) ∧
    (entryAllowed s = false → Completes (.sleepEntryStart []) s s) ∧
    (∀ (b k : Nat) (e : Entry), s.pwr.entry = some e → e.delays.lookup b = some k →
      (blockAnswer s e.target b = .accept → Completes (.sleepDelayRetry b []) s
        { s with pwr := { s.pwr with entry := some { e with delays := e.delays.filter fun x => x.1 != b } } }) ∧
      (∀ r : Nat, blockAnswer s e.target b = .delay r → 4 ≤ k → ∃ u, Completes (.sleepDelayRetry b []) s u ∧ u.pwr.entry = none ∧
        u.flag st F.PWR_STATUS_REFUSED = true ∧ u.fld st F.PWR_STATUS_REASON = r % 16 ∧ u.fld st F.PWR_STATUS_BLOCK = b % 32)) ∧
    (∀ (b : Nat) (l : List HostWrite) (pps : Bool), s.pwr.entry = none →
      Completes (.sleepDelayRetry b []) s s ∧ Completes (.sleepPrepareDone l pps) s s) ∧
    (∀ e : Entry, s.pwr.entry = some e → e.delays = [] → ∃ u, Completes (.sleepPrepareDone [] false) s u ∧
      u.fld st F.PWR_STATUS_STATE = e.target % 8 ∧ u.flag st F.PWR_STATUS_ENTRY_DONE = true ∧ u.pwr.entry = none) ∧
    (pwrFlag s F.PWR_STATUS_HOLDOFF = true → pwrFlag s F.PWR_STATUS_DP_IDLE = false →
      Completes (.sleepHoldoffExpiry []) s (s.setFld st F.PWR_STATUS_HOLDOFF 0)) ∧
    (pwrFlag s F.PWR_STATUS_HOLDOFF = false → ∀ l, Completes (.sleepHoldoffExpiry l) s s) ∧
    (∀ p : Fin 3, bitOf (s.reg R.PWR_WAKE_EN).toNat (3 + p) = true → pwrState s ≠ 0 → s.pwr.entry = none → s.pwr.exiting = false →
      ∃ u, Completes (.wakeEvent (.doorbell p)) s u ∧ u.pwr.exiting = true ∧ u.flag st F.PWR_STATUS_WAKE_EV = true ∧
        u.flag st F.PWR_STATUS_DP_IDLE = false) ∧
    (∀ cal : Vector CalResult 8, s.sec.waits = none →
      (s.pwr.exiting = false → Completes (.sleepExitDone cal) s s) ∧
      (s.pwr.exiting = true → ¬(3 ≤ pwrState s ∧ avsPend s = true ∧ s.pwr.raise = true) → ∃ u, Completes (.sleepExitDone cal) s u ∧
        pwrState u = 0 ∧ u.pwr.exiting = false)) ∧
    (handshake s = false → ∃ u, Completes .perfLevelChange s u ∧ u.fld R.PWR_LEVEL F.PWR_LEVEL_KEEP = 2 ∧
      u.fld R.PWR_LEVEL F.PWR_LEVEL_FEC = fecNeed s % 4 ∧ u.fld R.PWR_LEVEL F.PWR_LEVEL_HOST = hostNeed s % 4 ∧
      u.fld R.PWR_LEVEL F.PWR_LEVEL_CIS = cisNeed s % 4) ∧
    (∀ (o : Origin) (v : Word), let a := R.PWR_AVS_ACK
      avsPend s = true → s.pwr.raise = true → s.pwr.held = none →
      s.fld R.PWR_AVS_REQ F.PWR_AVS_REQ_REQ_MV ≤ F.PWR_AVS_ACK_ACK_MV.get v → WriteOk o a v s = true →
      CompletesWrite (.avsAck o v) o a v s ∧ (accepted o a v s).fld R.PWR_LEVEL F.PWR_LEVEL_VDD_LEVEL = s.pwr.reqLevel % 4) ∧
    (avsPend s = true → s.pwr.raise = true → ∃ u, Completes .avsTimeout s u ∧
      u.flag R.PWR_AVS_STATUS F.PWR_AVS_STATUS_AVS_TO = true ∧ u.pwr = s.pwr) ∧
    (avsPend s = false → Completes .avsTimeout s s)

/-- Parity errors, PPS readbacks, safety-monitor requests, path tests and scans count, trip their enabled goals and are released as R361 to R369 say (R361, R363, R364, R365, R366, R367, R368, R369). -/
def Obligations.SafetyGoalsComplete : Prop :=
  ∀ s : State, Running s → let fs := R.CHIP_FAULT_STATUS
    (∀ (p : Fin 8) (d : Fin 2), let cnt := R.SAF_SG1_CNT
      let f := if d = 0 then F.SAF_SG1_CNT_SG1_TX else F.SAF_SG1_CNT_SG1_RX
      (portExists s p = false → Completes (.sg1ParityError p d) s s) ∧
      (portExists s p = true → ∃ u, Completes (.sg1ParityError p d) s u ∧ u.fld cnt f = min 4095 (s.fld cnt f + 1) ∧
        u.flag R.SAF_SG_STATUS F.SAF_SG_STATUS_SG1_EV = true ∧
        (sg1Persist s ≤ (recent s.now cycMs s.saf.sg1[monIdx p d]).length + 1 → sgEnabled s 1 = true → sg1Safe s p d = false →
          sg1Safe u p d = true ∧ sgTripped u 1 = true))) ∧
    (∀ o : Origin, let a := R.SAF_SG_REL
      (let w := F.SAF_SG_REL_REL1.put (keepWord s a) 1
       WriteOk o a w s = true → CompletesWrite (.sg1Release o) o a w s ∧
        (let quiet := ∀ (p : Fin 8) (d : Fin 2), sg1Safe s p d = true → recent s.now cycMs s.saf.sg1[monIdx p d] = []
         (quiet → sgTripped (accepted o a w s) 1 = false ∧
           (sgTripped s 1 = true → (accepted o a w s).reg R.SAF_SG1_SAFE = 0)) ∧
         (¬quiet → sgTripped (accepted o a w s) 1 = sgTripped s 1 ∧ (accepted o a w s).reg R.SAF_SG1_SAFE = s.reg R.SAF_SG1_SAFE))) ∧
      (let w := F.SAF_SG_REL_REL3.put (keepWord s a) 1
       WriteOk o a w s = true → CompletesWrite (.sg3Release o) o a w s ∧
        (smRequest s = false → s.flag R.SAF_SG3_STATUS F.SAF_SG3_STATUS_TEST_OK = true →
          sgTripped (accepted o a w s) 3 = false ∧
          (sgTripped s 3 = true → (accepted o a w s).flag R.SAF_SG3_STATUS F.SAF_SG3_STATUS_PATH_FAIL = false)) ∧
        (smRequest s = true ∨ s.flag R.SAF_SG3_STATUS F.SAF_SG3_STATUS_TEST_OK = false →
          sgTripped (accepted o a w s) 3 = sgTripped s 3)) ∧
      (let w := F.SAF_SG_REL_REL4.put (keepWord s a) 1
       WriteOk o a w s = true → CompletesWrite (.sg4Release o) o a w s ∧
        (s.saf.clean = true → sgTripped (accepted o a w s) 4 = false) ∧
        (s.saf.clean = false → sgTripped (accepted o a w s) 4 = sgTripped s 4))) ∧
    (∀ err : Int, ∃ u, Completes (.ppsReadback err) s u ∧
      u.fld R.SAF_SG2_STATUS F.SAF_SG2_STATUS_PPS_ERR = unsigned 16 (clampInt (-32768) 32767 err) ∧
      (s.fld R.SAF_SG2_CFG F.SAF_SG2_CFG_SG2_LIMIT < err.natAbs → sgEnabled s 2 = true →
        sgTripped u 2 = true ∧ u.fld R.SAF_SG2_STATUS F.SAF_SG2_STATUS_CAUSE = 1) ∧
      (err.natAbs ≤ s.fld R.SAF_SG2_CFG F.SAF_SG2_CFG_SG2_LIMIT →
        let good := s.flag R.TOD_STATUS F.TOD_STATUS_NO_MAJORITY = false ∧ timingClockBad s = false ∧ 1 ≤ s.tod.readGood
        (good → sgTripped u 2 = false) ∧ (¬good → sgTripped u 2 = sgTripped s 2))) ∧
    (∀ (o : Origin) (v : Word), let a := R.SAF_SG3_CTRL
      WriteOk o a v s = true → CompletesWrite (.sg3Request o v) o a v s ∧
        (F.SAF_SG3_CTRL_REQ.get v = 1 → s.flag a F.SAF_SG3_CTRL_REQ = false → (∀ n : Fin 8, lenOut (accepted o a v s) n = false) ∧
          (sgEnabled s 3 = true → sgTripped (accepted o a v s) 3 = true))) ∧
    (let a := R.SAF_SG3_STATUS
     ∃ u, Completes (.lenPathTest true) s u ∧ u.flag a F.SAF_SG3_STATUS_TEST_OK = true ∧ u.saf.chanB = !s.saf.chanB ∧
      u.fld a F.SAF_SG3_STATUS_TESTS = (s.fld a F.SAF_SG3_STATUS_TESTS + 1) % 65536) ∧
    (let a := R.SAF_SG3_STATUS
     ∃ u, Completes (.lenPathTest false) s u ∧ u.flag a F.SAF_SG3_STATUS_TEST_OK = false ∧
      u.flag a F.SAF_SG3_STATUS_PATH_FAIL = true ∧
      u.fld a F.SAF_SG3_STATUS_TEST_FAILS = min 255 (s.fld a F.SAF_SG3_STATUS_TEST_FAILS + 1) ∧
      (sgEnabled s 3 = true → sgTripped u 3 = true)) ∧
    (∃ u, Completes .lenReadbackMismatch s u ∧ u.flag R.SAF_SG3_STATUS F.SAF_SG3_STATUS_PATH_FAIL = true ∧
      (sgEnabled s 3 = true → sgTripped u 3 = true ∧ ∀ n : Fin 8, lenOut u n = false)) ∧
    (∀ l : List ScanFind, ∃ u, Completes (.sg4Scan l) s u ∧
      u.saf.clean = l.all (fun f => (protectedRegs.lookup f.addr).isNone) ∧
      u.fld R.SAF_SG4_STATUS F.SAF_SG4_STATUS_SCANS = (s.fld R.SAF_SG4_STATUS F.SAF_SG4_STATUS_SCANS + 1) % 65536) ∧
    (∀ a : Nat, (protectedRegs.lookup a).isSome = true →
      (∀ f : CopyFault, f = .differs ∨ f = .regFails → ∃ u, Completes (.sg4Scan [{ addr := a, fault := f }]) s u ∧
        u.flag R.SAF_SG_STATUS F.SAF_SG_STATUS_SG4_RESTORE = true ∧ u.fld R.SAF_SG4_ADDR F.SAF_SG4_ADDR_ADDR = a ∧ u.reg a = s.reg a) ∧
      (∃ u, Completes (.sg4Scan [{ addr := a, fault := .protFails }]) s u ∧ u.reg a = s.reg a) ∧
      (∃ u, Completes (.sg4Scan [{ addr := a, fault := .bothFail }]) s u ∧
        u.reg a = (if a = R.FEC_PROFILE then (s.reg a &&& 0xFFFFFF00) ||| (resetWord a &&& 0xFF) else resetWord a) ∧
        (sgEnabled s 4 = true → sgTripped u 4 = true)))

/-- Clock and supply faults, memory repairs, the fuse-repair burn and the journal's entries and mirror copies happen as their rules say (R267, R370, R375, R376, R377, R378). -/
def Obligations.MonitorsRepairAndJournalComplete : Prop :=
  ∀ s : State, Running s →
    (∀ i : Fin 13, ∃ u, Completes (.clockMonitorFault i) s u ∧ u.flag R.SAF_MON_STATUS F.SAF_MON_STATUS_CLK_FAULT = true ∧
      u.fld R.SAF_MON_STATUS F.SAF_MON_STATUS_CLK_ISLAND = i.val ∧ bitOf u.saf.clkBad i = true ∧
      (∀ n : Fin 8, i.val = n.val → reacting s .line = false → s.well[n].restarting = false → u.well[n].restarting = true) ∧
      (∀ r : Region, (i.val, r) ∈ [(8, Region.host), (9, Region.line), (10, Region.cistern), (11, Region.keep), (12, Region.timing)] →
        u.flag (R.CHIP_RERR r.idx) F.CHIP_RERR_PEND = true ∧ u.fld (R.CHIP_RERR r.idx) F.CHIP_RERR_CAUSE = 4) ∧
      (i.val = 12 → sgEnabled s 2 = true → sgTripped u 2 = true ∧ u.fld R.SAF_SG2_STATUS F.SAF_SG2_STATUS_CAUSE = 3)) ∧
    (∀ r : Fin 8, ∃ u, Completes (.supplyOutOfWindow r) s u ∧ u.flag R.SAF_MON_STATUS F.SAF_MON_STATUS_VOLT_FAULT = true ∧
      u.fld R.SAF_MON_STATUS F.SAF_MON_STATUS_VOLT_RAIL = r.val ∧ bitOf u.rails r = true ∧ (∀ n : Fin 8, lenOut u n = false)) ∧
    (∀ lost : Option AonLoss,
      (s.rails = 0 ∨ (bitOf s.rails 1 = false ∧ s.saf.supplyHold = true) → Completes (.supplyRestart lost) s s) ∧
      (bitOf s.rails 1 = true → ∃ u, Completes (.supplyRestart lost) s u ∧ bootPhase u = 0 ∧ (∀ n : Fin 8, lenOut u n = false)) ∧
      (s.rails ≠ 0 → bitOf s.rails 1 = false → s.saf.supplyHold = false → ∃ u, Completes (.supplyRestart lost) s u ∧
        u.saf.supplyHold = true ∧ (∀ n : Fin 8, lenOut u n = false))) ∧
    (s.saf.supplyHold = false ∨ s.rails ≠ 0 → Completes .supplyRestartRecover s s) ∧
    (s.saf.supplyHold = true → s.rails = 0 → ∃ u, Completes .supplyRestartRecover s u ∧ u.saf.supplyHold = false ∧ bootPhase u = 0) ∧
    (∀ inst row : Nat, let used := (s.saf.rows.filter fun x => x.1 == inst).length
      (Completes (.memoryPatrol inst row .clean) s s ∧ Completes (.memoryPatrol inst row .corrected) s s) ∧
      (∀ f : PatrolFind, f = .recurs ∨ f = .uncorrectable →
       (4 ≤ used → Completes (.memoryPatrol inst row f) s s) ∧
       (used < 4 → ∃ u, Completes (.memoryPatrol inst row f) s u ∧ u.saf.rows = (inst, row) :: s.saf.rows ∧
        (used = 3 → u.flag R.SAF_REPAIR_STATUS F.SAF_REPAIR_STATUS_SPARE_OUT = true) ∧
        u.flag R.SAF_REPAIR_STATUS F.SAF_REPAIR_STATUS_REPAIR_EV = true ∧
        u.fld R.SAF_REPAIR_STATUS F.SAF_REPAIR_STATUS_SOFT_REPAIRS =
          min 255 (s.fld R.SAF_REPAIR_STATUS F.SAF_REPAIR_STATUS_SOFT_REPAIRS + 1)))) ∧
    (∀ o : Origin, let a := R.SAF_FREP_CMD
      let w := F.SAF_FREP_CMD_GO.put (keepWord s a) 1
      WriteOk o a w s = true → CompletesWrite (.fuseRepairBurn o) o a w s ∧ (accepted o a w s).flag a F.SAF_FREP_CMD_BUSY = true) ∧
    (let a := R.SAF_FREP_CMD
     (s.flag a F.SAF_FREP_CMD_BUSY = false → Completes .fuseRepairBurnDone s s) ∧
     (s.flag a F.SAF_FREP_CMD_BUSY = true → ∃ u, Completes .fuseRepairBurnDone s u ∧ u.flag a F.SAF_FREP_CMD_BUSY = false ∧
      u.fuse.repairs = s.fuse.repairs ++ (frepRecords s).take (frepSpace s) ∧
      u.fld a F.SAF_FREP_CMD_NOT_BURNT = ((frepRecords s).length - frepSpace s) % 2 ^ F.SAF_FREP_CMD_NOT_BURNT.w ∧
      ((frepRecords s).length ≤ frepSpace s → u.flag a F.SAF_FREP_CMD_DONE = true) ∧
      (frepSpace s < (frepRecords s).length → u.flag a F.SAF_FREP_CMD_ERR = true))) ∧
    (s.jq = [] ∨ s.flag R.SAF_JNL_STATUS F.SAF_JNL_STATUS_ZERO_BUSY = true → Completes .journalEntryWrite s s) ∧
    (∀ (e : JEntry) (q : List JEntry), s.jq = e :: q → s.flag R.SAF_JNL_STATUS F.SAF_JNL_STATUS_ZERO_BUSY = false →
      ∃ u, Completes .journalEntryWrite s u ∧ u.bytesNat (jnlAddr (jnlNext s)) 16 = jnlBytes e % 2 ^ 128 ∧ u.jq = q ∧
        jnlNext u = (jnlNext s + 1) % 2 ^ 32 ∧
        (∀ x, x < jnlAddr (jnlNext s) ∨ jnlAddr (jnlNext s) + 16 ≤ x → u.byte x = s.byte x)) ∧
    (mirrorOpen s = false ∨ jnlNext s ≤ s.saf.mirror → Completes .journalMirrorWrite s s) ∧
    (mirrorOpen s = true → s.saf.mirror < jnlNext s →
      (jnlOldest s ≤ s.saf.mirror → ∃ u, Completes .journalMirrorWrite s u ∧ u.saf.mirror = s.saf.mirror + 1 ∧
        u.bytesNat (mirrorAddr s.saf.mirror) 16 = s.bytesNat (jnlAddr s.saf.mirror) 16 ∧
        (∀ x, x < mirrorAddr s.saf.mirror ∨ mirrorAddr s.saf.mirror + 16 ≤ x → u.byte x = s.byte x)) ∧
      (s.saf.mirror < jnlOldest s → ∃ u, Completes .journalMirrorWrite s u ∧ u.saf.mirror = jnlOldest s ∧
        u.flag R.SAF_JNL_STATUS F.SAF_JNL_STATUS_GAP_EV = true ∧
        u.bytesNat (mirrorAddr s.saf.mirror) 16 = jnlBytes (s.jEntry 0x35 0xFFFF (jnlOldest s - s.saf.mirror)) % 2 ^ 128 ∧
        (∀ x, x < mirrorAddr s.saf.mirror ∨ mirrorAddr s.saf.mirror + 16 ≤ x → u.byte x = s.byte x)))

/-- Temperature samples set the sensors and act the vent from 125 °C, the effort rises by 10 points, and the monitor ADC publishes and calibrates (R384, R388, R389, R390, R391, R392, R393, R395). -/
def Obligations.ThermalAndMonitorAdcComplete : Prop :=
  ∀ s : State, Running s → let st := R.MON_STATUS
    Completes .thermalSampleStart s { s with thm := { s.thm with converting := true } } ∧
    (∀ rd : Vector (Option Int) 36,
      (s.thm.converting = false → Completes (.thermalSampleDone rd) s s) ∧
      (s.thm.converting = true → ∃ u, Completes (.thermalSampleDone rd) s u ∧ u.thm.converting = false ∧
        (∀ k : Fin 36, u.flag (R.THM_SENS k) F.THM_SENS_VALID = readingOk rd[k] ∧
          u.flag (R.THM_SENS k) F.THM_SENS_FAULT = !readingOk rd[k]) ∧
        (∀ (k : Fin 36) (t : Int), rd[k] = some t → 500 ≤ t → t ≤ 600 → s.vent = false → u.vent = true ∧
          u.flag R.THM_STATUS F.THM_STATUS_VENTED = true ∧ ∀ n : Fin 8, lenOut u n = false))) ∧
    (let follow' := if s.thm.follow < s.thm.computed then min s.thm.computed (s.thm.follow + 10) else s.thm.follow
     ∃ u, Completes .effortRiseStep s u ∧ u.thm.follow = follow' ∧
      u.fld R.THM_STATUS F.THM_STATUS_EFFORT = min (s.fld R.THM_CFG F.THM_CFG_EFFORT_MAN) follow') ∧
    (s.vent = false ∨ s.thm.coolSince = none → Completes .ventCooldownExpiry s s) ∧
    (s.vent = true → s.thm.coolSince.isSome = true → ∃ u, Completes .ventCooldownExpiry s u ∧ u.vent = false ∧ bootPhase u = 0) ∧
    (∀ (c : Fin 32) (l : List MonSample), let a := R.MON_RES c
      (s.flag st F.MON_STATUS_CAL_BUSY = true → Completes (.monChannelResult c l) s s) ∧
      (s.flag st F.MON_STATUS_CAL_BUSY = false → s.mon.scanning = true → monNext s.mon.mask s.mon.next = some c.val →
        l.length = 2 ^ monAvg s c → ∃ u, Completes (.monChannelResult c l) s u ∧ u.flag a F.MON_RES_VALID = true ∧
          u.flag a F.MON_RES_OVR = l.any (·.overs) ∧ u.fld a F.MON_RES_SEQ = s.fld st F.MON_STATUS_SCANS ∧
          (s.mon.cal = 0x80000 → let sum := (l.map fun m => m.code % 4096).foldl (· + ·) 0
            (sum / 2 ^ monShift s c < 1048576 → u.fld a F.MON_RES_VALUE = sum / 2 ^ monShift s c) ∧
            u.flag a F.MON_RES_OVER = (l.any (·.overs) || decide (F.MON_CH_LIMIT.get (monCh s c) < sum / 2 ^ monAvg s c))))) ∧
    (∀ o : Origin, let a := R.MON_CTRL
      let w := F.MON_CTRL_CAL.put (keepWord s a) 1
      WriteOk o a w s = true → CompletesWrite (.monCalStart o) o a w s ∧ (accepted o a w s).flag st F.MON_STATUS_CAL_BUSY = true) ∧
    (s.flag st F.MON_STATUS_CAL_BUSY = false → Completes .monCalTimeout s s ∧ ∀ r : MonCalRes, Completes (.monCalDone r) s s) ∧
    (s.flag st F.MON_STATUS_CAL_BUSY = true →
      (∃ u, Completes .monCalTimeout s u ∧ u.flag st F.MON_STATUS_CAL_BUSY = false ∧ u.flag st F.MON_STATUS_CAL_DONE = true ∧
        u.flag st F.MON_STATUS_CAL_BAD = true ∧ u.reg R.MON_CAL = s.reg R.MON_CAL ∧ u.reg R.MON_CAL_LP = s.reg R.MON_CAL_LP) ∧
      (∀ r : MonCalRes, ∃ u, Completes (.monCalDone r) s u ∧ u.flag st F.MON_STATUS_CAL_BUSY = false ∧
        u.flag st F.MON_STATUS_CAL_DONE = true ∧
        (50 < r.ofsRes ∨ 20 < r.gainRes → u.flag st F.MON_STATUS_CAL_BAD = true ∧ u.reg R.MON_CAL = s.reg R.MON_CAL) ∧
        (r.ofsRes ≤ 50 → r.gainRes ≤ 20 → u.fld R.MON_CAL F.MON_CAL_OFS = unsigned 8 r.ofs ∧
          u.fld R.MON_CAL F.MON_CAL_GAIN = r.gain % 4096)))

/-- Lifecycle transitions are refused with their code or burn to BURN_PENDING; debug levels open, close and wake; Port J reaches what its level allows (R402, R405, R406, R407, R408). -/
def Obligations.LifecycleAndDebugComplete : Prop :=
  (∀ s : State, ∃ u, Completes .trstAssert s u ∧ u.sec.instr = .idcode ∧ u.sec.driven = false ∧
    u.sec.want = none ∧ u.sec.waits = none ∧
    (if s.sec.want.isSome || s.sec.waits.isSome then debugLevel u = debugLevel s
     else debugLevel u = 0 ∧ (∀ k : Fin 3, u.kic.k[k].halted = false))) ∧
  ∀ s : State, Running s → let c := R.SEC_LC_CMD
    let d := R.SEC_DBG_STATUS
    (∀ (o : Origin) (v : Word), let w := withBit F.SEC_LC_CMD_GO v
      let t := F.SEC_LC_CMD_TARGET.get v
      let err := if F.SEC_LC_CMD_KEY.get v ≠ 0x4C43 then 2
        else if s.flag R.SEC_LC_STATUS F.SEC_LC_STATUS_LC_NOMAJ || s.flag R.SEC_LC_STATUS F.SEC_LC_STATUS_LC_INVALID then 4
        else if lcAllowed (lifecycle s) t = false then 1
        else if lifecycle s = 0 ∧ keyBlank s then 3 else 0
      WriteOk o c w s = true → CompletesWrite (.lifecycleTransition o v) o c w s ∧
        (err ≠ 0 → (accepted o c w s).flag c F.SEC_LC_CMD_LC_ERR = true ∧ (accepted o c w s).fld c F.SEC_LC_CMD_ERR_CODE = err) ∧
        (err = 0 → (accepted o c w s).flag c F.SEC_LC_CMD_BUSY = true ∧ (accepted o c w s).sec.lcTarget = t)) ∧
    (∀ bad : Option (Fin 3), s.flag c F.SEC_LC_CMD_BUSY = false → Completes (.lifecycleBurnDone bad) s s) ∧
    (s.flag c F.SEC_LC_CMD_BUSY = true →
      (∃ u, Completes (.lifecycleBurnDone none) s u ∧ u.flag c F.SEC_LC_CMD_LC_DONE = true ∧ u.flag c F.SEC_LC_CMD_BUSY = false ∧
        u.flag R.SEC_LC_STATUS F.SEC_LC_STATUS_BURN_PENDING = true ∧
        u.fld R.SEC_LC_STATUS F.SEC_LC_STATUS_NEXT = s.sec.lcTarget % 4 ∧
        ∀ i : Fin 3, u.fuse.lc[i] = Nat.lor s.fuse.lc[i] (lcFuse s.sec.lcTarget)) ∧
      (∀ i : Fin 3, ∃ u, Completes (.lifecycleBurnDone (some i)) s u ∧ u.flag c F.SEC_LC_CMD_LC_ERR = true ∧
        u.fld c F.SEC_LC_CMD_ERR_CODE = 5 ∧ u.flag c F.SEC_LC_CMD_BUSY = false)) ∧
    (∀ (o : Origin) (l : Fin 4), let a := R.SEC_DBG_CTRL
      let w := withBit F.SEC_DBG_CTRL_OPEN (F.SEC_DBG_CTRL_LEVEL.put (keepWord s a) l.val)
      WriteOk o a w s = true → CompletesWrite (.debugOpen o l) o a w s ∧
        (l.val ≤ debugLevel s → debugLevel (accepted o a w s) = debugLevel s) ∧
        (debugLevel s < l.val → deepSleep s = false → (accepted o a w s).flag d F.SEC_DBG_STATUS_OPEN_BUSY = true ∧
          (accepted o a w s).sec.want = some (l.val, 1)) ∧
        (debugLevel s < l.val → deepSleep s = true → (accepted o a w s).sec.waits = some 1 ∧
          (accepted o a w s).pwr.exiting = true)) ∧
    (∀ l : Fin 4, let code := openCode s l 2
      (code ≠ .ok → Completes (.jtagDbgReq l) s (respond .portJ [{ code := code }] s)) ∧
      (code = .ok → l.val ≤ debugLevel s → Completes (.jtagDbgReq l) s (respond .portJ [{ code := code }] s)) ∧
      (code = .ok → debugLevel s < l.val → deepSleep s = true → ∃ u, Completes (.jtagDbgReq l) s u ∧
        u.resp[(6 : Fin 7)] = [{ code := .ok }] ∧ u.sec.waits = some 2 ∧ u.pwr.exiting = true) ∧
      (code = .ok → debugLevel s < l.val → deepSleep s = false → ∃ u, Completes (.jtagDbgReq l) s u ∧
        u.resp[(6 : Fin 7)] = [{ code := .ok }] ∧ u.sec.want = some (l.val, 2) ∧ u.flag d F.SEC_DBG_STATUS_OPEN_BUSY = true)) ∧
    (s.sec.want = none → Completes .debugOpenDone s s) ∧
    (∀ l who : Nat, s.sec.want = some (l, who) → ∃ u, Completes .debugOpenDone s u ∧ u.sec.want = none ∧ debugLevel u = l % 4 ∧
      u.fld d F.SEC_DBG_STATUS_OPENED_BY = who % 4 ∧ u.flag d F.SEC_DBG_STATUS_OPEN_BUSY = false ∧
      u.flag d F.SEC_DBG_STATUS_DBG_EV = true ∧ u.fld d F.SEC_DBG_STATUS_OPENS = min 255 (s.fld d F.SEC_DBG_STATUS_OPENS + 1)) ∧
    (let closes (u : State) : Prop :=
       if s.sec.want.isSome || s.sec.waits.isSome then u.sec.want = none ∧ u.sec.waits = none ∧ debugLevel u = debugLevel s ∧
        u.flag d F.SEC_DBG_STATUS_OPEN_BUSY = false
       else debugLevel u = 0 ∧ u.fld d F.SEC_DBG_STATUS_OPENED_BY = 0 ∧ (∀ k : Fin 3, u.kic.k[k].halted = false)
     (∃ u, Completes .jtagDbgClose s u ∧ closes u) ∧
     (∀ o : Origin, let a := R.SEC_DBG_CTRL
      let w := F.SEC_DBG_CTRL_CLOSE.put (keepWord s a) 1
      WriteOk o a w s = true → CompletesWrite (.debugClose o) o a w s ∧ closes (accepted o a w s))) ∧
    (∀ (a : Nat) (w : Option Word), Completes (.jtagDebugAccess a w) s
      (match w with
       | some w => writeAs .portJ a 4 w s
       | none => readAs .portJ a 4 s) ∧
      (fabricTurn .portJ s).port.qS = []) ∧
    (∀ a : Nat, wordsWait s = false →
      (∀ w : Word, WriteOk .portJ a w s = true → CompletesWrite (.jtagDebugAccess a (some w)) .portJ a w s) ∧
      (let x := busRead .portJ a 4 s
       Completes (.jtagDebugAccess a none) s (answer s .portJ { code := x.1, data := x.2.1 } x.2.2)) ∧
      (debugLevel s = 0 → ∀ w : Option Word, ∃ u, Completes (.jtagDebugAccess a w) s u ∧
        ∃ r, u.resp[(6 : Fin 7)] = [r] ∧ (bootPhase s = 5 → r.code = .width ∨ r.code = .denied)))

/-- Instructions that drive balls run where R411 allows and are BYPASS with JTAG_REFUSED elsewhere; the others return the balls to their functions (R410, R411). -/
def Obligations.BoundaryScanComplete : Prop :=
  ∀ s : State, Running s → let d := R.SEC_DBG_STATUS
    let quiet (u : State) (i : JInstr) : Prop :=
      u.sec.instr = i ∧ u.sec.driven = false ∧ u.flag d F.SEC_DBG_STATUS_SCAN_ACTIVE = false ∧ u.jq = s.jq
    (∀ x ∈ ([(.jtagExtest, .extest), (.jtagClamp, .clamp), (.jtagHighz, .highz), (.jtagExtestPulse, .extestPulse),
        (.jtagExtestTrain, .extestTrain)] : List (Instr × JInstr)),
      (scanAllowed s = true → ∃ u, Completes x.1 s u ∧ u.sec.instr = x.2 ∧ u.sec.driven = true ∧
        u.flag d F.SEC_DBG_STATUS_SCAN_ACTIVE = true ∧ u.sec.cells = s.sec.cells ∧ (lifecycle s = 2 → u.jq = s.jq) ∧
        (lifecycle s ≠ 2 → s.jq.length < 32 → s.jLostPend = 0 → u.jq.length = s.jq.length + 1)) ∧
      (scanAllowed s = false → ∃ u, Completes x.1 s u ∧ u.sec.instr = .bypass ∧ u.sec.driven = false ∧
        u.flag d F.SEC_DBG_STATUS_SCAN_ACTIVE = false ∧ u.flag d F.SEC_DBG_STATUS_JTAG_REFUSED = true)) ∧
    (∃ u, Completes .jtagBypass s u ∧ quiet u .bypass) ∧
    (∃ u, Completes .jtagIdcode s u ∧ quiet u .idcode ∧ u.resp[(6 : Fin 7)] = [{ data := 0xB0816A3D }]) ∧
    (∃ u, Completes .jtagTestLogicReset s u ∧ quiet u .idcode) ∧
    (∀ l : List (Nat × Bool), ∃ u, Completes (.jtagSamplePreload l) s u ∧ quiet u .sample ∧
      (∀ x, u.sec.cells.lookup x =
        match l.lookup x with | some v => some (v && decide (8 ≤ x)) | none => s.sec.cells.lookup x))

/-- A register write sets only its own register before what follows it, keeps locked and unmasked bits, and otherwise answers the code of R307 (R10, R11, R307, R308, R310, R328). -/
def Obligations.RegisterWritesComplete : Prop :=
  ∀ (s : State) (o : Origin) (a : Nat) (w : Word), Running s →
    (WriteOk o a w s = true → CompletesWrite (.registerWrite o a 4 w) o a w s) ∧
    (∀ (k : Nat) (c : Code), inAperture a = false ∨ cisStalls s (.bus o) = false → wordsWait s = false →
      accessCode s o a k (some w) false = some c → Completes (.registerWrite o a k w) s (answer s o { code := c } (recordFor o c a s))) ∧
    (∀ k : Nat, inAperture a = true → cisStalls s (.bus o) = true → Completes (.registerWrite o a k w) s
      { s with cis := { s.cis with stalled := s.cis.stalled ++ [{ q := .bus o, a := a, k := k, w := some w.toNat }] } }) ∧
    (∀ (k : Nat), inAperture a = false ∨ cisStalls s (.bus o) = false → wordsWait s = false →
      (k ≠ 1 ∧ k ≠ 2 ∧ k ≠ 4) ∨ a % k ≠ 0 → ∃ u, Completes (.registerWrite o a k w) s u ∧
      u.resp[o.idx] = [{ code := .width }]) ∧
    (∀ r : RegSpec, accessCode s o a 4 (some w) false = none → inAperture a = false → targetRefuses s o a w = none →
      specAt a = some r →
      (wordsWait s = false → lockHit s r a w = true → ∃ u, Completes (.registerWrite o a 4 w) s u ∧ u.resp[o.idx] = [{ code := .locked }] ∧
        bitOf (u.fld R.CHIP_VIOL F.CHIP_VIOL_LOCK_VIOL) o.violBit = true ∧ u.fld R.CHIP_VIOL_ADDR F.CHIP_VIOL_ADDR_ADDR = a) ∧
      (∀ f ∈ r.flds, fldLocked (before a s) r a f = true ∨ f.ty = .ro → (stored o a w s).fld a f = (before a s).fld a f)) ∧
    (let x := before a s
     { stored o a w s with regs := x.regs, jq := x.jq, jLostPend := x.jLostPend } = x ∧
     (a ≠ R.HOST_CTRL → a ≠ R.HOST_RX_MAP → a ≠ R.HOST_TX_MAP → a ≠ R.CIS_SCRUB_CFG →
        a < 0x200000 ∨ (0x208000 ≤ a ∧ a < 0x400000) ∨ 0x800000 ≤ a → x = s) ∧
     (a ≠ R.HOST_RX_MAP → a ≠ R.HOST_TX_MAP → (∀ b, b ≠ a → (stored o a w s).reg b = x.reg b) ∧ (stored o a w s).jq = x.jq) ∧
     (∀ n, n < 16 → a ∈ [R.LINE_LEN_CTRL, R.ATL_CTRL, R.ATL_FREEZE, R.KIC_SWI] → bitOf w.toNat (n + 16) = false →
       bitOf ((stored o a w s).reg a).toNat n = bitOf (x.reg a).toNat n))

/-- Without a PERM section Port S has a read and write window and every semaphore, Port I a read window, Port F nothing (R315). -/
def Obligations.PermDefaults : Prop :=
  (∀ s : State, let u := permStep none s
    (∀ a : Nat,
      (windowed u 0 a 0 = true ↔ a ≤ 0xAFFFFFFF) ∧ (windowed u 0 a 1 = true ↔ a ≤ 0xAFFFFFFF) ∧ windowed u 0 a 2 = false ∧
      (windowed u 1 a 0 = true ↔ a ≤ 0x07FFFFFF) ∧ windowed u 1 a 1 = false ∧ windowed u 1 a 2 = false ∧
      (∀ b, windowed u 2 a b = false)) ∧
    (∀ k, k < 16 → mayClaim u .portS k = true ∧ mayClaim u .portI k = false ∧ mayClaim u .portF k = false) ∧
    mayForce u .portS = true ∧ mayForce u .portI = false ∧ mayForce u .portF = false ∧
    (∀ k : Fin 16, semHolder u k = if k.val < 6 then 2 else semHolder s k)) ∧
  (∀ (v : State) (o : Origin) (a : Nat) (w : Word) (g : Bool), o.isHost = true → inForceStaging v a = true →
    (∀ k, accessCode v o a k (some w) g ≠ none) ∧
    (v.inReset = false → bootPhase v = 5 → a % 4 = 0 → accessCode v o a 4 (some w) g = some .denied))

/-- After reset the identity and configuration registers hold the spec's values, memory is canonical and empty, and no command waits (R8, R27, R137, R196, R274, R299, R342, R366, R386, R426). -/
def Obligations.ResetLeaves : Prop :=
  let s := State.reset
  s.reg R.CHIP_ID = 0x5A4E0816 ∧ s.reg R.CHIP_REV = 0xB0 ∧ bootPhase s = 0 ∧ readyOut s = false ∧
  s.reg R.SAF_CFG = 0x0003100F ∧ s.fld R.THM_CFG F.THM_CFG_THR = 100 ∧ s.fld R.THM_CFG F.THM_CFG_EFFORT_MAN = 100 ∧
  F.THM_BAND_LO_B1.sget (s.reg R.THM_BAND_LO) = -10 ∧ s.fld R.PWR_CTRL F.PWR_CTRL_MAX_STATE = 4 ∧
  s.fld R.PWR_AVS_REQ F.PWR_AVS_REQ_REQ_MV = 750 ∧ s.fld R.PWR_LEVEL F.PWR_LEVEL_KEEP = 2 ∧ s.reg R.MON_CAL = 0x80000 ∧
  s.mem = [] ∧ Memory.wf s.mem = true ∧ s.pending = [] ∧ (∀ nbits w : Nat, decodeTableWord nbits w = none)

/-- After every step outside reset PWR_LTR_EFF is the minimum over the three ports and TARGET is the state that R348 chooses (R347, R348). -/
def Obligations.ToleranceAndTargetStayComputed : Prop :=
  ∀ s t : State, step s = .next t → t.inReset = false →
    let eff := t.fld R.PWR_LTR_EFF F.PWR_LTR_EFF_EFF
    let target := t.fld R.PWR_STATUS F.PWR_STATUS_TARGET
    (∀ p : Fin 3, eff ≤ t.fld (R.PWR_LTR p) F.PWR_LTR_TOL) ∧ (∃ p : Fin 3, eff = t.fld (R.PWR_LTR p) F.PWR_LTR_TOL) ∧
    target = sleepTarget t ∧ exitLatency target ≤ eff ∧ target ≤ t.fld R.PWR_CTRL F.PWR_CTRL_MAX_STATE
end

