-- ==== Sys2Proof/Laws/Fields.lean ====
section
/-!
SUPPORT. What a field of a word holds after a field of the word is put.
-/
namespace Sys2Proof.Machine

/-- The field lies within the word. -/
def Fld.fits (f : Fld) : Prop := f.lo + f.w ≤ 32

/-- Two fields share no bit. -/
def Fld.apart (f g : Fld) : Prop := f.lo + f.w ≤ g.lo ∨ g.lo + g.w ≤ f.lo

theorem put_toNat (f : Fld) (w : Word) (v : Nat) (h : f.fits) :
    (f.put w v).toNat = w.toNat / 2 ^ (f.lo + f.w) * 2 ^ (f.lo + f.w) + v % 2 ^ f.w * 2 ^ f.lo + w.toNat % 2 ^ f.lo := by
  have hw := w.isLt
  obtain ⟨c, hc⟩ : ∃ c, 32 = f.lo + f.w + c := ⟨32 - (f.lo + f.w), by unfold Fld.fits at h; omega⟩
  have h1 : w.toNat / 2 ^ (f.lo + f.w) < 2 ^ c := by
    rw [Nat.div_lt_iff_lt_mul (by positivity), ← pow_add]; rwa [add_comm c, ← hc]
  have h2 : v % 2 ^ f.w < 2 ^ f.w := Nat.mod_lt _ (by positivity)
  have h3 : w.toNat % 2 ^ f.lo < 2 ^ f.lo := Nat.mod_lt _ (by positivity)
  have h4 : v % 2 ^ f.w * 2 ^ f.lo + w.toNat % 2 ^ f.lo < 2 ^ (f.lo + f.w) := by
    rw [pow_add, mul_comm (2 ^ f.lo)]
    calc _ < v % 2 ^ f.w * 2 ^ f.lo + 2 ^ f.lo := by omega
      _ = (v % 2 ^ f.w + 1) * 2 ^ f.lo := by ring
      _ ≤ 2 ^ f.w * 2 ^ f.lo := Nat.mul_le_mul_right _ h2
  have h5 : w.toNat / 2 ^ (f.lo + f.w) * 2 ^ (f.lo + f.w) + v % 2 ^ f.w * 2 ^ f.lo + w.toNat % 2 ^ f.lo < 2 ^ 32 := by
    have e : (2 : Nat) ^ 32 = 2 ^ c * 2 ^ (f.lo + f.w) := by rw [← pow_add, add_comm c, ← hc]
    rw [e]
    calc _ < w.toNat / 2 ^ (f.lo + f.w) * 2 ^ (f.lo + f.w) + 2 ^ (f.lo + f.w) := by omega
      _ = (w.toNat / 2 ^ (f.lo + f.w) + 1) * 2 ^ (f.lo + f.w) := by ring
      _ ≤ 2 ^ c * 2 ^ (f.lo + f.w) := Nat.mul_le_mul_right _ h1
  simp only [Fld.put, BitVec.toNat_ofNat]
  exact Nat.mod_eq_of_lt h5

/-- The field that is put holds the value, modulo its width. -/
theorem get_put_same (f : Fld) (w : Word) (v : Nat) (h : f.fits) : f.get (f.put w v) = v % 2 ^ f.w := by
  have h3 : w.toNat % 2 ^ f.lo < 2 ^ f.lo := Nat.mod_lt _ (by positivity)
  have e : w.toNat / 2 ^ (f.lo + f.w) * 2 ^ (f.lo + f.w) + v % 2 ^ f.w * 2 ^ f.lo + w.toNat % 2 ^ f.lo
      = w.toNat % 2 ^ f.lo + 2 ^ f.lo * (v % 2 ^ f.w + 2 ^ f.w * (w.toNat / 2 ^ (f.lo + f.w))) := by rw [pow_add]; ring
  rw [Fld.get, put_toNat f w v h, e, Nat.add_mul_div_left _ _ (by positivity), Nat.div_eq_of_lt h3, zero_add,
    Nat.add_mul_mod_self_left, Nat.mod_mod]

/-- Every field apart from it stays. -/
theorem get_put_apart (f g : Fld) (w : Word) (v : Nat) (h : f.fits) (hg : f.apart g) : g.get (f.put w v) = g.get w := by
  have h3 : w.toNat % 2 ^ f.lo < 2 ^ f.lo := Nat.mod_lt _ (by positivity)
  have hl : (f.put w v).toNat % 2 ^ f.lo = w.toNat % 2 ^ f.lo := by
    have e : w.toNat / 2 ^ (f.lo + f.w) * 2 ^ (f.lo + f.w) + v % 2 ^ f.w * 2 ^ f.lo + w.toNat % 2 ^ f.lo
      = w.toNat % 2 ^ f.lo + 2 ^ f.lo * (v % 2 ^ f.w + 2 ^ f.w * (w.toNat / 2 ^ (f.lo + f.w))) := by rw [pow_add]; ring
    rw [put_toNat f w v h, e, Nat.add_mul_mod_self_left, Nat.mod_mod]
  have hh : (f.put w v).toNat / 2 ^ (f.lo + f.w) = w.toNat / 2 ^ (f.lo + f.w) := by
    have h2 : v % 2 ^ f.w < 2 ^ f.w := Nat.mod_lt _ (by positivity)
    have h4 : v % 2 ^ f.w * 2 ^ f.lo + w.toNat % 2 ^ f.lo < 2 ^ (f.lo + f.w) := by
      rw [pow_add, mul_comm (2 ^ f.lo)]
      calc _ < v % 2 ^ f.w * 2 ^ f.lo + 2 ^ f.lo := by omega
        _ = (v % 2 ^ f.w + 1) * 2 ^ f.lo := by ring
        _ ≤ 2 ^ f.w * 2 ^ f.lo := Nat.mul_le_mul_right _ h2
    rw [put_toNat f w v h, add_assoc, mul_comm, Nat.mul_add_div (by positivity), Nat.div_eq_of_lt h4, add_zero]
  unfold Fld.get
  rcases hg with hg | hg
  · obtain ⟨c, hc⟩ : ∃ c, g.lo = f.lo + f.w + c := ⟨g.lo - (f.lo + f.w), by omega⟩
    rw [hc, pow_add 2 (f.lo + f.w) c, ← Nat.div_div_eq_div_mul, hh, Nat.div_div_eq_div_mul]
  · obtain ⟨c, hc⟩ : ∃ c, f.lo = g.lo + g.w + c := ⟨f.lo - (g.lo + g.w), by omega⟩
    have key : ∀ x : Nat, x / 2 ^ g.lo % 2 ^ g.w = x % 2 ^ f.lo / 2 ^ g.lo % 2 ^ g.w := by
      intro x
      have e1 : 2 ^ f.lo = 2 ^ g.lo * (2 ^ g.w * 2 ^ c) := by rw [hc, pow_add, pow_add]; ring
      rw [e1, Nat.mod_mul_right_div_self, Nat.mod_mul_right_mod]
    rw [key (f.put w v).toNat, key w.toNat, hl]

end Sys2Proof.Machine
end

