-- ==== Sys2Proof/Laws/Maps.lean ====
section
/-!
SUPPORT. Sparse maps: what a key holds after a write, and that every operation keeps the canonical form.
-/
namespace Sys2Proof.Machine

variable {α : Type}

theorem sget_sdel_same (d : α) (k : Nat) (m : List (Nat × α)) : sget d k (sdel k m) = d := by
  induction m with
  | nil => rfl
  | cons x t ih =>
    obtain ⟨k', v⟩ := x
    by_cases h : k' = k
    · simpa [sdel, h] using ih
    · have h' : ¬ k = k' := fun e => h e.symm
      simpa [sdel, h, h', sget] using ih

theorem sget_sdel_ne (d : α) {j k : Nat} (h : j ≠ k) (m : List (Nat × α)) : sget d j (sdel k m) = sget d j m := by
  induction m with
  | nil => rfl
  | cons x t ih =>
    obtain ⟨k', v⟩ := x
    by_cases hk : k' = k
    · have hj : ¬ j = k' := fun e => h (e.trans hk)
      simpa [sdel, hk, sget, hj, h] using ih
    · by_cases hj : j = k'
      · simp [sdel, hk, sget, hj]
      · simpa [sdel, hk, sget, hj] using ih

/-- A key below a lower bound of the keys is a lower bound. -/
theorem sabove_mono {j k : Nat} (h : j < k) (m : List (Nat × α)) (hk : sabove k m = true) : sabove j m = true := by
  cases m with
  | nil => rfl
  | cons x t => simp only [sabove, decide_eq_true_eq] at *; omega

variable [DecidableEq α]

theorem sget_sput_same (d : α) (k : Nat) (v : α) (m : List (Nat × α)) : sget d k (sput d k v m) = v := by
  induction m with
  | nil => by_cases h : v = d <;> simp [sput, sget, h]
  | cons x t ih =>
    obtain ⟨k', v'⟩ := x
    by_cases h1 : k < k'
    · by_cases h : v = d
      · simp only [sput, h1, h, if_true]; exact sget_sdel_same d k _
      · simp [sput, h1, h, sget]
    · by_cases h2 : k = k'
      · by_cases h : v = d
        · subst h2; simp only [sput, h, if_true, Nat.lt_irrefl, if_false]; exact sget_sdel_same d k _
        · subst h2; simp [sput, h, sget]
      · simp [sput, h1, h2, sget, ih]

theorem sget_sput_ne (d e : α) {j k : Nat} (h : j ≠ k) (v : α) (m : List (Nat × α)) :
    sget e j (sput d k v m) = sget e j m := by
  induction m with
  | nil => by_cases hv : v = d <;> simp [sput, sget, hv, h]
  | cons x t ih =>
    obtain ⟨k', v'⟩ := x
    by_cases h1 : k < k'
    · by_cases hv : v = d
      · simp only [sput, h1, hv, if_true]; exact sget_sdel_ne e h _
      · simp [sput, h1, hv, sget, h]
    · by_cases h2 : k = k'
      · subst h2
        by_cases hv : v = d
        · simp only [sput, hv, if_true, Nat.lt_irrefl, if_false]; rw [sget_sdel_ne e h]; simp [sget, h]
        · simp [sput, hv, sget, h]
      · by_cases h3 : j = k'
        · simp [sput, h1, h2, sget, h3]
        · simp [sput, h1, h2, sget, h3, ih]

/-! ### The canonical form -/

theorem swf_cons {d : Nat → α} {k : Nat} {v : α} {t : List (Nat × α)} :
    swf d ((k, v) :: t) = true ↔ v ≠ d k ∧ sabove k t = true ∧ swf d t = true := by
  simp [swf, and_assoc]

theorem sabove_filter (p : Nat × α → Bool) {d : Nat → α} :
    ∀ {k : Nat} {m : List (Nat × α)}, swf d m = true → sabove k m = true → sabove k (m.filter p) = true := by
  intro k m
  induction m generalizing k with
  | nil => intro _ _; rfl
  | cons x t ih =>
    obtain ⟨k', v⟩ := x
    intro hw ha
    obtain ⟨_, hab, ht⟩ := swf_cons.mp hw
    have hlt : k < k' := by simpa [sabove] using ha
    by_cases hp : p (k', v) = true
    · simpa [List.filter, hp, sabove] using hlt
    · simpa [List.filter, hp] using ih ht (sabove_mono hlt t hab)

/-- Removing entries keeps the canonical form. -/
theorem swf_filter (p : Nat × α → Bool) {d : Nat → α} :
    ∀ {m : List (Nat × α)}, swf d m = true → swf d (m.filter p) = true := by
  intro m
  induction m with
  | nil => intro h; exact h
  | cons x t ih =>
    obtain ⟨k', v⟩ := x
    intro hw
    obtain ⟨hv, hab, ht⟩ := swf_cons.mp hw
    by_cases hp : p (k', v) = true
    · simp only [List.filter, hp]
      exact swf_cons.mpr ⟨hv, sabove_filter p ht hab, ih ht⟩
    · simpa [List.filter, hp] using ih ht

theorem swf_sdel {d : Nat → α} (k : Nat) {m : List (Nat × α)} (h : swf d m = true) : swf d (sdel k m) = true :=
  swf_filter _ h

theorem sabove_sput (d : α) {j k : Nat} (hj : j < k) (v : α) {e : Nat → α} {m : List (Nat × α)} (hw : swf e m = true)
    (ha : sabove j m = true) : sabove j (sput d k v m) = true := by
  cases m with
  | nil => by_cases hv : v = d <;> simp [sput, sabove, hv, hj]
  | cons x t =>
    obtain ⟨k', v'⟩ := x
    have hlt : j < k' := by simpa [sabove] using ha
    obtain ⟨_, hab, ht⟩ := swf_cons.mp hw
    by_cases h1 : k < k'
    · by_cases hv : v = d
      · simp only [sput, h1, hv, if_true]; exact sabove_filter _ hw ha
      · simp [sput, h1, hv, sabove, hj]
    · by_cases h2 : k = k'
      · subst h2
        by_cases hv : v = d
        · simp only [sput, hv, if_true, Nat.lt_irrefl, if_false]; exact sabove_filter _ ht (sabove_mono hlt t hab)
        · simp [sput, hv, sabove, hj]
      · simp [sput, h1, h2, sabove, hlt]

/-- A write keeps the canonical form. -/
theorem swf_sput {d : Nat → α} (k : Nat) (v : α) {m : List (Nat × α)} (h : swf d m = true) :
    swf d (sput (d k) k v m) = true := by
  induction m with
  | nil => by_cases hv : v = d k <;> simp [sput, swf, sabove, hv]
  | cons x t ih =>
    obtain ⟨k', v'⟩ := x
    obtain ⟨hv', hab, ht⟩ := swf_cons.mp h
    by_cases h1 : k < k'
    · by_cases hv : v = d k
      · simp only [sput, h1, hv, if_true]; exact swf_sdel k h
      · simp only [sput, h1, hv, if_true, if_false]
        exact swf_cons.mpr ⟨hv, by simpa [sabove] using h1, h⟩
    · by_cases h2 : k = k'
      · subst h2
        by_cases hv : v = d k
        · simp only [sput, hv, if_true, Nat.lt_irrefl, if_false]; exact swf_sdel k ht
        · simp only [sput, hv, if_true, Nat.lt_irrefl, if_false]; exact swf_cons.mpr ⟨hv, hab, ht⟩
      · simp only [sput, h1, h2, if_false]
        exact swf_cons.mpr ⟨hv', sabove_sput (d k) (by omega) v ht hab, ih ht⟩

end Sys2Proof.Machine
end

