-- ==== Sys2Proof/Laws/State.lean ====
section
/-!
SUPPORT. What each elementary update of the state leaves and what it sets: one lemma per field of the state per update, and what a
register, a field and a byte hold afterwards.
-/
namespace Sys2Proof.Machine

variable (s : State)

/-! ### setReg -/

@[simp] theorem State.setReg_act (a : Nat) (w : Word) : (s.setReg a w).act = s.act := rfl
@[simp] theorem State.setReg_mem (a : Nat) (w : Word) : (s.setReg a w).mem = s.mem := rfl
@[simp] theorem State.setReg_now (a : Nat) (w : Word) : (s.setReg a w).now = s.now := rfl
@[simp] theorem State.setReg_freeCtr (a : Nat) (w : Word) : (s.setReg a w).freeCtr = s.freeCtr := rfl
@[simp] theorem State.setReg_jq (a : Nat) (w : Word) : (s.setReg a w).jq = s.jq := rfl
@[simp] theorem State.setReg_jLostPend (a : Nat) (w : Word) : (s.setReg a w).jLostPend = s.jLostPend := rfl
@[simp] theorem State.setReg_tod (a : Nat) (w : Word) : (s.setReg a w).tod = s.tod := rfl
@[simp] theorem State.setReg_region (a : Nat) (w : Word) : (s.setReg a w).region = s.region := rfl
@[simp] theorem State.setReg_blocks (a : Nat) (w : Word) : (s.setReg a w).blocks = s.blocks := rfl
@[simp] theorem State.setReg_well (a : Nat) (w : Word) : (s.setReg a w).well = s.well := rfl
@[simp] theorem State.setReg_line (a : Nat) (w : Word) : (s.setReg a w).line = s.line := rfl
@[simp] theorem State.setReg_rx (a : Nat) (w : Word) : (s.setReg a w).rx = s.rx := rfl
@[simp] theorem State.setReg_sig (a : Nat) (w : Word) : (s.setReg a w).sig = s.sig := rfl
@[simp] theorem State.setReg_frm (a : Nat) (w : Word) : (s.setReg a w).frm = s.frm := rfl
@[simp] theorem State.setReg_cores (a : Nat) (w : Word) : (s.setReg a w).cores = s.cores := rfl
@[simp] theorem State.setReg_atlas (a : Nat) (w : Word) : (s.setReg a w).atlas = s.atlas := rfl
@[simp] theorem State.setReg_seepLn (a : Nat) (w : Word) : (s.setReg a w).seepLn = s.seepLn := rfl
@[simp] theorem State.setReg_seep (a : Nat) (w : Word) : (s.setReg a w).seep = s.seep := rfl
@[simp] theorem State.setReg_host (a : Nat) (w : Word) : (s.setReg a w).host = s.host := rfl
@[simp] theorem State.setReg_cis (a : Nat) (w : Word) : (s.setReg a w).cis = s.cis := rfl
@[simp] theorem State.setReg_light (a : Nat) (w : Word) : (s.setReg a w).light = s.light := rfl
@[simp] theorem State.setReg_txdisHigh (a : Nat) (w : Word) : (s.setReg a w).txdisHigh = s.txdisHigh := rfl
@[simp] theorem State.setReg_txdisOk (a : Nat) (w : Word) : (s.setReg a w).txdisOk = s.txdisOk := rfl
@[simp] theorem State.setReg_vent (a : Nat) (w : Word) : (s.setReg a w).vent = s.vent := rfl
@[simp] theorem State.setReg_inReset (a : Nat) (w : Word) : (s.setReg a w).inReset = s.inReset := rfl
@[simp] theorem State.setReg_rails (a : Nat) (w : Word) : (s.setReg a w).rails = s.rails := rfl
@[simp] theorem State.setReg_pumps (a : Nat) (w : Word) : (s.setReg a w).pumps = s.pumps := rfl
@[simp] theorem State.setReg_stagedPumps (a : Nat) (w : Word) : (s.setReg a w).stagedPumps = s.stagedPumps := rfl
@[simp] theorem State.setReg_rpr (a : Nat) (w : Word) : (s.setReg a w).rpr = s.rpr := rfl
@[simp] theorem State.setReg_fuse (a : Nat) (w : Word) : (s.setReg a w).fuse = s.fuse := rfl
@[simp] theorem State.setReg_boot (a : Nat) (w : Word) : (s.setReg a w).boot = s.boot := rfl
@[simp] theorem State.setReg_port (a : Nat) (w : Word) : (s.setReg a w).port = s.port := rfl
@[simp] theorem State.setReg_mbx (a : Nat) (w : Word) : (s.setReg a w).mbx = s.mbx := rfl
@[simp] theorem State.setReg_kic (a : Nat) (w : Word) : (s.setReg a w).kic = s.kic := rfl
@[simp] theorem State.setReg_pwr (a : Nat) (w : Word) : (s.setReg a w).pwr = s.pwr := rfl
@[simp] theorem State.setReg_saf (a : Nat) (w : Word) : (s.setReg a w).saf = s.saf := rfl
@[simp] theorem State.setReg_thm (a : Nat) (w : Word) : (s.setReg a w).thm = s.thm := rfl
@[simp] theorem State.setReg_mon (a : Nat) (w : Word) : (s.setReg a w).mon = s.mon := rfl
@[simp] theorem State.setReg_sec (a : Nat) (w : Word) : (s.setReg a w).sec = s.sec := rfl
@[simp] theorem State.setReg_resp (a : Nat) (w : Word) : (s.setReg a w).resp = s.resp := rfl
@[simp] theorem State.setReg_pending (a : Nat) (w : Word) : (s.setReg a w).pending = s.pending := rfl

/-! ### setActReg -/

@[simp] theorem State.setActReg_regs (k : Nat) (w : Word) : (s.setActReg k w).regs = s.regs := rfl
@[simp] theorem State.setActReg_mem (k : Nat) (w : Word) : (s.setActReg k w).mem = s.mem := rfl
@[simp] theorem State.setActReg_now (k : Nat) (w : Word) : (s.setActReg k w).now = s.now := rfl
@[simp] theorem State.setActReg_freeCtr (k : Nat) (w : Word) : (s.setActReg k w).freeCtr = s.freeCtr := rfl
@[simp] theorem State.setActReg_jq (k : Nat) (w : Word) : (s.setActReg k w).jq = s.jq := rfl
@[simp] theorem State.setActReg_jLostPend (k : Nat) (w : Word) : (s.setActReg k w).jLostPend = s.jLostPend := rfl
@[simp] theorem State.setActReg_tod (k : Nat) (w : Word) : (s.setActReg k w).tod = s.tod := rfl
@[simp] theorem State.setActReg_region (k : Nat) (w : Word) : (s.setActReg k w).region = s.region := rfl
@[simp] theorem State.setActReg_blocks (k : Nat) (w : Word) : (s.setActReg k w).blocks = s.blocks := rfl
@[simp] theorem State.setActReg_well (k : Nat) (w : Word) : (s.setActReg k w).well = s.well := rfl
@[simp] theorem State.setActReg_line (k : Nat) (w : Word) : (s.setActReg k w).line = s.line := rfl
@[simp] theorem State.setActReg_rx (k : Nat) (w : Word) : (s.setActReg k w).rx = s.rx := rfl
@[simp] theorem State.setActReg_sig (k : Nat) (w : Word) : (s.setActReg k w).sig = s.sig := rfl
@[simp] theorem State.setActReg_frm (k : Nat) (w : Word) : (s.setActReg k w).frm = s.frm := rfl
@[simp] theorem State.setActReg_cores (k : Nat) (w : Word) : (s.setActReg k w).cores = s.cores := rfl
@[simp] theorem State.setActReg_atlas (k : Nat) (w : Word) : (s.setActReg k w).atlas = s.atlas := rfl
@[simp] theorem State.setActReg_seepLn (k : Nat) (w : Word) : (s.setActReg k w).seepLn = s.seepLn := rfl
@[simp] theorem State.setActReg_seep (k : Nat) (w : Word) : (s.setActReg k w).seep = s.seep := rfl
@[simp] theorem State.setActReg_host (k : Nat) (w : Word) : (s.setActReg k w).host = s.host := rfl
@[simp] theorem State.setActReg_cis (k : Nat) (w : Word) : (s.setActReg k w).cis = s.cis := rfl
@[simp] theorem State.setActReg_light (k : Nat) (w : Word) : (s.setActReg k w).light = s.light := rfl
@[simp] theorem State.setActReg_txdisHigh (k : Nat) (w : Word) : (s.setActReg k w).txdisHigh = s.txdisHigh := rfl
@[simp] theorem State.setActReg_txdisOk (k : Nat) (w : Word) : (s.setActReg k w).txdisOk = s.txdisOk := rfl
@[simp] theorem State.setActReg_vent (k : Nat) (w : Word) : (s.setActReg k w).vent = s.vent := rfl
@[simp] theorem State.setActReg_inReset (k : Nat) (w : Word) : (s.setActReg k w).inReset = s.inReset := rfl
@[simp] theorem State.setActReg_rails (k : Nat) (w : Word) : (s.setActReg k w).rails = s.rails := rfl
@[simp] theorem State.setActReg_pumps (k : Nat) (w : Word) : (s.setActReg k w).pumps = s.pumps := rfl
@[simp] theorem State.setActReg_stagedPumps (k : Nat) (w : Word) : (s.setActReg k w).stagedPumps = s.stagedPumps := rfl
@[simp] theorem State.setActReg_rpr (k : Nat) (w : Word) : (s.setActReg k w).rpr = s.rpr := rfl
@[simp] theorem State.setActReg_fuse (k : Nat) (w : Word) : (s.setActReg k w).fuse = s.fuse := rfl
@[simp] theorem State.setActReg_boot (k : Nat) (w : Word) : (s.setActReg k w).boot = s.boot := rfl
@[simp] theorem State.setActReg_port (k : Nat) (w : Word) : (s.setActReg k w).port = s.port := rfl
@[simp] theorem State.setActReg_mbx (k : Nat) (w : Word) : (s.setActReg k w).mbx = s.mbx := rfl
@[simp] theorem State.setActReg_kic (k : Nat) (w : Word) : (s.setActReg k w).kic = s.kic := rfl
@[simp] theorem State.setActReg_pwr (k : Nat) (w : Word) : (s.setActReg k w).pwr = s.pwr := rfl
@[simp] theorem State.setActReg_saf (k : Nat) (w : Word) : (s.setActReg k w).saf = s.saf := rfl
@[simp] theorem State.setActReg_thm (k : Nat) (w : Word) : (s.setActReg k w).thm = s.thm := rfl
@[simp] theorem State.setActReg_mon (k : Nat) (w : Word) : (s.setActReg k w).mon = s.mon := rfl
@[simp] theorem State.setActReg_sec (k : Nat) (w : Word) : (s.setActReg k w).sec = s.sec := rfl
@[simp] theorem State.setActReg_resp (k : Nat) (w : Word) : (s.setActReg k w).resp = s.resp := rfl
@[simp] theorem State.setActReg_pending (k : Nat) (w : Word) : (s.setActReg k w).pending = s.pending := rfl

/-! ### setFld -/

@[simp] theorem State.setFld_act (a : Nat) (f : Fld) (v : Nat) : (s.setFld a f v).act = s.act := rfl
@[simp] theorem State.setFld_mem (a : Nat) (f : Fld) (v : Nat) : (s.setFld a f v).mem = s.mem := rfl
@[simp] theorem State.setFld_now (a : Nat) (f : Fld) (v : Nat) : (s.setFld a f v).now = s.now := rfl
@[simp] theorem State.setFld_freeCtr (a : Nat) (f : Fld) (v : Nat) : (s.setFld a f v).freeCtr = s.freeCtr := rfl
@[simp] theorem State.setFld_jq (a : Nat) (f : Fld) (v : Nat) : (s.setFld a f v).jq = s.jq := rfl
@[simp] theorem State.setFld_jLostPend (a : Nat) (f : Fld) (v : Nat) : (s.setFld a f v).jLostPend = s.jLostPend := rfl
@[simp] theorem State.setFld_tod (a : Nat) (f : Fld) (v : Nat) : (s.setFld a f v).tod = s.tod := rfl
@[simp] theorem State.setFld_region (a : Nat) (f : Fld) (v : Nat) : (s.setFld a f v).region = s.region := rfl
@[simp] theorem State.setFld_blocks (a : Nat) (f : Fld) (v : Nat) : (s.setFld a f v).blocks = s.blocks := rfl
@[simp] theorem State.setFld_well (a : Nat) (f : Fld) (v : Nat) : (s.setFld a f v).well = s.well := rfl
@[simp] theorem State.setFld_line (a : Nat) (f : Fld) (v : Nat) : (s.setFld a f v).line = s.line := rfl
@[simp] theorem State.setFld_rx (a : Nat) (f : Fld) (v : Nat) : (s.setFld a f v).rx = s.rx := rfl
@[simp] theorem State.setFld_sig (a : Nat) (f : Fld) (v : Nat) : (s.setFld a f v).sig = s.sig := rfl
@[simp] theorem State.setFld_frm (a : Nat) (f : Fld) (v : Nat) : (s.setFld a f v).frm = s.frm := rfl
@[simp] theorem State.setFld_cores (a : Nat) (f : Fld) (v : Nat) : (s.setFld a f v).cores = s.cores := rfl
@[simp] theorem State.setFld_atlas (a : Nat) (f : Fld) (v : Nat) : (s.setFld a f v).atlas = s.atlas := rfl
@[simp] theorem State.setFld_seepLn (a : Nat) (f : Fld) (v : Nat) : (s.setFld a f v).seepLn = s.seepLn := rfl
@[simp] theorem State.setFld_seep (a : Nat) (f : Fld) (v : Nat) : (s.setFld a f v).seep = s.seep := rfl
@[simp] theorem State.setFld_host (a : Nat) (f : Fld) (v : Nat) : (s.setFld a f v).host = s.host := rfl
@[simp] theorem State.setFld_cis (a : Nat) (f : Fld) (v : Nat) : (s.setFld a f v).cis = s.cis := rfl
@[simp] theorem State.setFld_light (a : Nat) (f : Fld) (v : Nat) : (s.setFld a f v).light = s.light := rfl
@[simp] theorem State.setFld_txdisHigh (a : Nat) (f : Fld) (v : Nat) : (s.setFld a f v).txdisHigh = s.txdisHigh := rfl
@[simp] theorem State.setFld_txdisOk (a : Nat) (f : Fld) (v : Nat) : (s.setFld a f v).txdisOk = s.txdisOk := rfl
@[simp] theorem State.setFld_vent (a : Nat) (f : Fld) (v : Nat) : (s.setFld a f v).vent = s.vent := rfl
@[simp] theorem State.setFld_inReset (a : Nat) (f : Fld) (v : Nat) : (s.setFld a f v).inReset = s.inReset := rfl
@[simp] theorem State.setFld_rails (a : Nat) (f : Fld) (v : Nat) : (s.setFld a f v).rails = s.rails := rfl
@[simp] theorem State.setFld_pumps (a : Nat) (f : Fld) (v : Nat) : (s.setFld a f v).pumps = s.pumps := rfl
@[simp] theorem State.setFld_stagedPumps (a : Nat) (f : Fld) (v : Nat) : (s.setFld a f v).stagedPumps = s.stagedPumps := rfl
@[simp] theorem State.setFld_rpr (a : Nat) (f : Fld) (v : Nat) : (s.setFld a f v).rpr = s.rpr := rfl
@[simp] theorem State.setFld_fuse (a : Nat) (f : Fld) (v : Nat) : (s.setFld a f v).fuse = s.fuse := rfl
@[simp] theorem State.setFld_boot (a : Nat) (f : Fld) (v : Nat) : (s.setFld a f v).boot = s.boot := rfl
@[simp] theorem State.setFld_port (a : Nat) (f : Fld) (v : Nat) : (s.setFld a f v).port = s.port := rfl
@[simp] theorem State.setFld_mbx (a : Nat) (f : Fld) (v : Nat) : (s.setFld a f v).mbx = s.mbx := rfl
@[simp] theorem State.setFld_kic (a : Nat) (f : Fld) (v : Nat) : (s.setFld a f v).kic = s.kic := rfl
@[simp] theorem State.setFld_pwr (a : Nat) (f : Fld) (v : Nat) : (s.setFld a f v).pwr = s.pwr := rfl
@[simp] theorem State.setFld_saf (a : Nat) (f : Fld) (v : Nat) : (s.setFld a f v).saf = s.saf := rfl
@[simp] theorem State.setFld_thm (a : Nat) (f : Fld) (v : Nat) : (s.setFld a f v).thm = s.thm := rfl
@[simp] theorem State.setFld_mon (a : Nat) (f : Fld) (v : Nat) : (s.setFld a f v).mon = s.mon := rfl
@[simp] theorem State.setFld_sec (a : Nat) (f : Fld) (v : Nat) : (s.setFld a f v).sec = s.sec := rfl
@[simp] theorem State.setFld_resp (a : Nat) (f : Fld) (v : Nat) : (s.setFld a f v).resp = s.resp := rfl
@[simp] theorem State.setFld_pending (a : Nat) (f : Fld) (v : Nat) : (s.setFld a f v).pending = s.pending := rfl

/-! ### setActFld -/

@[simp] theorem State.setActFld_regs (k : Nat) (f : Fld) (v : Nat) : (s.setActFld k f v).regs = s.regs := rfl
@[simp] theorem State.setActFld_mem (k : Nat) (f : Fld) (v : Nat) : (s.setActFld k f v).mem = s.mem := rfl
@[simp] theorem State.setActFld_now (k : Nat) (f : Fld) (v : Nat) : (s.setActFld k f v).now = s.now := rfl
@[simp] theorem State.setActFld_freeCtr (k : Nat) (f : Fld) (v : Nat) : (s.setActFld k f v).freeCtr = s.freeCtr := rfl
@[simp] theorem State.setActFld_jq (k : Nat) (f : Fld) (v : Nat) : (s.setActFld k f v).jq = s.jq := rfl
@[simp] theorem State.setActFld_jLostPend (k : Nat) (f : Fld) (v : Nat) : (s.setActFld k f v).jLostPend = s.jLostPend := rfl
@[simp] theorem State.setActFld_tod (k : Nat) (f : Fld) (v : Nat) : (s.setActFld k f v).tod = s.tod := rfl
@[simp] theorem State.setActFld_region (k : Nat) (f : Fld) (v : Nat) : (s.setActFld k f v).region = s.region := rfl
@[simp] theorem State.setActFld_blocks (k : Nat) (f : Fld) (v : Nat) : (s.setActFld k f v).blocks = s.blocks := rfl
@[simp] theorem State.setActFld_well (k : Nat) (f : Fld) (v : Nat) : (s.setActFld k f v).well = s.well := rfl
@[simp] theorem State.setActFld_line (k : Nat) (f : Fld) (v : Nat) : (s.setActFld k f v).line = s.line := rfl
@[simp] theorem State.setActFld_rx (k : Nat) (f : Fld) (v : Nat) : (s.setActFld k f v).rx = s.rx := rfl
@[simp] theorem State.setActFld_sig (k : Nat) (f : Fld) (v : Nat) : (s.setActFld k f v).sig = s.sig := rfl
@[simp] theorem State.setActFld_frm (k : Nat) (f : Fld) (v : Nat) : (s.setActFld k f v).frm = s.frm := rfl
@[simp] theorem State.setActFld_cores (k : Nat) (f : Fld) (v : Nat) : (s.setActFld k f v).cores = s.cores := rfl
@[simp] theorem State.setActFld_atlas (k : Nat) (f : Fld) (v : Nat) : (s.setActFld k f v).atlas = s.atlas := rfl
@[simp] theorem State.setActFld_seepLn (k : Nat) (f : Fld) (v : Nat) : (s.setActFld k f v).seepLn = s.seepLn := rfl
@[simp] theorem State.setActFld_seep (k : Nat) (f : Fld) (v : Nat) : (s.setActFld k f v).seep = s.seep := rfl
@[simp] theorem State.setActFld_host (k : Nat) (f : Fld) (v : Nat) : (s.setActFld k f v).host = s.host := rfl
@[simp] theorem State.setActFld_cis (k : Nat) (f : Fld) (v : Nat) : (s.setActFld k f v).cis = s.cis := rfl
@[simp] theorem State.setActFld_light (k : Nat) (f : Fld) (v : Nat) : (s.setActFld k f v).light = s.light := rfl
@[simp] theorem State.setActFld_txdisHigh (k : Nat) (f : Fld) (v : Nat) : (s.setActFld k f v).txdisHigh = s.txdisHigh := rfl
@[simp] theorem State.setActFld_txdisOk (k : Nat) (f : Fld) (v : Nat) : (s.setActFld k f v).txdisOk = s.txdisOk := rfl
@[simp] theorem State.setActFld_vent (k : Nat) (f : Fld) (v : Nat) : (s.setActFld k f v).vent = s.vent := rfl
@[simp] theorem State.setActFld_inReset (k : Nat) (f : Fld) (v : Nat) : (s.setActFld k f v).inReset = s.inReset := rfl
@[simp] theorem State.setActFld_rails (k : Nat) (f : Fld) (v : Nat) : (s.setActFld k f v).rails = s.rails := rfl
@[simp] theorem State.setActFld_pumps (k : Nat) (f : Fld) (v : Nat) : (s.setActFld k f v).pumps = s.pumps := rfl
@[simp] theorem State.setActFld_stagedPumps (k : Nat) (f : Fld) (v : Nat) : (s.setActFld k f v).stagedPumps = s.stagedPumps := rfl
@[simp] theorem State.setActFld_rpr (k : Nat) (f : Fld) (v : Nat) : (s.setActFld k f v).rpr = s.rpr := rfl
@[simp] theorem State.setActFld_fuse (k : Nat) (f : Fld) (v : Nat) : (s.setActFld k f v).fuse = s.fuse := rfl
@[simp] theorem State.setActFld_boot (k : Nat) (f : Fld) (v : Nat) : (s.setActFld k f v).boot = s.boot := rfl
@[simp] theorem State.setActFld_port (k : Nat) (f : Fld) (v : Nat) : (s.setActFld k f v).port = s.port := rfl
@[simp] theorem State.setActFld_mbx (k : Nat) (f : Fld) (v : Nat) : (s.setActFld k f v).mbx = s.mbx := rfl
@[simp] theorem State.setActFld_kic (k : Nat) (f : Fld) (v : Nat) : (s.setActFld k f v).kic = s.kic := rfl
@[simp] theorem State.setActFld_pwr (k : Nat) (f : Fld) (v : Nat) : (s.setActFld k f v).pwr = s.pwr := rfl
@[simp] theorem State.setActFld_saf (k : Nat) (f : Fld) (v : Nat) : (s.setActFld k f v).saf = s.saf := rfl
@[simp] theorem State.setActFld_thm (k : Nat) (f : Fld) (v : Nat) : (s.setActFld k f v).thm = s.thm := rfl
@[simp] theorem State.setActFld_mon (k : Nat) (f : Fld) (v : Nat) : (s.setActFld k f v).mon = s.mon := rfl
@[simp] theorem State.setActFld_sec (k : Nat) (f : Fld) (v : Nat) : (s.setActFld k f v).sec = s.sec := rfl
@[simp] theorem State.setActFld_resp (k : Nat) (f : Fld) (v : Nat) : (s.setActFld k f v).resp = s.resp := rfl
@[simp] theorem State.setActFld_pending (k : Nat) (f : Fld) (v : Nat) : (s.setActFld k f v).pending = s.pending := rfl

/-! ### addSat -/

@[simp] theorem State.addSat_act (a : Nat) (f : Fld) (n : Nat) : (s.addSat a f n).act = s.act := rfl
@[simp] theorem State.addSat_mem (a : Nat) (f : Fld) (n : Nat) : (s.addSat a f n).mem = s.mem := rfl
@[simp] theorem State.addSat_now (a : Nat) (f : Fld) (n : Nat) : (s.addSat a f n).now = s.now := rfl
@[simp] theorem State.addSat_freeCtr (a : Nat) (f : Fld) (n : Nat) : (s.addSat a f n).freeCtr = s.freeCtr := rfl
@[simp] theorem State.addSat_jq (a : Nat) (f : Fld) (n : Nat) : (s.addSat a f n).jq = s.jq := rfl
@[simp] theorem State.addSat_jLostPend (a : Nat) (f : Fld) (n : Nat) : (s.addSat a f n).jLostPend = s.jLostPend := rfl
@[simp] theorem State.addSat_tod (a : Nat) (f : Fld) (n : Nat) : (s.addSat a f n).tod = s.tod := rfl
@[simp] theorem State.addSat_region (a : Nat) (f : Fld) (n : Nat) : (s.addSat a f n).region = s.region := rfl
@[simp] theorem State.addSat_blocks (a : Nat) (f : Fld) (n : Nat) : (s.addSat a f n).blocks = s.blocks := rfl
@[simp] theorem State.addSat_well (a : Nat) (f : Fld) (n : Nat) : (s.addSat a f n).well = s.well := rfl
@[simp] theorem State.addSat_line (a : Nat) (f : Fld) (n : Nat) : (s.addSat a f n).line = s.line := rfl
@[simp] theorem State.addSat_rx (a : Nat) (f : Fld) (n : Nat) : (s.addSat a f n).rx = s.rx := rfl
@[simp] theorem State.addSat_sig (a : Nat) (f : Fld) (n : Nat) : (s.addSat a f n).sig = s.sig := rfl
@[simp] theorem State.addSat_frm (a : Nat) (f : Fld) (n : Nat) : (s.addSat a f n).frm = s.frm := rfl
@[simp] theorem State.addSat_cores (a : Nat) (f : Fld) (n : Nat) : (s.addSat a f n).cores = s.cores := rfl
@[simp] theorem State.addSat_atlas (a : Nat) (f : Fld) (n : Nat) : (s.addSat a f n).atlas = s.atlas := rfl
@[simp] theorem State.addSat_seepLn (a : Nat) (f : Fld) (n : Nat) : (s.addSat a f n).seepLn = s.seepLn := rfl
@[simp] theorem State.addSat_seep (a : Nat) (f : Fld) (n : Nat) : (s.addSat a f n).seep = s.seep := rfl
@[simp] theorem State.addSat_host (a : Nat) (f : Fld) (n : Nat) : (s.addSat a f n).host = s.host := rfl
@[simp] theorem State.addSat_cis (a : Nat) (f : Fld) (n : Nat) : (s.addSat a f n).cis = s.cis := rfl
@[simp] theorem State.addSat_light (a : Nat) (f : Fld) (n : Nat) : (s.addSat a f n).light = s.light := rfl
@[simp] theorem State.addSat_txdisHigh (a : Nat) (f : Fld) (n : Nat) : (s.addSat a f n).txdisHigh = s.txdisHigh := rfl
@[simp] theorem State.addSat_txdisOk (a : Nat) (f : Fld) (n : Nat) : (s.addSat a f n).txdisOk = s.txdisOk := rfl
@[simp] theorem State.addSat_vent (a : Nat) (f : Fld) (n : Nat) : (s.addSat a f n).vent = s.vent := rfl
@[simp] theorem State.addSat_inReset (a : Nat) (f : Fld) (n : Nat) : (s.addSat a f n).inReset = s.inReset := rfl
@[simp] theorem State.addSat_rails (a : Nat) (f : Fld) (n : Nat) : (s.addSat a f n).rails = s.rails := rfl
@[simp] theorem State.addSat_pumps (a : Nat) (f : Fld) (n : Nat) : (s.addSat a f n).pumps = s.pumps := rfl
@[simp] theorem State.addSat_stagedPumps (a : Nat) (f : Fld) (n : Nat) : (s.addSat a f n).stagedPumps = s.stagedPumps := rfl
@[simp] theorem State.addSat_rpr (a : Nat) (f : Fld) (n : Nat) : (s.addSat a f n).rpr = s.rpr := rfl
@[simp] theorem State.addSat_fuse (a : Nat) (f : Fld) (n : Nat) : (s.addSat a f n).fuse = s.fuse := rfl
@[simp] theorem State.addSat_boot (a : Nat) (f : Fld) (n : Nat) : (s.addSat a f n).boot = s.boot := rfl
@[simp] theorem State.addSat_port (a : Nat) (f : Fld) (n : Nat) : (s.addSat a f n).port = s.port := rfl
@[simp] theorem State.addSat_mbx (a : Nat) (f : Fld) (n : Nat) : (s.addSat a f n).mbx = s.mbx := rfl
@[simp] theorem State.addSat_kic (a : Nat) (f : Fld) (n : Nat) : (s.addSat a f n).kic = s.kic := rfl
@[simp] theorem State.addSat_pwr (a : Nat) (f : Fld) (n : Nat) : (s.addSat a f n).pwr = s.pwr := rfl
@[simp] theorem State.addSat_saf (a : Nat) (f : Fld) (n : Nat) : (s.addSat a f n).saf = s.saf := rfl
@[simp] theorem State.addSat_thm (a : Nat) (f : Fld) (n : Nat) : (s.addSat a f n).thm = s.thm := rfl
@[simp] theorem State.addSat_mon (a : Nat) (f : Fld) (n : Nat) : (s.addSat a f n).mon = s.mon := rfl
@[simp] theorem State.addSat_sec (a : Nat) (f : Fld) (n : Nat) : (s.addSat a f n).sec = s.sec := rfl
@[simp] theorem State.addSat_resp (a : Nat) (f : Fld) (n : Nat) : (s.addSat a f n).resp = s.resp := rfl
@[simp] theorem State.addSat_pending (a : Nat) (f : Fld) (n : Nat) : (s.addSat a f n).pending = s.pending := rfl

/-! ### addWrap -/

@[simp] theorem State.addWrap_act (a : Nat) (f : Fld) (n : Nat) : (s.addWrap a f n).act = s.act := rfl
@[simp] theorem State.addWrap_mem (a : Nat) (f : Fld) (n : Nat) : (s.addWrap a f n).mem = s.mem := rfl
@[simp] theorem State.addWrap_now (a : Nat) (f : Fld) (n : Nat) : (s.addWrap a f n).now = s.now := rfl
@[simp] theorem State.addWrap_freeCtr (a : Nat) (f : Fld) (n : Nat) : (s.addWrap a f n).freeCtr = s.freeCtr := rfl
@[simp] theorem State.addWrap_jq (a : Nat) (f : Fld) (n : Nat) : (s.addWrap a f n).jq = s.jq := rfl
@[simp] theorem State.addWrap_jLostPend (a : Nat) (f : Fld) (n : Nat) : (s.addWrap a f n).jLostPend = s.jLostPend := rfl
@[simp] theorem State.addWrap_tod (a : Nat) (f : Fld) (n : Nat) : (s.addWrap a f n).tod = s.tod := rfl
@[simp] theorem State.addWrap_region (a : Nat) (f : Fld) (n : Nat) : (s.addWrap a f n).region = s.region := rfl
@[simp] theorem State.addWrap_blocks (a : Nat) (f : Fld) (n : Nat) : (s.addWrap a f n).blocks = s.blocks := rfl
@[simp] theorem State.addWrap_well (a : Nat) (f : Fld) (n : Nat) : (s.addWrap a f n).well = s.well := rfl
@[simp] theorem State.addWrap_line (a : Nat) (f : Fld) (n : Nat) : (s.addWrap a f n).line = s.line := rfl
@[simp] theorem State.addWrap_rx (a : Nat) (f : Fld) (n : Nat) : (s.addWrap a f n).rx = s.rx := rfl
@[simp] theorem State.addWrap_sig (a : Nat) (f : Fld) (n : Nat) : (s.addWrap a f n).sig = s.sig := rfl
@[simp] theorem State.addWrap_frm (a : Nat) (f : Fld) (n : Nat) : (s.addWrap a f n).frm = s.frm := rfl
@[simp] theorem State.addWrap_cores (a : Nat) (f : Fld) (n : Nat) : (s.addWrap a f n).cores = s.cores := rfl
@[simp] theorem State.addWrap_atlas (a : Nat) (f : Fld) (n : Nat) : (s.addWrap a f n).atlas = s.atlas := rfl
@[simp] theorem State.addWrap_seepLn (a : Nat) (f : Fld) (n : Nat) : (s.addWrap a f n).seepLn = s.seepLn := rfl
@[simp] theorem State.addWrap_seep (a : Nat) (f : Fld) (n : Nat) : (s.addWrap a f n).seep = s.seep := rfl
@[simp] theorem State.addWrap_host (a : Nat) (f : Fld) (n : Nat) : (s.addWrap a f n).host = s.host := rfl
@[simp] theorem State.addWrap_cis (a : Nat) (f : Fld) (n : Nat) : (s.addWrap a f n).cis = s.cis := rfl
@[simp] theorem State.addWrap_light (a : Nat) (f : Fld) (n : Nat) : (s.addWrap a f n).light = s.light := rfl
@[simp] theorem State.addWrap_txdisHigh (a : Nat) (f : Fld) (n : Nat) : (s.addWrap a f n).txdisHigh = s.txdisHigh := rfl
@[simp] theorem State.addWrap_txdisOk (a : Nat) (f : Fld) (n : Nat) : (s.addWrap a f n).txdisOk = s.txdisOk := rfl
@[simp] theorem State.addWrap_vent (a : Nat) (f : Fld) (n : Nat) : (s.addWrap a f n).vent = s.vent := rfl
@[simp] theorem State.addWrap_inReset (a : Nat) (f : Fld) (n : Nat) : (s.addWrap a f n).inReset = s.inReset := rfl
@[simp] theorem State.addWrap_rails (a : Nat) (f : Fld) (n : Nat) : (s.addWrap a f n).rails = s.rails := rfl
@[simp] theorem State.addWrap_pumps (a : Nat) (f : Fld) (n : Nat) : (s.addWrap a f n).pumps = s.pumps := rfl
@[simp] theorem State.addWrap_stagedPumps (a : Nat) (f : Fld) (n : Nat) : (s.addWrap a f n).stagedPumps = s.stagedPumps := rfl
@[simp] theorem State.addWrap_rpr (a : Nat) (f : Fld) (n : Nat) : (s.addWrap a f n).rpr = s.rpr := rfl
@[simp] theorem State.addWrap_fuse (a : Nat) (f : Fld) (n : Nat) : (s.addWrap a f n).fuse = s.fuse := rfl
@[simp] theorem State.addWrap_boot (a : Nat) (f : Fld) (n : Nat) : (s.addWrap a f n).boot = s.boot := rfl
@[simp] theorem State.addWrap_port (a : Nat) (f : Fld) (n : Nat) : (s.addWrap a f n).port = s.port := rfl
@[simp] theorem State.addWrap_mbx (a : Nat) (f : Fld) (n : Nat) : (s.addWrap a f n).mbx = s.mbx := rfl
@[simp] theorem State.addWrap_kic (a : Nat) (f : Fld) (n : Nat) : (s.addWrap a f n).kic = s.kic := rfl
@[simp] theorem State.addWrap_pwr (a : Nat) (f : Fld) (n : Nat) : (s.addWrap a f n).pwr = s.pwr := rfl
@[simp] theorem State.addWrap_saf (a : Nat) (f : Fld) (n : Nat) : (s.addWrap a f n).saf = s.saf := rfl
@[simp] theorem State.addWrap_thm (a : Nat) (f : Fld) (n : Nat) : (s.addWrap a f n).thm = s.thm := rfl
@[simp] theorem State.addWrap_mon (a : Nat) (f : Fld) (n : Nat) : (s.addWrap a f n).mon = s.mon := rfl
@[simp] theorem State.addWrap_sec (a : Nat) (f : Fld) (n : Nat) : (s.addWrap a f n).sec = s.sec := rfl
@[simp] theorem State.addWrap_resp (a : Nat) (f : Fld) (n : Nat) : (s.addWrap a f n).resp = s.resp := rfl
@[simp] theorem State.addWrap_pending (a : Nat) (f : Fld) (n : Nat) : (s.addWrap a f n).pending = s.pending := rfl

/-! ### clrBits -/

@[simp] theorem State.clrBits_act (a : Nat) (f : Fld) (b : Nat) : (s.clrBits a f b).act = s.act := rfl
@[simp] theorem State.clrBits_mem (a : Nat) (f : Fld) (b : Nat) : (s.clrBits a f b).mem = s.mem := rfl
@[simp] theorem State.clrBits_now (a : Nat) (f : Fld) (b : Nat) : (s.clrBits a f b).now = s.now := rfl
@[simp] theorem State.clrBits_freeCtr (a : Nat) (f : Fld) (b : Nat) : (s.clrBits a f b).freeCtr = s.freeCtr := rfl
@[simp] theorem State.clrBits_jq (a : Nat) (f : Fld) (b : Nat) : (s.clrBits a f b).jq = s.jq := rfl
@[simp] theorem State.clrBits_jLostPend (a : Nat) (f : Fld) (b : Nat) : (s.clrBits a f b).jLostPend = s.jLostPend := rfl
@[simp] theorem State.clrBits_tod (a : Nat) (f : Fld) (b : Nat) : (s.clrBits a f b).tod = s.tod := rfl
@[simp] theorem State.clrBits_region (a : Nat) (f : Fld) (b : Nat) : (s.clrBits a f b).region = s.region := rfl
@[simp] theorem State.clrBits_blocks (a : Nat) (f : Fld) (b : Nat) : (s.clrBits a f b).blocks = s.blocks := rfl
@[simp] theorem State.clrBits_well (a : Nat) (f : Fld) (b : Nat) : (s.clrBits a f b).well = s.well := rfl
@[simp] theorem State.clrBits_line (a : Nat) (f : Fld) (b : Nat) : (s.clrBits a f b).line = s.line := rfl
@[simp] theorem State.clrBits_rx (a : Nat) (f : Fld) (b : Nat) : (s.clrBits a f b).rx = s.rx := rfl
@[simp] theorem State.clrBits_sig (a : Nat) (f : Fld) (b : Nat) : (s.clrBits a f b).sig = s.sig := rfl
@[simp] theorem State.clrBits_frm (a : Nat) (f : Fld) (b : Nat) : (s.clrBits a f b).frm = s.frm := rfl
@[simp] theorem State.clrBits_cores (a : Nat) (f : Fld) (b : Nat) : (s.clrBits a f b).cores = s.cores := rfl
@[simp] theorem State.clrBits_atlas (a : Nat) (f : Fld) (b : Nat) : (s.clrBits a f b).atlas = s.atlas := rfl
@[simp] theorem State.clrBits_seepLn (a : Nat) (f : Fld) (b : Nat) : (s.clrBits a f b).seepLn = s.seepLn := rfl
@[simp] theorem State.clrBits_seep (a : Nat) (f : Fld) (b : Nat) : (s.clrBits a f b).seep = s.seep := rfl
@[simp] theorem State.clrBits_host (a : Nat) (f : Fld) (b : Nat) : (s.clrBits a f b).host = s.host := rfl
@[simp] theorem State.clrBits_cis (a : Nat) (f : Fld) (b : Nat) : (s.clrBits a f b).cis = s.cis := rfl
@[simp] theorem State.clrBits_light (a : Nat) (f : Fld) (b : Nat) : (s.clrBits a f b).light = s.light := rfl
@[simp] theorem State.clrBits_txdisHigh (a : Nat) (f : Fld) (b : Nat) : (s.clrBits a f b).txdisHigh = s.txdisHigh := rfl
@[simp] theorem State.clrBits_txdisOk (a : Nat) (f : Fld) (b : Nat) : (s.clrBits a f b).txdisOk = s.txdisOk := rfl
@[simp] theorem State.clrBits_vent (a : Nat) (f : Fld) (b : Nat) : (s.clrBits a f b).vent = s.vent := rfl
@[simp] theorem State.clrBits_inReset (a : Nat) (f : Fld) (b : Nat) : (s.clrBits a f b).inReset = s.inReset := rfl
@[simp] theorem State.clrBits_rails (a : Nat) (f : Fld) (b : Nat) : (s.clrBits a f b).rails = s.rails := rfl
@[simp] theorem State.clrBits_pumps (a : Nat) (f : Fld) (b : Nat) : (s.clrBits a f b).pumps = s.pumps := rfl
@[simp] theorem State.clrBits_stagedPumps (a : Nat) (f : Fld) (b : Nat) : (s.clrBits a f b).stagedPumps = s.stagedPumps := rfl
@[simp] theorem State.clrBits_rpr (a : Nat) (f : Fld) (b : Nat) : (s.clrBits a f b).rpr = s.rpr := rfl
@[simp] theorem State.clrBits_fuse (a : Nat) (f : Fld) (b : Nat) : (s.clrBits a f b).fuse = s.fuse := rfl
@[simp] theorem State.clrBits_boot (a : Nat) (f : Fld) (b : Nat) : (s.clrBits a f b).boot = s.boot := rfl
@[simp] theorem State.clrBits_port (a : Nat) (f : Fld) (b : Nat) : (s.clrBits a f b).port = s.port := rfl
@[simp] theorem State.clrBits_mbx (a : Nat) (f : Fld) (b : Nat) : (s.clrBits a f b).mbx = s.mbx := rfl
@[simp] theorem State.clrBits_kic (a : Nat) (f : Fld) (b : Nat) : (s.clrBits a f b).kic = s.kic := rfl
@[simp] theorem State.clrBits_pwr (a : Nat) (f : Fld) (b : Nat) : (s.clrBits a f b).pwr = s.pwr := rfl
@[simp] theorem State.clrBits_saf (a : Nat) (f : Fld) (b : Nat) : (s.clrBits a f b).saf = s.saf := rfl
@[simp] theorem State.clrBits_thm (a : Nat) (f : Fld) (b : Nat) : (s.clrBits a f b).thm = s.thm := rfl
@[simp] theorem State.clrBits_mon (a : Nat) (f : Fld) (b : Nat) : (s.clrBits a f b).mon = s.mon := rfl
@[simp] theorem State.clrBits_sec (a : Nat) (f : Fld) (b : Nat) : (s.clrBits a f b).sec = s.sec := rfl
@[simp] theorem State.clrBits_resp (a : Nat) (f : Fld) (b : Nat) : (s.clrBits a f b).resp = s.resp := rfl
@[simp] theorem State.clrBits_pending (a : Nat) (f : Fld) (b : Nat) : (s.clrBits a f b).pending = s.pending := rfl

/-! ### setByte -/

@[simp] theorem State.setByte_regs (a : Nat) (b : Byte) : (s.setByte a b).regs = s.regs := rfl
@[simp] theorem State.setByte_act (a : Nat) (b : Byte) : (s.setByte a b).act = s.act := rfl
@[simp] theorem State.setByte_now (a : Nat) (b : Byte) : (s.setByte a b).now = s.now := rfl
@[simp] theorem State.setByte_freeCtr (a : Nat) (b : Byte) : (s.setByte a b).freeCtr = s.freeCtr := rfl
@[simp] theorem State.setByte_jq (a : Nat) (b : Byte) : (s.setByte a b).jq = s.jq := rfl
@[simp] theorem State.setByte_jLostPend (a : Nat) (b : Byte) : (s.setByte a b).jLostPend = s.jLostPend := rfl
@[simp] theorem State.setByte_tod (a : Nat) (b : Byte) : (s.setByte a b).tod = s.tod := rfl
@[simp] theorem State.setByte_region (a : Nat) (b : Byte) : (s.setByte a b).region = s.region := rfl
@[simp] theorem State.setByte_blocks (a : Nat) (b : Byte) : (s.setByte a b).blocks = s.blocks := rfl
@[simp] theorem State.setByte_well (a : Nat) (b : Byte) : (s.setByte a b).well = s.well := rfl
@[simp] theorem State.setByte_line (a : Nat) (b : Byte) : (s.setByte a b).line = s.line := rfl
@[simp] theorem State.setByte_rx (a : Nat) (b : Byte) : (s.setByte a b).rx = s.rx := rfl
@[simp] theorem State.setByte_sig (a : Nat) (b : Byte) : (s.setByte a b).sig = s.sig := rfl
@[simp] theorem State.setByte_frm (a : Nat) (b : Byte) : (s.setByte a b).frm = s.frm := rfl
@[simp] theorem State.setByte_cores (a : Nat) (b : Byte) : (s.setByte a b).cores = s.cores := rfl
@[simp] theorem State.setByte_atlas (a : Nat) (b : Byte) : (s.setByte a b).atlas = s.atlas := rfl
@[simp] theorem State.setByte_seepLn (a : Nat) (b : Byte) : (s.setByte a b).seepLn = s.seepLn := rfl
@[simp] theorem State.setByte_seep (a : Nat) (b : Byte) : (s.setByte a b).seep = s.seep := rfl
@[simp] theorem State.setByte_host (a : Nat) (b : Byte) : (s.setByte a b).host = s.host := rfl
@[simp] theorem State.setByte_cis (a : Nat) (b : Byte) : (s.setByte a b).cis = s.cis := rfl
@[simp] theorem State.setByte_light (a : Nat) (b : Byte) : (s.setByte a b).light = s.light := rfl
@[simp] theorem State.setByte_txdisHigh (a : Nat) (b : Byte) : (s.setByte a b).txdisHigh = s.txdisHigh := rfl
@[simp] theorem State.setByte_txdisOk (a : Nat) (b : Byte) : (s.setByte a b).txdisOk = s.txdisOk := rfl
@[simp] theorem State.setByte_vent (a : Nat) (b : Byte) : (s.setByte a b).vent = s.vent := rfl
@[simp] theorem State.setByte_inReset (a : Nat) (b : Byte) : (s.setByte a b).inReset = s.inReset := rfl
@[simp] theorem State.setByte_rails (a : Nat) (b : Byte) : (s.setByte a b).rails = s.rails := rfl
@[simp] theorem State.setByte_pumps (a : Nat) (b : Byte) : (s.setByte a b).pumps = s.pumps := rfl
@[simp] theorem State.setByte_stagedPumps (a : Nat) (b : Byte) : (s.setByte a b).stagedPumps = s.stagedPumps := rfl
@[simp] theorem State.setByte_rpr (a : Nat) (b : Byte) : (s.setByte a b).rpr = s.rpr := rfl
@[simp] theorem State.setByte_fuse (a : Nat) (b : Byte) : (s.setByte a b).fuse = s.fuse := rfl
@[simp] theorem State.setByte_boot (a : Nat) (b : Byte) : (s.setByte a b).boot = s.boot := rfl
@[simp] theorem State.setByte_port (a : Nat) (b : Byte) : (s.setByte a b).port = s.port := rfl
@[simp] theorem State.setByte_mbx (a : Nat) (b : Byte) : (s.setByte a b).mbx = s.mbx := rfl
@[simp] theorem State.setByte_kic (a : Nat) (b : Byte) : (s.setByte a b).kic = s.kic := rfl
@[simp] theorem State.setByte_pwr (a : Nat) (b : Byte) : (s.setByte a b).pwr = s.pwr := rfl
@[simp] theorem State.setByte_saf (a : Nat) (b : Byte) : (s.setByte a b).saf = s.saf := rfl
@[simp] theorem State.setByte_thm (a : Nat) (b : Byte) : (s.setByte a b).thm = s.thm := rfl
@[simp] theorem State.setByte_mon (a : Nat) (b : Byte) : (s.setByte a b).mon = s.mon := rfl
@[simp] theorem State.setByte_sec (a : Nat) (b : Byte) : (s.setByte a b).sec = s.sec := rfl
@[simp] theorem State.setByte_resp (a : Nat) (b : Byte) : (s.setByte a b).resp = s.resp := rfl
@[simp] theorem State.setByte_pending (a : Nat) (b : Byte) : (s.setByte a b).pending = s.pending := rfl

/-! ### clearBytes -/

@[simp] theorem State.clearBytes_regs (lo hi : Nat) : (s.clearBytes lo hi).regs = s.regs := rfl
@[simp] theorem State.clearBytes_act (lo hi : Nat) : (s.clearBytes lo hi).act = s.act := rfl
@[simp] theorem State.clearBytes_now (lo hi : Nat) : (s.clearBytes lo hi).now = s.now := rfl
@[simp] theorem State.clearBytes_freeCtr (lo hi : Nat) : (s.clearBytes lo hi).freeCtr = s.freeCtr := rfl
@[simp] theorem State.clearBytes_jq (lo hi : Nat) : (s.clearBytes lo hi).jq = s.jq := rfl
@[simp] theorem State.clearBytes_jLostPend (lo hi : Nat) : (s.clearBytes lo hi).jLostPend = s.jLostPend := rfl
@[simp] theorem State.clearBytes_tod (lo hi : Nat) : (s.clearBytes lo hi).tod = s.tod := rfl
@[simp] theorem State.clearBytes_region (lo hi : Nat) : (s.clearBytes lo hi).region = s.region := rfl
@[simp] theorem State.clearBytes_blocks (lo hi : Nat) : (s.clearBytes lo hi).blocks = s.blocks := rfl
@[simp] theorem State.clearBytes_well (lo hi : Nat) : (s.clearBytes lo hi).well = s.well := rfl
@[simp] theorem State.clearBytes_line (lo hi : Nat) : (s.clearBytes lo hi).line = s.line := rfl
@[simp] theorem State.clearBytes_rx (lo hi : Nat) : (s.clearBytes lo hi).rx = s.rx := rfl
@[simp] theorem State.clearBytes_sig (lo hi : Nat) : (s.clearBytes lo hi).sig = s.sig := rfl
@[simp] theorem State.clearBytes_frm (lo hi : Nat) : (s.clearBytes lo hi).frm = s.frm := rfl
@[simp] theorem State.clearBytes_cores (lo hi : Nat) : (s.clearBytes lo hi).cores = s.cores := rfl
@[simp] theorem State.clearBytes_atlas (lo hi : Nat) : (s.clearBytes lo hi).atlas = s.atlas := rfl
@[simp] theorem State.clearBytes_seepLn (lo hi : Nat) : (s.clearBytes lo hi).seepLn = s.seepLn := rfl
@[simp] theorem State.clearBytes_seep (lo hi : Nat) : (s.clearBytes lo hi).seep = s.seep := rfl
@[simp] theorem State.clearBytes_host (lo hi : Nat) : (s.clearBytes lo hi).host = s.host := rfl
@[simp] theorem State.clearBytes_cis (lo hi : Nat) : (s.clearBytes lo hi).cis = s.cis := rfl
@[simp] theorem State.clearBytes_light (lo hi : Nat) : (s.clearBytes lo hi).light = s.light := rfl
@[simp] theorem State.clearBytes_txdisHigh (lo hi : Nat) : (s.clearBytes lo hi).txdisHigh = s.txdisHigh := rfl
@[simp] theorem State.clearBytes_txdisOk (lo hi : Nat) : (s.clearBytes lo hi).txdisOk = s.txdisOk := rfl
@[simp] theorem State.clearBytes_vent (lo hi : Nat) : (s.clearBytes lo hi).vent = s.vent := rfl
@[simp] theorem State.clearBytes_inReset (lo hi : Nat) : (s.clearBytes lo hi).inReset = s.inReset := rfl
@[simp] theorem State.clearBytes_rails (lo hi : Nat) : (s.clearBytes lo hi).rails = s.rails := rfl
@[simp] theorem State.clearBytes_pumps (lo hi : Nat) : (s.clearBytes lo hi).pumps = s.pumps := rfl
@[simp] theorem State.clearBytes_stagedPumps (lo hi : Nat) : (s.clearBytes lo hi).stagedPumps = s.stagedPumps := rfl
@[simp] theorem State.clearBytes_rpr (lo hi : Nat) : (s.clearBytes lo hi).rpr = s.rpr := rfl
@[simp] theorem State.clearBytes_fuse (lo hi : Nat) : (s.clearBytes lo hi).fuse = s.fuse := rfl
@[simp] theorem State.clearBytes_boot (lo hi : Nat) : (s.clearBytes lo hi).boot = s.boot := rfl
@[simp] theorem State.clearBytes_port (lo hi : Nat) : (s.clearBytes lo hi).port = s.port := rfl
@[simp] theorem State.clearBytes_mbx (lo hi : Nat) : (s.clearBytes lo hi).mbx = s.mbx := rfl
@[simp] theorem State.clearBytes_kic (lo hi : Nat) : (s.clearBytes lo hi).kic = s.kic := rfl
@[simp] theorem State.clearBytes_pwr (lo hi : Nat) : (s.clearBytes lo hi).pwr = s.pwr := rfl
@[simp] theorem State.clearBytes_saf (lo hi : Nat) : (s.clearBytes lo hi).saf = s.saf := rfl
@[simp] theorem State.clearBytes_thm (lo hi : Nat) : (s.clearBytes lo hi).thm = s.thm := rfl
@[simp] theorem State.clearBytes_mon (lo hi : Nat) : (s.clearBytes lo hi).mon = s.mon := rfl
@[simp] theorem State.clearBytes_sec (lo hi : Nat) : (s.clearBytes lo hi).sec = s.sec := rfl
@[simp] theorem State.clearBytes_resp (lo hi : Nat) : (s.clearBytes lo hi).resp = s.resp := rfl
@[simp] theorem State.clearBytes_pending (lo hi : Nat) : (s.clearBytes lo hi).pending = s.pending := rfl

/-! ### What a register holds -/

@[simp] theorem State.reg_setReg (a : Nat) (w : Word) : (s.setReg a w).reg a = w := sget_sput_same _ _ _ _

theorem State.reg_setReg_ne {a b : Nat} (h : b ≠ a) (w : Word) : (s.setReg a w).reg b = s.reg b := sget_sput_ne _ _ h _ _

@[simp] theorem State.actReg_setActReg (k : Nat) (w : Word) : (s.setActReg k w).actReg k = w := sget_sput_same _ _ _ _

theorem State.actReg_setActReg_ne {k j : Nat} (h : j ≠ k) (w : Word) : (s.setActReg k w).actReg j = s.actReg j :=
  sget_sput_ne _ _ h _ _

@[simp] theorem State.reg_setActReg (k a : Nat) (w : Word) : (s.setActReg k w).reg a = s.reg a := rfl
@[simp] theorem State.actReg_setReg (k a : Nat) (w : Word) : (s.setReg a w).actReg k = s.actReg k := rfl
@[simp] theorem State.reg_setActFld (k a : Nat) (f : Fld) (v : Nat) : (s.setActFld k f v).reg a = s.reg a := rfl
@[simp] theorem State.actReg_setFld (k a : Nat) (f : Fld) (v : Nat) : (s.setFld a f v).actReg k = s.actReg k := rfl
@[simp] theorem State.fld_setActFld (k a : Nat) (f g : Fld) (v : Nat) : (s.setActFld k f v).fld a g = s.fld a g := rfl
@[simp] theorem State.reg_setByte (a b : Nat) (x : Byte) : (s.setByte b x).reg a = s.reg a := rfl

theorem State.reg_setFld_ne {a b : Nat} (h : b ≠ a) (f : Fld) (v : Nat) : (s.setFld a f v).reg b = s.reg b :=
  s.reg_setReg_ne h _

/-- The field that is set holds the value. -/
theorem State.fld_setFld (a : Nat) (f : Fld) (v : Nat) (h : f.fits) : (s.setFld a f v).fld a f = v % 2 ^ f.w := by
  simp only [State.fld, State.setFld, State.reg_setReg]; exact get_put_same f _ v h

/-- A field of another register stays. -/
theorem State.fld_setFld_ne {a b : Nat} (h : b ≠ a) (f g : Fld) (v : Nat) : (s.setFld a f v).fld b g = s.fld b g := by
  simp only [State.fld, State.reg_setFld_ne s h]

/-- A field of the same register that shares no bit with it stays. -/
theorem State.fld_setFld_apart (a : Nat) (f g : Fld) (v : Nat) (h : f.fits) (hg : f.apart g) :
    (s.setFld a f v).fld a g = s.fld a g := by
  simp only [State.fld, State.setFld, State.reg_setReg]; exact get_put_apart f g _ v h hg

/-! ### Bytes of the cistern -/

@[simp] theorem State.byte_setByte (a : Nat) (b : Byte) : (s.setByte a b).byte a = b := sget_sput_same _ _ _ _

theorem State.byte_setByte_ne {a c : Nat} (h : c ≠ a) (b : Byte) : (s.setByte a b).byte c = s.byte c := sget_sput_ne _ _ h _ _

theorem State.setByte_wf {s : State} (a : Nat) (b : Byte) (h : Memory.wf s.mem = true) : Memory.wf (s.setByte a b).mem = true :=
  swf_sput a b h

theorem State.setBytesNat_wf (k : Nat) : ∀ (s : State) (a v : Nat), Memory.wf s.mem = true →
    Memory.wf (s.setBytesNat a v k).mem = true := by
  induction k with
  | zero => intro s a v h; exact h
  | succ k ih => intro s a v h; exact ih _ _ _ (State.setByte_wf a _ h)

theorem State.clearBytes_wf {s : State} (lo hi : Nat) (h : Memory.wf s.mem = true) : Memory.wf (s.clearBytes lo hi).mem = true :=
  swf_filter _ h

theorem State.reset_mem_wf : Memory.wf State.reset.mem = true := rfl

end Sys2Proof.Machine
end

