-- ==== Sys2Proof/Laws/Ops.lean ====
section
/-!
SUPPORT. One lemma per shared operation: the journal, event flags, the answers, the outcome of a command and the step.
-/
namespace Sys2Proof.Machine

variable (s : State)

/-! ### The journal -/

/-- A register depends on the register map alone. -/
theorem State.reg_of_regs {s t : State} (h : t.regs = s.regs) (a : Nat) : t.reg a = s.reg a := by
  simp only [State.reg, h]

theorem State.reg_jLose {a : Nat} (h : a ≠ R.SAF_JNL_STATUS) : s.jLose.reg a = s.reg a := by
  refine (State.reg_of_regs (s := (s.addSat R.SAF_JNL_STATUS F.SAF_JNL_STATUS_LOST 1).setFld R.SAF_JNL_STATUS
    F.SAF_JNL_STATUS_LOST_EV 1) (by simp only [State.jLose]) a).trans ?_
  rw [State.reg_setFld_ne _ h, State.addSat, State.reg_setFld_ne _ h]

/-- The journal writes no register but SAF_JNL_STATUS. -/
theorem State.reg_journalAt {a : Nat} (h : a ≠ R.SAF_JNL_STATUS) (src c p : Nat) : (s.journalAt src c p).reg a = s.reg a := by
  unfold State.journalAt
  split
  · exact s.reg_jLose h
  · dsimp only
    split
    · exact State.reg_of_regs rfl a
    · split
      · exact (State.reg_jLose _ h).trans (State.reg_of_regs rfl a)
      · exact State.reg_of_regs rfl a

theorem State.reg_journal {a : Nat} (h : a ≠ R.SAF_JNL_STATUS) (c p : Nat) : (s.journal c p).reg a = s.reg a :=
  s.reg_journalAt h _ c p

/-- The queue never holds more than 32 entries. -/
theorem State.journalAt_length (src c p : Nat) (h : s.jq.length ≤ 32) : (s.journalAt src c p).jq.length ≤ 32 := by
  unfold State.journalAt
  split
  · simpa [State.jLose] using h
  · dsimp only
    split
    · simp; omega
    · split
      · simp [State.jLose]; omega
      · rename_i _ _ hlt; simp at hlt ⊢; omega

/-! ### Event flags -/

/-- A flag that hardware sets holds its old bits and the new ones. -/
theorem State.fld_raise {a : Nat} (ha : a ≠ R.SAF_JNL_STATUS) (f : Fld) (bits id : Nat) (h : f.fits) :
    (s.raise a f bits id).fld a f = Nat.lor (s.fld a f) bits % 2 ^ f.w := by
  have e : ∀ t : State, (t.journal id (t.reg a).toNat).fld a f = t.fld a f := by
    intro t; simp only [State.fld, State.reg_journal t ha]
  simp only [State.raise]
  split <;> simp only [e, s.fld_setFld a f _ h]

/-- Raising a flag leaves every other register but SAF_JNL_STATUS. -/
theorem State.reg_raise {a b : Nat} (hb : b ≠ a) (hj : b ≠ R.SAF_JNL_STATUS) (f : Fld) (bits id : Nat) :
    (s.raise a f bits id).reg b = s.reg b := by
  simp only [State.raise]
  split
  · exact s.reg_setFld_ne hb _ _
  · rw [State.reg_journal _ hj]; exact s.reg_setFld_ne hb _ _

theorem State.flag_raise1 {a : Nat} (ha : a ≠ R.SAF_JNL_STATUS) (f : Fld) (id : Nat) (h : f.fits) (hw : f.w = 1) :
    (s.raise1 a f id).flag a f = true := by
  have e := s.fld_raise ha f 1 id h
  have b : s.fld a f < 2 := by
    have := Nat.mod_lt ((s.reg a).toNat / 2 ^ f.lo) (show 0 < 2 ^ f.w by positivity)
    rw [hw] at this; simpa [State.fld, Fld.get, hw] using this
  simp only [State.flag, State.raise1, e, hw]
  interval_cases (s.fld a f) <;> decide

/-! ### Outcomes and steps -/

theorem exec_outcome {g : State → State} (h : Running s) :
    outcome s g = .next { follow s (g s) with pending := s.pending } := by
  simp [outcome, after, show s.inReset = false from h]

/-- In reset a command of the device's inside or of its ports has no effect of its own. -/
theorem outcome_in_reset {g : State → State} (h : s.inReset = true) :
    outcome s g = .next { follow s s with pending := s.pending } := by
  simp [outcome, after, h]

theorem step_cons (c : Instr) (l : List Instr) : step { s with pending := c :: l } = exec c { s with pending := l } := rfl

theorem step_nil (h : s.pending = []) : step s = idle s := by simp [step, h]

/-! ### Accesses -/

/-- With no word in a write queue an access has its turn at once. -/
theorem fabricTurn_idle {o : Origin} (h : wordsWait s = false) : fabricTurn o s = s := by
  simp only [wordsWait, Bool.or_eq_false_iff, Bool.not_eq_false', List.isEmpty_iff] at h
  simp [fabricTurn, fabricWait, h.1, h.2]

/-- A write that passes every step does what its register does. -/
theorem busWrite_fits {o : Origin} {a : Nat} {w : Word} (h : WriteFits o a w s = true) :
    busWrite o a 4 w false s = (.ok, accepted o a w s) := by
  simp only [WriteFits, Bool.and_eq_true, Option.isNone_iff_eq_none, Bool.not_eq_true'] at h
  obtain ⟨⟨⟨⟨_, ha⟩, hap⟩, ht⟩, hl⟩ := h
  cases hr : specAt a with
  | none => simp [hr] at hl
  | some r =>
    have hl' : lockHit s r a w = false := by simpa [hr] using hl
    simp [busWrite, ha, hap, regWrite, hr, ht, hl', accepted, stored]

/-- An accepted write is answered OK and does what its register does. -/
theorem writeAs_ok {o : Origin} {a : Nat} {w : Word} (h : WriteOk o a w s = true) :
    writeAs o a 4 w s = answeredOk s o (accepted o a w s) := by
  simp only [WriteOk, Bool.and_eq_true, Bool.not_eq_true'] at h
  have er : ∀ x : State, recordFor o .ok a x = x := by intro x; cases o <;> simp [recordFor, recordErr]
  simp [writeAs, writeNow, fabricTurn_idle s h.1, busWrite_fits s h.2, er, answeredOk]

/-- A refused access records its code and changes no other register, memory or queue. -/
theorem recordFor_mem (o : Origin) (c : Code) (a : Nat) : (recordFor o c a s).mem = s.mem := by
  have e : ∀ p : Fin 3, (recordErr p c a s).mem = s.mem := by
    intro p
    have j : ∀ (t : State) (x y : Nat), (t.journal x y).mem = t.mem := by
      intro t x y
      simp only [State.journal, State.journalAt]
      split
      · simp [State.jLose]
      · split
        · rfl
        · split <;> simp [State.jLose]
    simp only [recordErr]
    split
    · rfl
    · simp only [State.raise1, State.raise]
      split <;> split <;> simp [j]
  cases o <;> simp [recordFor, e]

end Sys2Proof.Machine
end

