-- ==== Sys2Proof/Laws/Units.lean ====
section
/-!
SUPPORT. What each update of one unit's state leaves and what it sets: one lemma per field of the state per update, and what a register
and a field read afterwards.
-/
namespace Sys2Proof.Machine

variable (s : State)

/-! ### A place of a vector -/

@[simp] theorem vmod_same {α : Type} {k : Nat} (v : Vector α k) (i : Fin k) (g : α → α) : (vmod v i g)[i] = g v[i] := by
  simp [vmod]

theorem vmod_ne {α : Type} {k : Nat} (v : Vector α k) {i j : Fin k} (h : j ≠ i) (g : α → α) : (vmod v i g)[j] = v[j] := by
  have : i.val ≠ j.val := fun e => h (Fin.ext e.symm)
  simp [vmod, this]

/-! ### One update per lane -/

/-- What each lane's update keeps, the updates of all lanes keep. -/
theorem forLanes_keeps (P : State → Prop) {g : Fin 8 → State → State} (h : ∀ n t, P t → P (g n t)) {s : State} (hs : P s) :
    P (forLanes g s) := by
  unfold forLanes
  generalize List.finRange 8 = l
  induction l generalizing s with
  | nil => exact hs
  | cons n l ih => exact ih (h n s hs)

/-- A block's entry after its update. -/
theorem blockSt_modBlock_same (b : Block) (g : BlockSt → BlockSt) (hb : (g (blockSt s b)).block = b) :
    blockSt (modBlock b g s) b = g (blockSt s b) := by
  have h : (g (blockSt s b)).block == b := by simp [hb]
  have e : (modBlock b g s).blocks.find? (fun x => x.block == b) = some (g (blockSt s b)) := List.find?_cons_of_pos h
  exact congrArg (fun o => o.getD { block := b }) e

/-! ### modLine -/

@[simp] theorem modLine_regs (n : Fin 8) (g : LineSt → LineSt) : (modLine n g s).regs = s.regs := rfl
@[simp] theorem modLine_act (n : Fin 8) (g : LineSt → LineSt) : (modLine n g s).act = s.act := rfl
@[simp] theorem modLine_mem (n : Fin 8) (g : LineSt → LineSt) : (modLine n g s).mem = s.mem := rfl
@[simp] theorem modLine_now (n : Fin 8) (g : LineSt → LineSt) : (modLine n g s).now = s.now := rfl
@[simp] theorem modLine_freeCtr (n : Fin 8) (g : LineSt → LineSt) : (modLine n g s).freeCtr = s.freeCtr := rfl
@[simp] theorem modLine_jq (n : Fin 8) (g : LineSt → LineSt) : (modLine n g s).jq = s.jq := rfl
@[simp] theorem modLine_jLostPend (n : Fin 8) (g : LineSt → LineSt) : (modLine n g s).jLostPend = s.jLostPend := rfl
@[simp] theorem modLine_tod (n : Fin 8) (g : LineSt → LineSt) : (modLine n g s).tod = s.tod := rfl
@[simp] theorem modLine_region (n : Fin 8) (g : LineSt → LineSt) : (modLine n g s).region = s.region := rfl
@[simp] theorem modLine_blocks (n : Fin 8) (g : LineSt → LineSt) : (modLine n g s).blocks = s.blocks := rfl
@[simp] theorem modLine_well (n : Fin 8) (g : LineSt → LineSt) : (modLine n g s).well = s.well := rfl
@[simp] theorem modLine_line (n : Fin 8) (g : LineSt → LineSt) : (modLine n g s).line = vmod s.line n g := rfl
@[simp] theorem modLine_rx (n : Fin 8) (g : LineSt → LineSt) : (modLine n g s).rx = s.rx := rfl
@[simp] theorem modLine_sig (n : Fin 8) (g : LineSt → LineSt) : (modLine n g s).sig = s.sig := rfl
@[simp] theorem modLine_frm (n : Fin 8) (g : LineSt → LineSt) : (modLine n g s).frm = s.frm := rfl
@[simp] theorem modLine_cores (n : Fin 8) (g : LineSt → LineSt) : (modLine n g s).cores = s.cores := rfl
@[simp] theorem modLine_atlas (n : Fin 8) (g : LineSt → LineSt) : (modLine n g s).atlas = s.atlas := rfl
@[simp] theorem modLine_seepLn (n : Fin 8) (g : LineSt → LineSt) : (modLine n g s).seepLn = s.seepLn := rfl
@[simp] theorem modLine_seep (n : Fin 8) (g : LineSt → LineSt) : (modLine n g s).seep = s.seep := rfl
@[simp] theorem modLine_host (n : Fin 8) (g : LineSt → LineSt) : (modLine n g s).host = s.host := rfl
@[simp] theorem modLine_cis (n : Fin 8) (g : LineSt → LineSt) : (modLine n g s).cis = s.cis := rfl
@[simp] theorem modLine_light (n : Fin 8) (g : LineSt → LineSt) : (modLine n g s).light = s.light := rfl
@[simp] theorem modLine_txdisHigh (n : Fin 8) (g : LineSt → LineSt) : (modLine n g s).txdisHigh = s.txdisHigh := rfl
@[simp] theorem modLine_txdisOk (n : Fin 8) (g : LineSt → LineSt) : (modLine n g s).txdisOk = s.txdisOk := rfl
@[simp] theorem modLine_vent (n : Fin 8) (g : LineSt → LineSt) : (modLine n g s).vent = s.vent := rfl
@[simp] theorem modLine_inReset (n : Fin 8) (g : LineSt → LineSt) : (modLine n g s).inReset = s.inReset := rfl
@[simp] theorem modLine_rails (n : Fin 8) (g : LineSt → LineSt) : (modLine n g s).rails = s.rails := rfl
@[simp] theorem modLine_pumps (n : Fin 8) (g : LineSt → LineSt) : (modLine n g s).pumps = s.pumps := rfl
@[simp] theorem modLine_stagedPumps (n : Fin 8) (g : LineSt → LineSt) : (modLine n g s).stagedPumps = s.stagedPumps := rfl
@[simp] theorem modLine_rpr (n : Fin 8) (g : LineSt → LineSt) : (modLine n g s).rpr = s.rpr := rfl
@[simp] theorem modLine_fuse (n : Fin 8) (g : LineSt → LineSt) : (modLine n g s).fuse = s.fuse := rfl
@[simp] theorem modLine_boot (n : Fin 8) (g : LineSt → LineSt) : (modLine n g s).boot = s.boot := rfl
@[simp] theorem modLine_port (n : Fin 8) (g : LineSt → LineSt) : (modLine n g s).port = s.port := rfl
@[simp] theorem modLine_mbx (n : Fin 8) (g : LineSt → LineSt) : (modLine n g s).mbx = s.mbx := rfl
@[simp] theorem modLine_kic (n : Fin 8) (g : LineSt → LineSt) : (modLine n g s).kic = s.kic := rfl
@[simp] theorem modLine_pwr (n : Fin 8) (g : LineSt → LineSt) : (modLine n g s).pwr = s.pwr := rfl
@[simp] theorem modLine_saf (n : Fin 8) (g : LineSt → LineSt) : (modLine n g s).saf = s.saf := rfl
@[simp] theorem modLine_thm (n : Fin 8) (g : LineSt → LineSt) : (modLine n g s).thm = s.thm := rfl
@[simp] theorem modLine_mon (n : Fin 8) (g : LineSt → LineSt) : (modLine n g s).mon = s.mon := rfl
@[simp] theorem modLine_sec (n : Fin 8) (g : LineSt → LineSt) : (modLine n g s).sec = s.sec := rfl
@[simp] theorem modLine_resp (n : Fin 8) (g : LineSt → LineSt) : (modLine n g s).resp = s.resp := rfl
@[simp] theorem modLine_pending (n : Fin 8) (g : LineSt → LineSt) : (modLine n g s).pending = s.pending := rfl
@[simp] theorem modLine_reg (n : Fin 8) (g : LineSt → LineSt) (a : Nat) : (modLine n g s).reg a = s.reg a := rfl
@[simp] theorem modLine_fld (n : Fin 8) (g : LineSt → LineSt) (a : Nat) (f : Fld) : (modLine n g s).fld a f = s.fld a f := rfl

/-! ### modRx -/

@[simp] theorem modRx_regs (n : Fin 8) (g : RxSt → RxSt) : (modRx n g s).regs = s.regs := rfl
@[simp] theorem modRx_act (n : Fin 8) (g : RxSt → RxSt) : (modRx n g s).act = s.act := rfl
@[simp] theorem modRx_mem (n : Fin 8) (g : RxSt → RxSt) : (modRx n g s).mem = s.mem := rfl
@[simp] theorem modRx_now (n : Fin 8) (g : RxSt → RxSt) : (modRx n g s).now = s.now := rfl
@[simp] theorem modRx_freeCtr (n : Fin 8) (g : RxSt → RxSt) : (modRx n g s).freeCtr = s.freeCtr := rfl
@[simp] theorem modRx_jq (n : Fin 8) (g : RxSt → RxSt) : (modRx n g s).jq = s.jq := rfl
@[simp] theorem modRx_jLostPend (n : Fin 8) (g : RxSt → RxSt) : (modRx n g s).jLostPend = s.jLostPend := rfl
@[simp] theorem modRx_tod (n : Fin 8) (g : RxSt → RxSt) : (modRx n g s).tod = s.tod := rfl
@[simp] theorem modRx_region (n : Fin 8) (g : RxSt → RxSt) : (modRx n g s).region = s.region := rfl
@[simp] theorem modRx_blocks (n : Fin 8) (g : RxSt → RxSt) : (modRx n g s).blocks = s.blocks := rfl
@[simp] theorem modRx_well (n : Fin 8) (g : RxSt → RxSt) : (modRx n g s).well = s.well := rfl
@[simp] theorem modRx_line (n : Fin 8) (g : RxSt → RxSt) : (modRx n g s).line = s.line := rfl
@[simp] theorem modRx_rx (n : Fin 8) (g : RxSt → RxSt) : (modRx n g s).rx = vmod s.rx n g := rfl
@[simp] theorem modRx_sig (n : Fin 8) (g : RxSt → RxSt) : (modRx n g s).sig = s.sig := rfl
@[simp] theorem modRx_frm (n : Fin 8) (g : RxSt → RxSt) : (modRx n g s).frm = s.frm := rfl
@[simp] theorem modRx_cores (n : Fin 8) (g : RxSt → RxSt) : (modRx n g s).cores = s.cores := rfl
@[simp] theorem modRx_atlas (n : Fin 8) (g : RxSt → RxSt) : (modRx n g s).atlas = s.atlas := rfl
@[simp] theorem modRx_seepLn (n : Fin 8) (g : RxSt → RxSt) : (modRx n g s).seepLn = s.seepLn := rfl
@[simp] theorem modRx_seep (n : Fin 8) (g : RxSt → RxSt) : (modRx n g s).seep = s.seep := rfl
@[simp] theorem modRx_host (n : Fin 8) (g : RxSt → RxSt) : (modRx n g s).host = s.host := rfl
@[simp] theorem modRx_cis (n : Fin 8) (g : RxSt → RxSt) : (modRx n g s).cis = s.cis := rfl
@[simp] theorem modRx_light (n : Fin 8) (g : RxSt → RxSt) : (modRx n g s).light = s.light := rfl
@[simp] theorem modRx_txdisHigh (n : Fin 8) (g : RxSt → RxSt) : (modRx n g s).txdisHigh = s.txdisHigh := rfl
@[simp] theorem modRx_txdisOk (n : Fin 8) (g : RxSt → RxSt) : (modRx n g s).txdisOk = s.txdisOk := rfl
@[simp] theorem modRx_vent (n : Fin 8) (g : RxSt → RxSt) : (modRx n g s).vent = s.vent := rfl
@[simp] theorem modRx_inReset (n : Fin 8) (g : RxSt → RxSt) : (modRx n g s).inReset = s.inReset := rfl
@[simp] theorem modRx_rails (n : Fin 8) (g : RxSt → RxSt) : (modRx n g s).rails = s.rails := rfl
@[simp] theorem modRx_pumps (n : Fin 8) (g : RxSt → RxSt) : (modRx n g s).pumps = s.pumps := rfl
@[simp] theorem modRx_stagedPumps (n : Fin 8) (g : RxSt → RxSt) : (modRx n g s).stagedPumps = s.stagedPumps := rfl
@[simp] theorem modRx_rpr (n : Fin 8) (g : RxSt → RxSt) : (modRx n g s).rpr = s.rpr := rfl
@[simp] theorem modRx_fuse (n : Fin 8) (g : RxSt → RxSt) : (modRx n g s).fuse = s.fuse := rfl
@[simp] theorem modRx_boot (n : Fin 8) (g : RxSt → RxSt) : (modRx n g s).boot = s.boot := rfl
@[simp] theorem modRx_port (n : Fin 8) (g : RxSt → RxSt) : (modRx n g s).port = s.port := rfl
@[simp] theorem modRx_mbx (n : Fin 8) (g : RxSt → RxSt) : (modRx n g s).mbx = s.mbx := rfl
@[simp] theorem modRx_kic (n : Fin 8) (g : RxSt → RxSt) : (modRx n g s).kic = s.kic := rfl
@[simp] theorem modRx_pwr (n : Fin 8) (g : RxSt → RxSt) : (modRx n g s).pwr = s.pwr := rfl
@[simp] theorem modRx_saf (n : Fin 8) (g : RxSt → RxSt) : (modRx n g s).saf = s.saf := rfl
@[simp] theorem modRx_thm (n : Fin 8) (g : RxSt → RxSt) : (modRx n g s).thm = s.thm := rfl
@[simp] theorem modRx_mon (n : Fin 8) (g : RxSt → RxSt) : (modRx n g s).mon = s.mon := rfl
@[simp] theorem modRx_sec (n : Fin 8) (g : RxSt → RxSt) : (modRx n g s).sec = s.sec := rfl
@[simp] theorem modRx_resp (n : Fin 8) (g : RxSt → RxSt) : (modRx n g s).resp = s.resp := rfl
@[simp] theorem modRx_pending (n : Fin 8) (g : RxSt → RxSt) : (modRx n g s).pending = s.pending := rfl
@[simp] theorem modRx_reg (n : Fin 8) (g : RxSt → RxSt) (a : Nat) : (modRx n g s).reg a = s.reg a := rfl
@[simp] theorem modRx_fld (n : Fin 8) (g : RxSt → RxSt) (a : Nat) (f : Fld) : (modRx n g s).fld a f = s.fld a f := rfl

/-! ### modSig -/

@[simp] theorem modSig_regs (n : Fin 8) (g : SigSt → SigSt) : (modSig n g s).regs = s.regs := rfl
@[simp] theorem modSig_act (n : Fin 8) (g : SigSt → SigSt) : (modSig n g s).act = s.act := rfl
@[simp] theorem modSig_mem (n : Fin 8) (g : SigSt → SigSt) : (modSig n g s).mem = s.mem := rfl
@[simp] theorem modSig_now (n : Fin 8) (g : SigSt → SigSt) : (modSig n g s).now = s.now := rfl
@[simp] theorem modSig_freeCtr (n : Fin 8) (g : SigSt → SigSt) : (modSig n g s).freeCtr = s.freeCtr := rfl
@[simp] theorem modSig_jq (n : Fin 8) (g : SigSt → SigSt) : (modSig n g s).jq = s.jq := rfl
@[simp] theorem modSig_jLostPend (n : Fin 8) (g : SigSt → SigSt) : (modSig n g s).jLostPend = s.jLostPend := rfl
@[simp] theorem modSig_tod (n : Fin 8) (g : SigSt → SigSt) : (modSig n g s).tod = s.tod := rfl
@[simp] theorem modSig_region (n : Fin 8) (g : SigSt → SigSt) : (modSig n g s).region = s.region := rfl
@[simp] theorem modSig_blocks (n : Fin 8) (g : SigSt → SigSt) : (modSig n g s).blocks = s.blocks := rfl
@[simp] theorem modSig_well (n : Fin 8) (g : SigSt → SigSt) : (modSig n g s).well = s.well := rfl
@[simp] theorem modSig_line (n : Fin 8) (g : SigSt → SigSt) : (modSig n g s).line = s.line := rfl
@[simp] theorem modSig_rx (n : Fin 8) (g : SigSt → SigSt) : (modSig n g s).rx = s.rx := rfl
@[simp] theorem modSig_sig (n : Fin 8) (g : SigSt → SigSt) : (modSig n g s).sig = vmod s.sig n g := rfl
@[simp] theorem modSig_frm (n : Fin 8) (g : SigSt → SigSt) : (modSig n g s).frm = s.frm := rfl
@[simp] theorem modSig_cores (n : Fin 8) (g : SigSt → SigSt) : (modSig n g s).cores = s.cores := rfl
@[simp] theorem modSig_atlas (n : Fin 8) (g : SigSt → SigSt) : (modSig n g s).atlas = s.atlas := rfl
@[simp] theorem modSig_seepLn (n : Fin 8) (g : SigSt → SigSt) : (modSig n g s).seepLn = s.seepLn := rfl
@[simp] theorem modSig_seep (n : Fin 8) (g : SigSt → SigSt) : (modSig n g s).seep = s.seep := rfl
@[simp] theorem modSig_host (n : Fin 8) (g : SigSt → SigSt) : (modSig n g s).host = s.host := rfl
@[simp] theorem modSig_cis (n : Fin 8) (g : SigSt → SigSt) : (modSig n g s).cis = s.cis := rfl
@[simp] theorem modSig_light (n : Fin 8) (g : SigSt → SigSt) : (modSig n g s).light = s.light := rfl
@[simp] theorem modSig_txdisHigh (n : Fin 8) (g : SigSt → SigSt) : (modSig n g s).txdisHigh = s.txdisHigh := rfl
@[simp] theorem modSig_txdisOk (n : Fin 8) (g : SigSt → SigSt) : (modSig n g s).txdisOk = s.txdisOk := rfl
@[simp] theorem modSig_vent (n : Fin 8) (g : SigSt → SigSt) : (modSig n g s).vent = s.vent := rfl
@[simp] theorem modSig_inReset (n : Fin 8) (g : SigSt → SigSt) : (modSig n g s).inReset = s.inReset := rfl
@[simp] theorem modSig_rails (n : Fin 8) (g : SigSt → SigSt) : (modSig n g s).rails = s.rails := rfl
@[simp] theorem modSig_pumps (n : Fin 8) (g : SigSt → SigSt) : (modSig n g s).pumps = s.pumps := rfl
@[simp] theorem modSig_stagedPumps (n : Fin 8) (g : SigSt → SigSt) : (modSig n g s).stagedPumps = s.stagedPumps := rfl
@[simp] theorem modSig_rpr (n : Fin 8) (g : SigSt → SigSt) : (modSig n g s).rpr = s.rpr := rfl
@[simp] theorem modSig_fuse (n : Fin 8) (g : SigSt → SigSt) : (modSig n g s).fuse = s.fuse := rfl
@[simp] theorem modSig_boot (n : Fin 8) (g : SigSt → SigSt) : (modSig n g s).boot = s.boot := rfl
@[simp] theorem modSig_port (n : Fin 8) (g : SigSt → SigSt) : (modSig n g s).port = s.port := rfl
@[simp] theorem modSig_mbx (n : Fin 8) (g : SigSt → SigSt) : (modSig n g s).mbx = s.mbx := rfl
@[simp] theorem modSig_kic (n : Fin 8) (g : SigSt → SigSt) : (modSig n g s).kic = s.kic := rfl
@[simp] theorem modSig_pwr (n : Fin 8) (g : SigSt → SigSt) : (modSig n g s).pwr = s.pwr := rfl
@[simp] theorem modSig_saf (n : Fin 8) (g : SigSt → SigSt) : (modSig n g s).saf = s.saf := rfl
@[simp] theorem modSig_thm (n : Fin 8) (g : SigSt → SigSt) : (modSig n g s).thm = s.thm := rfl
@[simp] theorem modSig_mon (n : Fin 8) (g : SigSt → SigSt) : (modSig n g s).mon = s.mon := rfl
@[simp] theorem modSig_sec (n : Fin 8) (g : SigSt → SigSt) : (modSig n g s).sec = s.sec := rfl
@[simp] theorem modSig_resp (n : Fin 8) (g : SigSt → SigSt) : (modSig n g s).resp = s.resp := rfl
@[simp] theorem modSig_pending (n : Fin 8) (g : SigSt → SigSt) : (modSig n g s).pending = s.pending := rfl
@[simp] theorem modSig_reg (n : Fin 8) (g : SigSt → SigSt) (a : Nat) : (modSig n g s).reg a = s.reg a := rfl
@[simp] theorem modSig_fld (n : Fin 8) (g : SigSt → SigSt) (a : Nat) (f : Fld) : (modSig n g s).fld a f = s.fld a f := rfl

/-! ### modFrm -/

@[simp] theorem modFrm_regs (n : Fin 8) (g : FrmSt → FrmSt) : (modFrm n g s).regs = s.regs := rfl
@[simp] theorem modFrm_act (n : Fin 8) (g : FrmSt → FrmSt) : (modFrm n g s).act = s.act := rfl
@[simp] theorem modFrm_mem (n : Fin 8) (g : FrmSt → FrmSt) : (modFrm n g s).mem = s.mem := rfl
@[simp] theorem modFrm_now (n : Fin 8) (g : FrmSt → FrmSt) : (modFrm n g s).now = s.now := rfl
@[simp] theorem modFrm_freeCtr (n : Fin 8) (g : FrmSt → FrmSt) : (modFrm n g s).freeCtr = s.freeCtr := rfl
@[simp] theorem modFrm_jq (n : Fin 8) (g : FrmSt → FrmSt) : (modFrm n g s).jq = s.jq := rfl
@[simp] theorem modFrm_jLostPend (n : Fin 8) (g : FrmSt → FrmSt) : (modFrm n g s).jLostPend = s.jLostPend := rfl
@[simp] theorem modFrm_tod (n : Fin 8) (g : FrmSt → FrmSt) : (modFrm n g s).tod = s.tod := rfl
@[simp] theorem modFrm_region (n : Fin 8) (g : FrmSt → FrmSt) : (modFrm n g s).region = s.region := rfl
@[simp] theorem modFrm_blocks (n : Fin 8) (g : FrmSt → FrmSt) : (modFrm n g s).blocks = s.blocks := rfl
@[simp] theorem modFrm_well (n : Fin 8) (g : FrmSt → FrmSt) : (modFrm n g s).well = s.well := rfl
@[simp] theorem modFrm_line (n : Fin 8) (g : FrmSt → FrmSt) : (modFrm n g s).line = s.line := rfl
@[simp] theorem modFrm_rx (n : Fin 8) (g : FrmSt → FrmSt) : (modFrm n g s).rx = s.rx := rfl
@[simp] theorem modFrm_sig (n : Fin 8) (g : FrmSt → FrmSt) : (modFrm n g s).sig = s.sig := rfl
@[simp] theorem modFrm_frm (n : Fin 8) (g : FrmSt → FrmSt) : (modFrm n g s).frm = vmod s.frm n g := rfl
@[simp] theorem modFrm_cores (n : Fin 8) (g : FrmSt → FrmSt) : (modFrm n g s).cores = s.cores := rfl
@[simp] theorem modFrm_atlas (n : Fin 8) (g : FrmSt → FrmSt) : (modFrm n g s).atlas = s.atlas := rfl
@[simp] theorem modFrm_seepLn (n : Fin 8) (g : FrmSt → FrmSt) : (modFrm n g s).seepLn = s.seepLn := rfl
@[simp] theorem modFrm_seep (n : Fin 8) (g : FrmSt → FrmSt) : (modFrm n g s).seep = s.seep := rfl
@[simp] theorem modFrm_host (n : Fin 8) (g : FrmSt → FrmSt) : (modFrm n g s).host = s.host := rfl
@[simp] theorem modFrm_cis (n : Fin 8) (g : FrmSt → FrmSt) : (modFrm n g s).cis = s.cis := rfl
@[simp] theorem modFrm_light (n : Fin 8) (g : FrmSt → FrmSt) : (modFrm n g s).light = s.light := rfl
@[simp] theorem modFrm_txdisHigh (n : Fin 8) (g : FrmSt → FrmSt) : (modFrm n g s).txdisHigh = s.txdisHigh := rfl
@[simp] theorem modFrm_txdisOk (n : Fin 8) (g : FrmSt → FrmSt) : (modFrm n g s).txdisOk = s.txdisOk := rfl
@[simp] theorem modFrm_vent (n : Fin 8) (g : FrmSt → FrmSt) : (modFrm n g s).vent = s.vent := rfl
@[simp] theorem modFrm_inReset (n : Fin 8) (g : FrmSt → FrmSt) : (modFrm n g s).inReset = s.inReset := rfl
@[simp] theorem modFrm_rails (n : Fin 8) (g : FrmSt → FrmSt) : (modFrm n g s).rails = s.rails := rfl
@[simp] theorem modFrm_pumps (n : Fin 8) (g : FrmSt → FrmSt) : (modFrm n g s).pumps = s.pumps := rfl
@[simp] theorem modFrm_stagedPumps (n : Fin 8) (g : FrmSt → FrmSt) : (modFrm n g s).stagedPumps = s.stagedPumps := rfl
@[simp] theorem modFrm_rpr (n : Fin 8) (g : FrmSt → FrmSt) : (modFrm n g s).rpr = s.rpr := rfl
@[simp] theorem modFrm_fuse (n : Fin 8) (g : FrmSt → FrmSt) : (modFrm n g s).fuse = s.fuse := rfl
@[simp] theorem modFrm_boot (n : Fin 8) (g : FrmSt → FrmSt) : (modFrm n g s).boot = s.boot := rfl
@[simp] theorem modFrm_port (n : Fin 8) (g : FrmSt → FrmSt) : (modFrm n g s).port = s.port := rfl
@[simp] theorem modFrm_mbx (n : Fin 8) (g : FrmSt → FrmSt) : (modFrm n g s).mbx = s.mbx := rfl
@[simp] theorem modFrm_kic (n : Fin 8) (g : FrmSt → FrmSt) : (modFrm n g s).kic = s.kic := rfl
@[simp] theorem modFrm_pwr (n : Fin 8) (g : FrmSt → FrmSt) : (modFrm n g s).pwr = s.pwr := rfl
@[simp] theorem modFrm_saf (n : Fin 8) (g : FrmSt → FrmSt) : (modFrm n g s).saf = s.saf := rfl
@[simp] theorem modFrm_thm (n : Fin 8) (g : FrmSt → FrmSt) : (modFrm n g s).thm = s.thm := rfl
@[simp] theorem modFrm_mon (n : Fin 8) (g : FrmSt → FrmSt) : (modFrm n g s).mon = s.mon := rfl
@[simp] theorem modFrm_sec (n : Fin 8) (g : FrmSt → FrmSt) : (modFrm n g s).sec = s.sec := rfl
@[simp] theorem modFrm_resp (n : Fin 8) (g : FrmSt → FrmSt) : (modFrm n g s).resp = s.resp := rfl
@[simp] theorem modFrm_pending (n : Fin 8) (g : FrmSt → FrmSt) : (modFrm n g s).pending = s.pending := rfl
@[simp] theorem modFrm_reg (n : Fin 8) (g : FrmSt → FrmSt) (a : Nat) : (modFrm n g s).reg a = s.reg a := rfl
@[simp] theorem modFrm_fld (n : Fin 8) (g : FrmSt → FrmSt) (a : Nat) (f : Fld) : (modFrm n g s).fld a f = s.fld a f := rfl

/-! ### modAtl -/

@[simp] theorem modAtl_regs (n : Fin 8) (g : AtlasSt → AtlasSt) : (modAtl n g s).regs = s.regs := rfl
@[simp] theorem modAtl_act (n : Fin 8) (g : AtlasSt → AtlasSt) : (modAtl n g s).act = s.act := rfl
@[simp] theorem modAtl_mem (n : Fin 8) (g : AtlasSt → AtlasSt) : (modAtl n g s).mem = s.mem := rfl
@[simp] theorem modAtl_now (n : Fin 8) (g : AtlasSt → AtlasSt) : (modAtl n g s).now = s.now := rfl
@[simp] theorem modAtl_freeCtr (n : Fin 8) (g : AtlasSt → AtlasSt) : (modAtl n g s).freeCtr = s.freeCtr := rfl
@[simp] theorem modAtl_jq (n : Fin 8) (g : AtlasSt → AtlasSt) : (modAtl n g s).jq = s.jq := rfl
@[simp] theorem modAtl_jLostPend (n : Fin 8) (g : AtlasSt → AtlasSt) : (modAtl n g s).jLostPend = s.jLostPend := rfl
@[simp] theorem modAtl_tod (n : Fin 8) (g : AtlasSt → AtlasSt) : (modAtl n g s).tod = s.tod := rfl
@[simp] theorem modAtl_region (n : Fin 8) (g : AtlasSt → AtlasSt) : (modAtl n g s).region = s.region := rfl
@[simp] theorem modAtl_blocks (n : Fin 8) (g : AtlasSt → AtlasSt) : (modAtl n g s).blocks = s.blocks := rfl
@[simp] theorem modAtl_well (n : Fin 8) (g : AtlasSt → AtlasSt) : (modAtl n g s).well = s.well := rfl
@[simp] theorem modAtl_line (n : Fin 8) (g : AtlasSt → AtlasSt) : (modAtl n g s).line = s.line := rfl
@[simp] theorem modAtl_rx (n : Fin 8) (g : AtlasSt → AtlasSt) : (modAtl n g s).rx = s.rx := rfl
@[simp] theorem modAtl_sig (n : Fin 8) (g : AtlasSt → AtlasSt) : (modAtl n g s).sig = s.sig := rfl
@[simp] theorem modAtl_frm (n : Fin 8) (g : AtlasSt → AtlasSt) : (modAtl n g s).frm = s.frm := rfl
@[simp] theorem modAtl_cores (n : Fin 8) (g : AtlasSt → AtlasSt) : (modAtl n g s).cores = s.cores := rfl
@[simp] theorem modAtl_atlas (n : Fin 8) (g : AtlasSt → AtlasSt) : (modAtl n g s).atlas = vmod s.atlas n g := rfl
@[simp] theorem modAtl_seepLn (n : Fin 8) (g : AtlasSt → AtlasSt) : (modAtl n g s).seepLn = s.seepLn := rfl
@[simp] theorem modAtl_seep (n : Fin 8) (g : AtlasSt → AtlasSt) : (modAtl n g s).seep = s.seep := rfl
@[simp] theorem modAtl_host (n : Fin 8) (g : AtlasSt → AtlasSt) : (modAtl n g s).host = s.host := rfl
@[simp] theorem modAtl_cis (n : Fin 8) (g : AtlasSt → AtlasSt) : (modAtl n g s).cis = s.cis := rfl
@[simp] theorem modAtl_light (n : Fin 8) (g : AtlasSt → AtlasSt) : (modAtl n g s).light = s.light := rfl
@[simp] theorem modAtl_txdisHigh (n : Fin 8) (g : AtlasSt → AtlasSt) : (modAtl n g s).txdisHigh = s.txdisHigh := rfl
@[simp] theorem modAtl_txdisOk (n : Fin 8) (g : AtlasSt → AtlasSt) : (modAtl n g s).txdisOk = s.txdisOk := rfl
@[simp] theorem modAtl_vent (n : Fin 8) (g : AtlasSt → AtlasSt) : (modAtl n g s).vent = s.vent := rfl
@[simp] theorem modAtl_inReset (n : Fin 8) (g : AtlasSt → AtlasSt) : (modAtl n g s).inReset = s.inReset := rfl
@[simp] theorem modAtl_rails (n : Fin 8) (g : AtlasSt → AtlasSt) : (modAtl n g s).rails = s.rails := rfl
@[simp] theorem modAtl_pumps (n : Fin 8) (g : AtlasSt → AtlasSt) : (modAtl n g s).pumps = s.pumps := rfl
@[simp] theorem modAtl_stagedPumps (n : Fin 8) (g : AtlasSt → AtlasSt) : (modAtl n g s).stagedPumps = s.stagedPumps := rfl
@[simp] theorem modAtl_rpr (n : Fin 8) (g : AtlasSt → AtlasSt) : (modAtl n g s).rpr = s.rpr := rfl
@[simp] theorem modAtl_fuse (n : Fin 8) (g : AtlasSt → AtlasSt) : (modAtl n g s).fuse = s.fuse := rfl
@[simp] theorem modAtl_boot (n : Fin 8) (g : AtlasSt → AtlasSt) : (modAtl n g s).boot = s.boot := rfl
@[simp] theorem modAtl_port (n : Fin 8) (g : AtlasSt → AtlasSt) : (modAtl n g s).port = s.port := rfl
@[simp] theorem modAtl_mbx (n : Fin 8) (g : AtlasSt → AtlasSt) : (modAtl n g s).mbx = s.mbx := rfl
@[simp] theorem modAtl_kic (n : Fin 8) (g : AtlasSt → AtlasSt) : (modAtl n g s).kic = s.kic := rfl
@[simp] theorem modAtl_pwr (n : Fin 8) (g : AtlasSt → AtlasSt) : (modAtl n g s).pwr = s.pwr := rfl
@[simp] theorem modAtl_saf (n : Fin 8) (g : AtlasSt → AtlasSt) : (modAtl n g s).saf = s.saf := rfl
@[simp] theorem modAtl_thm (n : Fin 8) (g : AtlasSt → AtlasSt) : (modAtl n g s).thm = s.thm := rfl
@[simp] theorem modAtl_mon (n : Fin 8) (g : AtlasSt → AtlasSt) : (modAtl n g s).mon = s.mon := rfl
@[simp] theorem modAtl_sec (n : Fin 8) (g : AtlasSt → AtlasSt) : (modAtl n g s).sec = s.sec := rfl
@[simp] theorem modAtl_resp (n : Fin 8) (g : AtlasSt → AtlasSt) : (modAtl n g s).resp = s.resp := rfl
@[simp] theorem modAtl_pending (n : Fin 8) (g : AtlasSt → AtlasSt) : (modAtl n g s).pending = s.pending := rfl
@[simp] theorem modAtl_reg (n : Fin 8) (g : AtlasSt → AtlasSt) (a : Nat) : (modAtl n g s).reg a = s.reg a := rfl
@[simp] theorem modAtl_fld (n : Fin 8) (g : AtlasSt → AtlasSt) (a : Nat) (f : Fld) : (modAtl n g s).fld a f = s.fld a f := rfl

/-! ### modSeep -/

@[simp] theorem modSeep_regs (n : Fin 8) (g : SeepLane → SeepLane) : (modSeep n g s).regs = s.regs := rfl
@[simp] theorem modSeep_act (n : Fin 8) (g : SeepLane → SeepLane) : (modSeep n g s).act = s.act := rfl
@[simp] theorem modSeep_mem (n : Fin 8) (g : SeepLane → SeepLane) : (modSeep n g s).mem = s.mem := rfl
@[simp] theorem modSeep_now (n : Fin 8) (g : SeepLane → SeepLane) : (modSeep n g s).now = s.now := rfl
@[simp] theorem modSeep_freeCtr (n : Fin 8) (g : SeepLane → SeepLane) : (modSeep n g s).freeCtr = s.freeCtr := rfl
@[simp] theorem modSeep_jq (n : Fin 8) (g : SeepLane → SeepLane) : (modSeep n g s).jq = s.jq := rfl
@[simp] theorem modSeep_jLostPend (n : Fin 8) (g : SeepLane → SeepLane) : (modSeep n g s).jLostPend = s.jLostPend := rfl
@[simp] theorem modSeep_tod (n : Fin 8) (g : SeepLane → SeepLane) : (modSeep n g s).tod = s.tod := rfl
@[simp] theorem modSeep_region (n : Fin 8) (g : SeepLane → SeepLane) : (modSeep n g s).region = s.region := rfl
@[simp] theorem modSeep_blocks (n : Fin 8) (g : SeepLane → SeepLane) : (modSeep n g s).blocks = s.blocks := rfl
@[simp] theorem modSeep_well (n : Fin 8) (g : SeepLane → SeepLane) : (modSeep n g s).well = s.well := rfl
@[simp] theorem modSeep_line (n : Fin 8) (g : SeepLane → SeepLane) : (modSeep n g s).line = s.line := rfl
@[simp] theorem modSeep_rx (n : Fin 8) (g : SeepLane → SeepLane) : (modSeep n g s).rx = s.rx := rfl
@[simp] theorem modSeep_sig (n : Fin 8) (g : SeepLane → SeepLane) : (modSeep n g s).sig = s.sig := rfl
@[simp] theorem modSeep_frm (n : Fin 8) (g : SeepLane → SeepLane) : (modSeep n g s).frm = s.frm := rfl
@[simp] theorem modSeep_cores (n : Fin 8) (g : SeepLane → SeepLane) : (modSeep n g s).cores = s.cores := rfl
@[simp] theorem modSeep_atlas (n : Fin 8) (g : SeepLane → SeepLane) : (modSeep n g s).atlas = s.atlas := rfl
@[simp] theorem modSeep_seepLn (n : Fin 8) (g : SeepLane → SeepLane) : (modSeep n g s).seepLn = vmod s.seepLn n g := rfl
@[simp] theorem modSeep_seep (n : Fin 8) (g : SeepLane → SeepLane) : (modSeep n g s).seep = s.seep := rfl
@[simp] theorem modSeep_host (n : Fin 8) (g : SeepLane → SeepLane) : (modSeep n g s).host = s.host := rfl
@[simp] theorem modSeep_cis (n : Fin 8) (g : SeepLane → SeepLane) : (modSeep n g s).cis = s.cis := rfl
@[simp] theorem modSeep_light (n : Fin 8) (g : SeepLane → SeepLane) : (modSeep n g s).light = s.light := rfl
@[simp] theorem modSeep_txdisHigh (n : Fin 8) (g : SeepLane → SeepLane) : (modSeep n g s).txdisHigh = s.txdisHigh := rfl
@[simp] theorem modSeep_txdisOk (n : Fin 8) (g : SeepLane → SeepLane) : (modSeep n g s).txdisOk = s.txdisOk := rfl
@[simp] theorem modSeep_vent (n : Fin 8) (g : SeepLane → SeepLane) : (modSeep n g s).vent = s.vent := rfl
@[simp] theorem modSeep_inReset (n : Fin 8) (g : SeepLane → SeepLane) : (modSeep n g s).inReset = s.inReset := rfl
@[simp] theorem modSeep_rails (n : Fin 8) (g : SeepLane → SeepLane) : (modSeep n g s).rails = s.rails := rfl
@[simp] theorem modSeep_pumps (n : Fin 8) (g : SeepLane → SeepLane) : (modSeep n g s).pumps = s.pumps := rfl
@[simp] theorem modSeep_stagedPumps (n : Fin 8) (g : SeepLane → SeepLane) : (modSeep n g s).stagedPumps = s.stagedPumps := rfl
@[simp] theorem modSeep_rpr (n : Fin 8) (g : SeepLane → SeepLane) : (modSeep n g s).rpr = s.rpr := rfl
@[simp] theorem modSeep_fuse (n : Fin 8) (g : SeepLane → SeepLane) : (modSeep n g s).fuse = s.fuse := rfl
@[simp] theorem modSeep_boot (n : Fin 8) (g : SeepLane → SeepLane) : (modSeep n g s).boot = s.boot := rfl
@[simp] theorem modSeep_port (n : Fin 8) (g : SeepLane → SeepLane) : (modSeep n g s).port = s.port := rfl
@[simp] theorem modSeep_mbx (n : Fin 8) (g : SeepLane → SeepLane) : (modSeep n g s).mbx = s.mbx := rfl
@[simp] theorem modSeep_kic (n : Fin 8) (g : SeepLane → SeepLane) : (modSeep n g s).kic = s.kic := rfl
@[simp] theorem modSeep_pwr (n : Fin 8) (g : SeepLane → SeepLane) : (modSeep n g s).pwr = s.pwr := rfl
@[simp] theorem modSeep_saf (n : Fin 8) (g : SeepLane → SeepLane) : (modSeep n g s).saf = s.saf := rfl
@[simp] theorem modSeep_thm (n : Fin 8) (g : SeepLane → SeepLane) : (modSeep n g s).thm = s.thm := rfl
@[simp] theorem modSeep_mon (n : Fin 8) (g : SeepLane → SeepLane) : (modSeep n g s).mon = s.mon := rfl
@[simp] theorem modSeep_sec (n : Fin 8) (g : SeepLane → SeepLane) : (modSeep n g s).sec = s.sec := rfl
@[simp] theorem modSeep_resp (n : Fin 8) (g : SeepLane → SeepLane) : (modSeep n g s).resp = s.resp := rfl
@[simp] theorem modSeep_pending (n : Fin 8) (g : SeepLane → SeepLane) : (modSeep n g s).pending = s.pending := rfl
@[simp] theorem modSeep_reg (n : Fin 8) (g : SeepLane → SeepLane) (a : Nat) : (modSeep n g s).reg a = s.reg a := rfl
@[simp] theorem modSeep_fld (n : Fin 8) (g : SeepLane → SeepLane) (a : Nat) (f : Fld) : (modSeep n g s).fld a f = s.fld a f := rfl

/-! ### modMbx -/

@[simp] theorem modMbx_regs (p : Fin 3) (g : Mbx → Mbx) : (modMbx p g s).regs = s.regs := rfl
@[simp] theorem modMbx_act (p : Fin 3) (g : Mbx → Mbx) : (modMbx p g s).act = s.act := rfl
@[simp] theorem modMbx_mem (p : Fin 3) (g : Mbx → Mbx) : (modMbx p g s).mem = s.mem := rfl
@[simp] theorem modMbx_now (p : Fin 3) (g : Mbx → Mbx) : (modMbx p g s).now = s.now := rfl
@[simp] theorem modMbx_freeCtr (p : Fin 3) (g : Mbx → Mbx) : (modMbx p g s).freeCtr = s.freeCtr := rfl
@[simp] theorem modMbx_jq (p : Fin 3) (g : Mbx → Mbx) : (modMbx p g s).jq = s.jq := rfl
@[simp] theorem modMbx_jLostPend (p : Fin 3) (g : Mbx → Mbx) : (modMbx p g s).jLostPend = s.jLostPend := rfl
@[simp] theorem modMbx_tod (p : Fin 3) (g : Mbx → Mbx) : (modMbx p g s).tod = s.tod := rfl
@[simp] theorem modMbx_region (p : Fin 3) (g : Mbx → Mbx) : (modMbx p g s).region = s.region := rfl
@[simp] theorem modMbx_blocks (p : Fin 3) (g : Mbx → Mbx) : (modMbx p g s).blocks = s.blocks := rfl
@[simp] theorem modMbx_well (p : Fin 3) (g : Mbx → Mbx) : (modMbx p g s).well = s.well := rfl
@[simp] theorem modMbx_line (p : Fin 3) (g : Mbx → Mbx) : (modMbx p g s).line = s.line := rfl
@[simp] theorem modMbx_rx (p : Fin 3) (g : Mbx → Mbx) : (modMbx p g s).rx = s.rx := rfl
@[simp] theorem modMbx_sig (p : Fin 3) (g : Mbx → Mbx) : (modMbx p g s).sig = s.sig := rfl
@[simp] theorem modMbx_frm (p : Fin 3) (g : Mbx → Mbx) : (modMbx p g s).frm = s.frm := rfl
@[simp] theorem modMbx_cores (p : Fin 3) (g : Mbx → Mbx) : (modMbx p g s).cores = s.cores := rfl
@[simp] theorem modMbx_atlas (p : Fin 3) (g : Mbx → Mbx) : (modMbx p g s).atlas = s.atlas := rfl
@[simp] theorem modMbx_seepLn (p : Fin 3) (g : Mbx → Mbx) : (modMbx p g s).seepLn = s.seepLn := rfl
@[simp] theorem modMbx_seep (p : Fin 3) (g : Mbx → Mbx) : (modMbx p g s).seep = s.seep := rfl
@[simp] theorem modMbx_host (p : Fin 3) (g : Mbx → Mbx) : (modMbx p g s).host = s.host := rfl
@[simp] theorem modMbx_cis (p : Fin 3) (g : Mbx → Mbx) : (modMbx p g s).cis = s.cis := rfl
@[simp] theorem modMbx_light (p : Fin 3) (g : Mbx → Mbx) : (modMbx p g s).light = s.light := rfl
@[simp] theorem modMbx_txdisHigh (p : Fin 3) (g : Mbx → Mbx) : (modMbx p g s).txdisHigh = s.txdisHigh := rfl
@[simp] theorem modMbx_txdisOk (p : Fin 3) (g : Mbx → Mbx) : (modMbx p g s).txdisOk = s.txdisOk := rfl
@[simp] theorem modMbx_vent (p : Fin 3) (g : Mbx → Mbx) : (modMbx p g s).vent = s.vent := rfl
@[simp] theorem modMbx_inReset (p : Fin 3) (g : Mbx → Mbx) : (modMbx p g s).inReset = s.inReset := rfl
@[simp] theorem modMbx_rails (p : Fin 3) (g : Mbx → Mbx) : (modMbx p g s).rails = s.rails := rfl
@[simp] theorem modMbx_pumps (p : Fin 3) (g : Mbx → Mbx) : (modMbx p g s).pumps = s.pumps := rfl
@[simp] theorem modMbx_stagedPumps (p : Fin 3) (g : Mbx → Mbx) : (modMbx p g s).stagedPumps = s.stagedPumps := rfl
@[simp] theorem modMbx_rpr (p : Fin 3) (g : Mbx → Mbx) : (modMbx p g s).rpr = s.rpr := rfl
@[simp] theorem modMbx_fuse (p : Fin 3) (g : Mbx → Mbx) : (modMbx p g s).fuse = s.fuse := rfl
@[simp] theorem modMbx_boot (p : Fin 3) (g : Mbx → Mbx) : (modMbx p g s).boot = s.boot := rfl
@[simp] theorem modMbx_port (p : Fin 3) (g : Mbx → Mbx) : (modMbx p g s).port = s.port := rfl
@[simp] theorem modMbx_mbx (p : Fin 3) (g : Mbx → Mbx) : (modMbx p g s).mbx = vmod s.mbx p g := rfl
@[simp] theorem modMbx_kic (p : Fin 3) (g : Mbx → Mbx) : (modMbx p g s).kic = s.kic := rfl
@[simp] theorem modMbx_pwr (p : Fin 3) (g : Mbx → Mbx) : (modMbx p g s).pwr = s.pwr := rfl
@[simp] theorem modMbx_saf (p : Fin 3) (g : Mbx → Mbx) : (modMbx p g s).saf = s.saf := rfl
@[simp] theorem modMbx_thm (p : Fin 3) (g : Mbx → Mbx) : (modMbx p g s).thm = s.thm := rfl
@[simp] theorem modMbx_mon (p : Fin 3) (g : Mbx → Mbx) : (modMbx p g s).mon = s.mon := rfl
@[simp] theorem modMbx_sec (p : Fin 3) (g : Mbx → Mbx) : (modMbx p g s).sec = s.sec := rfl
@[simp] theorem modMbx_resp (p : Fin 3) (g : Mbx → Mbx) : (modMbx p g s).resp = s.resp := rfl
@[simp] theorem modMbx_pending (p : Fin 3) (g : Mbx → Mbx) : (modMbx p g s).pending = s.pending := rfl
@[simp] theorem modMbx_reg (p : Fin 3) (g : Mbx → Mbx) (a : Nat) : (modMbx p g s).reg a = s.reg a := rfl
@[simp] theorem modMbx_fld (p : Fin 3) (g : Mbx → Mbx) (a : Nat) (f : Fld) : (modMbx p g s).fld a f = s.fld a f := rfl

/-! ### modHost -/

@[simp] theorem modHost_regs (n : Fin 8) (g : HostLane → HostLane) : (modHost n g s).regs = s.regs := rfl
@[simp] theorem modHost_act (n : Fin 8) (g : HostLane → HostLane) : (modHost n g s).act = s.act := rfl
@[simp] theorem modHost_mem (n : Fin 8) (g : HostLane → HostLane) : (modHost n g s).mem = s.mem := rfl
@[simp] theorem modHost_now (n : Fin 8) (g : HostLane → HostLane) : (modHost n g s).now = s.now := rfl
@[simp] theorem modHost_freeCtr (n : Fin 8) (g : HostLane → HostLane) : (modHost n g s).freeCtr = s.freeCtr := rfl
@[simp] theorem modHost_jq (n : Fin 8) (g : HostLane → HostLane) : (modHost n g s).jq = s.jq := rfl
@[simp] theorem modHost_jLostPend (n : Fin 8) (g : HostLane → HostLane) : (modHost n g s).jLostPend = s.jLostPend := rfl
@[simp] theorem modHost_tod (n : Fin 8) (g : HostLane → HostLane) : (modHost n g s).tod = s.tod := rfl
@[simp] theorem modHost_region (n : Fin 8) (g : HostLane → HostLane) : (modHost n g s).region = s.region := rfl
@[simp] theorem modHost_blocks (n : Fin 8) (g : HostLane → HostLane) : (modHost n g s).blocks = s.blocks := rfl
@[simp] theorem modHost_well (n : Fin 8) (g : HostLane → HostLane) : (modHost n g s).well = s.well := rfl
@[simp] theorem modHost_line (n : Fin 8) (g : HostLane → HostLane) : (modHost n g s).line = s.line := rfl
@[simp] theorem modHost_rx (n : Fin 8) (g : HostLane → HostLane) : (modHost n g s).rx = s.rx := rfl
@[simp] theorem modHost_sig (n : Fin 8) (g : HostLane → HostLane) : (modHost n g s).sig = s.sig := rfl
@[simp] theorem modHost_frm (n : Fin 8) (g : HostLane → HostLane) : (modHost n g s).frm = s.frm := rfl
@[simp] theorem modHost_cores (n : Fin 8) (g : HostLane → HostLane) : (modHost n g s).cores = s.cores := rfl
@[simp] theorem modHost_atlas (n : Fin 8) (g : HostLane → HostLane) : (modHost n g s).atlas = s.atlas := rfl
@[simp] theorem modHost_seepLn (n : Fin 8) (g : HostLane → HostLane) : (modHost n g s).seepLn = s.seepLn := rfl
@[simp] theorem modHost_seep (n : Fin 8) (g : HostLane → HostLane) : (modHost n g s).seep = s.seep := rfl
@[simp] theorem modHost_host (n : Fin 8) (g : HostLane → HostLane) : (modHost n g s).host = { s.host with lanes := vmod s.host.lanes n g } := rfl
@[simp] theorem modHost_cis (n : Fin 8) (g : HostLane → HostLane) : (modHost n g s).cis = s.cis := rfl
@[simp] theorem modHost_light (n : Fin 8) (g : HostLane → HostLane) : (modHost n g s).light = s.light := rfl
@[simp] theorem modHost_txdisHigh (n : Fin 8) (g : HostLane → HostLane) : (modHost n g s).txdisHigh = s.txdisHigh := rfl
@[simp] theorem modHost_txdisOk (n : Fin 8) (g : HostLane → HostLane) : (modHost n g s).txdisOk = s.txdisOk := rfl
@[simp] theorem modHost_vent (n : Fin 8) (g : HostLane → HostLane) : (modHost n g s).vent = s.vent := rfl
@[simp] theorem modHost_inReset (n : Fin 8) (g : HostLane → HostLane) : (modHost n g s).inReset = s.inReset := rfl
@[simp] theorem modHost_rails (n : Fin 8) (g : HostLane → HostLane) : (modHost n g s).rails = s.rails := rfl
@[simp] theorem modHost_pumps (n : Fin 8) (g : HostLane → HostLane) : (modHost n g s).pumps = s.pumps := rfl
@[simp] theorem modHost_stagedPumps (n : Fin 8) (g : HostLane → HostLane) : (modHost n g s).stagedPumps = s.stagedPumps := rfl
@[simp] theorem modHost_rpr (n : Fin 8) (g : HostLane → HostLane) : (modHost n g s).rpr = s.rpr := rfl
@[simp] theorem modHost_fuse (n : Fin 8) (g : HostLane → HostLane) : (modHost n g s).fuse = s.fuse := rfl
@[simp] theorem modHost_boot (n : Fin 8) (g : HostLane → HostLane) : (modHost n g s).boot = s.boot := rfl
@[simp] theorem modHost_port (n : Fin 8) (g : HostLane → HostLane) : (modHost n g s).port = s.port := rfl
@[simp] theorem modHost_mbx (n : Fin 8) (g : HostLane → HostLane) : (modHost n g s).mbx = s.mbx := rfl
@[simp] theorem modHost_kic (n : Fin 8) (g : HostLane → HostLane) : (modHost n g s).kic = s.kic := rfl
@[simp] theorem modHost_pwr (n : Fin 8) (g : HostLane → HostLane) : (modHost n g s).pwr = s.pwr := rfl
@[simp] theorem modHost_saf (n : Fin 8) (g : HostLane → HostLane) : (modHost n g s).saf = s.saf := rfl
@[simp] theorem modHost_thm (n : Fin 8) (g : HostLane → HostLane) : (modHost n g s).thm = s.thm := rfl
@[simp] theorem modHost_mon (n : Fin 8) (g : HostLane → HostLane) : (modHost n g s).mon = s.mon := rfl
@[simp] theorem modHost_sec (n : Fin 8) (g : HostLane → HostLane) : (modHost n g s).sec = s.sec := rfl
@[simp] theorem modHost_resp (n : Fin 8) (g : HostLane → HostLane) : (modHost n g s).resp = s.resp := rfl
@[simp] theorem modHost_pending (n : Fin 8) (g : HostLane → HostLane) : (modHost n g s).pending = s.pending := rfl
@[simp] theorem modHost_reg (n : Fin 8) (g : HostLane → HostLane) (a : Nat) : (modHost n g s).reg a = s.reg a := rfl
@[simp] theorem modHost_fld (n : Fin 8) (g : HostLane → HostLane) (a : Nat) (f : Fld) : (modHost n g s).fld a f = s.fld a f := rfl

/-! ### modMon -/

@[simp] theorem modMon_regs (p : Fin 8) (d : Fin 2) (g : MonCnt → MonCnt) : (modMon p d g s).regs = s.regs := rfl
@[simp] theorem modMon_act (p : Fin 8) (d : Fin 2) (g : MonCnt → MonCnt) : (modMon p d g s).act = s.act := rfl
@[simp] theorem modMon_mem (p : Fin 8) (d : Fin 2) (g : MonCnt → MonCnt) : (modMon p d g s).mem = s.mem := rfl
@[simp] theorem modMon_now (p : Fin 8) (d : Fin 2) (g : MonCnt → MonCnt) : (modMon p d g s).now = s.now := rfl
@[simp] theorem modMon_freeCtr (p : Fin 8) (d : Fin 2) (g : MonCnt → MonCnt) : (modMon p d g s).freeCtr = s.freeCtr := rfl
@[simp] theorem modMon_jq (p : Fin 8) (d : Fin 2) (g : MonCnt → MonCnt) : (modMon p d g s).jq = s.jq := rfl
@[simp] theorem modMon_jLostPend (p : Fin 8) (d : Fin 2) (g : MonCnt → MonCnt) : (modMon p d g s).jLostPend = s.jLostPend := rfl
@[simp] theorem modMon_tod (p : Fin 8) (d : Fin 2) (g : MonCnt → MonCnt) : (modMon p d g s).tod = s.tod := rfl
@[simp] theorem modMon_region (p : Fin 8) (d : Fin 2) (g : MonCnt → MonCnt) : (modMon p d g s).region = s.region := rfl
@[simp] theorem modMon_blocks (p : Fin 8) (d : Fin 2) (g : MonCnt → MonCnt) : (modMon p d g s).blocks = s.blocks := rfl
@[simp] theorem modMon_well (p : Fin 8) (d : Fin 2) (g : MonCnt → MonCnt) : (modMon p d g s).well = s.well := rfl
@[simp] theorem modMon_line (p : Fin 8) (d : Fin 2) (g : MonCnt → MonCnt) : (modMon p d g s).line = s.line := rfl
@[simp] theorem modMon_rx (p : Fin 8) (d : Fin 2) (g : MonCnt → MonCnt) : (modMon p d g s).rx = s.rx := rfl
@[simp] theorem modMon_sig (p : Fin 8) (d : Fin 2) (g : MonCnt → MonCnt) : (modMon p d g s).sig = s.sig := rfl
@[simp] theorem modMon_frm (p : Fin 8) (d : Fin 2) (g : MonCnt → MonCnt) : (modMon p d g s).frm = s.frm := rfl
@[simp] theorem modMon_cores (p : Fin 8) (d : Fin 2) (g : MonCnt → MonCnt) : (modMon p d g s).cores = s.cores := rfl
@[simp] theorem modMon_atlas (p : Fin 8) (d : Fin 2) (g : MonCnt → MonCnt) : (modMon p d g s).atlas = s.atlas := rfl
@[simp] theorem modMon_seepLn (p : Fin 8) (d : Fin 2) (g : MonCnt → MonCnt) : (modMon p d g s).seepLn = s.seepLn := rfl
@[simp] theorem modMon_seep (p : Fin 8) (d : Fin 2) (g : MonCnt → MonCnt) : (modMon p d g s).seep = s.seep := rfl
@[simp] theorem modMon_host (p : Fin 8) (d : Fin 2) (g : MonCnt → MonCnt) : (modMon p d g s).host = { s.host with mon := vmod s.host.mon (monIdx p d) g } := rfl
@[simp] theorem modMon_cis (p : Fin 8) (d : Fin 2) (g : MonCnt → MonCnt) : (modMon p d g s).cis = s.cis := rfl
@[simp] theorem modMon_light (p : Fin 8) (d : Fin 2) (g : MonCnt → MonCnt) : (modMon p d g s).light = s.light := rfl
@[simp] theorem modMon_txdisHigh (p : Fin 8) (d : Fin 2) (g : MonCnt → MonCnt) : (modMon p d g s).txdisHigh = s.txdisHigh := rfl
@[simp] theorem modMon_txdisOk (p : Fin 8) (d : Fin 2) (g : MonCnt → MonCnt) : (modMon p d g s).txdisOk = s.txdisOk := rfl
@[simp] theorem modMon_vent (p : Fin 8) (d : Fin 2) (g : MonCnt → MonCnt) : (modMon p d g s).vent = s.vent := rfl
@[simp] theorem modMon_inReset (p : Fin 8) (d : Fin 2) (g : MonCnt → MonCnt) : (modMon p d g s).inReset = s.inReset := rfl
@[simp] theorem modMon_rails (p : Fin 8) (d : Fin 2) (g : MonCnt → MonCnt) : (modMon p d g s).rails = s.rails := rfl
@[simp] theorem modMon_pumps (p : Fin 8) (d : Fin 2) (g : MonCnt → MonCnt) : (modMon p d g s).pumps = s.pumps := rfl
@[simp] theorem modMon_stagedPumps (p : Fin 8) (d : Fin 2) (g : MonCnt → MonCnt) : (modMon p d g s).stagedPumps = s.stagedPumps := rfl
@[simp] theorem modMon_rpr (p : Fin 8) (d : Fin 2) (g : MonCnt → MonCnt) : (modMon p d g s).rpr = s.rpr := rfl
@[simp] theorem modMon_fuse (p : Fin 8) (d : Fin 2) (g : MonCnt → MonCnt) : (modMon p d g s).fuse = s.fuse := rfl
@[simp] theorem modMon_boot (p : Fin 8) (d : Fin 2) (g : MonCnt → MonCnt) : (modMon p d g s).boot = s.boot := rfl
@[simp] theorem modMon_port (p : Fin 8) (d : Fin 2) (g : MonCnt → MonCnt) : (modMon p d g s).port = s.port := rfl
@[simp] theorem modMon_mbx (p : Fin 8) (d : Fin 2) (g : MonCnt → MonCnt) : (modMon p d g s).mbx = s.mbx := rfl
@[simp] theorem modMon_kic (p : Fin 8) (d : Fin 2) (g : MonCnt → MonCnt) : (modMon p d g s).kic = s.kic := rfl
@[simp] theorem modMon_pwr (p : Fin 8) (d : Fin 2) (g : MonCnt → MonCnt) : (modMon p d g s).pwr = s.pwr := rfl
@[simp] theorem modMon_saf (p : Fin 8) (d : Fin 2) (g : MonCnt → MonCnt) : (modMon p d g s).saf = s.saf := rfl
@[simp] theorem modMon_thm (p : Fin 8) (d : Fin 2) (g : MonCnt → MonCnt) : (modMon p d g s).thm = s.thm := rfl
@[simp] theorem modMon_mon (p : Fin 8) (d : Fin 2) (g : MonCnt → MonCnt) : (modMon p d g s).mon = s.mon := rfl
@[simp] theorem modMon_sec (p : Fin 8) (d : Fin 2) (g : MonCnt → MonCnt) : (modMon p d g s).sec = s.sec := rfl
@[simp] theorem modMon_resp (p : Fin 8) (d : Fin 2) (g : MonCnt → MonCnt) : (modMon p d g s).resp = s.resp := rfl
@[simp] theorem modMon_pending (p : Fin 8) (d : Fin 2) (g : MonCnt → MonCnt) : (modMon p d g s).pending = s.pending := rfl
@[simp] theorem modMon_reg (p : Fin 8) (d : Fin 2) (g : MonCnt → MonCnt) (a : Nat) : (modMon p d g s).reg a = s.reg a := rfl
@[simp] theorem modMon_fld (p : Fin 8) (d : Fin 2) (g : MonCnt → MonCnt) (a : Nat) (f : Fld) : (modMon p d g s).fld a f = s.fld a f := rfl

/-! ### modK -/

@[simp] theorem modK_regs (k : Fin 3) (g : KeeperSt → KeeperSt) : (modK k g s).regs = s.regs := rfl
@[simp] theorem modK_act (k : Fin 3) (g : KeeperSt → KeeperSt) : (modK k g s).act = s.act := rfl
@[simp] theorem modK_mem (k : Fin 3) (g : KeeperSt → KeeperSt) : (modK k g s).mem = s.mem := rfl
@[simp] theorem modK_now (k : Fin 3) (g : KeeperSt → KeeperSt) : (modK k g s).now = s.now := rfl
@[simp] theorem modK_freeCtr (k : Fin 3) (g : KeeperSt → KeeperSt) : (modK k g s).freeCtr = s.freeCtr := rfl
@[simp] theorem modK_jq (k : Fin 3) (g : KeeperSt → KeeperSt) : (modK k g s).jq = s.jq := rfl
@[simp] theorem modK_jLostPend (k : Fin 3) (g : KeeperSt → KeeperSt) : (modK k g s).jLostPend = s.jLostPend := rfl
@[simp] theorem modK_tod (k : Fin 3) (g : KeeperSt → KeeperSt) : (modK k g s).tod = s.tod := rfl
@[simp] theorem modK_region (k : Fin 3) (g : KeeperSt → KeeperSt) : (modK k g s).region = s.region := rfl
@[simp] theorem modK_blocks (k : Fin 3) (g : KeeperSt → KeeperSt) : (modK k g s).blocks = s.blocks := rfl
@[simp] theorem modK_well (k : Fin 3) (g : KeeperSt → KeeperSt) : (modK k g s).well = s.well := rfl
@[simp] theorem modK_line (k : Fin 3) (g : KeeperSt → KeeperSt) : (modK k g s).line = s.line := rfl
@[simp] theorem modK_rx (k : Fin 3) (g : KeeperSt → KeeperSt) : (modK k g s).rx = s.rx := rfl
@[simp] theorem modK_sig (k : Fin 3) (g : KeeperSt → KeeperSt) : (modK k g s).sig = s.sig := rfl
@[simp] theorem modK_frm (k : Fin 3) (g : KeeperSt → KeeperSt) : (modK k g s).frm = s.frm := rfl
@[simp] theorem modK_cores (k : Fin 3) (g : KeeperSt → KeeperSt) : (modK k g s).cores = s.cores := rfl
@[simp] theorem modK_atlas (k : Fin 3) (g : KeeperSt → KeeperSt) : (modK k g s).atlas = s.atlas := rfl
@[simp] theorem modK_seepLn (k : Fin 3) (g : KeeperSt → KeeperSt) : (modK k g s).seepLn = s.seepLn := rfl
@[simp] theorem modK_seep (k : Fin 3) (g : KeeperSt → KeeperSt) : (modK k g s).seep = s.seep := rfl
@[simp] theorem modK_host (k : Fin 3) (g : KeeperSt → KeeperSt) : (modK k g s).host = s.host := rfl
@[simp] theorem modK_cis (k : Fin 3) (g : KeeperSt → KeeperSt) : (modK k g s).cis = s.cis := rfl
@[simp] theorem modK_light (k : Fin 3) (g : KeeperSt → KeeperSt) : (modK k g s).light = s.light := rfl
@[simp] theorem modK_txdisHigh (k : Fin 3) (g : KeeperSt → KeeperSt) : (modK k g s).txdisHigh = s.txdisHigh := rfl
@[simp] theorem modK_txdisOk (k : Fin 3) (g : KeeperSt → KeeperSt) : (modK k g s).txdisOk = s.txdisOk := rfl
@[simp] theorem modK_vent (k : Fin 3) (g : KeeperSt → KeeperSt) : (modK k g s).vent = s.vent := rfl
@[simp] theorem modK_inReset (k : Fin 3) (g : KeeperSt → KeeperSt) : (modK k g s).inReset = s.inReset := rfl
@[simp] theorem modK_rails (k : Fin 3) (g : KeeperSt → KeeperSt) : (modK k g s).rails = s.rails := rfl
@[simp] theorem modK_pumps (k : Fin 3) (g : KeeperSt → KeeperSt) : (modK k g s).pumps = s.pumps := rfl
@[simp] theorem modK_stagedPumps (k : Fin 3) (g : KeeperSt → KeeperSt) : (modK k g s).stagedPumps = s.stagedPumps := rfl
@[simp] theorem modK_rpr (k : Fin 3) (g : KeeperSt → KeeperSt) : (modK k g s).rpr = s.rpr := rfl
@[simp] theorem modK_fuse (k : Fin 3) (g : KeeperSt → KeeperSt) : (modK k g s).fuse = s.fuse := rfl
@[simp] theorem modK_boot (k : Fin 3) (g : KeeperSt → KeeperSt) : (modK k g s).boot = s.boot := rfl
@[simp] theorem modK_port (k : Fin 3) (g : KeeperSt → KeeperSt) : (modK k g s).port = s.port := rfl
@[simp] theorem modK_mbx (k : Fin 3) (g : KeeperSt → KeeperSt) : (modK k g s).mbx = s.mbx := rfl
@[simp] theorem modK_kic (k : Fin 3) (g : KeeperSt → KeeperSt) : (modK k g s).kic = { s.kic with k := vmod s.kic.k k g } := rfl
@[simp] theorem modK_pwr (k : Fin 3) (g : KeeperSt → KeeperSt) : (modK k g s).pwr = s.pwr := rfl
@[simp] theorem modK_saf (k : Fin 3) (g : KeeperSt → KeeperSt) : (modK k g s).saf = s.saf := rfl
@[simp] theorem modK_thm (k : Fin 3) (g : KeeperSt → KeeperSt) : (modK k g s).thm = s.thm := rfl
@[simp] theorem modK_mon (k : Fin 3) (g : KeeperSt → KeeperSt) : (modK k g s).mon = s.mon := rfl
@[simp] theorem modK_sec (k : Fin 3) (g : KeeperSt → KeeperSt) : (modK k g s).sec = s.sec := rfl
@[simp] theorem modK_resp (k : Fin 3) (g : KeeperSt → KeeperSt) : (modK k g s).resp = s.resp := rfl
@[simp] theorem modK_pending (k : Fin 3) (g : KeeperSt → KeeperSt) : (modK k g s).pending = s.pending := rfl
@[simp] theorem modK_reg (k : Fin 3) (g : KeeperSt → KeeperSt) (a : Nat) : (modK k g s).reg a = s.reg a := rfl
@[simp] theorem modK_fld (k : Fin 3) (g : KeeperSt → KeeperSt) (a : Nat) (f : Fld) : (modK k g s).fld a f = s.fld a f := rfl

/-! ### modPump -/

@[simp] theorem modPump_regs (n : Fin 8) (m : Nat) (g : PumpMem → PumpMem) : (modPump n m g s).regs = s.regs := rfl
@[simp] theorem modPump_act (n : Fin 8) (m : Nat) (g : PumpMem → PumpMem) : (modPump n m g s).act = s.act := rfl
@[simp] theorem modPump_mem (n : Fin 8) (m : Nat) (g : PumpMem → PumpMem) : (modPump n m g s).mem = s.mem := rfl
@[simp] theorem modPump_now (n : Fin 8) (m : Nat) (g : PumpMem → PumpMem) : (modPump n m g s).now = s.now := rfl
@[simp] theorem modPump_freeCtr (n : Fin 8) (m : Nat) (g : PumpMem → PumpMem) : (modPump n m g s).freeCtr = s.freeCtr := rfl
@[simp] theorem modPump_jq (n : Fin 8) (m : Nat) (g : PumpMem → PumpMem) : (modPump n m g s).jq = s.jq := rfl
@[simp] theorem modPump_jLostPend (n : Fin 8) (m : Nat) (g : PumpMem → PumpMem) : (modPump n m g s).jLostPend = s.jLostPend := rfl
@[simp] theorem modPump_tod (n : Fin 8) (m : Nat) (g : PumpMem → PumpMem) : (modPump n m g s).tod = s.tod := rfl
@[simp] theorem modPump_region (n : Fin 8) (m : Nat) (g : PumpMem → PumpMem) : (modPump n m g s).region = s.region := rfl
@[simp] theorem modPump_blocks (n : Fin 8) (m : Nat) (g : PumpMem → PumpMem) : (modPump n m g s).blocks = s.blocks := rfl
@[simp] theorem modPump_line (n : Fin 8) (m : Nat) (g : PumpMem → PumpMem) : (modPump n m g s).line = s.line := rfl
@[simp] theorem modPump_rx (n : Fin 8) (m : Nat) (g : PumpMem → PumpMem) : (modPump n m g s).rx = s.rx := rfl
@[simp] theorem modPump_sig (n : Fin 8) (m : Nat) (g : PumpMem → PumpMem) : (modPump n m g s).sig = s.sig := rfl
@[simp] theorem modPump_frm (n : Fin 8) (m : Nat) (g : PumpMem → PumpMem) : (modPump n m g s).frm = s.frm := rfl
@[simp] theorem modPump_cores (n : Fin 8) (m : Nat) (g : PumpMem → PumpMem) : (modPump n m g s).cores = s.cores := rfl
@[simp] theorem modPump_atlas (n : Fin 8) (m : Nat) (g : PumpMem → PumpMem) : (modPump n m g s).atlas = s.atlas := rfl
@[simp] theorem modPump_seepLn (n : Fin 8) (m : Nat) (g : PumpMem → PumpMem) : (modPump n m g s).seepLn = s.seepLn := rfl
@[simp] theorem modPump_seep (n : Fin 8) (m : Nat) (g : PumpMem → PumpMem) : (modPump n m g s).seep = s.seep := rfl
@[simp] theorem modPump_host (n : Fin 8) (m : Nat) (g : PumpMem → PumpMem) : (modPump n m g s).host = s.host := rfl
@[simp] theorem modPump_cis (n : Fin 8) (m : Nat) (g : PumpMem → PumpMem) : (modPump n m g s).cis = s.cis := rfl
@[simp] theorem modPump_light (n : Fin 8) (m : Nat) (g : PumpMem → PumpMem) : (modPump n m g s).light = s.light := rfl
@[simp] theorem modPump_txdisHigh (n : Fin 8) (m : Nat) (g : PumpMem → PumpMem) : (modPump n m g s).txdisHigh = s.txdisHigh := rfl
@[simp] theorem modPump_txdisOk (n : Fin 8) (m : Nat) (g : PumpMem → PumpMem) : (modPump n m g s).txdisOk = s.txdisOk := rfl
@[simp] theorem modPump_vent (n : Fin 8) (m : Nat) (g : PumpMem → PumpMem) : (modPump n m g s).vent = s.vent := rfl
@[simp] theorem modPump_inReset (n : Fin 8) (m : Nat) (g : PumpMem → PumpMem) : (modPump n m g s).inReset = s.inReset := rfl
@[simp] theorem modPump_rails (n : Fin 8) (m : Nat) (g : PumpMem → PumpMem) : (modPump n m g s).rails = s.rails := rfl
@[simp] theorem modPump_pumps (n : Fin 8) (m : Nat) (g : PumpMem → PumpMem) : (modPump n m g s).pumps = s.pumps := rfl
@[simp] theorem modPump_stagedPumps (n : Fin 8) (m : Nat) (g : PumpMem → PumpMem) : (modPump n m g s).stagedPumps = s.stagedPumps := rfl
@[simp] theorem modPump_rpr (n : Fin 8) (m : Nat) (g : PumpMem → PumpMem) : (modPump n m g s).rpr = s.rpr := rfl
@[simp] theorem modPump_fuse (n : Fin 8) (m : Nat) (g : PumpMem → PumpMem) : (modPump n m g s).fuse = s.fuse := rfl
@[simp] theorem modPump_boot (n : Fin 8) (m : Nat) (g : PumpMem → PumpMem) : (modPump n m g s).boot = s.boot := rfl
@[simp] theorem modPump_port (n : Fin 8) (m : Nat) (g : PumpMem → PumpMem) : (modPump n m g s).port = s.port := rfl
@[simp] theorem modPump_mbx (n : Fin 8) (m : Nat) (g : PumpMem → PumpMem) : (modPump n m g s).mbx = s.mbx := rfl
@[simp] theorem modPump_kic (n : Fin 8) (m : Nat) (g : PumpMem → PumpMem) : (modPump n m g s).kic = s.kic := rfl
@[simp] theorem modPump_pwr (n : Fin 8) (m : Nat) (g : PumpMem → PumpMem) : (modPump n m g s).pwr = s.pwr := rfl
@[simp] theorem modPump_saf (n : Fin 8) (m : Nat) (g : PumpMem → PumpMem) : (modPump n m g s).saf = s.saf := rfl
@[simp] theorem modPump_thm (n : Fin 8) (m : Nat) (g : PumpMem → PumpMem) : (modPump n m g s).thm = s.thm := rfl
@[simp] theorem modPump_mon (n : Fin 8) (m : Nat) (g : PumpMem → PumpMem) : (modPump n m g s).mon = s.mon := rfl
@[simp] theorem modPump_sec (n : Fin 8) (m : Nat) (g : PumpMem → PumpMem) : (modPump n m g s).sec = s.sec := rfl
@[simp] theorem modPump_resp (n : Fin 8) (m : Nat) (g : PumpMem → PumpMem) : (modPump n m g s).resp = s.resp := rfl
@[simp] theorem modPump_pending (n : Fin 8) (m : Nat) (g : PumpMem → PumpMem) : (modPump n m g s).pending = s.pending := rfl
@[simp] theorem modPump_reg (n : Fin 8) (m : Nat) (g : PumpMem → PumpMem) (a : Nat) : (modPump n m g s).reg a = s.reg a := rfl
@[simp] theorem modPump_fld (n : Fin 8) (m : Nat) (g : PumpMem → PumpMem) (a : Nat) (f : Fld) : (modPump n m g s).fld a f = s.fld a f := rfl

/-! ### modBlock -/

@[simp] theorem modBlock_regs (b : Block) (g : BlockSt → BlockSt) : (modBlock b g s).regs = s.regs := rfl
@[simp] theorem modBlock_act (b : Block) (g : BlockSt → BlockSt) : (modBlock b g s).act = s.act := rfl
@[simp] theorem modBlock_mem (b : Block) (g : BlockSt → BlockSt) : (modBlock b g s).mem = s.mem := rfl
@[simp] theorem modBlock_now (b : Block) (g : BlockSt → BlockSt) : (modBlock b g s).now = s.now := rfl
@[simp] theorem modBlock_freeCtr (b : Block) (g : BlockSt → BlockSt) : (modBlock b g s).freeCtr = s.freeCtr := rfl
@[simp] theorem modBlock_jq (b : Block) (g : BlockSt → BlockSt) : (modBlock b g s).jq = s.jq := rfl
@[simp] theorem modBlock_jLostPend (b : Block) (g : BlockSt → BlockSt) : (modBlock b g s).jLostPend = s.jLostPend := rfl
@[simp] theorem modBlock_tod (b : Block) (g : BlockSt → BlockSt) : (modBlock b g s).tod = s.tod := rfl
@[simp] theorem modBlock_region (b : Block) (g : BlockSt → BlockSt) : (modBlock b g s).region = s.region := rfl
@[simp] theorem modBlock_well (b : Block) (g : BlockSt → BlockSt) : (modBlock b g s).well = s.well := rfl
@[simp] theorem modBlock_line (b : Block) (g : BlockSt → BlockSt) : (modBlock b g s).line = s.line := rfl
@[simp] theorem modBlock_rx (b : Block) (g : BlockSt → BlockSt) : (modBlock b g s).rx = s.rx := rfl
@[simp] theorem modBlock_sig (b : Block) (g : BlockSt → BlockSt) : (modBlock b g s).sig = s.sig := rfl
@[simp] theorem modBlock_frm (b : Block) (g : BlockSt → BlockSt) : (modBlock b g s).frm = s.frm := rfl
@[simp] theorem modBlock_cores (b : Block) (g : BlockSt → BlockSt) : (modBlock b g s).cores = s.cores := rfl
@[simp] theorem modBlock_atlas (b : Block) (g : BlockSt → BlockSt) : (modBlock b g s).atlas = s.atlas := rfl
@[simp] theorem modBlock_seepLn (b : Block) (g : BlockSt → BlockSt) : (modBlock b g s).seepLn = s.seepLn := rfl
@[simp] theorem modBlock_seep (b : Block) (g : BlockSt → BlockSt) : (modBlock b g s).seep = s.seep := rfl
@[simp] theorem modBlock_host (b : Block) (g : BlockSt → BlockSt) : (modBlock b g s).host = s.host := rfl
@[simp] theorem modBlock_cis (b : Block) (g : BlockSt → BlockSt) : (modBlock b g s).cis = s.cis := rfl
@[simp] theorem modBlock_light (b : Block) (g : BlockSt → BlockSt) : (modBlock b g s).light = s.light := rfl
@[simp] theorem modBlock_txdisHigh (b : Block) (g : BlockSt → BlockSt) : (modBlock b g s).txdisHigh = s.txdisHigh := rfl
@[simp] theorem modBlock_txdisOk (b : Block) (g : BlockSt → BlockSt) : (modBlock b g s).txdisOk = s.txdisOk := rfl
@[simp] theorem modBlock_vent (b : Block) (g : BlockSt → BlockSt) : (modBlock b g s).vent = s.vent := rfl
@[simp] theorem modBlock_inReset (b : Block) (g : BlockSt → BlockSt) : (modBlock b g s).inReset = s.inReset := rfl
@[simp] theorem modBlock_rails (b : Block) (g : BlockSt → BlockSt) : (modBlock b g s).rails = s.rails := rfl
@[simp] theorem modBlock_pumps (b : Block) (g : BlockSt → BlockSt) : (modBlock b g s).pumps = s.pumps := rfl
@[simp] theorem modBlock_stagedPumps (b : Block) (g : BlockSt → BlockSt) : (modBlock b g s).stagedPumps = s.stagedPumps := rfl
@[simp] theorem modBlock_rpr (b : Block) (g : BlockSt → BlockSt) : (modBlock b g s).rpr = s.rpr := rfl
@[simp] theorem modBlock_fuse (b : Block) (g : BlockSt → BlockSt) : (modBlock b g s).fuse = s.fuse := rfl
@[simp] theorem modBlock_boot (b : Block) (g : BlockSt → BlockSt) : (modBlock b g s).boot = s.boot := rfl
@[simp] theorem modBlock_port (b : Block) (g : BlockSt → BlockSt) : (modBlock b g s).port = s.port := rfl
@[simp] theorem modBlock_mbx (b : Block) (g : BlockSt → BlockSt) : (modBlock b g s).mbx = s.mbx := rfl
@[simp] theorem modBlock_kic (b : Block) (g : BlockSt → BlockSt) : (modBlock b g s).kic = s.kic := rfl
@[simp] theorem modBlock_pwr (b : Block) (g : BlockSt → BlockSt) : (modBlock b g s).pwr = s.pwr := rfl
@[simp] theorem modBlock_saf (b : Block) (g : BlockSt → BlockSt) : (modBlock b g s).saf = s.saf := rfl
@[simp] theorem modBlock_thm (b : Block) (g : BlockSt → BlockSt) : (modBlock b g s).thm = s.thm := rfl
@[simp] theorem modBlock_mon (b : Block) (g : BlockSt → BlockSt) : (modBlock b g s).mon = s.mon := rfl
@[simp] theorem modBlock_sec (b : Block) (g : BlockSt → BlockSt) : (modBlock b g s).sec = s.sec := rfl
@[simp] theorem modBlock_resp (b : Block) (g : BlockSt → BlockSt) : (modBlock b g s).resp = s.resp := rfl
@[simp] theorem modBlock_pending (b : Block) (g : BlockSt → BlockSt) : (modBlock b g s).pending = s.pending := rfl
@[simp] theorem modBlock_reg (b : Block) (g : BlockSt → BlockSt) (a : Nat) : (modBlock b g s).reg a = s.reg a := rfl
@[simp] theorem modBlock_fld (b : Block) (g : BlockSt → BlockSt) (a : Nat) (f : Fld) : (modBlock b g s).fld a f = s.fld a f := rfl

/-! ### modCis -/

@[simp] theorem modCis_regs (g : CisSt → CisSt) : (modCis g s).regs = s.regs := rfl
@[simp] theorem modCis_act (g : CisSt → CisSt) : (modCis g s).act = s.act := rfl
@[simp] theorem modCis_mem (g : CisSt → CisSt) : (modCis g s).mem = s.mem := rfl
@[simp] theorem modCis_now (g : CisSt → CisSt) : (modCis g s).now = s.now := rfl
@[simp] theorem modCis_freeCtr (g : CisSt → CisSt) : (modCis g s).freeCtr = s.freeCtr := rfl
@[simp] theorem modCis_jq (g : CisSt → CisSt) : (modCis g s).jq = s.jq := rfl
@[simp] theorem modCis_jLostPend (g : CisSt → CisSt) : (modCis g s).jLostPend = s.jLostPend := rfl
@[simp] theorem modCis_tod (g : CisSt → CisSt) : (modCis g s).tod = s.tod := rfl
@[simp] theorem modCis_region (g : CisSt → CisSt) : (modCis g s).region = s.region := rfl
@[simp] theorem modCis_blocks (g : CisSt → CisSt) : (modCis g s).blocks = s.blocks := rfl
@[simp] theorem modCis_well (g : CisSt → CisSt) : (modCis g s).well = s.well := rfl
@[simp] theorem modCis_line (g : CisSt → CisSt) : (modCis g s).line = s.line := rfl
@[simp] theorem modCis_rx (g : CisSt → CisSt) : (modCis g s).rx = s.rx := rfl
@[simp] theorem modCis_sig (g : CisSt → CisSt) : (modCis g s).sig = s.sig := rfl
@[simp] theorem modCis_frm (g : CisSt → CisSt) : (modCis g s).frm = s.frm := rfl
@[simp] theorem modCis_cores (g : CisSt → CisSt) : (modCis g s).cores = s.cores := rfl
@[simp] theorem modCis_atlas (g : CisSt → CisSt) : (modCis g s).atlas = s.atlas := rfl
@[simp] theorem modCis_seepLn (g : CisSt → CisSt) : (modCis g s).seepLn = s.seepLn := rfl
@[simp] theorem modCis_seep (g : CisSt → CisSt) : (modCis g s).seep = s.seep := rfl
@[simp] theorem modCis_host (g : CisSt → CisSt) : (modCis g s).host = s.host := rfl
@[simp] theorem modCis_cis (g : CisSt → CisSt) : (modCis g s).cis = g s.cis := rfl
@[simp] theorem modCis_light (g : CisSt → CisSt) : (modCis g s).light = s.light := rfl
@[simp] theorem modCis_txdisHigh (g : CisSt → CisSt) : (modCis g s).txdisHigh = s.txdisHigh := rfl
@[simp] theorem modCis_txdisOk (g : CisSt → CisSt) : (modCis g s).txdisOk = s.txdisOk := rfl
@[simp] theorem modCis_vent (g : CisSt → CisSt) : (modCis g s).vent = s.vent := rfl
@[simp] theorem modCis_inReset (g : CisSt → CisSt) : (modCis g s).inReset = s.inReset := rfl
@[simp] theorem modCis_rails (g : CisSt → CisSt) : (modCis g s).rails = s.rails := rfl
@[simp] theorem modCis_pumps (g : CisSt → CisSt) : (modCis g s).pumps = s.pumps := rfl
@[simp] theorem modCis_stagedPumps (g : CisSt → CisSt) : (modCis g s).stagedPumps = s.stagedPumps := rfl
@[simp] theorem modCis_rpr (g : CisSt → CisSt) : (modCis g s).rpr = s.rpr := rfl
@[simp] theorem modCis_fuse (g : CisSt → CisSt) : (modCis g s).fuse = s.fuse := rfl
@[simp] theorem modCis_boot (g : CisSt → CisSt) : (modCis g s).boot = s.boot := rfl
@[simp] theorem modCis_port (g : CisSt → CisSt) : (modCis g s).port = s.port := rfl
@[simp] theorem modCis_mbx (g : CisSt → CisSt) : (modCis g s).mbx = s.mbx := rfl
@[simp] theorem modCis_kic (g : CisSt → CisSt) : (modCis g s).kic = s.kic := rfl
@[simp] theorem modCis_pwr (g : CisSt → CisSt) : (modCis g s).pwr = s.pwr := rfl
@[simp] theorem modCis_saf (g : CisSt → CisSt) : (modCis g s).saf = s.saf := rfl
@[simp] theorem modCis_thm (g : CisSt → CisSt) : (modCis g s).thm = s.thm := rfl
@[simp] theorem modCis_mon (g : CisSt → CisSt) : (modCis g s).mon = s.mon := rfl
@[simp] theorem modCis_sec (g : CisSt → CisSt) : (modCis g s).sec = s.sec := rfl
@[simp] theorem modCis_resp (g : CisSt → CisSt) : (modCis g s).resp = s.resp := rfl
@[simp] theorem modCis_pending (g : CisSt → CisSt) : (modCis g s).pending = s.pending := rfl
@[simp] theorem modCis_reg (g : CisSt → CisSt) (a : Nat) : (modCis g s).reg a = s.reg a := rfl
@[simp] theorem modCis_fld (g : CisSt → CisSt) (a : Nat) (f : Fld) : (modCis g s).fld a f = s.fld a f := rfl

/-! ### modPort -/

@[simp] theorem modPort_regs (g : PortSt → PortSt) : (modPort g s).regs = s.regs := rfl
@[simp] theorem modPort_act (g : PortSt → PortSt) : (modPort g s).act = s.act := rfl
@[simp] theorem modPort_mem (g : PortSt → PortSt) : (modPort g s).mem = s.mem := rfl
@[simp] theorem modPort_now (g : PortSt → PortSt) : (modPort g s).now = s.now := rfl
@[simp] theorem modPort_freeCtr (g : PortSt → PortSt) : (modPort g s).freeCtr = s.freeCtr := rfl
@[simp] theorem modPort_jq (g : PortSt → PortSt) : (modPort g s).jq = s.jq := rfl
@[simp] theorem modPort_jLostPend (g : PortSt → PortSt) : (modPort g s).jLostPend = s.jLostPend := rfl
@[simp] theorem modPort_tod (g : PortSt → PortSt) : (modPort g s).tod = s.tod := rfl
@[simp] theorem modPort_region (g : PortSt → PortSt) : (modPort g s).region = s.region := rfl
@[simp] theorem modPort_blocks (g : PortSt → PortSt) : (modPort g s).blocks = s.blocks := rfl
@[simp] theorem modPort_well (g : PortSt → PortSt) : (modPort g s).well = s.well := rfl
@[simp] theorem modPort_line (g : PortSt → PortSt) : (modPort g s).line = s.line := rfl
@[simp] theorem modPort_rx (g : PortSt → PortSt) : (modPort g s).rx = s.rx := rfl
@[simp] theorem modPort_sig (g : PortSt → PortSt) : (modPort g s).sig = s.sig := rfl
@[simp] theorem modPort_frm (g : PortSt → PortSt) : (modPort g s).frm = s.frm := rfl
@[simp] theorem modPort_cores (g : PortSt → PortSt) : (modPort g s).cores = s.cores := rfl
@[simp] theorem modPort_atlas (g : PortSt → PortSt) : (modPort g s).atlas = s.atlas := rfl
@[simp] theorem modPort_seepLn (g : PortSt → PortSt) : (modPort g s).seepLn = s.seepLn := rfl
@[simp] theorem modPort_seep (g : PortSt → PortSt) : (modPort g s).seep = s.seep := rfl
@[simp] theorem modPort_host (g : PortSt → PortSt) : (modPort g s).host = s.host := rfl
@[simp] theorem modPort_cis (g : PortSt → PortSt) : (modPort g s).cis = s.cis := rfl
@[simp] theorem modPort_light (g : PortSt → PortSt) : (modPort g s).light = s.light := rfl
@[simp] theorem modPort_txdisHigh (g : PortSt → PortSt) : (modPort g s).txdisHigh = s.txdisHigh := rfl
@[simp] theorem modPort_txdisOk (g : PortSt → PortSt) : (modPort g s).txdisOk = s.txdisOk := rfl
@[simp] theorem modPort_vent (g : PortSt → PortSt) : (modPort g s).vent = s.vent := rfl
@[simp] theorem modPort_inReset (g : PortSt → PortSt) : (modPort g s).inReset = s.inReset := rfl
@[simp] theorem modPort_rails (g : PortSt → PortSt) : (modPort g s).rails = s.rails := rfl
@[simp] theorem modPort_pumps (g : PortSt → PortSt) : (modPort g s).pumps = s.pumps := rfl
@[simp] theorem modPort_stagedPumps (g : PortSt → PortSt) : (modPort g s).stagedPumps = s.stagedPumps := rfl
@[simp] theorem modPort_rpr (g : PortSt → PortSt) : (modPort g s).rpr = s.rpr := rfl
@[simp] theorem modPort_fuse (g : PortSt → PortSt) : (modPort g s).fuse = s.fuse := rfl
@[simp] theorem modPort_boot (g : PortSt → PortSt) : (modPort g s).boot = s.boot := rfl
@[simp] theorem modPort_port (g : PortSt → PortSt) : (modPort g s).port = g s.port := rfl
@[simp] theorem modPort_mbx (g : PortSt → PortSt) : (modPort g s).mbx = s.mbx := rfl
@[simp] theorem modPort_kic (g : PortSt → PortSt) : (modPort g s).kic = s.kic := rfl
@[simp] theorem modPort_pwr (g : PortSt → PortSt) : (modPort g s).pwr = s.pwr := rfl
@[simp] theorem modPort_saf (g : PortSt → PortSt) : (modPort g s).saf = s.saf := rfl
@[simp] theorem modPort_thm (g : PortSt → PortSt) : (modPort g s).thm = s.thm := rfl
@[simp] theorem modPort_mon (g : PortSt → PortSt) : (modPort g s).mon = s.mon := rfl
@[simp] theorem modPort_sec (g : PortSt → PortSt) : (modPort g s).sec = s.sec := rfl
@[simp] theorem modPort_resp (g : PortSt → PortSt) : (modPort g s).resp = s.resp := rfl
@[simp] theorem modPort_pending (g : PortSt → PortSt) : (modPort g s).pending = s.pending := rfl
@[simp] theorem modPort_reg (g : PortSt → PortSt) (a : Nat) : (modPort g s).reg a = s.reg a := rfl
@[simp] theorem modPort_fld (g : PortSt → PortSt) (a : Nat) (f : Fld) : (modPort g s).fld a f = s.fld a f := rfl

/-! ### modPwr -/

@[simp] theorem modPwr_regs (g : PwrSt → PwrSt) : (modPwr g s).regs = s.regs := rfl
@[simp] theorem modPwr_act (g : PwrSt → PwrSt) : (modPwr g s).act = s.act := rfl
@[simp] theorem modPwr_mem (g : PwrSt → PwrSt) : (modPwr g s).mem = s.mem := rfl
@[simp] theorem modPwr_now (g : PwrSt → PwrSt) : (modPwr g s).now = s.now := rfl
@[simp] theorem modPwr_freeCtr (g : PwrSt → PwrSt) : (modPwr g s).freeCtr = s.freeCtr := rfl
@[simp] theorem modPwr_jq (g : PwrSt → PwrSt) : (modPwr g s).jq = s.jq := rfl
@[simp] theorem modPwr_jLostPend (g : PwrSt → PwrSt) : (modPwr g s).jLostPend = s.jLostPend := rfl
@[simp] theorem modPwr_tod (g : PwrSt → PwrSt) : (modPwr g s).tod = s.tod := rfl
@[simp] theorem modPwr_region (g : PwrSt → PwrSt) : (modPwr g s).region = s.region := rfl
@[simp] theorem modPwr_blocks (g : PwrSt → PwrSt) : (modPwr g s).blocks = s.blocks := rfl
@[simp] theorem modPwr_well (g : PwrSt → PwrSt) : (modPwr g s).well = s.well := rfl
@[simp] theorem modPwr_line (g : PwrSt → PwrSt) : (modPwr g s).line = s.line := rfl
@[simp] theorem modPwr_rx (g : PwrSt → PwrSt) : (modPwr g s).rx = s.rx := rfl
@[simp] theorem modPwr_sig (g : PwrSt → PwrSt) : (modPwr g s).sig = s.sig := rfl
@[simp] theorem modPwr_frm (g : PwrSt → PwrSt) : (modPwr g s).frm = s.frm := rfl
@[simp] theorem modPwr_cores (g : PwrSt → PwrSt) : (modPwr g s).cores = s.cores := rfl
@[simp] theorem modPwr_atlas (g : PwrSt → PwrSt) : (modPwr g s).atlas = s.atlas := rfl
@[simp] theorem modPwr_seepLn (g : PwrSt → PwrSt) : (modPwr g s).seepLn = s.seepLn := rfl
@[simp] theorem modPwr_seep (g : PwrSt → PwrSt) : (modPwr g s).seep = s.seep := rfl
@[simp] theorem modPwr_host (g : PwrSt → PwrSt) : (modPwr g s).host = s.host := rfl
@[simp] theorem modPwr_cis (g : PwrSt → PwrSt) : (modPwr g s).cis = s.cis := rfl
@[simp] theorem modPwr_light (g : PwrSt → PwrSt) : (modPwr g s).light = s.light := rfl
@[simp] theorem modPwr_txdisHigh (g : PwrSt → PwrSt) : (modPwr g s).txdisHigh = s.txdisHigh := rfl
@[simp] theorem modPwr_txdisOk (g : PwrSt → PwrSt) : (modPwr g s).txdisOk = s.txdisOk := rfl
@[simp] theorem modPwr_vent (g : PwrSt → PwrSt) : (modPwr g s).vent = s.vent := rfl
@[simp] theorem modPwr_inReset (g : PwrSt → PwrSt) : (modPwr g s).inReset = s.inReset := rfl
@[simp] theorem modPwr_rails (g : PwrSt → PwrSt) : (modPwr g s).rails = s.rails := rfl
@[simp] theorem modPwr_pumps (g : PwrSt → PwrSt) : (modPwr g s).pumps = s.pumps := rfl
@[simp] theorem modPwr_stagedPumps (g : PwrSt → PwrSt) : (modPwr g s).stagedPumps = s.stagedPumps := rfl
@[simp] theorem modPwr_rpr (g : PwrSt → PwrSt) : (modPwr g s).rpr = s.rpr := rfl
@[simp] theorem modPwr_fuse (g : PwrSt → PwrSt) : (modPwr g s).fuse = s.fuse := rfl
@[simp] theorem modPwr_boot (g : PwrSt → PwrSt) : (modPwr g s).boot = s.boot := rfl
@[simp] theorem modPwr_port (g : PwrSt → PwrSt) : (modPwr g s).port = s.port := rfl
@[simp] theorem modPwr_mbx (g : PwrSt → PwrSt) : (modPwr g s).mbx = s.mbx := rfl
@[simp] theorem modPwr_kic (g : PwrSt → PwrSt) : (modPwr g s).kic = s.kic := rfl
@[simp] theorem modPwr_pwr (g : PwrSt → PwrSt) : (modPwr g s).pwr = g s.pwr := rfl
@[simp] theorem modPwr_saf (g : PwrSt → PwrSt) : (modPwr g s).saf = s.saf := rfl
@[simp] theorem modPwr_thm (g : PwrSt → PwrSt) : (modPwr g s).thm = s.thm := rfl
@[simp] theorem modPwr_mon (g : PwrSt → PwrSt) : (modPwr g s).mon = s.mon := rfl
@[simp] theorem modPwr_sec (g : PwrSt → PwrSt) : (modPwr g s).sec = s.sec := rfl
@[simp] theorem modPwr_resp (g : PwrSt → PwrSt) : (modPwr g s).resp = s.resp := rfl
@[simp] theorem modPwr_pending (g : PwrSt → PwrSt) : (modPwr g s).pending = s.pending := rfl
@[simp] theorem modPwr_reg (g : PwrSt → PwrSt) (a : Nat) : (modPwr g s).reg a = s.reg a := rfl
@[simp] theorem modPwr_fld (g : PwrSt → PwrSt) (a : Nat) (f : Fld) : (modPwr g s).fld a f = s.fld a f := rfl

/-! ### modSaf -/

@[simp] theorem modSaf_regs (g : SafSt → SafSt) : (modSaf g s).regs = s.regs := rfl
@[simp] theorem modSaf_act (g : SafSt → SafSt) : (modSaf g s).act = s.act := rfl
@[simp] theorem modSaf_mem (g : SafSt → SafSt) : (modSaf g s).mem = s.mem := rfl
@[simp] theorem modSaf_now (g : SafSt → SafSt) : (modSaf g s).now = s.now := rfl
@[simp] theorem modSaf_freeCtr (g : SafSt → SafSt) : (modSaf g s).freeCtr = s.freeCtr := rfl
@[simp] theorem modSaf_jq (g : SafSt → SafSt) : (modSaf g s).jq = s.jq := rfl
@[simp] theorem modSaf_jLostPend (g : SafSt → SafSt) : (modSaf g s).jLostPend = s.jLostPend := rfl
@[simp] theorem modSaf_tod (g : SafSt → SafSt) : (modSaf g s).tod = s.tod := rfl
@[simp] theorem modSaf_region (g : SafSt → SafSt) : (modSaf g s).region = s.region := rfl
@[simp] theorem modSaf_blocks (g : SafSt → SafSt) : (modSaf g s).blocks = s.blocks := rfl
@[simp] theorem modSaf_well (g : SafSt → SafSt) : (modSaf g s).well = s.well := rfl
@[simp] theorem modSaf_line (g : SafSt → SafSt) : (modSaf g s).line = s.line := rfl
@[simp] theorem modSaf_rx (g : SafSt → SafSt) : (modSaf g s).rx = s.rx := rfl
@[simp] theorem modSaf_sig (g : SafSt → SafSt) : (modSaf g s).sig = s.sig := rfl
@[simp] theorem modSaf_frm (g : SafSt → SafSt) : (modSaf g s).frm = s.frm := rfl
@[simp] theorem modSaf_cores (g : SafSt → SafSt) : (modSaf g s).cores = s.cores := rfl
@[simp] theorem modSaf_atlas (g : SafSt → SafSt) : (modSaf g s).atlas = s.atlas := rfl
@[simp] theorem modSaf_seepLn (g : SafSt → SafSt) : (modSaf g s).seepLn = s.seepLn := rfl
@[simp] theorem modSaf_seep (g : SafSt → SafSt) : (modSaf g s).seep = s.seep := rfl
@[simp] theorem modSaf_host (g : SafSt → SafSt) : (modSaf g s).host = s.host := rfl
@[simp] theorem modSaf_cis (g : SafSt → SafSt) : (modSaf g s).cis = s.cis := rfl
@[simp] theorem modSaf_light (g : SafSt → SafSt) : (modSaf g s).light = s.light := rfl
@[simp] theorem modSaf_txdisHigh (g : SafSt → SafSt) : (modSaf g s).txdisHigh = s.txdisHigh := rfl
@[simp] theorem modSaf_txdisOk (g : SafSt → SafSt) : (modSaf g s).txdisOk = s.txdisOk := rfl
@[simp] theorem modSaf_vent (g : SafSt → SafSt) : (modSaf g s).vent = s.vent := rfl
@[simp] theorem modSaf_inReset (g : SafSt → SafSt) : (modSaf g s).inReset = s.inReset := rfl
@[simp] theorem modSaf_rails (g : SafSt → SafSt) : (modSaf g s).rails = s.rails := rfl
@[simp] theorem modSaf_pumps (g : SafSt → SafSt) : (modSaf g s).pumps = s.pumps := rfl
@[simp] theorem modSaf_stagedPumps (g : SafSt → SafSt) : (modSaf g s).stagedPumps = s.stagedPumps := rfl
@[simp] theorem modSaf_rpr (g : SafSt → SafSt) : (modSaf g s).rpr = s.rpr := rfl
@[simp] theorem modSaf_fuse (g : SafSt → SafSt) : (modSaf g s).fuse = s.fuse := rfl
@[simp] theorem modSaf_boot (g : SafSt → SafSt) : (modSaf g s).boot = s.boot := rfl
@[simp] theorem modSaf_port (g : SafSt → SafSt) : (modSaf g s).port = s.port := rfl
@[simp] theorem modSaf_mbx (g : SafSt → SafSt) : (modSaf g s).mbx = s.mbx := rfl
@[simp] theorem modSaf_kic (g : SafSt → SafSt) : (modSaf g s).kic = s.kic := rfl
@[simp] theorem modSaf_pwr (g : SafSt → SafSt) : (modSaf g s).pwr = s.pwr := rfl
@[simp] theorem modSaf_saf (g : SafSt → SafSt) : (modSaf g s).saf = g s.saf := rfl
@[simp] theorem modSaf_thm (g : SafSt → SafSt) : (modSaf g s).thm = s.thm := rfl
@[simp] theorem modSaf_mon (g : SafSt → SafSt) : (modSaf g s).mon = s.mon := rfl
@[simp] theorem modSaf_sec (g : SafSt → SafSt) : (modSaf g s).sec = s.sec := rfl
@[simp] theorem modSaf_resp (g : SafSt → SafSt) : (modSaf g s).resp = s.resp := rfl
@[simp] theorem modSaf_pending (g : SafSt → SafSt) : (modSaf g s).pending = s.pending := rfl
@[simp] theorem modSaf_reg (g : SafSt → SafSt) (a : Nat) : (modSaf g s).reg a = s.reg a := rfl
@[simp] theorem modSaf_fld (g : SafSt → SafSt) (a : Nat) (f : Fld) : (modSaf g s).fld a f = s.fld a f := rfl

/-! ### modSec -/

@[simp] theorem modSec_regs (g : SecSt → SecSt) : (modSec g s).regs = s.regs := rfl
@[simp] theorem modSec_act (g : SecSt → SecSt) : (modSec g s).act = s.act := rfl
@[simp] theorem modSec_mem (g : SecSt → SecSt) : (modSec g s).mem = s.mem := rfl
@[simp] theorem modSec_now (g : SecSt → SecSt) : (modSec g s).now = s.now := rfl
@[simp] theorem modSec_freeCtr (g : SecSt → SecSt) : (modSec g s).freeCtr = s.freeCtr := rfl
@[simp] theorem modSec_jq (g : SecSt → SecSt) : (modSec g s).jq = s.jq := rfl
@[simp] theorem modSec_jLostPend (g : SecSt → SecSt) : (modSec g s).jLostPend = s.jLostPend := rfl
@[simp] theorem modSec_tod (g : SecSt → SecSt) : (modSec g s).tod = s.tod := rfl
@[simp] theorem modSec_region (g : SecSt → SecSt) : (modSec g s).region = s.region := rfl
@[simp] theorem modSec_blocks (g : SecSt → SecSt) : (modSec g s).blocks = s.blocks := rfl
@[simp] theorem modSec_well (g : SecSt → SecSt) : (modSec g s).well = s.well := rfl
@[simp] theorem modSec_line (g : SecSt → SecSt) : (modSec g s).line = s.line := rfl
@[simp] theorem modSec_rx (g : SecSt → SecSt) : (modSec g s).rx = s.rx := rfl
@[simp] theorem modSec_sig (g : SecSt → SecSt) : (modSec g s).sig = s.sig := rfl
@[simp] theorem modSec_frm (g : SecSt → SecSt) : (modSec g s).frm = s.frm := rfl
@[simp] theorem modSec_cores (g : SecSt → SecSt) : (modSec g s).cores = s.cores := rfl
@[simp] theorem modSec_atlas (g : SecSt → SecSt) : (modSec g s).atlas = s.atlas := rfl
@[simp] theorem modSec_seepLn (g : SecSt → SecSt) : (modSec g s).seepLn = s.seepLn := rfl
@[simp] theorem modSec_seep (g : SecSt → SecSt) : (modSec g s).seep = s.seep := rfl
@[simp] theorem modSec_host (g : SecSt → SecSt) : (modSec g s).host = s.host := rfl
@[simp] theorem modSec_cis (g : SecSt → SecSt) : (modSec g s).cis = s.cis := rfl
@[simp] theorem modSec_light (g : SecSt → SecSt) : (modSec g s).light = s.light := rfl
@[simp] theorem modSec_txdisHigh (g : SecSt → SecSt) : (modSec g s).txdisHigh = s.txdisHigh := rfl
@[simp] theorem modSec_txdisOk (g : SecSt → SecSt) : (modSec g s).txdisOk = s.txdisOk := rfl
@[simp] theorem modSec_vent (g : SecSt → SecSt) : (modSec g s).vent = s.vent := rfl
@[simp] theorem modSec_inReset (g : SecSt → SecSt) : (modSec g s).inReset = s.inReset := rfl
@[simp] theorem modSec_rails (g : SecSt → SecSt) : (modSec g s).rails = s.rails := rfl
@[simp] theorem modSec_pumps (g : SecSt → SecSt) : (modSec g s).pumps = s.pumps := rfl
@[simp] theorem modSec_stagedPumps (g : SecSt → SecSt) : (modSec g s).stagedPumps = s.stagedPumps := rfl
@[simp] theorem modSec_rpr (g : SecSt → SecSt) : (modSec g s).rpr = s.rpr := rfl
@[simp] theorem modSec_fuse (g : SecSt → SecSt) : (modSec g s).fuse = s.fuse := rfl
@[simp] theorem modSec_boot (g : SecSt → SecSt) : (modSec g s).boot = s.boot := rfl
@[simp] theorem modSec_port (g : SecSt → SecSt) : (modSec g s).port = s.port := rfl
@[simp] theorem modSec_mbx (g : SecSt → SecSt) : (modSec g s).mbx = s.mbx := rfl
@[simp] theorem modSec_kic (g : SecSt → SecSt) : (modSec g s).kic = s.kic := rfl
@[simp] theorem modSec_pwr (g : SecSt → SecSt) : (modSec g s).pwr = s.pwr := rfl
@[simp] theorem modSec_saf (g : SecSt → SecSt) : (modSec g s).saf = s.saf := rfl
@[simp] theorem modSec_thm (g : SecSt → SecSt) : (modSec g s).thm = s.thm := rfl
@[simp] theorem modSec_mon (g : SecSt → SecSt) : (modSec g s).mon = s.mon := rfl
@[simp] theorem modSec_sec (g : SecSt → SecSt) : (modSec g s).sec = g s.sec := rfl
@[simp] theorem modSec_resp (g : SecSt → SecSt) : (modSec g s).resp = s.resp := rfl
@[simp] theorem modSec_pending (g : SecSt → SecSt) : (modSec g s).pending = s.pending := rfl
@[simp] theorem modSec_reg (g : SecSt → SecSt) (a : Nat) : (modSec g s).reg a = s.reg a := rfl
@[simp] theorem modSec_fld (g : SecSt → SecSt) (a : Nat) (f : Fld) : (modSec g s).fld a f = s.fld a f := rfl

/-! ### modThm -/

@[simp] theorem modThm_regs (g : ThmSt → ThmSt) : (modThm g s).regs = s.regs := rfl
@[simp] theorem modThm_act (g : ThmSt → ThmSt) : (modThm g s).act = s.act := rfl
@[simp] theorem modThm_mem (g : ThmSt → ThmSt) : (modThm g s).mem = s.mem := rfl
@[simp] theorem modThm_now (g : ThmSt → ThmSt) : (modThm g s).now = s.now := rfl
@[simp] theorem modThm_freeCtr (g : ThmSt → ThmSt) : (modThm g s).freeCtr = s.freeCtr := rfl
@[simp] theorem modThm_jq (g : ThmSt → ThmSt) : (modThm g s).jq = s.jq := rfl
@[simp] theorem modThm_jLostPend (g : ThmSt → ThmSt) : (modThm g s).jLostPend = s.jLostPend := rfl
@[simp] theorem modThm_tod (g : ThmSt → ThmSt) : (modThm g s).tod = s.tod := rfl
@[simp] theorem modThm_region (g : ThmSt → ThmSt) : (modThm g s).region = s.region := rfl
@[simp] theorem modThm_blocks (g : ThmSt → ThmSt) : (modThm g s).blocks = s.blocks := rfl
@[simp] theorem modThm_well (g : ThmSt → ThmSt) : (modThm g s).well = s.well := rfl
@[simp] theorem modThm_line (g : ThmSt → ThmSt) : (modThm g s).line = s.line := rfl
@[simp] theorem modThm_rx (g : ThmSt → ThmSt) : (modThm g s).rx = s.rx := rfl
@[simp] theorem modThm_sig (g : ThmSt → ThmSt) : (modThm g s).sig = s.sig := rfl
@[simp] theorem modThm_frm (g : ThmSt → ThmSt) : (modThm g s).frm = s.frm := rfl
@[simp] theorem modThm_cores (g : ThmSt → ThmSt) : (modThm g s).cores = s.cores := rfl
@[simp] theorem modThm_atlas (g : ThmSt → ThmSt) : (modThm g s).atlas = s.atlas := rfl
@[simp] theorem modThm_seepLn (g : ThmSt → ThmSt) : (modThm g s).seepLn = s.seepLn := rfl
@[simp] theorem modThm_seep (g : ThmSt → ThmSt) : (modThm g s).seep = s.seep := rfl
@[simp] theorem modThm_host (g : ThmSt → ThmSt) : (modThm g s).host = s.host := rfl
@[simp] theorem modThm_cis (g : ThmSt → ThmSt) : (modThm g s).cis = s.cis := rfl
@[simp] theorem modThm_light (g : ThmSt → ThmSt) : (modThm g s).light = s.light := rfl
@[simp] theorem modThm_txdisHigh (g : ThmSt → ThmSt) : (modThm g s).txdisHigh = s.txdisHigh := rfl
@[simp] theorem modThm_txdisOk (g : ThmSt → ThmSt) : (modThm g s).txdisOk = s.txdisOk := rfl
@[simp] theorem modThm_vent (g : ThmSt → ThmSt) : (modThm g s).vent = s.vent := rfl
@[simp] theorem modThm_inReset (g : ThmSt → ThmSt) : (modThm g s).inReset = s.inReset := rfl
@[simp] theorem modThm_rails (g : ThmSt → ThmSt) : (modThm g s).rails = s.rails := rfl
@[simp] theorem modThm_pumps (g : ThmSt → ThmSt) : (modThm g s).pumps = s.pumps := rfl
@[simp] theorem modThm_stagedPumps (g : ThmSt → ThmSt) : (modThm g s).stagedPumps = s.stagedPumps := rfl
@[simp] theorem modThm_rpr (g : ThmSt → ThmSt) : (modThm g s).rpr = s.rpr := rfl
@[simp] theorem modThm_fuse (g : ThmSt → ThmSt) : (modThm g s).fuse = s.fuse := rfl
@[simp] theorem modThm_boot (g : ThmSt → ThmSt) : (modThm g s).boot = s.boot := rfl
@[simp] theorem modThm_port (g : ThmSt → ThmSt) : (modThm g s).port = s.port := rfl
@[simp] theorem modThm_mbx (g : ThmSt → ThmSt) : (modThm g s).mbx = s.mbx := rfl
@[simp] theorem modThm_kic (g : ThmSt → ThmSt) : (modThm g s).kic = s.kic := rfl
@[simp] theorem modThm_pwr (g : ThmSt → ThmSt) : (modThm g s).pwr = s.pwr := rfl
@[simp] theorem modThm_saf (g : ThmSt → ThmSt) : (modThm g s).saf = s.saf := rfl
@[simp] theorem modThm_thm (g : ThmSt → ThmSt) : (modThm g s).thm = g s.thm := rfl
@[simp] theorem modThm_mon (g : ThmSt → ThmSt) : (modThm g s).mon = s.mon := rfl
@[simp] theorem modThm_sec (g : ThmSt → ThmSt) : (modThm g s).sec = s.sec := rfl
@[simp] theorem modThm_resp (g : ThmSt → ThmSt) : (modThm g s).resp = s.resp := rfl
@[simp] theorem modThm_pending (g : ThmSt → ThmSt) : (modThm g s).pending = s.pending := rfl
@[simp] theorem modThm_reg (g : ThmSt → ThmSt) (a : Nat) : (modThm g s).reg a = s.reg a := rfl
@[simp] theorem modThm_fld (g : ThmSt → ThmSt) (a : Nat) (f : Fld) : (modThm g s).fld a f = s.fld a f := rfl

/-! ### modAdc -/

@[simp] theorem modAdc_regs (g : MonSt → MonSt) : (modAdc g s).regs = s.regs := rfl
@[simp] theorem modAdc_act (g : MonSt → MonSt) : (modAdc g s).act = s.act := rfl
@[simp] theorem modAdc_mem (g : MonSt → MonSt) : (modAdc g s).mem = s.mem := rfl
@[simp] theorem modAdc_now (g : MonSt → MonSt) : (modAdc g s).now = s.now := rfl
@[simp] theorem modAdc_freeCtr (g : MonSt → MonSt) : (modAdc g s).freeCtr = s.freeCtr := rfl
@[simp] theorem modAdc_jq (g : MonSt → MonSt) : (modAdc g s).jq = s.jq := rfl
@[simp] theorem modAdc_jLostPend (g : MonSt → MonSt) : (modAdc g s).jLostPend = s.jLostPend := rfl
@[simp] theorem modAdc_tod (g : MonSt → MonSt) : (modAdc g s).tod = s.tod := rfl
@[simp] theorem modAdc_region (g : MonSt → MonSt) : (modAdc g s).region = s.region := rfl
@[simp] theorem modAdc_blocks (g : MonSt → MonSt) : (modAdc g s).blocks = s.blocks := rfl
@[simp] theorem modAdc_well (g : MonSt → MonSt) : (modAdc g s).well = s.well := rfl
@[simp] theorem modAdc_line (g : MonSt → MonSt) : (modAdc g s).line = s.line := rfl
@[simp] theorem modAdc_rx (g : MonSt → MonSt) : (modAdc g s).rx = s.rx := rfl
@[simp] theorem modAdc_sig (g : MonSt → MonSt) : (modAdc g s).sig = s.sig := rfl
@[simp] theorem modAdc_frm (g : MonSt → MonSt) : (modAdc g s).frm = s.frm := rfl
@[simp] theorem modAdc_cores (g : MonSt → MonSt) : (modAdc g s).cores = s.cores := rfl
@[simp] theorem modAdc_atlas (g : MonSt → MonSt) : (modAdc g s).atlas = s.atlas := rfl
@[simp] theorem modAdc_seepLn (g : MonSt → MonSt) : (modAdc g s).seepLn = s.seepLn := rfl
@[simp] theorem modAdc_seep (g : MonSt → MonSt) : (modAdc g s).seep = s.seep := rfl
@[simp] theorem modAdc_host (g : MonSt → MonSt) : (modAdc g s).host = s.host := rfl
@[simp] theorem modAdc_cis (g : MonSt → MonSt) : (modAdc g s).cis = s.cis := rfl
@[simp] theorem modAdc_light (g : MonSt → MonSt) : (modAdc g s).light = s.light := rfl
@[simp] theorem modAdc_txdisHigh (g : MonSt → MonSt) : (modAdc g s).txdisHigh = s.txdisHigh := rfl
@[simp] theorem modAdc_txdisOk (g : MonSt → MonSt) : (modAdc g s).txdisOk = s.txdisOk := rfl
@[simp] theorem modAdc_vent (g : MonSt → MonSt) : (modAdc g s).vent = s.vent := rfl
@[simp] theorem modAdc_inReset (g : MonSt → MonSt) : (modAdc g s).inReset = s.inReset := rfl
@[simp] theorem modAdc_rails (g : MonSt → MonSt) : (modAdc g s).rails = s.rails := rfl
@[simp] theorem modAdc_pumps (g : MonSt → MonSt) : (modAdc g s).pumps = s.pumps := rfl
@[simp] theorem modAdc_stagedPumps (g : MonSt → MonSt) : (modAdc g s).stagedPumps = s.stagedPumps := rfl
@[simp] theorem modAdc_rpr (g : MonSt → MonSt) : (modAdc g s).rpr = s.rpr := rfl
@[simp] theorem modAdc_fuse (g : MonSt → MonSt) : (modAdc g s).fuse = s.fuse := rfl
@[simp] theorem modAdc_boot (g : MonSt → MonSt) : (modAdc g s).boot = s.boot := rfl
@[simp] theorem modAdc_port (g : MonSt → MonSt) : (modAdc g s).port = s.port := rfl
@[simp] theorem modAdc_mbx (g : MonSt → MonSt) : (modAdc g s).mbx = s.mbx := rfl
@[simp] theorem modAdc_kic (g : MonSt → MonSt) : (modAdc g s).kic = s.kic := rfl
@[simp] theorem modAdc_pwr (g : MonSt → MonSt) : (modAdc g s).pwr = s.pwr := rfl
@[simp] theorem modAdc_saf (g : MonSt → MonSt) : (modAdc g s).saf = s.saf := rfl
@[simp] theorem modAdc_thm (g : MonSt → MonSt) : (modAdc g s).thm = s.thm := rfl
@[simp] theorem modAdc_mon (g : MonSt → MonSt) : (modAdc g s).mon = g s.mon := rfl
@[simp] theorem modAdc_sec (g : MonSt → MonSt) : (modAdc g s).sec = s.sec := rfl
@[simp] theorem modAdc_resp (g : MonSt → MonSt) : (modAdc g s).resp = s.resp := rfl
@[simp] theorem modAdc_pending (g : MonSt → MonSt) : (modAdc g s).pending = s.pending := rfl
@[simp] theorem modAdc_reg (g : MonSt → MonSt) (a : Nat) : (modAdc g s).reg a = s.reg a := rfl
@[simp] theorem modAdc_fld (g : MonSt → MonSt) (a : Nat) (f : Fld) : (modAdc g s).fld a f = s.fld a f := rfl

end Sys2Proof.Machine
end

