-- ==== Sys2Proof/WellFormed.lean ====
section
/-!
DEFINITION. Which commands are well formed: their operands lie in the ranges that the spec gives them (R160, R254, R282, R299 to R305,
R317, R351, R393 and the rule of each command). The block answers every command; an ill-formed one is none that the hardware could be
sent.
-/
namespace Sys2Proof

open Machine

/-- A 32-bit address or word, and a byte read as a signed number. -/
def u32 (x : Nat) : Bool := decide (x < 2 ^ 32)
def byteInt (x : Int) : Bool := decide (-128 ≤ x) && decide (x < 128)

/-- Every number is a byte. -/
def bytesOk (l : List Nat) : Bool := l.all fun b => decide (b < 256)

/-- A calibration measured all 64 sub-converters (R79). -/
def calOk (c : CalResult) : Bool := c.ical.length == 64

/-- What reaches a lane's converter: ADC codes of 7 bits, and atlas indexes of 20 (R67, R120). -/
def frameDataOk (d : FrameData) : Bool :=
  d.samples.all (fun x => decide (x < 128)) && d.ahead.all (fun x => decide (x < 128)) && d.atlasUe.all (fun i => decide (i.1 < 2 ^ 20))

/-- A seep frame's correlations: 128 candidates on each of four sub-carriers in Seep-A, 64 on one in Seep-L (R195, R196). -/
def seepFrameOk (f : SRxFrame) : Bool :=
  f.corr.length == (if f.modeL then 1 else 4) && f.corr.all (fun l => l.length == (if f.modeL then 64 else 128)) &&
  f.loose.all (fun j => decide (j < if f.modeL then 1024 else 256))

/-- An access of the cistern: 1, 2, 4 or 8 bytes at a 32-bit address, and a value that they hold (R255). -/
def accessOk (x : CisAccess) : Bool :=
  u32 x.a && (x.k == 1 || x.k == 2 || x.k == 4 || x.k == 8) && x.w.all (fun v => decide (v < 256 ^ x.k))

/-- Words of the ledger, counted from its start, with what their reads find (R239). -/
def ledgerOk (l : List (Nat × CisFault)) : Bool := l.all fun x => decide (x.1 < 2 ^ 21)

/-- An image copy holds bytes. -/
def copyOk (l : List (Nat × Nat)) : Bool := l.all fun x => decide (x.2 < 256)

/-- What a cold start meets: calibrations of every lane, directories of 64 bytes, images of bytes, and faults of K0 in steps 5 to 11
(R280, R282, R331). -/
def bootOk (d : BootData) : Bool :=
  d.cal.all calOk && [d.dir0, d.dir1].all (fun l => l.length == 64 && l.all (fun b => decide (b < 256))) && d.imgA.all copyOk && d.imgB.all copyOk &&
  d.k0Faults.all (fun x => decide (5 ≤ x.1) && decide (x.1 ≤ 11))

/-- A Port I write: a whole address before any data, and at most three bytes of an incomplete word (R303, R304). -/
def i3cWrite (addrBytes a : Nat) (l : List Word) (tail : Nat) : Bool :=
  u32 a && decide (addrBytes ≤ 4) && decide (tail ≤ 3) && (addrBytes == 4 || (l.isEmpty && tail == 0))

/-- A mailbox reply: 8 to 16 words, and opcode and tag of a byte (R319). -/
def replyOk (r : Reply) : Bool :=
  decide (8 ≤ r.len) && decide (r.len ≤ 16) && decide (r.opcode < 256) && decide (r.tag < 256) && r.words.all u32

/-- An edge wake source (R353). -/
def edgeSource (w : WakeSrc) : Bool := match w with | .doorbell _ | .pps => true | _ => false

/-- What a supply restart of VDD_AON leaves of the journal: bytes of its SRAM (R370, R378). -/
def lossOk (x : AonLoss) : Bool := u32 x.next && x.bytes.all fun y => decide (y.1 < 2 ^ 20) && decide (y.2 < 256)

/-- The command is well formed. -/
def Instr.wf (i : Instr) : Bool :=
  match i with
  | .registerWrite _ a size _ => u32 a && decide (1 ≤ size) && decide (size ≤ 4)
  | .frameBoundary _ _ d => frameDataOk d
  | .epochBoundary _ _ d => frameDataOk d
  | .distillationBoundary _ d => frameDataOk d
  | .crossingFault _ lanes _ _ => decide (lanes < 256)
  | .pumpFault .. => true
  | .blockSlotEnd .. => true
  | .pumpTakeover .. => true
  | .wellFault .. => true
  | .wellRestart .. => true
  | .blockFault _ lanes _ _ _ => decide (lanes < 256)
  | .localReactionTimeout .. => true
  | .regionFault _ block cause lanes sg => decide (block < 16) && decide (cause < 16) && decide (lanes < 256) && decide (sg < 16)
  | .regionReactionDone .. => true
  | .faultRelease .. => true
  | .recipeLoad .. => true
  | .recipeLoadDone .. => true
  | .bankSwitchRequest .. => true
  | .bankSwitchSide .. => true
  | .rotationStep .. => true
  | .testSliceDone .. => true
  | .testSliceTimeout .. => true
  | .lbistGo .. => true
  | .lenEnSet .. => true
  | .lenEnClear .. => true
  | .txdisAssert => true
  | .txdisDeassert => true
  | .txdisFiltExpiry => true
  | .lenSettleExpiry .. => true
  | .lanePllLock .. => true
  | .lanePllLol .. => true
  | .signalDetect .. => true
  | .signalLoss .. => true
  | .converterCalDone _ c => calOk c
  | .foregroundCalGo .. => true
  | .piManual .. => true
  | .acqTimingTimeout .. => true
  | .acqAdaptTimeout .. => true
  | .holdTimeout .. => true
  | .rxLossOfLock .. => true
  | .rxRestart .. => true
  | .reachSelect .. => true
  | .adaptUpdateDone .. => true
  | .atlasSamplePick .. => true
  | .atlasUpdate .. => true
  | .atlasMissFill _ i _ => decide (i < 2 ^ 20)
  | .distilDone .. => true
  | .pdBulkSegmentReceive .. => true
  | .pdUpdateStall .. => true
  | .pdTableApply .. => true
  | .pdAckReceive .. => true
  | .pdNoackTimeout .. => true
  | .tapReqReceive .. => true
  | .tapStatusReceive .. => true
  | .tapReqTimeout .. => true
  | .trainMeasureDone .. => true
  | .trainStart .. => true
  | .trainIntervalExpiry .. => true
  | .atlasFreeze .. => true
  | .atlasFrozen .. => true
  | .atlasCoherentRead _ _ i => decide (i < 2 ^ 20)
  | .atlasReadDone .. => true
  | .atlasClear _ lanes => decide (lanes < 256)
  | .atlasClearDone .. => true
  | .atlasSrcChange .. => true
  | .pdTableAccess .. => true
  | .pdApply .. => true
  | .detTableRead .. => true
  | .profileApply .. => true
  | .profileChangeDone => true
  | .frameHeaderReceive .. => true
  | .codewordAssembled .. => true
  | .decodeWindowEnd .. => true
  | .octCodeword .. => true
  | .hostLaneEnable .. => true
  | .hostSignalDetect .. => true
  | .hostLos .. => true
  | .hostCdrLock _ ctle _ => decide (ctle < 16)
  | .hostCdrLol .. => true
  | .hostFreqErr .. => true
  | .hostTrainFrames .. => true
  | .hostTrainNopeer .. => true
  | .hostCoeffRequest _ q => (match q with | .preset p => decide (p < 8) | _ => true)
  | .hostCoeffStatus .. => true
  | .hostTrialMeasureDone _ sum cnt => decide (sum ≤ 255 * cnt)
  | .hostTrainDone .. => true
  | .hostTrainTimeout .. => true
  | .hostRetrain .. => true
  | .hostPolarityChange .. => true
  | .hostMapWrite .. => true
  | .hostTestMode .. => true
  | .kp4AmReceive .. => true
  | .kp4MonitorCodeword .. => true
  | .kp4DegradeWindow .. => true
  | .kp4Snap _ ports => decide (ports < 256)
  | .kp4Clear _ ports => decide (ports < 256)
  | .seepTxFrameStart .. => true
  | .seepRxFrame _ f _ => seepFrameOk f
  | .seepFrameDecoded .. => true
  | .seepSyncLoss .. => true
  | .seepForward .. => true
  | .pfReadReceive .. => true
  | .pfWriteReceive .. => true
  | .mbxInReceive .. => true
  | .wakeReqReceive .. => true
  | .gatewayRxMessage .. => true
  | .pfReplyDeadline .. => true
  | .pfReplyReady .. => true
  | .eventSend => true
  | .eventRepeat => true
  | .gatewayGo .. => true
  | .gatewayPop .. => true
  | .gatewayDataAccess _ tx w => tx == w.isSome
  | .seepLaneEnable .. => true
  | .todSecondWrap => true
  | .ppsOutFall => true
  | .todTxSend => true
  | .ttMarkingInstant .. => true
  | .ttMarkedFrameRx .. => true
  | .ttTsReceive => true
  | .ttLSend => true
  | .ttLReceive => true
  | .ppsInEdge .. => true
  | .todRxMessage bytes _ => bytesOk bytes
  | .holdoverEntry found => ledgerOk found
  | .todUncExceeded => true
  | .holdoverPrediction found => ledgerOk found
  | .oscTempSample => true
  | .ledgerRecord found => ledgerOk found
  | .modelRefit found => ledgerOk found
  | .todCounterRepair .. => true
  | .todNoMajority .. => true
  | .todSetSeconds .. => true
  | .todPhaseAdjust .. => true
  | .todSlewDone => true
  | .todCapture .. => true
  | .todFreqLatch .. => true
  | .todFreqManWrite .. => true
  | .todSourceSelect .. => true
  | .refclkLoss .. => true
  | .refclkReturn => true
  | .refclkRestore => true
  | .cisternRead q a k f others => accessOk { q := q, a := a, k := k, f := f } && others.all accessOk
  | .cisternWrite q a k v others => accessOk { q := q, a := a, k := k, w := some v } && others.all accessOk
  | .mergeEntryAge line _ => decide (line < 2 ^ 27)
  | .patrolLineRead .. => true
  | .scrubLapLimit => true
  | .scrubBgGo .. => true
  | .scrubBgLapDone found => found.all (fun x => decide (x.1 < 2 ^ 29))
  | .refreshTick => true
  | .refreshRatePoll rate => decide (rate < 8)
  | .remapCommand _ line => decide (line < 2 ^ 27)
  | .cisternErrorBurst .. => true
  | .cisternRetrainDone => true
  | .captureGo .. => true
  | .captureSegment samples _ => samples.all (fun x => decide (x < 128))
  | .captureSegmentDrained => true
  | .captureAbort .. => true
  | .zeroiseGo .. => true
  | .zeroiseDone => true
  | .resetAssert => true
  | .coldStart d => bootOk d
  | .bootRestart .. => true
  | .stageVerify .. => true
  | .stageVerifyDone .. => true
  | .updateSwitch .. => true
  | .bootFailRecover _ d => bootOk d
  | .keeperReady .. => true
  | .keeperSwitchTimeout => true
  | .repairRecordRead .. => true
  | .portSRead a _ => u32 a
  | .portSWrite a l => u32 a && decide (1 ≤ l.length) && decide (l.length ≤ 256)
  | .portSStatus op a => u32 a && decide (op ≠ 1) && decide (op ≠ 2)
  | .portSFrameAbort _ _ a count l => u32 a && decide (l.length ≤ count.val)
  | .portSReadTimeout a => u32 a
  | .postedWritePerform => true
  | .portIPrivateWrite addrBytes a l tail => i3cWrite addrBytes a l tail
  | .portIPrivateRead _ count => decide (1 ≤ count)
  | .portIGroupWrite addrBytes a l tail => i3cWrite addrBytes a l tail
  | .portIEntdaa dyn => decide (dyn < 128)
  | .portISetgrpa grp => decide (grp < 128)
  | .portIEnec => true
  | .ibiSend .. => true
  | .ibiRetry .. => true
  | .accessTimeout _ a => u32 a
  | .semClaim .. => true
  | .semRelease .. => true
  | .mbxInGo .. => true
  | .mbxInAck _ _ rc => decide (rc < 2 ^ 16)
  | .mbxInFlowRead .. => true
  | .mbxOutPost _ _ r => replyOk r
  | .mbxOutFlowRead .. => true
  | .mbxOutAck _ rc => decide (rc < 2 ^ 16)
  | .mbxDataWrite .. => true
  | .mbxModeApply .. => true
  | .mbxEcho .. => true
  | .mbxRead .. => true
  | .mbxWrite .. => true
  | .mbxImageBlock .. => true
  | .mbxJournal .. => true
  | .mbxTelemetry .. => true
  | .mbxVendorOpcode _ rc reply => decide (rc < 2 ^ 16) && reply.all replyOk
  | .mbxBadOpcode .. => true
  | .doorbellTodevSet .. => true
  | .doorbellTodevAck .. => true
  | .doorbellTohostSet .. => true
  | .doorbellTohostClear .. => true
  | .irqSourceAssert id => decide (id < 1024)
  | .irqClaim .. => true
  | .irqEoi _ id => decide (id < 1024)
  | .kicModeWrite .. => true
  | .keeperFault .. => true
  | .watchdogKick .. => true
  | .watchdogExpiry .. => true
  | .dpIdleDeclare .. => true
  | .dpIdleCancel .. => true
  | .ltrWrite .. => true
  | .sleepEntryStart edges => edges.all edgeSource
  | .sleepDelayRetry b edges => decide (b < 13) && edges.all edgeSource
  | .sleepPrepareDone writes _ => writes.all (fun x => u32 x.addr && u32 x.data)
  | .sleepHoldoffExpiry edges => edges.all edgeSource
  | .wakeEvent .. => true
  | .sleepExitDone cal => cal.all calOk
  | .perfLevelChange => true
  | .avsAck .. => true
  | .avsTimeout => true
  | .sg1ParityError .. => true
  | .sg1Release .. => true
  | .ppsReadback .. => true
  | .sg3Request .. => true
  | .sg3Release .. => true
  | .sg4Release .. => true
  | .lenPathTest .. => true
  | .lenReadbackMismatch => true
  | .sg4Scan found => found.all (fun x => u32 x.addr)
  | .clockMonitorFault .. => true
  | .supplyOutOfWindow .. => true
  | .supplyRestart lost => lost.all lossOk
  | .supplyRestartRecover => true
  | .memoryPatrol .. => true
  | .fuseRepairBurn .. => true
  | .fuseRepairBurnDone => true
  | .journalEntryWrite => true
  | .journalMirrorWrite => true
  | .thermalSampleStart => true
  | .thermalSampleDone .. => true
  | .effortRiseStep => true
  | .ventCooldownExpiry => true
  | .monChannelResult c l => decide (c.val < 31) && l.all (fun m => decide (m.code < 4096))
  | .monCalStart .. => true
  | .monCalDone r => byteInt r.ofs && byteInt r.ofsLp && decide (r.gain < 4096) && decide (r.gainLp < 4096)
  | .monCalTimeout => true
  | .lifecycleTransition .. => true
  | .lifecycleBurnDone .. => true
  | .debugOpen .. => true
  | .debugOpenDone => true
  | .debugClose .. => true
  | .jtagDbgReq .. => true
  | .jtagDbgClose => true
  | .trstAssert => true
  | .jtagDebugAccess a _ => u32 a
  | .jtagBypass => true
  | .jtagIdcode => true
  | .jtagSamplePreload .. => true
  | .jtagExtest => true
  | .jtagClamp => true
  | .jtagHighz => true
  | .jtagExtestPulse => true
  | .jtagExtestTrain => true
  | .jtagTestLogicReset => true
  | .railBackInWindow .. => true
  | .clockMonitorRearm .. => true
  | .sleepNoAnswer b edges => decide (b < 13) && edges.all edgeSource
  | .keeperHalt .. => true
  | .keeperResume .. => true
  | .boundaryUpdate .. => true

/-- The command is well formed, as a proposition. -/
abbrev WellFormed (i : Instr) : Prop := i.wf = true

end Sys2Proof
end

