-- ==== Sys2Proof/Tests/Slice0.lean ====
section
/-!
SUPPORT. The model's own tests: a smoke test of well-formedness, worked examples and figures of spec/, and for every statement of
Certificates/Slice0/Obligations.lean states and operands that meet its hypotheses, clause by clause (lane 7, port 2 and pump 63 are the
last of their ranges).
-/
namespace Sys2Proof.Tests

open Sys2Proof.Machine

set_option Elab.async false

/-! ### States -/

/-- A released device with the permissions of R315: READY is high, the three keeper pairs serve, and Port S holds the six groups. -/
def rel : State :=
  let s : State := { boot := { perm := permDefault } }
  let s := (s.setFld R.BOOT_STATUS F.BOOT_STATUS_PHASE 5).setFld R.KIC_KSTATUS F.KIC_KSTATUS_POWERED 7
  (List.range 6).foldl (fun s k => s.setFld (R.CHIP_SEM k) F.CHIP_SEM_CODE 2) s

/-- Windows over everything for the three ports. -/
def openPerm : PermSec := { permDefault with wins := [⟨0x300, 0, 0xFFFFFFFF, 0⟩, ⟨0x301, 0, 0xFFFFFFFF, 0⟩, ⟨0x302, 0, 0xFFFFFFFF, 0⟩] }

/-- RESET_N low. -/
def held : State := { rel with inReset := true }

/-- Every lane's PLL has been started, and its frame counters run. -/
def run : State := { rel with line := Vector.replicate 8 { pllOn := true, pllEver := true, txRun := true, rxRun := true } }

/-- The next boundary of either side ends an epoch, the receive one a distillation period too. -/
def runEnd : State :=
  { run with line := Vector.replicate 8 { pllOn := true, pllEver := true, txRun := true, rxRun := true, rxCnt := 1023, txCnt := 1023, rxEpochs := 1023 } }

/-- Every lane's, well's or unit's own part as given. -/
def wellIs (w : WellSt) : State := { rel with well := Vector.replicate 8 w }
def atlasIs (a : AtlasSt) : State := { rel with atlas := Vector.replicate 8 a }
def rxIs (st : Nat) (r : RxSt) : State := { rel with rx := Vector.replicate 8 r }.setFld (R.WELL_RX_STATUS 7) F.WELL_RX_STATUS_STATE st
def cisIs (c : CisSt) : State := { rel with cis := c }
def seepIs (l : SeepLane) : State := { rel with seepLn := Vector.replicate 8 l }.setFld (R.SEEP_LN_CFG 7) F.SEEP_LN_CFG_EN 1
def monIs (m : MonCnt) : State := { rel with host := { rel.host with mon := Vector.replicate 16 m } }

/-- A message to this device, and a state with it waiting on every lane. -/
def msg (t : Nat) (payload : List Nat) : SMsg := { dst := 0, hops := 1, src := 3, rc := 0, mtype := t, tid := 9, payload := payload }
def inbox (m : SMsg) : State :=
  { rel with seepLn := Vector.replicate 8 { inbox := [m], inFrames := [some 0] }, atlas := Vector.replicate 8 { train := some { frames := 4 } } }

/-- The same, with a message whose reply is overdue. -/
def overdue (m : SMsg) : State := { rel with seepLn := Vector.replicate 8 { inbox := [m], inFrames := [none] } }

/-- Only pump 63 of well 7 is free. -/
def spare : State :=
  (List.range 63).foldl (fun s m => s.setFld (R.PUMP_STATE 7 m) F.PUMP_STATE_ROLE 1) { rel with well := Vector.replicate 8 { vacant := [{ role := 1, slot := 63 }] } }

/-- A Deep recipe for every rate, and states that hold it. -/
def recipe : Recipe :=
  { profile := .deep, rateLo := 0, rateHi := 10000000, reach := 0, rxMin := 0, txMin := 0, peakMac := 0, peakAcs := 0, sig := 1,
    init := [], slots := [] }
def stock : State := { rel with pumps := { recipes := [(0, recipe)] } }
def twoBanks : State :=
  { rel with well := Vector.replicate 8 { bank0 := some recipe, bank1 := some recipe } }.setFld (R.WELL_IBANK 7) F.WELL_IBANK_BANK_VALID 3
def switching : State :=
  { twoBanks with well := Vector.replicate 8 { 
      bank0 := some recipe, bank1 := some recipe, switch := some { target := 1, before := 0 },
      pump := Vector.replicate 64 { code0 := some recipe, code1 := some recipe } } }

def emptyTarget : State := wellIs { switch := some { target := 1, before := 0 } }

/-- A cistern fault's reaction takes time; a rotation step is due on well 7, whose pump 63 waits for its re-test. -/
def reactingBlock : State := { rel with blocks := [{ block := .cistern, reacting := true, ends := 1000000 }] }
def rotating : State := wellIs { rotDue := true, retest := [63] }

/-- Lane 7 is locked, and its atlas learns. -/
def learner : State :=
  let s := (List.range 8).foldl (fun s n => s.setFld (R.WELL_FRM_STATUS n) F.WELL_FRM_STATUS_STATE 2) (rxIs 3 {})
  s.setFld R.ATL_CTRL F.ATL_CTRL_LEARN_EN 255

/-- A pick is due on lane 7; a held sample whose context has left the decoder, after one whose symbols were erased. -/
def picking : State :=
  let y : List Int := List.replicate 400 5
  { learner with sig := Vector.replicate 8 { x := y, y := y, dec := List.replicate 400 (some 0) }, frm := Vector.replicate 8 { frameNo := 1 } }
def released : State :=
  let out : CwOut := { bits := [], conv := true, post := [] }
  { picking with
    frm := Vector.replicate 8 { frameNo := 1, outs := [{ frame := 1, idx := 2, out := out }] }
    atlas := Vector.replicate 8 { held := [{ frame := 1, pos := 300, y := 5, erased := true }] } }

/-- A segment of a pre-distortion update waits on every lane. -/
def segIn (g : Seg) (r : Option PdRx) : State := { seepIs { segs := [g] } with atlas := Vector.replicate 8 { rx := r } }

/-- A distillation run near the end of its period. -/
def distilling : State :=
  { atlasIs { run := some { h1 := 0, h2 := 0, canSend := false } } with line := Vector.replicate 8 { rxEpochs := 1020 } }

/-- An acknowledgement of a pre-distortion update waits on lane 7. -/
def ackIn : State := { inbox (msg 0x20 []) with atlas := Vector.replicate 8 { ackWait := some 16 } }

/-- A header that begins with the sync word (R151). -/
def syncHdr : Nat := syncWord * 2 ^ 192

/-- Such a header stands at the start of what lane 7 has decided, in a tracker state; a tracker in LOCK that has missed headers. -/
def headed (st : Nat) : State :=
  { run with sig := Vector.replicate 8 { dec := (bitsToSyms (msbBits 256 syncHdr)).map some }, frm := Vector.replicate 8 { confirm := 255 } }.setFld
    (R.WELL_FRM_STATUS 7) F.WELL_FRM_STATUS_STATE st
def missing : State := { run with frm := Vector.replicate 8 { misses := 255 } }.setFld (R.WELL_FRM_STATUS 7) F.WELL_FRM_STATUS_STATE 2

def decoding : State :=
  { rel with cores := [{ lane := 7, llr := [], cap := 12, etEn := false, etMin := 0, etThresh := 0, norm := 0 }] }
def oct : State := rel.setActFld R.FEC_OCT_CFG F.FEC_OCT_CFG_OCT_EN 255
def group : State :=
  { oct with frm := Vector.replicate 8 { oct := List.replicate 2720 { bit := false } } }.setFld (R.HOST_MON_STATUS 0 1) F.HOST_MON_STATUS_LOCK 1
def unlockedGroup : State := { oct with frm := Vector.replicate 8 { oct := List.replicate 2720 { bit := false } } }
def offGroup : State := { group with frm := Vector.replicate 8 { oct := List.replicate 2720 { bit := false }, rxBase := 5 } }

/-- Lane 7 is skewed beyond the deskew range; port 0's monitors have seen a group of codewords. -/
def skewed : State := learner.setFld (R.FEC_LN_ITER 7) F.FEC_LN_ITER_SKEW 2049
def seen : State :=
  { rel with frm := Vector.replicate 8 { rxSeen := List.replicate 2720 (some false) } }.setFld (R.HOST_MON_STATUS 0 1) F.HOST_MON_STATUS_LOCK 1
def standard : State := { rel with sig := Vector.replicate 8 { llr := [1] } }.setFld R.FEC_PROFILE F.FEC_PROFILE_PROFILE_EFF 1

/-- Host lane 7 is enabled, in a state of R178 with a signal, or has its own part as given. -/
def hostOn : State := rel.setFld (R.HOST_LN_CFG 7) F.HOST_LN_CFG_EN 1
def hostAt (st : Nat) : State :=
  (hostOn.setFld (R.HOST_LN_STATUS 7) F.HOST_LN_STATUS_STATE st).setFld (R.HOST_LN_STATUS 7) F.HOST_LN_STATUS_SIG_DET 1
def hostLaneIs (l : HostLane) : State := { hostAt 3 with host := { rel.host with lanes := Vector.replicate 8 l } }

/-- Every lane delivers line data in Standard, and port 0's monitors have missed nine markers. -/
def delivering : State :=
  let s := (List.range 8).foldl (fun s n => s.setFld (R.WELL_RX_STATUS n) F.WELL_RX_STATUS_STATE 3) (monIs { bad := [9, 0, 0, 0, 0, 0, 0, 0] })
  s.setFld R.FEC_PROFILE F.FEC_PROFILE_PROFILE_EFF 1

/-- Seep: lane 7 sends; a node that relays; a request that waits; an event that is due; a gateway message too long for R205. -/
def talking : State := (seepIs {}).setFld R.LINE_LEN_STATUS F.LINE_LEN_STATUS_LEN_OUT 128
def relay : State :=
  let s := (seepIs { inbox := [{ msg 1 [] with dst := 5 }] }).setFld R.SEEP_NODE F.SEEP_NODE_NODE 7
  let s := (s.setFld (R.SEEP_LN_CFG 7) F.SEEP_LN_CFG_FWD_EN 1).setFld (R.SEEP_LN_CFG 0) F.SEEP_LN_CFG_EN 1
  s.setFld (R.SEEP_ROUTE 0) F.SEEP_ROUTE_EN 1
def request : SReq := { lane := 7, mtype := 1, src := 3, dst := 0, tid := 9, frames := 1, reply := some (0, []) }
def answering : State := { seepIs {} with seep := { reqs := [request] } }
def eventful : State :=
  { rel with seep := { evFrames := 65535 } }.setFld R.SEEP_PF_PEER F.SEEP_PF_PEER_EN 1 |>.setFld (R.MBX_DB_TOHOST 2) F.MBX_DB_TOHOST_DB 1
def longGw : State := { rel with seep := { gwTx := Vector.replicate 64 0xFFFFFFFF } }
/-- A mailbox message of 8 words for Port F. -/
def mailIn : List Nat := [0, 0, 0, 8] ++ List.replicate 32 0

/-- Time: a valid counter with a source; a device that follows the line at a marking instant, in a marked frame, or with a reply
waiting; a source selected; a locked servo that learns. -/
def timed : State := (rel.setFld R.TOD_STATUS F.TOD_STATUS_VALID 1).setFld R.TOD_CTRL F.TOD_CTRL_SRC 2
def marking : State := { run with tod := { lastMark := 1, exch := some 5 } }.setFld R.TOD_CTRL F.TOD_CTRL_SRC 2
def marked : State :=
  { rel with frm := Vector.replicate 8 { tmf := true, fcnt := some 9 } }.setFld (R.SEEP_LN_CFG 0) F.SEEP_LN_CFG_EN 1
def ttBytes : List Nat := [0, 0, 0, 1] ++ List.replicate 24 0
def ttIn : State :=
  { inbox (msg 0x10 ttBytes) with tod := { exch := some 0, txMarks := [⟨0, 0, true⟩], rxMarks := [⟨0, 0, true⟩] } }.setFld
    R.TOD_CTRL F.TOD_CTRL_SRC 2
def lIn : State := { inbox (msg 0x11 ttBytes) with tod := { exchL := some 0, lTx := [⟨0, 0, true⟩], lRx := [⟨0, 0, true⟩] } }
def source (k : Nat) : State := rel.setFld R.TOD_CTRL F.TOD_CTRL_SRC k
def todBody : List Nat := [1, 0, 0, 0, 0, 0, 1, 0, 0, 0, 0, 0]
def todCrc : Nat := crc16 (todBody.flatMap fun b => (List.range 8).map fun i => bitOf b (7 - i))
def todC1 : Nat := todCrc / 256
def todC0 : Nat := todCrc % 256
def locked : State :=
  ({ rel with tod := { osc := [(0, 2500, 0)] } }.setFld R.TOD_STATUS F.TOD_STATUS_STATE 2).setFld R.TOD_CTRL F.TOD_CTRL_LEARN_EN 1

/-- A slew by −1 ps is in progress. -/
def slewing : State := { rel with tod := { slewLeft := -4503599627370, slewRate := 1000000 } }

/-- The cistern has been filled (R258); it is scrubbed; a capture of lane 0 waits for its segment. -/
def filled : State := rel.setFld R.CIS_STATUS F.CIS_STATUS_FILLED 1
def scrubbing : State := filled.setFld R.CIS_SCRUB_CFG F.CIS_SCRUB_CFG_SCRUB_EN 1
def capturing : State :=
  ({ filled with cis := { capture := some { lane := 0, marked := false, nextDue := some 5 } } }.setFld
    (R.LINE_FE_CFG 0) F.LINE_FE_CFG_ADC_EN 1).setFld (R.LINE_PLL_STATUS 0) F.LINE_PLL_STATUS_LOCK 1

/-- What a calibration measured. -/
def cal : CalResult :=
  { termErr := 0, swingErr := 0, ofsRes := 0, gainRes := 0, skewRes := 0, spur := 60, piOk := true, trim := {},
    ical := List.replicate 64 ⟨0, 0, 0⟩ }

/-- Start-up: BOOT_FAIL; an update that switches K1; keeper K2 in reset after a fault. -/
def bootFail : State := rel.setFld R.BOOT_STATUS F.BOOT_STATUS_PHASE 6
def updating : State :=
  let s := { rel with boot := { rel.boot with upd := { keeper := some 1 } } }.setFld R.KIC_KSTATUS F.KIC_KSTATUS_SWITCHING 2
  (s.setFld R.BOOT_STAGE_STATUS F.BOOT_STAGE_STATUS_STEP 2).setFld R.BOOT_STAGE_STATUS F.BOOT_STAGE_STATUS_SWITCH_BUSY 1
def down : State := { rel with kic := { k := Vector.replicate 3 { down := true } } }

/-- A word waits in the queue of a port; Port I has an in-band interrupt to send. -/
def queued (o : Origin) : State :=
  let q : List Posted := [{ addr := R.MBX_DATA 0 15, data := 5 }]
  if o = .portS then { rel with port := { qS := q } } else { rel with port := { qI := q } }
def ibi : State :=
  ({ rel with port := { ibiDue := true, ibiEn := true, dyn := some 9 } }.setFld (R.MBX_STATUS 1) F.MBX_STATUS_OUT_AVAIL 1).setFld
    (R.MBX_IRQ_EN 1) F.MBX_IRQ_EN_OUT_AVAIL_EN 1

/-- Port S's inbound mailbox is full in ACK mode, or both its mailboxes are in FLOW mode. -/
def mail (op len d0 d1 : Nat) : State :=
  let s := { rel with mbx := Vector.replicate 3 { inb := (Vector.replicate 16 1).set 0 (word d0) |>.set 1 (word d1) } }
  let s := (s.setFld (R.MBX_STATUS 0) F.MBX_STATUS_IN_FULL 1).setFld (R.MBX_IN_CTRL 0) F.MBX_IN_CTRL_LEN len
  (s.setFld (R.MBX_IN_CTRL 0) F.MBX_IN_CTRL_OPCODE op).setFld R.CIS_STATUS F.CIS_STATUS_FILLED 1
def flowing : State :=
  let s := ((mail 1 16 0 0).setFld (R.MBX_OUT_CTRL 0) F.MBX_OUT_CTRL_LEN 8).setFld (R.MBX_STATUS 0) F.MBX_STATUS_OUT_FULL 1
  s.setFld (R.MBX_STATUS 0) F.MBX_STATUS_MODE 1

/-- The chip fault is pending for K0, and K0 serves it. -/
def alarmed : State :=
  ((rel.setFld R.CHIP_FAULT_STATUS F.CHIP_FAULT_STATUS_CHIP_FAULT 1).setFld (R.KIC_SRC_CFG 0) F.KIC_SRC_CFG_PRIO 8).setFld
    (R.KIC_MODE 0) F.KIC_MODE_MODE 0
def serving : State := { alarmed with kic := { k := Vector.replicate 3 { stack := [(8, 1)], svc := [1] } } }

/-- Sleep: S1 is the target with DP_IDLE set; entries in progress; S1 in force; a raise awaits acknowledgement; S3 in force. -/
def idle1 : State :=
  (((List.range 3).foldl (fun s p => s.setFld (R.PWR_LTR p) F.PWR_LTR_TOL 2) rel).setFld R.PWR_LTR_EFF F.PWR_LTR_EFF_EFF 2).setFld
    R.PWR_STATUS F.PWR_STATUS_DP_IDLE 1
def entryOf (e : Entry) : State := { rel with pwr := { entry := some e } }
def delayed (e : Entry) : State := { wellIs { switch := some { target := 1, before := 0 } } with pwr := { entry := some e } }
def entering : State := entryOf { target := 1 }
def sleeping : State := rel.setFld R.PWR_STATUS F.PWR_STATUS_STATE 1
def raising : State := { rel with pwr := { raise := true, reqLevel := 0 } }.setFld R.PWR_AVS_STATUS F.PWR_AVS_STATUS_AVS_PEND 1
def deep : State := rel.setFld R.PWR_STATUS F.PWR_STATUS_STATE 3

/-- Safety and debug: parity errors on port 7 of eight ports; goals tripped; FULL open; fuses without space; journal entries to be
mirrored; a scan of channel 30; PWR_CTRL locked. -/
def eightPorts : State := rel.setFld R.FEC_PROFILE F.FEC_PROFILE_PORT_EFF 3
def parity (k : Nat) : State := { eightPorts with saf := { sg1 := Vector.replicate 16 (List.replicate (k - 1) 0) } }
def tripped (bits : Nat) : State := rel.setFld R.CHIP_FAULT_STATUS F.CHIP_FAULT_STATUS_SG_TRIPPED bits
def fullDebug : State := rel.setFld R.SEC_DBG_STATUS F.SEC_DBG_STATUS_LEVEL 2
def fullFuse : State :=
  { rel with rpr := [{ typ := 4, unit := 0, loc := 0 }], fuse := { repairs := List.replicate 32 { typ := 3, unit := 0, loc := 0 } } }
def mirrored (next : Nat) : State := filled.setReg R.SAF_JNL_INDEX (word next)
def scanning : State :=
  ({ rel with mon := { scanning := true, mask := 2 ^ 30 } }.setFld (R.MON_CH 30) F.MON_CH_AVG 1)
def lockedCtl : State := rel.setFld R.PWR_CTRL F.PWR_CTRL_LOCK 1

/-- Lane 7's seep receiver is fed; a frame whose tag is found, and one whose correlations tie. -/
def fed : State :=
  (List.range 8).foldl (fun s k => (s.setFld (R.LINE_FE_CFG k) F.LINE_FE_CFG_ADC_EN 1).setFld (R.LINE_PLL_STATUS k) F.LINE_PLL_STATUS_LOCK 1) (seepIs {})
def seepFrame (c : Nat) : SRxFrame := { found := true, modeL := true, corr := [c :: List.replicate 63 0], unsettled := false }
def margin : State := fed.setActFld (R.SEEP_LN_FILT1 7) F.SEEP_LN_FILT1_TAG_MARGIN 9

/-- SEALED, with every DAC enabled or disabled. -/
def sealed (dac : Nat) : State :=
  (List.range 8).foldl (fun s n => s.setFld (R.LINE_FE_CFG n) F.LINE_FE_CFG_DAC_EN dac) (rel.setFld R.SEC_LC_STATUS F.SEC_LC_STATUS_STATE 2)

/-- The cistern's interface retrains, with the aperture filled. -/
def retraining : State := { filled with region := Vector.replicate 5 { reacting := true } }

/-- Port S has had eight grants in a row while Port I waited. -/
def bothWait : State :=
  let q : List Posted := [{ addr := R.MBX_DATA 0 15, data := 5 }]
  { rel with port := { qS := q, qI := [{ addr := R.MBX_DATA 1 15, data := 6 }] } }
def eighth : State := { bothWait with port := { bothWait.port with grantTo := some .portS, grantRun := 8 } }

/-- A verified image is staged in BOOT_FAIL, and a staged image waits for its cold start. -/
def stagedIn : State :=
  let s := bootFail.setFld R.BOOT_STAGE_STATUS F.BOOT_STAGE_STATUS_VERIFIED 1
  { s with boot := { s.boot with staged := some (stagedImage s) } }
def recovering : State := { stagedIn with boot := { stagedIn.boot with recover := true } }

/-- A header that is signed: a body of eight zero bytes, its one section KEEPER, SEQ 5, and a P-384 key made for this test (the hashes and
the signature are computed outside the model). -/
def imageHead : List Nat :=
  beBytes 32 0x4D494E5A0100000016084E5A0000000005000000081000000100000000000000 ++
  beBytes 32 0x7C2DB09D310ECE0B36D50C86E4C3E6641684948CD6FC03262B0D0ED91A6CFBC3 ++
  beBytes 28 0xCD5AFFD396C1F85FD0A109B103364B19030000000010000008000000 ++ List.replicate 244 0 ++
  beBytes 48 0x04C787D37C05C2C199A12C7E85BAA2354AAAD83260C08A156DCE611B3CDFCE17076F28FC663C8A5F74B82E910595E2D6 ++
  beBytes 56 0xB5C8CC2CD81F71DC13134D55F1AE20A8D70EE52ADD3B9AB0387E96EFB2CCFAE6DA6B81128990B1A142C2BFC2611980176600000000000000 ++
  beBytes 48 0xD4DCDFED3ECEC195ACAC49187D8066CB781EAD89684D81A6F07E68B728EF3E598BE6B4A8DB0975618F9001B81361C426 ++
  beBytes 48 0x86CF50F4FF22F87F45F62ECBC7D343164FD63604C70993555DD5A5D9A5E1C03FA319BC0CC6668D748FE67235CAC7CCD1

/-- Bytes from an address on, as memory lists them. -/
def cellsAt (b : Nat) : List Nat → List Host.Cell
  | [] => []
  | x :: t => if x = 0 then cellsAt (b + 1) t else (b, BitVec.ofNat 8 x) :: cellsAt (b + 1) t

theorem sget_cellsAt_below (a b : Nat) (l : List Nat) (h : a < b) : sget 0#8 a (cellsAt b l) = 0#8 := by
  induction l generalizing b with
  | nil => rfl
  | cons x t ih => by_cases hx : x = 0 <;> simp [cellsAt, sget, hx, ih (b + 1) (by omega), Nat.ne_of_lt h]

theorem sget_cellsAt (b : Nat) (l : List Nat) (i : Nat) (h : i < l.length) : sget 0#8 (b + i) (cellsAt b l) = BitVec.ofNat 8 l[i] := by
  induction l generalizing b i with
  | nil => simp at h
  | cons x t ih =>
    cases i with
    | zero => by_cases hx : x = 0 <;> simp [cellsAt, sget, hx, sget_cellsAt_below]
    | succ j =>
      have e := ih (b + 1) j (by simpa using h)
      rw [Nat.add_right_comm, Nat.add_assoc] at e
      by_cases hx : x = 0 <;> simp [cellsAt, sget, hx, e]

theorem byteList_cellsAt (s : State) (b : Nat) (l : List Nat) (k : Nat) (hm : s.mem = cellsAt b l) (hk : k ≤ l.length)
    (hl : ∀ x ∈ l, x < 256) : byteList s b k = l.take k := by
  refine List.ext_getElem (by simp [byteList, hk]) fun i h₁ h₂ => ?_
  simp only [byteList, List.length_map, List.length_range] at h₁
  have hb : l[i] < 256 := hl _ (List.getElem_mem _)
  simp [byteList, State.byte, hm, sget_cellsAt b l i (by omega), Nat.mod_eq_of_lt hb]

/-- Verification of it is in progress in the staging slot, slot 1, of a device with a blank key. -/
def verifying : State :=
  let s := (rel.setFld R.SEC_LC_STATUS F.SEC_LC_STATUS_KEY_BLANK 1).setFld R.BOOT_STAGE_STATUS F.BOOT_STAGE_STATUS_VERIFY_BUSY 1
  { s with mem := cellsAt 0x86000000 imageHead }

/-- A signature of the standard's curve verifies against the digest of the bytes that it signs, and against no other (R283). -/
theorem test_signature :
    let key := (imageHead.drop 336).take 97
    let r := ofBytes ((imageHead.drop 440).take 48)
    let z := ofBytes ((imageHead.drop 488).take 48)
    let e := sha384 (imageHead.take 440)
    ecdsaOk key r z e = true ∧ ecdsaOk key r z (e + 1) = false := by decide +kernel

theorem sigOk_imageAt (b : Nat) (s : State) : (imageAt b s).sigOk = imageSigned b s := rfl

/-- The staged image is signed, and its header and its body verify. -/
theorem image_signed : (stagedImage verifying).sigOk = true := by
  have base : stagingBase verifying = 0x86000000 := by decide +kernel
  rw [stagedImage, base, sigOk_imageAt, imageSigned, byteList_cellsAt verifying _ imageHead 440 rfl (by decide +kernel) (by decide +kernel)]
  decide +kernel
theorem image_verifies : headerResult verifying (stagedImage verifying) = 0 ∧ (stagedImage verifying).bodyOk = true := by
  refine ⟨?_, by decide +kernel⟩
  rw [headerResult, image_signed, if_neg (by decide +kernel), if_neg (by decide +kernel), if_neg (by decide), if_neg (by decide +kernel)]

/-! ### Hypotheses are met -/


/-- The hypotheses of EmptyQueueIsOneCounterCycle. -/
theorem witness_EmptyQueueIsOneCounterCycle :
    rel.pending = [] ∧
    rel.inReset = false ∧
    held.pending = [] ∧
    held.inReset = true := by decide +kernel

/-- The hypotheses of LaserEnablesStaySafe. -/
theorem witness_LaserEnablesStaySafe :
    (match step rel with | .next t => t.inReset | _ => true) = false := by decide +kernel

/-- The hypotheses of QuietCommandsSettle. -/
theorem witness_QuietCommandsSettle :
    Quiet rel = true := by decide +kernel

/-- The hypotheses of FrameAndEpochBoundariesComplete. -/
theorem witness_FrameAndEpochBoundariesComplete :
    (run.inReset = false ∧ run.line[(7 : Fin 8)].rxRun = true ∧ run.line[(7 : Fin 8)].txRun = true) ∧
    (rel.inReset = false ∧ rel.line[(7 : Fin 8)].rxRun = false ∧ rel.line[(7 : Fin 8)].txRun = false) ∧
    ((7 : Fin 8) ∈ txLanes run 7 ∧ (0 : Fin 8) ∉ txLanes (run.setFld R.FEC_PROFILE F.FEC_PROFILE_PORT_EFF 1) 7) ∧
    (runEnd.line[(7 : Fin 8)].rxRun = true ∧ (runEnd.line[(7 : Fin 8)].rxCnt + 1) % 1024 = 0 ∧ (runEnd.line[(7 : Fin 8)].rxEpochs + 1) % 1024 = 0) ∧
    (run.line[(7 : Fin 8)].realign = false ∧ (run.line[(7 : Fin 8)].rxCnt + 1) % 1024 ≠ 0 ∧ (run.line[(7 : Fin 8)].rxEpochs + 1) % 1024 ≠ 0) ∧
    (runEnd.line[(7 : Fin 8)].txRun = true ∧ (runEnd.line[(7 : Fin 8)].txCnt + 1) % 1024 = 0 ∧ (run.line[(7 : Fin 8)].txCnt + 1) % 1024 ≠ 0) := by decide +kernel

/-- The hypotheses of LanePllAndSignalEventsComplete. -/
theorem witness_LanePllAndSignalEventsComplete :
    (run.line[(7 : Fin 8)].pllOn = true ∧ run.flag (R.LINE_PLL_STATUS 7) F.LINE_PLL_STATUS_LOCK = false) ∧
    (0 : Fin 8) ∈ spreadLanes run 7 ∧
    (run.setFld (R.LINE_PLL_STATUS 7) F.LINE_PLL_STATUS_LOCK 1).flag (R.LINE_PLL_STATUS 7) F.LINE_PLL_STATUS_LOCK = true ∧
    (run.line[(7 : Fin 8)].pllEver = true ∧ (run.setFld (R.LINE_FE_CFG 7) F.LINE_FE_CFG_ADC_EN 1).flag (R.LINE_FE_CFG 7) F.LINE_FE_CFG_ADC_EN = true) ∧
    run.flag (R.LINE_FE_STATUS 7) F.LINE_FE_STATUS_SIG_DET = false ∧
    (run.setFld (R.LINE_FE_STATUS 7) F.LINE_FE_STATUS_SIG_DET 1).flag (R.LINE_FE_STATUS 7) F.LINE_FE_STATUS_SIG_DET = true ∧
    rxState (run.setFld (R.WELL_RX_STATUS 7) F.WELL_RX_STATUS_STATE 3) 7 ≠ 0 := by decide +kernel

/-- The hypotheses of PumpFaultsQuarantineAndTakeOver. -/
theorem witness_PumpFaultsQuarantineAndTakeOver :
    (rel.well[(7 : Fin 8)].restarting = false ∧ pumpQuar rel 7 63 = false) ∧
    pumpRole (rel.setFld (R.PUMP_STATE 7 63) F.PUMP_STATE_ROLE 2) 7 63 = 2 ∧
    (pumpRole rel 7 63 ≠ 1 ∧ pumpRole rel 7 63 ≠ 2) ∧
    (spare.well[(7 : Fin 8)].vacant = { role := 1, slot := 63 } :: [] ∧ spares spare 7 = 63 :: []) ∧
    (({ role := 1, slot := 63 } : Vacancy).role ≤ 3 ∧ ({ role := 1, slot := 63 } : Vacancy).slot < 64) := by decide +kernel

/-- The hypotheses of WellFaultsAndRestartsComplete. -/
theorem witness_WellFaultsAndRestartsComplete :
    (reacting rel .line = false ∧ rel.well[(7 : Fin 8)].restarting = false) ∧
    ((∀ j : Fin 8, Block.fec ≠ .well j) ∧ (∀ j : Fin 3, Block.fec ≠ .keeper j)) ∧
    ((wellIs { restarting := true }).well[(7 : Fin 8)].restarting = true ∧ (wellIs { restarting := true }).well[(7 : Fin 8)].quiet = false) ∧
    updStep (wellIs { restarting := true }) = 0 ∧
    pairPowered rel 2 = true := by decide +kernel

/-- The hypotheses of BlockAndRegionFaultsComplete. -/
theorem witness_BlockAndRegionFaultsComplete :
    ((∀ j : Fin 8, Block.cistern ≠ .well j) ∧ (∀ j : Fin 3, Block.cistern ≠ .keeper j)) ∧
    (rel.region[Block.cistern.region.idx].reacting = false ∧ blockRecent rel .cistern = []) ∧
    (Block.cistern ≠ .fec ∧ (∀ j : Fin 8, Block.fec ≠ .well j) ∧ (∀ j : Fin 3, Block.fec ≠ .keeper j) ∧ run.region[Block.fec.region.idx].reacting = false ∧ blockRecent run .fec = []) ∧
    (bitOf 128 (7 : Fin 8).val = true ∧ run.line[(7 : Fin 8)].txRun = true ∧ run.line[(7 : Fin 8)].rxRun = true) ∧
    blockReacting reactingBlock .cistern = true ∧
    (15 < 16 ∧ { rel with region := Vector.replicate 5 { reacting := true } }.region[Region.cistern.idx].reacting = true) ∧
    WriteOk .portS R.CHIP_FAULT_STATUS (F.CHIP_FAULT_STATUS_CHIP_FAULT.put (keepWord rel R.CHIP_FAULT_STATUS) 1) rel = true := by decide +kernel

/-- The hypotheses of RecipeLoadsComplete. -/
theorem witness_RecipeLoadsComplete :
    WriteOk .portS (R.WELL_RECIPE 7) (withBit F.WELL_RECIPE_LOAD 0) rel = true ∧
    (stored .portS (R.WELL_RECIPE 7) (withBit F.WELL_RECIPE_LOAD 0) rel).flag (R.WELL_RECIPE 7) F.WELL_RECIPE_SRC = false ∧
    findRecipe (stored .portS (R.WELL_RECIPE 7) (withBit F.WELL_RECIPE_LOAD 0) rel).pumps 0 = none ∧
    WriteOk .portS (R.WELL_RECIPE 7) (withBit F.WELL_RECIPE_LOAD 0) stock = true ∧
    (stored .portS (R.WELL_RECIPE 7) (withBit F.WELL_RECIPE_LOAD 0) stock).flag (R.WELL_RECIPE 7) F.WELL_RECIPE_SRC = false ∧
    (stored .portS (R.WELL_RECIPE 7) (withBit F.WELL_RECIPE_LOAD 0) stock).fld (R.WELL_RECIPE 7) F.WELL_RECIPE_SEL = 0 ∧
    findRecipe (stored .portS (R.WELL_RECIPE 7) (withBit F.WELL_RECIPE_LOAD 0) stock).pumps 0 = some recipe ∧
    stock.pumps.intact = true ∧
    recipeMatches (stored .portS (R.WELL_RECIPE 7) (withBit F.WELL_RECIPE_LOAD 0) stock) 7 recipe = true ∧
    recipeFits (stored .portS (R.WELL_RECIPE 7) (withBit F.WELL_RECIPE_LOAD 0) stock) 7 recipe = true ∧
    (wellIs { load := some { sel := 0, bank := 1, auto := false, recipe := recipe } }).well[(7 : Fin 8)].load = some { sel := 0, bank := 1, auto := false, recipe := recipe } := by decide +kernel

/-- The hypotheses of BankSwitchesComplete. -/
theorem witness_BankSwitchesComplete :
    WriteOk .portS (R.WELL_IBANK 7) (F.WELL_IBANK_SWITCH.put (keepWord twoBanks (R.WELL_IBANK 7)) 1) twoBanks = true ∧
    twoBanks.well[(7 : Fin 8)].switch = none ∧
    (updStep switching = 0 ∧ switching.well[(7 : Fin 8)].switch = some { target := 1, before := 0 }) ∧
    (switching.well[(7 : Fin 8)].load = none ∧ bankRecipe switching 7 1 = some recipe) ∧
    (bankRecipe switching 7 (bankInForce switching 7 1) = some recipe ∧ recipeMatches switching 7 recipe = true) ∧
    bankValidFor switching 7 1 1 = true ∧
    (updStep emptyTarget = 0 ∧ emptyTarget.well[(7 : Fin 8)].switch = some { target := 1, before := 0 } ∧ emptyTarget.well[(7 : Fin 8)].load = none) ∧
    (bankRecipe emptyTarget 7 1 = none ∧ updStep twoBanks = 0) := by decide +kernel

/-- The hypotheses of TestSlicesComplete. -/
theorem witness_TestSlicesComplete :
    rel.well[(7 : Fin 8)].rotDue = false ∧
    (rotating.well[(7 : Fin 8)].rotDue = true ∧ rotating.well[(7 : Fin 8)].move = none ∧ rotating.flag (R.WELL_ROT_CFG 7) F.WELL_ROT_CFG_ROT_EN = true) ∧
    (testBusy rotating 7 = false ∧ rotating.well[(7 : Fin 8)].restarting = false ∧ rotating.well[(7 : Fin 8)].retest = 63 :: []) ∧
    testBusy (rel.setFld (R.WELL_POOL 7) F.WELL_POOL_TEST_BUSY 1) 7 = true ∧
    WriteOk .portS R.SAF_LBIST_CTRL (withBit F.SAF_LBIST_CTRL_GO 0x3F0700) rel = true ∧
    (pumpQuar (rel.setFld (R.PUMP_STATE 7 63) F.PUMP_STATE_QUAR 1) 7 63 = true ∧ pumpQuar rel 7 63 = false) ∧
    (stored .portS R.SAF_LBIST_CTRL (withBit F.SAF_LBIST_CTRL_GO 0x3F0700) rel).fld R.SAF_LBIST_CTRL F.SAF_LBIST_CTRL_WELL = 7 ∧
    (stored .portS R.SAF_LBIST_CTRL (withBit F.SAF_LBIST_CTRL_GO 0x3F0700) rel).fld R.SAF_LBIST_CTRL F.SAF_LBIST_CTRL_PUMP = 63 := by decide +kernel

/-- The hypotheses of WellCommandsKeepTheRest. -/
theorem witness_WellCommandsKeepTheRest :
    rotating.inReset = false ∧ rotating.well[(7 : Fin 8)].retest.all (fun m => decide (m < 64)) = true ∧ rotating.well[(7 : Fin 8)].named = none := by decide +kernel

/-- The hypotheses of LaserCommandsComplete. -/
theorem witness_LaserCommandsComplete :
    (WriteOk .portS R.LINE_LEN_CTRL (maskedBits (2 ^ 7) true) rel = true ∧ WriteOk .portS R.LINE_LEN_CTRL (maskedBits (2 ^ 7) false) rel = true) ∧
    (rel.inReset = false ∧ lenOut (rel.setFld R.LINE_LEN_STATUS F.LINE_LEN_STATUS_LEN_OUT 128) 7 = true ∧ lenOut rel 7 = false) := by decide +kernel

/-- The hypotheses of ConverterCommandsComplete. -/
theorem witness_ConverterCommandsComplete :
    (rel.setFld (R.LINE_CAL_STATUS 7) F.LINE_CAL_STATUS_RUNNING 1).flag (R.LINE_CAL_STATUS 7) F.LINE_CAL_STATUS_RUNNING = true ∧
    (rel.flag (R.LINE_CAL_STATUS 7) F.LINE_CAL_STATUS_RUNNING = false ∧ carriesTraffic rel 7 = false ∧ lenOut rel 7 = false) ∧
    WriteOk .portS R.LINE_CAL_CMD (withBit F.LINE_CAL_CMD_GO 0) rel = true ∧
    carriesTraffic (rel.setFld (R.WELL_FRM_STATUS 7) F.WELL_FRM_STATUS_STATE 2) 7 = true ∧
    WriteOk .portS (R.LINE_PI 7) (F.LINE_PI_MANUAL.put (keepWord rel (R.LINE_PI 7)) 1) rel = true := by decide +kernel

/-- The hypotheses of AcquisitionCommandsComplete. -/
theorem witness_AcquisitionCommandsComplete :
    (rxState (rel.setFld (R.WELL_RX_STATUS 7) F.WELL_RX_STATUS_STATE 1) 7 = 1 ∧ rel.flag (R.WELL_RX_STATUS 7) F.WELL_RX_STATUS_TREC_LOCK = false) ∧
    (acqTimeout (rxIs 2 { epochs := 10000000 }) 7 ≤ (rxIs 2 { epochs := 10000000 }).rx[(7 : Fin 8)].epochs ∧ rxState (rxIs 2 { epochs := 10000000 }) 7 = 2) ∧
    (rxState (rxIs 4 {}) 7 = 4 ∧ rxState (rxIs 3 { unlocked := 16 }) 7 = 3 ∧ lossOfLockCond (rxIs 3 { unlocked := 16 }) 7 = true) ∧
    ((rxIs 3 { unlocked := 16 }).rx[(7 : Fin 8)].startPend = false ∧ (rxIs 3 { unlocked := 16 }).rx[(7 : Fin 8)].restartPend = false) ∧
    (rxIs 3 { unlocked := 16 }).pending.contains (.signalLoss 7) = false ∧
    (rxIs 3 { adaptRun := true }).rx[(7 : Fin 8)].adaptRun = true ∧
    WriteOk .portS (R.WELL_RX_CTRL 7) (withBit F.WELL_RX_CTRL_RESTART 0) rel = true ∧
    (WriteOk .portS (R.WELL_RX_CTRL 7) 3 rel = true ∧ F.WELL_RX_CTRL_RESTART.get 3 = 0) ∧
    reachRecipe (stored .portS (R.WELL_RX_CTRL 7) 3 rel) 7 ((stored .portS (R.WELL_RX_CTRL 7) 3 rel).fld (R.WELL_RX_CTRL 7) F.WELL_RX_CTRL_REACH) = none := by decide +kernel

/-- The hypotheses of AtlasLearningComplete. -/
theorem witness_AtlasLearningComplete :
    (if atlSrc picking 7 then picking.sig[(7 : Fin 8)].x else picking.sig[(7 : Fin 8)].y)[picking.atlas[(7 : Fin 8)].pick]? = some 5 ∧
    ((if atlSrc run 7 then run.sig[(7 : Fin 8)].x else run.sig[(7 : Fin 8)].y)[run.atlas[(7 : Fin 8)].pick]? = none ∧ atlasOn picking 7 = true ∧ atlasOn run 7 = false) ∧
    released.atlas[(7 : Fin 8)].held = { frame := 1, pos := 300, y := 5, erased := true } :: [] ∧
    (ctxSyms released 7 { frame := 1, pos := 300, y := 5, erased := false }).contains .excluded = false ∧
    (ctxEntry (ctxSyms released 7 { frame := 1, pos := 300, y := 5, erased := false })).isSome = true ∧
    (ctxSyms picking 7 { frame := 1, pos := 300, y := 5, erased := false }).contains .excluded = false ∧
    ctxEntry (ctxSyms picking 7 { frame := 1, pos := 300, y := 5, erased := false }) = none ∧
    (atlFrozen released 7 = false ∧ released.atlas[(7 : Fin 8)].resume = false ∧ atlasOn released 7 = true ∧ atlasOn (released.setReg R.ATL_CTRL 0) 7 = false) ∧
    ((released.atlas[(7 : Fin 8)].cache.any fun c => c.idx == 1048575) = false ∧ released.atlas[(7 : Fin 8)].misses.length < 16) ∧
    ((atlasIs { misses := List.replicate 16 { idx := 5, waiting := [] } }).atlas[(7 : Fin 8)].misses.any fun m => m.idx == 1048575) = false ∧
    16 ≤ (atlasIs { misses := List.replicate 16 { idx := 5, waiting := [] } }).atlas[(7 : Fin 8)].misses.length ∧
    (((atlasIs { misses := [{ idx := 5, waiting := [] }] }).atlas[(7 : Fin 8)].misses.any fun m => m.idx == 5) = true ∧ reacting (atlasIs { misses := [{ idx := 5, waiting := [] }] }) .cistern = false) ∧
    reacting { rel with region := Vector.replicate 5 { reacting := true } } .cistern = true ∧
    (distilling.atlas[(7 : Fin 8)].run = some { h1 := 0, h2 := 0, canSend := false } ∧ ({ h1 := 0, h2 := 0, canSend := false } : DistRun).result = none) ∧
    (1020 ≤ distilling.line[(7 : Fin 8)].rxEpochs % 1024 ∧ distilling.line[(7 : Fin 8)].rxEpochs % 1024 < 1023 ∧ rel.line[(7 : Fin 8)].rxEpochs % 1024 < 1020) ∧
    (atlFrozen (rel.setFld R.ATL_FREEZE F.ATL_FREEZE_FREEZE 128) 7 = true ∧ rel.atlas[(7 : Fin 8)].misses = [] ∧ atlFrozen rel 7 = false) ∧
    (cisFlag rel F.CIS_STATUS_UNAVAILABLE = false ∧ cisFlag (rel.setFld R.CIS_STATUS F.CIS_STATUS_UNAVAILABLE 1) F.CIS_STATUS_UNAVAILABLE = true) ∧
    (1023 % 1024 = 1023 ∧ rel.atlas[(7 : Fin 8)].run = none) := by decide +kernel

/-- The hypotheses of AtlasRegisterCommandsComplete. -/
theorem witness_AtlasRegisterCommandsComplete :
    WriteOk .portS R.ATL_CLEAR (F.ATL_CLEAR_LANES.put (keepWord rel R.ATL_CLEAR) 128) rel = true ∧
    (bitOf 128 7 = true ∧ atlClearing rel 7 = false) ∧
    (atlClearing (rel.setFld R.ATL_CLEAR F.ATL_CLEAR_BUSY 128) 7 = true ∧ Memory.wf rel.mem = true) ∧
    WriteOk .portS R.ATL_FREEZE (maskedBits (2 ^ 7) true) rel = true ∧
    (WriteOk .portS R.ATL_FREEZE (maskedBits (2 ^ 7) false) (rel.setFld R.ATL_FREEZE F.ATL_FREEZE_FREEZE 128) = true ∧ atlFrozen (rel.setFld R.ATL_FREEZE F.ATL_FREEZE_FREEZE 128) 7 = true) ∧
    WriteOk .portS (R.ATL_LANE_CFG 7) (F.ATL_LANE_CFG_SRC.put (keepWord rel (R.ATL_LANE_CFG 7)) (b2n true)) rel = true ∧
    rel.flag (R.ATL_LANE_CFG 7) F.ATL_LANE_CFG_SRC = !true ∧
    WriteOk .portS (R.ATL_RD_INDEX 7) (F.ATL_RD_INDEX_INDEX.put (keepWord rel (R.ATL_RD_INDEX 7)) 1048575) rel = true ∧
    ((atlasIs { rd := some 5 }).atlas[(7 : Fin 8)].rd = some 5 ∧ atlasStalls (atlasIs { rd := some 5 }) = false ∧ atlasStalls retraining = true ∧ rel.atlas[(7 : Fin 8)].rd = none) := by decide +kernel

/-- The hypotheses of PredistortionUpdatesComplete. -/
theorem witness_PredistortionUpdatesComplete :
    (rel.seepLn[(7 : Fin 8)].segs = [] ∧ rel.atlas[(7 : Fin 8)].rx = none) ∧
    (segIn { seg := 0, upd := 1, frag := 0, data := 0 } none).seepLn[(7 : Fin 8)].segs = { seg := 0, upd := 1, frag := 0, data := 0 } :: [] ∧
    (({ seg := 0, upd := 1, frag := 0, data := 0, low := true } : Seg).low = true ∧ ({ seg := 0, upd := 1, frag := 0, data := 0 } : Seg).low = false) ∧
    (segIn { seg := 79, upd := 65535, frag := 0, data := 0 } (some { upd := 65535, next := 79 })).atlas[(7 : Fin 8)].rx = some { upd := 65535, next := 79 } ∧
    (bitOf 0 3 = false ∧ 8 ≤ 79 + 1 ∧ 80 ≤ 79 + 1 ∧ 14 + 1 < 16 ∧ bitOf 8 3 = true ∧ 6 + 1 < 8) ∧
    (rel.flag (R.ATL_LANE_CFG (lane (0 % 8))) F.ATL_LANE_CFG_PD_SRC = false ∧ deepSleep rel = false ∧ 65535 < 65536) ∧
    65535 ≠ rel.fld (R.ATL_PD_STATE (lane (0 % 8))) F.ATL_PD_STATE_RX_UPD ∧
    ((atlasIs { rx := some { upd := 1, idle := 8 } }).atlas[(7 : Fin 8)].rx = some { upd := 1, idle := 8 } ∧ ({ upd := 1, idle := 7 } : PdRx).idle < 8) ∧
    ((atlasIs { pdDue := true }).atlas[(7 : Fin 8)].pdDue = true ∧ rel.atlas[(7 : Fin 8)].pdDue = false) ∧
    ((takeMsg 7 (fun m => m.mtype == 0x20) ackIn).map (·.1) = some (msg 0x20 []) ∧ (msg 0x20 []).payload.isEmpty = true) ∧
    ((takeMsg 7 (fun m => m.mtype == 0x20) (inbox (msg 0x20 [0, 1]))).map (·.1) = some (msg 0x20 [0, 1]) ∧ (inbox (msg 0x20 [0, 1])).atlas[(7 : Fin 8)].ackWait = none) ∧
    (takeMsg 7 (fun m => m.mtype == 0x20) rel).isNone = true ∧
    (ackIn.atlas[(7 : Fin 8)].ackWait = some 16 ∧ 15 < 16 ∧ rel.atlas[(7 : Fin 8)].ackWait = none) ∧
    WriteOk .portS (R.ATL_PD_DATA 7) 5 ((rel.setFld (R.ATL_LANE_CFG 7) F.ATL_LANE_CFG_PD_SRC 1).setFld (R.ATL_PD_INDEX 7) F.ATL_PD_INDEX_VIEW 1) = true ∧
    (ReadOk .portS (R.ATL_PD_DATA 7) rel = true ∧ ReadOk .portS (R.ATL_DET_DATA 7) rel = true) ∧
    WriteOk .portS (R.ATL_PD_APPLY 7) (F.ATL_PD_APPLY_APPLY.put (keepWord rel (R.ATL_PD_APPLY 7)) 1) rel = true ∧
    (rel.setFld (R.ATL_LANE_CFG 7) F.ATL_LANE_CFG_PD_SRC 1).flag (R.ATL_LANE_CFG 7) F.ATL_LANE_CFG_PD_SRC = true := by decide +kernel

/-- The hypotheses of LineTapTrainingComplete. -/
theorem witness_LineTapTrainingComplete :
    (WriteOk .portS (R.ATL_TRAIN 7) (withBit F.ATL_TRAIN_START 0) rel = true ∧ rel.atlas[(7 : Fin 8)].train = none) ∧
    (2 ≤ ((rxIs 3 {}).setFld (R.ATL_TRAIN 7) F.ATL_TRAIN_TRAIN_MODE 2).fld (R.ATL_TRAIN 7) F.ATL_TRAIN_TRAIN_MODE ∧ rxState (rxIs 3 {}) 7 = 3) ∧
    (takeMsg 7 (fun m => m.mtype == 0x21) (inbox (msg 0x21 [7, 9]))).map (fun x => (x.1, x.2.1)) = some (msg 0x21 [7, 9], some 0) ∧
    (takeMsg 7 (fun m => m.mtype == 0x22) (inbox (msg 0x22 [0, 0, 0]))).map (fun x => (x.1, x.2.2.atlas[(7 : Fin 8)].train)) = some (msg 0x22 [0, 0, 0], some { frames := 4 }) ∧
    (({ frames := 4 } : TrainRun).waiting = true ∧ (msg 0x22 [0, 0, 0]).rc ≠ 8) ∧
    (atlasIs { train := some { frames := 4, phase := .step } }).atlas[(7 : Fin 8)].train = some { frames := 4, phase := .step } ∧
    (atlasIs { train := some { waiting := false, phase := .base } }).atlas[(7 : Fin 8)].train = some { waiting := false, phase := .base } ∧
    (takeMsg 7 (fun m => m.mtype == 0x21) (overdue (msg 0x21 [7, 9]))).map (fun x => (x.1, x.2.1)) = some (msg 0x21 [7, 9], none) ∧
    ((msg 0x22 [0, 0, 0]).tid ≠ ({ frames := 4 } : TrainRun).tid ∧ (msg 0x22 [0, 0, 0]).tid = ({ frames := 4, tid := 9 } : TrainRun).tid ∧ ({ msg 0x22 [] with rc := 8 } : SMsg).rc = 8) ∧
    (({ waiting := false, phase := .base } : TrainRun).skip = 0 ∧ ({ waiting := false, phase := .base } : TrainRun).left = 0 ∧ (rxIs 3 {}).atlas[(7 : Fin 8)].train = none) := by decide +kernel

/-- The hypotheses of FramingAndCodesComplete. -/
theorem witness_FramingAndCodesComplete :
    WriteOk .portS R.FEC_PROFILE (withBit F.FEC_PROFILE_APPLY 0) rel = true ∧
    profileRefused 0 0 0 (stored .portS R.FEC_PROFILE (withBit F.FEC_PROFILE_APPLY 0) rel) = true ∧
    profileRefused 0 0 0 (stored .portS R.FEC_PROFILE (withBit F.FEC_PROFILE_APPLY 0) stock) = false ∧
    profileSame 0 0 0 (stored .portS R.FEC_PROFILE (withBit F.FEC_PROFILE_APPLY 0) stock) = false ∧
    availLevel (stored .portS R.FEC_PROFILE (withBit F.FEC_PROFILE_APPLY 0) stock) ≤ comboNeed 0 0 (stored .portS R.FEC_PROFILE (withBit F.FEC_PROFILE_APPLY 0) stock) ∧
    ((rel.setFld R.FEC_PROFILE F.FEC_PROFILE_BUSY 1).flag R.FEC_PROFILE F.FEC_PROFILE_BUSY = true ∧ rel.pwr.held = none ∧ rel.flag R.FEC_PROFILE F.FEC_PROFILE_BUSY = false) ∧
    (profileEff run = .deep ∧ run.line[(7 : Fin 8)].rxRun = true ∧ frmState run 7 = 0 ∧ rel.line[(7 : Fin 8)].rxRun = false) ∧
    syncDiff (headerAt 7 (headerPlace run 7 0) run).1 > run.fld (R.WELL_FRM_CFG 7) F.WELL_FRM_CFG_SYNC_TOL ∧
    syncDiff (headerAt 7 (headerPlace (headed 0) 7 0) (headed 0)).1 ≤ (headed 0).fld (R.WELL_FRM_CFG 7) F.WELL_FRM_CFG_SYNC_TOL ∧
    (frmState (headed 1) 7 = 1 ∧ profileEff (headed 1) = .deep ∧ (headed 1).line[(7 : Fin 8)].rxRun = true) ∧
    syncDiff (headerAt 7 (headerPlace (headed 1) 7 0) (headed 1)).1 ≤ (headed 1).fld (R.WELL_FRM_CFG 7) F.WELL_FRM_CFG_SYNC_TOL ∧
    max 1 ((headed 1).fld (R.WELL_FRM_CFG 7) F.WELL_FRM_CFG_CONFIRM_N) ≤ (headed 1).frm[(7 : Fin 8)].confirm + 1 ∧
    (frmState (headed 2) 7 = 2 ∧ ¬(max 2 ((headed 2).fld (R.WELL_FRM_CFG 7) F.WELL_FRM_CFG_LOF_N) ≤ (headed 2).frm[(7 : Fin 8)].misses + 1)) ∧
    syncDiff (headerAt 7 (headerPlace missing 7 0) missing).1 > missing.fld (R.WELL_FRM_CFG 7) F.WELL_FRM_CFG_SYNC_TOL ∧
    (frmState missing 7 = 2 ∧ max 2 (missing.fld (R.WELL_FRM_CFG 7) F.WELL_FRM_CFG_LOF_N) ≤ missing.frm[(7 : Fin 8)].misses + 1) ∧
    (pwrState standard = 0 ∧ profileEff standard = .standard ∧ standard.sig[(7 : Fin 8)].llr ≠ []) ∧
    (pwrState learner = 0 ∧ profileEff learner = .deep ∧ framesAligned learner 7 = true ∧ deskewOk learner 7 = true) ∧
    (learner.frm[spreadLead learner 7].cwNext < 128 * (spreadLanes learner 7).length ∧ learner.cores.length < 128 ∧ pwrState deep ≠ 0) ∧
    ((decoding.cores.any fun w => w.lane == 7) = true ∧ (rel.cores.any fun w => w.lane == 7) = false) ∧
    (octOn group 0 = true ∧ isLead group 0 = true ∧ dirLocked group false 0 = true) ∧
    ((lanesOfPort group (portOfLane group 0)).all (fun i => decide (groupBits group ≤ group.frm[i].oct.length)) = true ∧ (lanesOfPort group (portOfLane group 0)).all (fun i => octLead group i == 0) = true) ∧
    (octLead offGroup 0 ≠ 0 ∧ dirLocked offGroup false 0 = true ∧ octOn offGroup 0 = true ∧ isLead offGroup 0 = true) ∧
    (dirLocked unlockedGroup false 0 = false ∧ octOn unlockedGroup 0 = true ∧ (lanesOfPort unlockedGroup (portOfLane unlockedGroup 0)).all (fun i => decide (groupBits unlockedGroup ≤ unlockedGroup.frm[i].oct.length)) = true) ∧
    (octOn oct 0 = true ∧ (lanesOfPort oct (portOfLane oct 0)).all (fun i => decide (groupBits oct ≤ oct.frm[i].oct.length)) = false ∧ octOn rel 0 = false) ∧
    (pwrState skewed = 0 ∧ profileEff skewed = .deep ∧ framesAligned skewed 7 = true ∧ deskewOk skewed 7 = false ∧ skewed.frm[spreadLead skewed 7].cwNext < 128 * (spreadLanes skewed 7).length) ∧
    (profileEff (rel.setFld R.FEC_PROFILE F.FEC_PROFILE_PROFILE_EFF 2) = .spring ∧ profileEff standard ≠ .deep ∧ rel.pwr.held = none) := by decide +kernel

/-- The hypotheses of IterationsPermittedUnderTheThrottle. -/
theorem witness_IterationsPermittedUnderTheThrottle :
    1 ≤ 1 ∧ 12 ≤ 12 := by decide +kernel

/-- The hypotheses of HostLaneSignalEventsComplete. -/
theorem witness_HostLaneSignalEventsComplete :
    (hostEn hostOn 7 = true ∧ deepSleep hostOn = false ∧ hostOn.flag (R.HOST_LN_STATUS 7) F.HOST_LN_STATUS_SIG_DET = false ∧ hostEn rel 7 = false) ∧
    ((hostAt 1).flag (R.HOST_LN_STATUS 7) F.HOST_LN_STATUS_SIG_DET = true ∧ (hostAt 1).flag (R.HOST_LN_STATUS 7) F.HOST_LN_STATUS_CDR_LOCK = false) ∧
    ((-30000 : Int).natAbs ≤ freqLimit (hostAt 1) ∧ freqLimit (hostAt 1) < (-30001 : Int).natAbs) ∧
    ((hostAt 4).setFld (R.HOST_LN_STATUS 7) F.HOST_LN_STATUS_CDR_LOCK 1).flag (R.HOST_LN_STATUS 7) F.HOST_LN_STATUS_CDR_LOCK = true := by decide +kernel

/-- The hypotheses of HostLaneTrainingComplete. -/
theorem witness_HostLaneTrainingComplete :
    (trainAuto (hostAt 2) = true ∧ hostTest (hostAt 2) = 0 ∧ hostState (hostAt 2) 7 = 2 ∧ hostState rel 7 ≠ 2 ∧ hostState rel 7 ≠ 4 ∧ hostState rel 7 ≠ 3) ∧
    (!groupReacting (hostAt 3) 1 && (hostState (hostAt 3) 7 == 3 || (hostState (hostAt 3) 7 == 4 && !trainAuto (hostAt 3)))) = true ∧
    (!groupReacting (hostAt 4) 1 && (hostState (hostAt 4) 7 == 3 || (hostState (hostAt 4) 7 == 4 && !trainAuto (hostAt 4)))) = false ∧
    ((hostLaneIs { train := some {}, req := some .hold }).host.lanes[(7 : Fin 8)].train = some {} ∧ ({} : HostTrain).phase = .preset) ∧
    (hostLaneIs { train := some { phase := .step }, req := some .hold }).host.lanes[(7 : Fin 8)].req = some .hold ∧
    (hostLaneIs { train := some { phase := .base } }).host.lanes[(7 : Fin 8)].train = some { phase := .base } ∧
    ((hostLaneIs { train := some { phase := .trial } }).host.lanes[(7 : Fin 8)].train = some { phase := .trial } ∧ rel.host.lanes[(7 : Fin 8)].train = none) ∧
    (2 * 1 < (2 + (hostAt 3).fld R.HOST_CTRL F.HOST_CTRL_TRAIN_MIN_GAIN * 1) * 1 ∧ ¬ 255 * 1 < (0 + (hostAt 3).fld R.HOST_CTRL F.HOST_CTRL_TRAIN_MIN_GAIN * 1) * 1) ∧
    (hostLaneIs { train := some { ready := true } }).host.lanes[(7 : Fin 8)].train = some { ready := true } ∧
    hostState (hostLaneIs { train := some { ready := true } }) 7 = 3 := by decide +kernel

/-- The hypotheses of HostRegisterCommandsComplete. -/
theorem witness_HostRegisterCommandsComplete :
    WriteOk .portS (R.HOST_LN_CFG 7) (F.HOST_LN_CFG_EN.put (keepWord rel (R.HOST_LN_CFG 7)) (b2n true)) rel = true ∧
    hostEn rel 7 = !true ∧
    WriteOk .portS (R.HOST_LN_CFG 7) (F.HOST_LN_CFG_EN.put (keepWord (hostAt 4) (R.HOST_LN_CFG 7)) (b2n false)) (hostAt 4) = true ∧
    hostEn (hostAt 4) 7 = !false ∧
    WriteOk .portS (R.HOST_LN_CFG 7) (F.HOST_LN_CFG_RETRAIN.put (keepWord (hostAt 4) (R.HOST_LN_CFG 7)) 1) (hostAt 4) = true ∧
    (hostState (hostAt 4) 7 = 4 ∧ trainAuto (hostAt 4) = true) ∧
    WriteOk .portS (R.HOST_LN_CFG 7) (F.HOST_LN_CFG_RX_POL.put (keepWord (hostAt 4) (R.HOST_LN_CFG 7)) (b2n true)) (hostAt 4) = true ∧
    (hostAt 4).flag (R.HOST_LN_CFG 7) F.HOST_LN_CFG_RX_POL = !true ∧
    (WriteOk .portS R.HOST_RX_MAP 0 rel = true ∧ isPerm (F.HOST_RX_MAP_MAP.get 0) = false) ∧
    (WriteOk .portS R.HOST_TX_MAP 0xFAC688 rel = true ∧ isPerm (F.HOST_RX_MAP_MAP.get 0xFAC688) = true) ∧
    WriteOk .portS R.HOST_CTRL (F.HOST_CTRL_TEST.put (keepWord (hostAt 4) R.HOST_CTRL) 1) (hostAt 4) = true ∧
    hostTest (accepted .portS R.HOST_CTRL (F.HOST_CTRL_TEST.put (keepWord (hostAt 4) R.HOST_CTRL) 1) (hostAt 4)) ≠ 0 := by decide +kernel

/-- The hypotheses of DegradeWindowOfAMonitor. -/
theorem witness_DegradeWindowOfAMonitor :
    monReady seen 0 1 = true ∧
    monReady rel 7 1 = false ∧
    2 ^ 24 ≤ (monIs { win := 2 ^ 24, winHigh := 2 ^ 24 }).host.mon[monIdx 7 1].win ∧
    (monIs { win := 2 ^ 24, winHigh := 2 ^ 24 }).fld R.HOST_MON_CFG F.HOST_MON_CFG_DEG_COUNT < (monIs { win := 2 ^ 24, winHigh := 2 ^ 24 }).host.mon[monIdx 7 1].winHigh ∧
    rel.host.mon[monIdx 7 1].win < 2 ^ 24 := by decide +kernel

/-- The hypotheses of MonitorMarkersAndSnapshotsComplete. -/
theorem witness_MonitorMarkersAndSnapshotsComplete :
    (portExists delivering 0 = true ∧ portFails delivering 0 1 = false) ∧
    (monLocked (delivering.setFld (R.HOST_MON_STATUS 0 1) F.HOST_MON_STATUS_LOCK 1) 0 1 = true ∧ monLocked delivering 0 1 = false) ∧
    (7 < (lanesOfPort delivering 0).length ∧ delivering.host.mon[monIdx 0 1].bad.length = 8 ∧ delivering.host.mon[monIdx 0 1].good.length = 8) ∧
    amLossN delivering ≤ (({ bad := [9, 0, 0, 0, 0, 0, 0, 0] } : MonCnt).bad[0]?).getD 0 + 1 ∧
    (∀ j : Fin 8, amLockN delivering ≤ ((([255, 255, 255, 255, 255, 255, 255, 255] : List Nat))[j.val]?).getD 0 + if j = 7 then 1 else 0) ∧
    (portExists rel 1 = false ∧ portFails rel 0 1 = true) ∧
    WriteOk .portS R.HOST_MON_SNAP (F.HOST_MON_SNAP_SNAP.put (keepWord rel R.HOST_MON_SNAP) 1) rel = true ∧
    WriteOk .portS R.HOST_MON_SNAP (F.HOST_MON_SNAP_CLEAR.put (keepWord rel R.HOST_MON_SNAP) 1) rel = true ∧
    (bitOf 1 0 = true ∧ portExists rel 0 = true) := by decide +kernel

/-- The hypotheses of SeepFramesComplete. -/
theorem witness_SeepFramesComplete :
    (seepEn talking 7 = true ∧ lenOut talking 7 = true ∧ talking.atlas[(7 : Fin 8)].tx = none) ∧
    talking.seepLn[(7 : Fin 8)].q = [] ∧
    ((seepIs { q := [{ cls := 3, msg := msg 1 [] }] }).seepLn[(7 : Fin 8)].q = [{ cls := 3, msg := msg 1 [] }] ∧ cellCount (msg 1 []) = 1) ∧
    (seepEn (seepIs {}) 7 = true ∧ lenOut (seepIs {}) 7 = false ∧ deepSleep (seepIs {}) = false) ∧
    (seepIs { rxTag := some (false, 3) }).seepLn[(7 : Fin 8)].rxTag.isSome = true ∧
    ((seepIs { missed := 3 }).setFld (R.SEEP_LN_STATUS 7) F.SEEP_LN_STATUS_RX_SYNC 1).flag (R.SEEP_LN_STATUS 7) F.SEEP_LN_STATUS_RX_SYNC = true ∧
    3 ≤ (seepIs { missed := 3 }).seepLn[(7 : Fin 8)].missed ∧
    relay.seepLn[(7 : Fin 8)].inbox = { msg 1 [] with dst := 5 } :: [] ∧
    (consumed relay { msg 1 [] with dst := 5 } = false ∧ seepNode relay ≠ 0) ∧
    relay.flag (R.SEEP_LN_CFG 7) F.SEEP_LN_CFG_FWD_EN = true ∧
    (({ msg 1 [] with dst := 5 } : SMsg).hops ≠ 0 ∧ ({ msg 1 [] with hops := 0 } : SMsg).hops = 0) ∧
    (routeLane relay 5 = some 0 ∧ (0 : Fin 8) ≠ 7 ∧ seepEn relay 0 = true ∧ relay.seepLn[(0 : Fin 8)].q.length < 32) ∧
    (seepEn fed 7 = true ∧ deepSleep fed = false ∧ seepFed fed 7 = true ∧ tagAccepted (fed.actFld (R.SEEP_LN_FILT1 7) F.SEEP_LN_FILT1_TAG_MARGIN) (seepFrame 100) = true) ∧
    (tagAccepted (margin.actFld (R.SEEP_LN_FILT1 7) F.SEEP_LN_FILT1_TAG_MARGIN) (seepFrame 8) = false ∧ seepEn margin 7 = true ∧ seepFed margin 7 = true) ∧
    (seepFed (seepIs {}) 7 = false ∧ seepEn rel 7 = false ∧ deepSleep deep = true) ∧
    (rel.flag (R.SEEP_LN_STATUS 7) F.SEEP_LN_STATUS_RX_SYNC = false ∧ routeLane rel 5 = none) ∧
    ((seepFrame 100).found = true ∧ (seepFrame 100).modeL = true ∧ (seepFrame 100).place.natAbs ≤ 2 ∧ (seepFrame 100).unsettled = false) ∧
    (({ seepFrame 100 with place := -3 } : SRxFrame).place.natAbs > 2 ∧ (fed.setFld (R.SEEP_LN_STATUS 7) F.SEEP_LN_STATUS_RX_SYNC 1).flag (R.SEEP_LN_STATUS 7) F.SEEP_LN_STATUS_RX_SYNC = true) ∧
    (({ cls := 3, msg := msg 1 [] } : QMsg).due = none ∧ ({ cls := 3, msg := msg 1 [] } : QMsg).sent = 0) ∧
    (routeLane relay 5 = some 0 ∧ seepNode rel = 0 ∧ rel.flag (R.SEEP_LN_CFG 7) F.SEEP_LN_CFG_FWD_EN = false ∧ seepEn rel 0 = false) := by decide +kernel

/-- The hypotheses of PortFRequestsComplete. -/
theorem witness_PortFRequestsComplete :
    (consumed rel (msg 1 []) = true ∧ pfServed rel = true) ∧
    (inbox (msg 1 [])).seepLn[(7 : Fin 8)].inbox = msg 1 [] :: [] ∧
    ((msg 1 []).payload.length = 0 ∧ (msg 2 []).payload.length = 0) ∧
    (consumed (inbox (msg 2 [])) (msg 2 []) = true ∧ pfServed (inbox (msg 2 [])) = true) ∧
    (mbxInFull (rel.setFld (R.MBX_STATUS 2) F.MBX_STATUS_IN_FULL 1) 2 = true ∧ mbxInFull (inbox (msg 5 mailIn)) 2 = false) ∧
    (consumed (inbox (msg 5 mailIn)) (msg 5 mailIn) = true ∧ (wordsOf mailIn (mailIn.length / 4))[0]? = some 8 ∧ mailIn.length = 4 + 4 * (8 % 32)) ∧
    (((inbox (msg 8 [])).setFld R.SEEP_CFG F.SEEP_CFG_PF_WAKE_EN 1).flag R.SEEP_CFG F.SEEP_CFG_PF_WAKE_EN = true ∧ (msg 8 []).src < 4096) ∧
    ((inbox (msg 8 [])).setFld R.SEEP_CFG F.SEEP_CFG_PF_WAKE_EN 0).flag R.SEEP_CFG F.SEEP_CFG_PF_WAKE_EN = false ∧
    (answering.seep.reqs = request :: [] ∧ request.lane = 7 ∧ seepEn answering 7 = true ∧ answering.seepLn[(7 : Fin 8)].q.length < 32) ∧
    (request.reply = some (0, []) ∧ 1 ≤ request.frames ∧ lenOut answering 7 = false) ∧
    lenOut (answering.setFld R.LINE_LEN_STATUS F.LINE_LEN_STATUS_LEN_OUT 128) 7 = true ∧
    mbxInFull (({ inbox (msg 5 mailIn) with now := 0 }).setFld (R.MBX_STATUS 2) F.MBX_STATUS_IN_FULL 1) 2 = true ∧
    ((inbox (msg 1 [])).seepLn[(7 : Fin 8)].inFrames[0]?).getD (some 0) ≠ none := by decide +kernel

/-- The hypotheses of EventsAndGatewayComplete. -/
theorem witness_EventsAndGatewayComplete :
    (eventful.flag R.SEEP_PF_PEER F.SEEP_PF_PEER_EN = true ∧ Nat.lor eventful.seep.evLast (eventBits eventful) ≠ eventful.seep.evLast) ∧
    (eventBits eventful ≠ 0 ∧ max 1 (eventful.fld R.SEEP_CFG F.SEEP_CFG_EVENT_REPEAT) ≤ eventful.seep.evFrames ∧ rel.seep.evFrames < max 1 (rel.fld R.SEEP_CFG F.SEEP_CFG_EVENT_REPEAT)) ∧
    ((inbox (msg 7 [])).seepLn[(7 : Fin 8)].inbox = msg 7 [] :: [] ∧ consumed (inbox (msg 7 [])) (msg 7 []) = true) ∧
    ((inbox (msg 7 [])).seep.gwRx.length < 4 ∧ 4 ≤ (List.replicate 4 (msg 7 [])).length) ∧
    ((msg 3 []).mtype ∈ [3, 4, 6, 9] ∧ (inbox (msg 3 [])).seep.gwReqs.any (gwMatches (msg 3 [])) = false) ∧
    WriteOk .portS R.SEEP_GW_CTL (withBit F.SEEP_GW_CTL_GO (F.SEEP_GW_CTL_LANE.put (keepWord rel R.SEEP_GW_CTL) 7)) rel = true ∧
    gwMessage (stored .portS R.SEEP_GW_CTL (withBit F.SEEP_GW_CTL_GO (F.SEEP_GW_CTL_LANE.put (keepWord longGw R.SEEP_GW_CTL) 7)) longGw) = none ∧
    WriteOk .portS R.SEEP_GW_CTL (F.SEEP_GW_CTL_POP.put (keepWord rel R.SEEP_GW_CTL) 1) rel = true ∧
    ({ rel with seep := { rel.seep with gwRx := [msg 7 []] } } : State).seep.gwRx ≠ [] ∧
    (WriteOk .portS R.SEEP_GW_TXDATA 0xFFFFFFFF rel = true ∧ ReadOk .portS R.SEEP_GW_RXDATA rel = true) ∧
    (WriteOk .portS (R.SEEP_LN_CFG 7) (F.SEEP_LN_CFG_EN.put (keepWord rel (R.SEEP_LN_CFG 7)) (b2n false)) rel = true ∧ seepEn (seepIs {}) 7 = true) ∧
    (rel.flag R.SEEP_PF_PEER F.SEEP_PF_PEER_EN = false ∧ eventBits rel = 0 ∧ rel.seep.evLast = Nat.lor rel.seep.evLast (eventBits rel)) ∧
    ((eventful.flag R.SEEP_PF_PEER F.SEEP_PF_PEER_EN = true) ∧ consumed (inbox (msg 3 [])) (msg 3 []) = true) ∧
    ([(3, 3, 9)] : List (Nat × Nat × Nat)).any (gwMatches (msg 3 [])) = true := by decide +kernel

/-- The hypotheses of SecondWrapsAndPpsComplete. -/
theorem witness_SecondWrapsAndPpsComplete :
    (refLost rel = false ∧ pwrState rel ≠ 4 ∧ uncGrowth rel = 0 ∧ 0 < todInc rel ∧ todInc rel ≤ secOne) ∧
    (rel.tod.a.sec < 2 ^ 48 ∧ rel.tod.a.ns < 1000000000 ∧ rel.tod.a.frac < fracOne) ∧
    (rel.setFld R.TOD_CTRL F.TOD_CTRL_PPS_OUT_EN 1).flag R.TOD_CTRL F.TOD_CTRL_PPS_OUT_EN = true ∧
    (rel.setFld R.TOD_STATUS F.TOD_STATUS_VALID 1).flag R.TOD_STATUS F.TOD_STATUS_VALID = true ∧
    (rel.setFld R.TOD_CTRL F.TOD_CTRL_TOD_TX_EN 1).flag R.TOD_CTRL F.TOD_CTRL_TOD_TX_EN = true ∧
    (rel.setFld R.TOD_CTRL F.TOD_CTRL_TOD_TX_EN 0).flag R.TOD_CTRL F.TOD_CTRL_TOD_TX_EN = false ∧
    (0 < bareInc rel ∧ bareInc rel ≤ secOne ∧ rel.tod.part = 0) := by decide +kernel

/-- The hypotheses of TimeRegisterCommandsComplete. -/
theorem witness_TimeRegisterCommandsComplete :
    WriteOk .portS R.TOD_SET_CTRL (F.TOD_SET_CTRL_GO.put (keepWord timed R.TOD_SET_CTRL) 1) timed = true ∧
    (timed.flag R.TOD_STATUS F.TOD_STATUS_VALID = true ∧ timed.fld R.TOD_CTRL F.TOD_CTRL_SRC ≠ 0) ∧
    (rel.flag R.TOD_STATUS F.TOD_STATUS_VALID = false ∧ rel.flag R.TOD_STATUS F.TOD_STATUS_NO_MAJORITY = false) ∧
    WriteOk .portS R.TOD_PHASE (withBit F.TOD_PHASE_GO (F.TOD_PHASE_STEP.put 0x08000000 1)) rel = true ∧
    F.TOD_PHASE_STEP.get (F.TOD_PHASE_STEP.put 0x08000000 1) = 1 ∧
    WriteOk .portS R.TOD_SNAP_CTRL (withBit F.TOD_SNAP_CTRL_CAPTURE 0) rel = true ∧
    ReadOk .portS R.TOD_FREQ_LO rel = true ∧
    (WriteOk .portS R.TOD_FREQ_MAN_HI 0x8000 rel = true ∧ servo rel = 0 ∧ rel.fld R.TOD_CTRL F.TOD_CTRL_SRC = 0) ∧
    (WriteOk .portS R.TOD_CTRL 0 timed = true ∧ F.TOD_CTRL_SRC.get 0 = 0) := by decide +kernel

/-- The hypotheses of TimeTransferComplete. -/
theorem witness_TimeTransferComplete :
    marking.tod.a.sec * 16 + marking.tod.a.ns / 62500000 ≠ marking.tod.lastMark ∧
    (marking.tod.exch.isSome = true ∧ followsLine marking = true ∧ profileEff marking = .deep ∧ marking.line[ttLane marking].txRun = true ∧ dataOn marking = true ∧ dataOn deep = false) ∧
    rel.line[ttLane rel].txRun = false ∧
    (({ sec := 0, ns := 999999999 } : Tod).ns / 62500000 = 15 ∧ ({ lastMark := 15, a := { ns := 999999999 } } : TodSt).lastMark = 0 * 16 + 999999999 / 62500000) ∧
    (marked.frm[ttLane marked].tmf = true ∧ marked.frm[ttLane marked].fcnt = some 9 ∧ seepEn marked (ttLane marked) = true) ∧
    rel.frm[ttLane rel].tmf = false ∧
    (ttIn.seepLn[ttLane ttIn].inbox = msg 0x10 ttBytes :: [] ∧ ttIn.tod.exch = some (beNat ((ttBytes.drop 20).take 4))) ∧
    findMark (beNat ((ttBytes.drop 20).take 4)) ttIn.tod.txMarks = some { fcnt := 0, t := 0, lock := true } ∧
    findMark (beNat ((ttBytes.drop 4).take 4)) ttIn.tod.rxMarks = some { fcnt := 0, t := 0, lock := true } ∧
    (servo ttIn ≠ 2 ∧ followsLine ttIn = true ∧ bitOf (beNat ((ttBytes.drop 2).take 2)) 0 = true ∧ bitOf (beNat ((ttBytes.drop 2).take 2)) 1 = false) ∧
    (let s := marked.setFld (R.SEEP_LN_STATUS 0) F.SEEP_LN_STATUS_TX_MODE 1; seepTxL s (ttLane s) = true ∧ seepEn s (ttLane s) = true ∧ s.tod.lInt ≠ some (ttInterval s) ∧ s.seepLn[ttLane s].q.length < 32) ∧
    (({ lInt := some 0 } : TodSt).lInt = some (ttInterval rel) ∧ seepTxL rel (ttLane rel) = false) ∧
    (lIn.seepLn[ttLane lIn].inbox = msg 0x11 ttBytes :: [] ∧ lIn.tod.exchL = some 0 ∧ (0 : Int) - fourSeconds ≤ 0 ∧ 0 < fourSeconds + 1 - fourSeconds ∧ findMark 0 lIn.tod.lTx = some { fcnt := 0, t := 0, lock := true } ∧ findMark 0 lIn.tod.lRx = some { fcnt := 0, t := 0, lock := true }) ∧
    ((rel.setFld R.FEC_PROFILE F.FEC_PROFILE_PROFILE_EFF 1).line[ttLane rel].txRun = false ∧ profileEff (rel.setFld R.FEC_PROFILE F.FEC_PROFILE_PROFILE_EFF 1) ≠ .deep) ∧
    (rel.tod.a.sec * 16 + rel.tod.a.ns / 62500000 = rel.tod.lastMark ∧ rel.tod.a.ns / 62500000 < 15 ∧ 0 < todInc rel ∧ todInc rel * 16 ≤ secOne ∧ 0 < bareInc rel ∧ bareInc rel * 16 ≤ secOne ∧ rel.tod.part = 0 ∧ refLost rel = false ∧ pwrState rel ≠ 4 ∧ refLost ttIn = false) ∧
    ({ fcnt := 0, t := 0, lock := true } : Mark).lock = true := by decide +kernel

/-- The hypotheses of TimeEventsComplete. -/
theorem witness_TimeEventsComplete :
    ((source 1).fld R.TOD_CTRL F.TOD_CTRL_SRC = 1 ∧ refLost (source 1) = false ∧ servo (source 1) < 2 ∧ (edgeLabel (source 1) ((source 1).now - 3 / 200)).isSome = true) ∧
    (source 2).fld R.TOD_CTRL F.TOD_CTRL_SRC = 2 ∧
    (rel.setFld R.TOD_CTRL F.TOD_CTRL_TOD_RX_EN 1).flag R.TOD_CTRL F.TOD_CTRL_TOD_RX_EN = true ∧
    (todBody.length = 12 ∧ todBody.head? = some 1 ∧ crc16 (todBody.flatMap fun b => (List.range 8).map fun i => bitOf b (7 - i)) = 256 * todC1 + todC0) ∧
    rel.flag R.TOD_CTRL F.TOD_CTRL_TOD_RX_EN = false ∧
    (slewing.tod.slewLeft ≠ 0 ∧ slewPer slewing ≠ 0 ∧ pwrState slewing ≠ 4 ∧ slewing.tod.part = 0 ∧ (slewing.tod.slewLeft.natAbs + slewPer slewing - 1) / slewPer slewing < cyclesToWrap slewing) ∧
    slewPer { rel with tod := { slewLeft := -1 } } = 0 ∧
    rel.tod.uncFine < 10000000000000000 ∧
    (refLost (rel.setFld R.TOD_STATUS F.TOD_STATUS_REFCLK_LOST 1) = true ∧ ({ refBack := true } : TodSt).refBack = true) ∧
    servo (rel.setFld R.TOD_STATUS F.TOD_STATUS_STATE 3) = 3 ∧
    (2 ≤ servo ((source 1).setFld R.TOD_STATUS F.TOD_STATUS_STATE 2) ∧ (edgeLabel ((source 1).setFld R.TOD_STATUS F.TOD_STATUS_STATE 2) 0).isSome = true) ∧
    (edgeLabel ((source 3).setFld R.TOD_CTRL F.TOD_CTRL_TOD_RX_EN 1) 0 = none ∧ servo (source 3) < 2) ∧
    (kindSelected rel .pps = false ∧ rel.flag R.PWR_WAKE_EN F.PWR_WAKE_EN_PPS_EN = false) ∧
    (let d := max ({ sec := 5 } : Tod).toNat rel.tod.a.toNat - min ({ sec := 5 } : Tod).toNat rel.tod.a.toNat; todInc rel < d ∧ max rel.tod.b.toNat rel.tod.a.toNat - min rel.tod.b.toNat rel.tod.a.toNat ≤ todInc rel) ∧
    ((rel.tod.slewLeft = 0 ∧ refLost rel = false) ∧ ({ refBack := false } : TodSt).refBack = false) ∧
    (((decide (servo rel = 3) || refLost rel || rel.flag R.TOD_STATUS F.TOD_STATUS_DEGRADED) = false) ∧ rel.fld R.TOD_UNC_CFG F.TOD_UNC_CFG_UNC_LIMIT < 0xFFFFFFFF) := by decide +kernel

/-- The hypotheses of HoldoverAndLedgerComplete. -/
theorem witness_HoldoverAndLedgerComplete :
    (servo locked = 2 ∧ locked.flag R.TOD_CTRL F.TOD_CTRL_LEARN_EN = true ∧ lastMinute locked.now locked.tod.osc ≠ [] ∧ locked.tod.a.sec < 2 ^ 48) ∧
    (servo rel ≠ 2 ∧ rel.tod.recN = 0) ∧
    (servo (rel.setFld R.TOD_STATUS F.TOD_STATUS_STATE 3) = 3 ∧ modelOk (rel.setFld R.TOD_STATUS F.TOD_STATUS_STATE 3) = false) ∧
    servo (rel.setFld R.TOD_STATUS F.TOD_STATUS_STATE 1) = 1 ∧
    (pairServes locked 2 = true ∧ predicting locked = false ∧ pairServes { down with boot := {} } 2 = false) ∧
    (predicting (rel.setFld R.TOD_STATUS F.TOD_STATUS_STATE 3) = true ∧ rel.tod.osc = [] ∧ (bandY [] rel).1 = none ∧ refLost rel = false ∧ lastMinute rel.now rel.tod.osc = []) ∧
    (pairServes down 2 || (pairSwitching down 2 && pairServes down 1)) = false ∧
    (let s := { locked with now := cycSecond * 256 }; servo s = 2 ∧ s.tod.measAt + hoEntry s * cycSecond ≤ s.now) ∧
    (deepSleep locked = false ∧ ledgerOpen locked = true ∧ deepSleep (locked.setFld R.PWR_STATUS F.PWR_STATUS_STATE 3) = true ∧ ledgerOpen deep = false ∧ rel.tod.recN ≤ rel.tod.recBase) := by decide +kernel

/-- The hypotheses of CisternAccessesComplete. -/
theorem witness_CisternAccessesComplete :
    (accessCode filled .portS 0x44000000 4 (some 5) false = none ∧ inAperture 0x44000000 = true ∧ cisRefusal true 0x44000000 4 false filled = none) ∧
    (accessCode filled .k0 0x83FFFFFF 1 (some 5) false = none ∧ cisRefusal false 0x83FFFFFF 1 false filled = none) ∧
    (∀ o ∈ [Origin.portS, .portI, .portF, .k0, .k1, .k2, .portJ], CisReq.bucket ≠ .bus o) ∧
    (accessCode filled .portS 0x44000000 4 none false = none ∧ cisRefusal true 0x44000000 4 true filled = none) ∧
    (mergeHolds filled 0x44000000 4 = false ∧ poisonAt filled (0x44000000 / 8) = false ∧ wordsWait filled = false) ∧
    (cisIs { merge := [{ line := 5, mask := 1 }] }).cis.merge.any (fun e => e.line == 5) = true ∧
    rel.cis.merge.any (fun e => e.line == 5) = false ∧
    (cisStalls retraining (.bus .k0) = true ∧ cisStalls retraining .bucket = true ∧ inAperture 0x44000000 = true ∧ cisStalls filled (.bus .portS) = false) ∧
    (cisRefusal false 0x44000000 4 false filled = none ∧ cisStalls filled .bucket = false ∧ inAperture 0x83FFFFFF = true) := by decide +kernel

/-- The hypotheses of ScrubRefreshAndRemapComplete. -/
theorem witness_ScrubRefreshAndRemapComplete :
    (scrubRuns scrubbing = true ∧ scrubbing.flag R.CIS_SCRUB_POS F.CIS_SCRUB_POS_BY_ENGINE = false ∧ cisFlag scrubbing F.CIS_STATUS_BG_BUSY = false) ∧
    scrubLines ≤ (scrubbing.setFld R.CIS_SCRUB_POS F.CIS_SCRUB_POS_LINE (scrubLines - 1)).fld R.CIS_SCRUB_POS F.CIS_SCRUB_POS_LINE + 1 ∧
    (scrubRuns rel = false ∧ cisFlag (scrubbing.setFld R.CIS_STATUS F.CIS_STATUS_BG_BUSY 1) F.CIS_STATUS_BG_BUSY = true) ∧
    WriteOk .portS R.CIS_SCRUB_CFG (withBit F.CIS_SCRUB_CFG_BG_GO (keepWord scrubbing R.CIS_SCRUB_CFG)) scrubbing = true ∧
    scrubRuns (stored .portS R.CIS_SCRUB_CFG (withBit F.CIS_SCRUB_CFG_BG_GO (keepWord scrubbing R.CIS_SCRUB_CFG)) scrubbing) = true ∧
    WriteOk .portS R.CIS_REMAP_CMD (withBit F.CIS_REMAP_CMD_GO (F.CIS_REMAP_CMD_LINE_ADDR.put (keepWord rel R.CIS_REMAP_CMD) 0x2200000)) rel = true ∧
    (inAperture (0x2200000 * 32) = true ∧ inReserved (0x2200000 * 32) = false ∧ remapOf rel 0x2200000 = none ∧ freeSpare rel = some 0) ∧
    inAperture (0 * 32) = false ∧
    (rel.region[Region.cistern.idx].reacting = false ∧ (recent rel.now cycMs rel.cis.burst).length < 16) ∧
    ({ reacting := true } : RegionSt).reacting = true ∧
    (cisternWaits scrubbing = false ∧ cisternWaits { scrubbing with pending := [.cisternRead .bucket 0 4 .none []] } = true) ∧
    (cisFlag scrubbing F.CIS_STATUS_BG_BUSY = false ∧ freeSpare rel ≠ none) := by decide +kernel

/-- The hypotheses of CapturesAndZeroisationComplete. -/
theorem witness_CapturesAndZeroisationComplete :
    (WriteOk .portS R.CIS_CAP_CTRL (withBit F.CIS_CAP_CTRL_GO 0) capturing = true ∧ F.CIS_CAP_CTRL_ABORT.get 0 = 0) ∧
    (capturing.flag (R.LINE_FE_CFG 0) F.LINE_FE_CFG_ADC_EN && capturing.flag (R.LINE_PLL_STATUS 0) F.LINE_PLL_STATUS_LOCK) = true ∧
    (filled.flag (R.LINE_FE_CFG 0) F.LINE_FE_CFG_ADC_EN && filled.flag (R.LINE_PLL_STATUS 0) F.LINE_PLL_STATUS_LOCK) = false ∧
    (capturing.cis.capture = some { lane := 0, marked := false, nextDue := some 5 } ∧ 0 < segCount capturing ∧ capturing.cis.bufs.length < 2) ∧
    filled.cis.capture = none ∧
    (cisIs { capture := some { lane := 0, marked := false }, bufs := [{ header := [1], samples := [2] }] }).cis.bufs = { header := [1], samples := [2] } :: [] ∧
    WriteOk .portS R.CIS_CAP_CTRL (F.CIS_CAP_CTRL_ABORT.put (keepWord capturing R.CIS_CAP_CTRL) 1) capturing = true ∧
    WriteOk .portS R.CIS_ZERO (withBit F.CIS_ZERO_GO (F.CIS_ZERO_MIRROR.put (keepWord filled R.CIS_ZERO) (b2n true))) filled = true ∧
    (filled.saf.jnlZero = false ∧ cisFlag (filled.setFld R.CIS_STATUS F.CIS_STATUS_ZERO_BUSY 1) F.CIS_STATUS_ZERO_BUSY = true) ∧
    (capturing.flag (R.LINE_PLL_STATUS 0) F.LINE_PLL_STATUS_LOCK = true ∧ capturing.region[Region.cistern.idx].reacting = false ∧ cisStalls capturing .bucket = false) ∧
    (retraining.region[Region.cistern.idx].reacting = true ∧ cisStalls retraining .bucket = true) ∧
    (2 ≤ (List.replicate 2 ({ header := [], samples := [] } : CapBuf)).length ∧ filled.flag (R.LINE_PLL_STATUS 0) F.LINE_PLL_STATUS_LOCK = false) ∧
    (({ lane := 0, marked := false, ending := true } : Capture).ending = true ∧ cisFlag filled F.CIS_STATUS_ZERO_BUSY = false) ∧
    WriteOk .portS R.CIS_CAP_CTRL (F.CIS_CAP_CTRL_ABORT.put (keepWord filled R.CIS_CAP_CTRL) 1) filled = true := by decide +kernel

/-- The hypotheses of ResetsAndColdStartsComplete. -/
theorem witness_ResetsAndColdStartsComplete :
    WriteOk .portS R.BOOT_STAGE_CTRL (F.BOOT_STAGE_CTRL_RESTART.put (keepWord rel R.BOOT_STAGE_CTRL) 1) rel = true ∧
    (coldReady State.reset = true ∧ coldReady rel = false ∧ bootPhase rel ≠ 6) ∧
    ({ dir0 := [], dir1 := [], cal := Vector.replicate 8 cal, trainOk := false } : BootData).trainOk = false ∧
    (WriteOk .portS R.BOOT_STAGE_CTRL (F.BOOT_STAGE_CTRL_SWITCH.put (keepWord bootFail R.BOOT_STAGE_CTRL) 1) bootFail = true ∧ bootPhase bootFail = 6) ∧
    stFlag (bootFail.setFld R.BOOT_STAGE_STATUS F.BOOT_STAGE_STATUS_VERIFIED 1) F.BOOT_STAGE_STATUS_VERIFIED = true ∧
    (stFlag bootFail F.BOOT_STAGE_STATUS_VERIFIED = false ∧ bootFail.boot.recover = false) ∧
    ({ dir0 := [], dir1 := [], cal := Vector.replicate 8 cal } : BootData).trainOk = true ∧
    (WriteOk .portS R.BOOT_STAGE_CTRL (F.BOOT_STAGE_CTRL_SWITCH.put (keepWord stagedIn R.BOOT_STAGE_CTRL) 1) stagedIn = true ∧ bootPhase stagedIn = 6 ∧ stagedIn.boot.staged.isSome = true) ∧
    (stFlag stagedIn F.BOOT_STAGE_STATUS_VERIFIED = true ∧ cisFlag stagedIn F.CIS_STATUS_UNAVAILABLE = false) ∧
    (bootPhase recovering = 6 ∧ recovering.boot.recover = true ∧ recovering.inReset = false ∧ cisFlag recovering F.CIS_STATUS_UNAVAILABLE = false ∧ recovering.boot.staged.isSome = true ∧ coldReady recovering = false) ∧
    (cisFlag (recovering.setFld R.CIS_STATUS F.CIS_STATUS_UNAVAILABLE 1) F.CIS_STATUS_UNAVAILABLE = true ∧ coldReady (recovering.setFld R.CIS_STATUS F.CIS_STATUS_UNAVAILABLE 1) = false) ∧
    ({ dir0 := [], dir1 := [], cal := Vector.replicate 8 cal } : BootData).k0Faults = [] := by decide +kernel

/-- The hypotheses of UpdatesComplete. -/
theorem witness_UpdatesComplete :
    WriteOk .portS R.BOOT_STAGE_CTRL (F.BOOT_STAGE_CTRL_VERIFY.put (keepWord rel R.BOOT_STAGE_CTRL) 1) rel = true ∧
    stFlag (rel.setFld R.BOOT_STAGE_STATUS F.BOOT_STAGE_STATUS_VERIFY_BUSY 1) F.BOOT_STAGE_STATUS_VERIFY_BUSY = true ∧
    headerResult rel (stagedImage rel) ≠ 0 ∧
    (WriteOk .portS R.BOOT_STAGE_CTRL (withBit F.BOOT_STAGE_CTRL_SWITCH 0) rel = true ∧ F.BOOT_STAGE_CTRL_VERIFY.get 0 = 0 ∧ F.BOOT_STAGE_CTRL_RESTART.get 0 = 0) ∧
    (bootPhase rel ≠ 6 ∧ stFlag rel F.BOOT_STAGE_STATUS_VERIFIED = false) ∧
    stFlag (rel.setFld R.BOOT_STAGE_STATUS F.BOOT_STAGE_STATUS_VERIFIED 1) F.BOOT_STAGE_STATUS_VERIFIED = true ∧
    ((∀ n : Fin 8, updWell rel n = false) ∧ (∀ k : Fin 3, rel.kic.k[k].down = false)) ∧
    (pairSwitching updating 1 = true ∧ updating.boot.upd.keeper = some 1 ∧ updating.boot.upd.rollback = false ∧ updStep updating = 2 ∧ stFlag updating F.BOOT_STAGE_STATUS_SWITCH_BUSY = true) ∧
    (pairSwitching down 2 = false ∧ down.kic.k[(2 : Fin 3)].down = true ∧ stFlag down F.BOOT_STAGE_STATUS_SWITCH_BUSY = false) ∧
    (rel.boot.upd.keeper = none ∧ ReadOk .portS (R.BOOT_RPR_DATA 3) rel = true) ∧
    (stFlag verifying F.BOOT_STAGE_STATUS_VERIFY_BUSY = true ∧ verifying.inReset = false ∧ verifying.fld R.BOOT_SEQ F.BOOT_SEQ_SEQ_EFF = 0) := by decide +kernel

/-- The hypotheses of RecoveriesComplete. -/
theorem witness_RecoveriesComplete :
    (entering.pwr.entry.isSome = true ∧ rel.pwr.entry = none) ∧
    (debugLevel fullDebug = 2 ∧ pairUp fullDebug 2 = true ∧ debugLevel rel ≠ 2) ∧
    ({ halted := true } : KeeperSt).halted = true ∧
    (({ driven := true } : SecSt).driven = true ∧ rel.sec.driven = false) ∧
    (pwrFlag entering F.PWR_STATUS_HOLDOFF = false ∧ edgeCause (entering.setReg R.PWR_WAKE_EN 0xFFFFFFFF) (.doorbell 2) ≠ 0) := by decide +kernel

/-- The hypotheses of PortSFramesComplete. -/
theorem witness_PortSFramesComplete :
    (0xFFFFFFFF % 4 ≠ 0 ∧ frameStatus rel 0xFFFFFFFC false = .ok ∧ frameStatus rel 0xFFFFFFFC true = .ok ∧ rel.port.qS = []) ∧
    (writeCheck rel (R.MBX_DATA 0 15) 5 = .ok ∧ writeCheck rel 0xFFFFFFFC 5 ≠ .ok ∧ rel.port.qS.length < 8) ∧
    portQueue false (queued .portS) = { addr := R.MBX_DATA 0 15, data := 5 } :: [] ∧
    WriteOk (queueOrigin false) (R.MBX_DATA 0 15) (word 5) (setQueue false [] (queued .portS)) = true ∧
    portQueue true rel = [] ∧
    (bothWait.port.qS ≠ [] ∧ (decide (bothWait.port.qI ≠ []) && decide (bothWait.port.grantTo = some .portS) && decide (8 ≤ bothWait.port.grantRun)) = false) ∧
    ((decide (eighth.port.qI ≠ []) && decide (eighth.port.grantTo = some .portS) && decide (8 ≤ eighth.port.grantRun)) = true ∧ portQueue true eighth = { addr := R.MBX_DATA 1 15, data := 6 } :: []) ∧
    WriteFits (queueOrigin false) (R.MBX_DATA 0 15) (word 5) (fabricGrant (queueOrigin false) (!(portQueue true bothWait).isEmpty) (setQueue false [] bothWait)) = true ∧
    WriteFits (queueOrigin true) (R.MBX_DATA 1 15) (word 6) (fabricGrant (queueOrigin true) (!(portQueue false eighth).isEmpty) (setQueue true [] eighth)) = true ∧
    (rel.port.qS = [] ∧ rel.port.qI = [] ∧ (queued .portI).port.qS = [] ∧ portQueue true (queued .portI) ≠ []) ∧
    ((15 : Fin 16) ≠ 1 ∧ (15 : Fin 16) ≠ 2 ∧ (15 : Fin 16) ≠ 3 ∧ ([] : List Word).length ≤ 255) := by decide +kernel

/-- The hypotheses of PortITransfersComplete. -/
theorem witness_PortITransfersComplete :
    (4 ≤ 4 ∧ rel.port.qI.length + 8 ≤ 8 ∧ rel.flag R.CHIP_PI_GRP F.CHIP_PI_GRP_GRP_VALID = false) ∧
    (rel.setFld R.CHIP_PI_GRP F.CHIP_PI_GRP_GRP_VALID 1).flag R.CHIP_PI_GRP F.CHIP_PI_GRP_GRP_VALID = true ∧
    ((queued .portI).port.qI ≠ [] ∧ readNacked rel = false) ∧
    (ibi.port.ibiDue = true ∧ ibi.port.ibiEn = true ∧ irqCauses ibi 1 ≠ 0 ∧ ibi.port.dyn.isSome = true ∧ ibi.port.ibiRetry = false) ∧
    (({ ibi.port with ibiRetry := true } : PortSt).ibiRetry = true ∧ rel.port.ibiDue = false) ∧
    (readNacked rel = false ∧ 3 < 4 ∧ rel.flag R.CHIP_PI_GRP F.CHIP_PI_GRP_GRP_VALID = false) ∧
    (let s := { ibi with port := { ibi.port with ibiRetry := true } }; s.port.ibiDue = true ∧ s.port.ibiEn = true ∧ irqCauses s 1 ≠ 0 ∧ s.port.ibiRetry = true) ∧
    (rel.inReset = false ∧ bootPhase rel = 5) ∧
    readNacked (queued .portI) = true := by decide +kernel

/-- The hypotheses of SemaphoresAndDoorbellsComplete. -/
theorem witness_SemaphoresAndDoorbellsComplete :
    (ReadOk .portS (R.CHIP_SEM 15) rel = true ∧ semHolder rel 15 = 0 ∧ mayClaim rel .portS 15 = true) ∧
    (ReadOk .portI (R.CHIP_SEM 0) rel = true ∧ semHolder rel 0 ≠ 0 ∧ semHolder rel 0 ≠ Origin.portI.holder) ∧
    WriteOk .portS (R.CHIP_SEM 0) 0 rel = true ∧
    WriteOk .portF (R.MBX_DATA 2 15) 0xFFFFFFFF rel = true ∧
    (mbxInFull rel 0 = false ∧ mbxOutFull rel 0 = false ∧ mbxInFull (rel.setFld (R.MBX_STATUS 2) F.MBX_STATUS_IN_FULL 1) 2 = true) ∧
    (WriteOk .portI (R.MBX_DB_TODEV 1) 0x80000000 rel = true ∧ WriteOk .k2 (R.MBX_DB_TODEV_ACK 2) 1 rel = true) ∧
    (WriteOk .k0 (R.MBX_DB_TOHOST_SET 0) 0x80000000 rel = true ∧ WriteOk .portS (R.MBX_DB_TOHOST 0) 1 rel = true) := by decide +kernel

/-- The hypotheses of MailboxHandshakesComplete. -/
theorem witness_MailboxHandshakesComplete :
    WriteOk .portS (R.MBX_IN_CTRL 0) (withBit F.MBX_IN_CTRL_GO (F.MBX_IN_CTRL_LEN.put 0 16)) rel = true ∧
    (WriteOk .k0 (R.MBX_ACK 0) (word 0x103) rel = true ∧ mbxFlow rel 0 = false) ∧
    (mbxFlow flowing 0 = true ∧ mbxInFull flowing 0 = true ∧ mbxLen flowing 0 = 16 ∧ ReadOk .k0 (R.MBX_DATA 0 15) flowing = true) ∧
    (mbxOutFull flowing 0 = true ∧ flowing.fld (R.MBX_OUT_CTRL 0) F.MBX_OUT_CTRL_LEN = 8 ∧ ReadOk .portS (R.MBX_DATA 0 7) flowing = true) ∧
    WriteOk .portS (R.MBX_OUT_ACK 0) (word 0) rel = true ∧
    (mbxOutFull rel 2 = false ∧ WriteOk .k2 (R.MBX_OUT_CTRL 2) (F.MBX_OUT_CTRL_LEN.put (F.MBX_OUT_CTRL_OPCODE.put (F.MBX_OUT_CTRL_TAG.put (F.MBX_OUT_CTRL_FULL.put 0 1) 3) 1) 8) rel = true) ∧
    (∀ j : Fin 16, WriteOk .k2 (R.MBX_DATA 2 j) (word ((([5] : List Nat)[j.val]?).getD 0)) rel = true) := by decide +kernel

/-- The hypotheses of MailboxOpcodesComplete. -/
theorem witness_MailboxOpcodesComplete :
    (mbxInFull (mail 1 8 0 0) 0 = true ∧ mbxServed (mail 1 8 0 0) 0 = true ∧ mbxFlow (mail 1 8 0 0) 0 = false ∧ mbxOutFull (mail 1 8 0 0) 0 = false ∧ (mail 1 8 0 0).mbx[(0 : Fin 3)].queue = []) ∧
    (mbxOpcode (mail 1 16 0 0) 0 = 1 ∧ mbxLen (mail 1 16 0 0) 0 = 16) ∧
    (mbxOpcode (mail 2 8 0 15) 0 = 2 ∧ mbxIn (mail 2 8 0 15) 0 1 = 15 ∧ mbxIn (mail 2 8 0 14) 0 1 = 14) ∧
    (mbxOpcode (mail 3 8 8 0) 0 = 3 ∧ mbxIn (mail 3 8 8 0) 0 0 = 8 ∧ mbxIn (mail 3 8 7 0) 0 0 = 7 ∧ mbxLen (mail 3 8 7 0) 0 < 1 + 2 * 7) ∧
    WriteOk (portOrigin 0) (mbxIn (mail 3 8 1 0x300) 0 1) (word (mbxIn (mail 3 8 1 0x300) 0 2)) (mail 3 8 1 0x300) = true ∧
    (mbxOpcode (mail 0x10 8 0 1) 0 = 0x10 ∧ portHolds (mail 0x10 8 0 1) 0 Grp.update.sem = true ∧ portHolds ((mail 0x10 8 0 1).setFld (R.CHIP_SEM 4) F.CHIP_SEM_CODE 0) 0 Grp.update.sem = false) ∧
    (mbxIn (mail 0x10 8 3 1) 0 0 % 4 ≠ 0 ∧ mbxIn (mail 0x10 8 0 1) 0 0 + 4 * (8 - 1) ≤ slotSize) ∧
    (∀ i : Fin 7, accessCode (mail 0x10 8 0 1) (portOrigin 0) (stagingBase (mail 0x10 8 0 1) + 0 + 4 * i.val) 4 (some (word (mbxIn (mail 0x10 8 0 1) 0 (i.val + 1)))) false = none ∧ cisRefusal true (stagingBase (mail 0x10 8 0 1) + 0 + 4 * i.val) 4 false (mail 0x10 8 0 1) = none) ∧
    (mbxOpcode (mail 0x20 8 0 0) 0 = 0x20 ∧ mbxOpcode (mail 0x30 8 0 0) 0 = 0x30 ∧ 0xF0 ≤ mbxOpcode (mail 0xF0 8 0 0) 0 ∧ opUnknown (mbxOpcode (mail 0xEF 8 0 0) 0) = true) ∧
    (([] : List Nat).contains (mbxIn (mail 3 8 1 0x300) 0 1) = false ∧ ([0x300] : List Nat).contains (mbxIn (mail 3 8 1 0x300) 0 1) = true ∧ wordsWait (mail 0x10 8 0 1) = false) := by decide +kernel

/-- The hypotheses of KeeperInterruptsAndFaultsComplete. -/
theorem witness_KeeperInterruptsAndFaultsComplete :
    (asserted alarmed 1 = true ∧ requested alarmed 0 = true ∧ asserted rel 1 = false) ∧
    (ReadOk .k0 (R.KIC_CLAIM 0) alarmed = true ∧ topRouted alarmed 0 = some 1 ∧ thrMode alarmed 0 = false) ∧
    (WriteOk .k0 (R.KIC_EOI 0) (word (1 % 1024)) serving = true ∧ serving.kic.k[(0 : Fin 3)].stack = (8, 1) :: [] ∧ thrMode serving 0 = false) ∧
    WriteOk .k2 (R.KIC_MODE 2) 0xF1 rel = true ∧
    (pairPowered rel 2 = true ∧ rel.boot.upd.keeper ≠ some 2 ∧ pairPowered State.reset 2 = false ∧ State.reset.boot.upd.keeper = none) ∧
    (WriteOk .k2 R.SAF_WD_KICK (word (2 ^ 2)) rel = true ∧ pairServes rel 2 = true ∧ rel.kic.k[(2 : Fin 3)].kicked = false) ∧
    pairServes down 0 = false := by decide +kernel

/-- The hypotheses of SleepStatesComplete. -/
theorem witness_SleepStatesComplete :
    WriteOk .portS R.PWR_DP_IDLE (F.PWR_DP_IDLE_DECLARE.put (keepWord rel R.PWR_DP_IDLE) 1) rel = true ∧
    (WriteOk .portS R.PWR_DP_IDLE (F.PWR_DP_IDLE_CANCEL.put (keepWord rel R.PWR_DP_IDLE) 1) rel = true ∧ rel.pwr.commit = false) ∧
    WriteOk .portF (R.PWR_LTR 2) 0xFFFFFFFF { rel with boot := { perm := openPerm } } = true ∧
    (entryAllowed idle1 = true ∧ idle1.sec.driven = false ∧ firstRefusal idle1 (sleepTarget idle1) = none ∧ entryAllowed rel = false) ∧
    firstRefusal (idle1.setFld R.FEC_PROFILE F.FEC_PROFILE_BUSY 1) (sleepTarget idle1) = some (6, 1) ∧
    entryAllowed (idle1.setFld R.FEC_PROFILE F.FEC_PROFILE_BUSY 1) = true ∧
    (entryOf { target := 1, delays := [(0, 4)] }).pwr.entry = some { target := 1, delays := [(0, 4)] } ∧
    blockAnswer (entryOf { target := 1, delays := [(0, 4)] }) 1 0 = .accept ∧
    blockAnswer (delayed { target := 1, delays := [(0, 4)] }) 1 0 = .delay 5 ∧
    entering.pwr.entry = some { target := 1 } ∧
    (pwrFlag (rel.setFld R.PWR_STATUS F.PWR_STATUS_HOLDOFF 1) F.PWR_STATUS_HOLDOFF = true ∧ pwrFlag rel F.PWR_STATUS_DP_IDLE = false ∧ pwrFlag rel F.PWR_STATUS_HOLDOFF = false) ∧
    (bitOf (sleeping.reg R.PWR_WAKE_EN).toNat 5 = true ∧ pwrState sleeping ≠ 0 ∧ sleeping.pwr.entry = none ∧ sleeping.pwr.exiting = false) ∧
    (rel.sec.waits = none ∧ rel.pwr.exiting = false ∧ avsPend sleeping = false) ∧
    handshake rel = false ∧
    (avsPend raising = true ∧ raising.pwr.raise = true ∧ raising.pwr.held = none ∧ WriteOk .portS R.PWR_AVS_ACK 1023 raising = true) ∧
    (raising.fld R.PWR_AVS_REQ F.PWR_AVS_REQ_REQ_MV ≤ F.PWR_AVS_ACK_ACK_MV.get 1023 ∧ avsPend rel = false) ∧
    entryAllowed { idle1 with sec := { idle1.sec with driven := true } } = true ∧
    (({ idle1 with sec := { idle1.sec with driven := true } } : State).sec.driven = true ∧ entering.pwr.entry = some { target := 1 } ∧ ({ target := 1 } : Entry).delays = []) ∧
    (({ rel with pwr := { rel.pwr with exiting := true } } : State).pwr.exiting = true ∧ rel.sec.waits = none) ∧
    (bitOf ((idle1.setReg R.PWR_WAKE_EN 0xFFFFFFFF).reg R.PWR_WAKE_EN).toNat 5 = true ∧ entryAllowed (idle1.setReg R.PWR_WAKE_EN 0xFFFFFFFF) = true) := by decide +kernel

/-- The hypotheses of SafetyGoalsComplete. -/
theorem witness_SafetyGoalsComplete :
    (portExists eightPorts 7 = true ∧ portExists (rel.setFld R.FEC_PROFILE F.FEC_PROFILE_PORT_EFF 2) 4 = false) ∧
    (sg1Persist (parity 16) ≤ (recent (parity 16).now cycMs (parity 16).saf.sg1[monIdx 7 1]).length + 1 ∧ sgEnabled (parity 16) 1 = true ∧ sg1Safe (parity 16) 7 1 = false) ∧
    (WriteOk .portS R.SAF_SG_REL (F.SAF_SG_REL_REL1.put (keepWord rel R.SAF_SG_REL) 1) (tripped 1) = true ∧ sgTripped (tripped 1) 1 = true ∧ (∀ i : Fin 16, (tripped 1).saf.sg1[i] = [])) ∧
    (WriteOk .portS R.SAF_SG_REL (F.SAF_SG_REL_REL3.put (keepWord rel R.SAF_SG_REL) 1) (tripped 4) = true ∧ sgTripped (tripped 4) 3 = true ∧ smRequest (tripped 4) = false) ∧
    ((tripped 4).setFld R.SAF_SG3_STATUS F.SAF_SG3_STATUS_TEST_OK 1).flag R.SAF_SG3_STATUS F.SAF_SG3_STATUS_TEST_OK = true ∧
    (WriteOk .portS R.SAF_SG_REL (F.SAF_SG_REL_REL4.put (keepWord rel R.SAF_SG_REL) 1) (tripped 8) = true ∧ sgTripped (tripped 8) 4 = true ∧ ({ clean := true } : SafSt).clean = true) ∧
    (rel.fld R.SAF_SG2_CFG F.SAF_SG2_CFG_SG2_LIMIT < (-251 : Int).natAbs ∧ sgEnabled rel 2 = true ∧ (250 : Int).natAbs ≤ rel.fld R.SAF_SG2_CFG F.SAF_SG2_CFG_SG2_LIMIT) ∧
    (rel.flag R.TOD_STATUS F.TOD_STATUS_NO_MAJORITY = false ∧ timingClockBad rel = false ∧ 1 ≤ ({ readGood := 1 } : TodSt).readGood) ∧
    (WriteOk .portI R.SAF_SG3_CTRL 1 { rel with boot := { perm := openPerm } } = true ∧ F.SAF_SG3_CTRL_REQ.get 1 = 1 ∧ rel.flag R.SAF_SG3_CTRL F.SAF_SG3_CTRL_REQ = false) ∧
    (sgEnabled rel 3 = true ∧ (protectedRegs.lookup R.SAF_WD_CFG).isSome = true ∧ R.SAF_WD_CFG ≠ R.FEC_PROFILE ∧ sgEnabled rel 4 = true) ∧
    (recent (tripped 1).now cycMs (tripped 1).saf.sg1[monIdx 7 1] = [] ∧ sg1Safe ((parity 16).setReg R.SAF_SG1_SAFE 0xFFFFFFFF) 7 1 = true ∧ recent (parity 16).now cycMs (parity 16).saf.sg1[monIdx 7 1] ≠ []) ∧
    (smRequest ((tripped 4).setFld R.SAF_SG3_CTRL F.SAF_SG3_CTRL_REQ 1) = true ∧ (tripped 4).flag R.SAF_SG3_STATUS F.SAF_SG3_STATUS_TEST_OK = false) ∧
    ((tripped 8).saf.clean = false ∧ (protectedRegs.lookup R.FEC_PROFILE).isSome = true ∧ rel.tod.readGood = 0) := by decide +kernel

/-- The hypotheses of MonitorsRepairAndJournalComplete. -/
theorem witness_MonitorsRepairAndJournalComplete :
    (rel.rails = 0 ∧ bitOf 2 1 = true ∧ bitOf 1 1 = false ∧ rel.saf.supplyHold = false) ∧
    ({ supplyHold := true } : SafSt).supplyHold = true ∧
    ((rel.saf.rows.filter fun x => x.1 == 9).length < 4 ∧ 4 ≤ (([(9, 1), (9, 2), (9, 3), (9, 4)] : List (Nat × Nat)).filter fun x => x.1 == 9).length) ∧
    WriteOk .portS R.SAF_FREP_CMD (F.SAF_FREP_CMD_GO.put (keepWord rel R.SAF_FREP_CMD) 1) rel = true ∧
    (rel.flag R.SAF_FREP_CMD F.SAF_FREP_CMD_BUSY = false ∧ (rel.setFld R.SAF_FREP_CMD F.SAF_FREP_CMD_BUSY 1).flag R.SAF_FREP_CMD F.SAF_FREP_CMD_BUSY = true) ∧
    ((frepRecords rel).length ≤ frepSpace rel ∧ frepSpace fullFuse < (frepRecords fullFuse).length) ∧
    (rel.jq = [] ∧ (rel.journal 0x205 1).jq = rel.jEntry 0x50 0x205 1 :: [] ∧ rel.flag R.SAF_JNL_STATUS F.SAF_JNL_STATUS_ZERO_BUSY = false) ∧
    (mirrorOpen rel = false ∧ mirrorOpen (mirrored 1) = true ∧ (mirrored 1).saf.mirror < jnlNext (mirrored 1) ∧ jnlOldest (mirrored 1) ≤ (mirrored 1).saf.mirror) ∧
    (mirrored 65537).saf.mirror < jnlOldest (mirrored 65537) ∧
    (reacting rel .line = false ∧ rel.well[(7 : Fin 8)].restarting = false ∧ sgEnabled rel 2 = true) ∧
    (rel.saf.supplyHold = false ∧ (let s := { rel with rails := 4 }; s.rails ≠ 0 ∧ bitOf s.rails 1 = false ∧ s.saf.supplyHold = false)) ∧
    ((rel.journal 0x205 1).flag R.SAF_JNL_STATUS F.SAF_JNL_STATUS_ZERO_BUSY = false ∧ (rel.setFld R.SAF_JNL_STATUS F.SAF_JNL_STATUS_ZERO_BUSY 1).flag R.SAF_JNL_STATUS F.SAF_JNL_STATUS_ZERO_BUSY = true) ∧
    (([(9, 1), (9, 2), (8, 0), (9, 3)] : List (Nat × Nat)).filter fun x => x.1 == 9).length = 3 := by decide +kernel

/-- The hypotheses of ThermalAndMonitorAdcComplete. -/
theorem witness_ThermalAndMonitorAdcComplete :
    (rel.thm.converting = false ∧ ({ converting := true } : ThmSt).converting = true ∧ rel.vent = false) ∧
    ((Vector.replicate 36 (some (500 : Int)))[(35 : Fin 36)] = some 500 ∧ (500 : Int) ≤ 500 ∧ (600 : Int) ≤ 600) ∧
    (rel.thm.coolSince = none ∧ ({ coolSince := some 0 } : ThmSt).coolSince.isSome = true) ∧
    (scanning.flag R.MON_STATUS F.MON_STATUS_CAL_BUSY = false ∧ scanning.mon.scanning = true ∧ monNext scanning.mon.mask scanning.mon.next = some 30) ∧
    ([({ code := 4095, overs := false } : MonSample), { code := 0, overs := false }].length = 2 ^ monAvg scanning 30 ∧ scanning.mon.cal = 0x80000) ∧
    4095 / 2 ^ monShift scanning 30 < 1048576 ∧
    WriteOk .portS R.MON_CTRL (F.MON_CTRL_CAL.put (keepWord rel R.MON_CTRL) 1) rel = true ∧
    ((rel.setFld R.MON_STATUS F.MON_STATUS_CAL_BUSY 1).flag R.MON_STATUS F.MON_STATUS_CAL_BUSY = true ∧ rel.flag R.MON_STATUS F.MON_STATUS_CAL_BUSY = false) ∧
    (50 < 51 ∧ 20 < 21) := by decide +kernel

/-- The hypotheses of LifecycleAndDebugComplete. -/
theorem witness_LifecycleAndDebugComplete :
    (rel.sec.want = none ∧ rel.sec.waits = none) ∧
    (WriteOk .portS R.SEC_LC_CMD (withBit F.SEC_LC_CMD_GO 0x4C430001) rel = true ∧ F.SEC_LC_CMD_KEY.get 0x4C430001 = 0x4C43 ∧ lcAllowed (lifecycle rel) 1 = true) ∧
    (WriteOk .portS R.SEC_LC_CMD (withBit F.SEC_LC_CMD_GO 0x4C420001) rel = true ∧ F.SEC_LC_CMD_KEY.get 0x4C420001 ≠ 0x4C43) ∧
    (rel.flag R.SEC_LC_CMD F.SEC_LC_CMD_BUSY = false ∧ (rel.setFld R.SEC_LC_CMD F.SEC_LC_CMD_BUSY 1).flag R.SEC_LC_CMD F.SEC_LC_CMD_BUSY = true) ∧
    (WriteOk .portS R.SEC_DBG_CTRL (withBit F.SEC_DBG_CTRL_OPEN (F.SEC_DBG_CTRL_LEVEL.put (keepWord rel R.SEC_DBG_CTRL) 2)) rel = true ∧ debugLevel rel < 2 ∧ deepSleep rel = false) ∧
    (WriteOk .portS R.SEC_DBG_CTRL (withBit F.SEC_DBG_CTRL_OPEN (F.SEC_DBG_CTRL_LEVEL.put (keepWord deep R.SEC_DBG_CTRL) 2)) deep = true ∧ deepSleep deep = true ∧ 2 ≤ debugLevel fullDebug) ∧
    (openCode rel 0 2 ≠ .ok ∧ openCode rel 2 2 = .ok) ∧
    ({ want := some (2, 1) } : SecSt).want = some (2, 1) ∧
    WriteOk .portS R.SEC_DBG_CTRL (F.SEC_DBG_CTRL_CLOSE.put (keepWord fullDebug R.SEC_DBG_CTRL) 1) fullDebug = true ∧
    (wordsWait fullDebug = false ∧ WriteOk .portJ R.TOD_SET_SEC_LO 5 fullDebug = true ∧ debugLevel rel = 0 ∧ bootPhase rel = 5) ∧
    (deepSleep deep = true ∧ debugLevel deep < 2 ∧ openCode deep 2 2 = .ok ∧ openCode rel 1 2 = .ok ∧ openCode fullDebug 2 2 = .ok) ∧
    (({ waits := some 2 } : SecSt).waits.isSome = true ∧ wordsWait rel = false ∧ busRead .portJ R.CHIP_ID 4 fullDebug ≠ busRead .portJ R.CHIP_ID 4 rel) ∧
    (keyBlank (rel.setFld R.SEC_LC_STATUS F.SEC_LC_STATUS_KEY_BLANK 1) = true ∧ keyBlank rel = false) ∧
    (rel.flag R.SEC_LC_STATUS F.SEC_LC_STATUS_LC_NOMAJ = false ∧ (rel.setFld R.SEC_LC_STATUS F.SEC_LC_STATUS_LC_NOMAJ 1).flag R.SEC_LC_STATUS F.SEC_LC_STATUS_LC_NOMAJ = true) ∧
    (lcAllowed 2 0 = false ∧ lcAllowed (lifecycle rel) 1 = true) := by decide +kernel

/-- The hypotheses of BoundaryScanComplete. -/
theorem witness_BoundaryScanComplete :
    (scanAllowed rel = true ∧ scanAllowed deep = false ∧ lifecycle (rel.setFld R.SEC_LC_STATUS F.SEC_LC_STATUS_STATE 2) = 2) ∧
    (Instr.jtagExtest, JInstr.extest) ∈ ([(.jtagExtest, .extest)] : List (Instr × JInstr)) ∧
    (scanAllowed (sealed 0) = true ∧ scanAllowed (sealed 1) = false ∧ lifecycle (sealed 0) = 2) ∧
    (rel.jq.length < 32 ∧ rel.jLostPend = 0 ∧ lifecycle rel ≠ 2) := by decide +kernel

/-- The hypotheses of RegisterWritesComplete. -/
theorem witness_RegisterWritesComplete :
    (WriteOk .portS R.TOD_SET_SEC_LO 0xFFFFFFFF rel = true ∧ accessCode rel .portF R.TOD_SET_SEC_LO 4 (some 0) false = some .denied) ∧
    ((3 ≠ 1 ∧ 3 ≠ 2 ∧ 3 ≠ 4) ∧ 0xFFFFFFFF % 4 ≠ 0) ∧
    (accessCode lockedCtl .portS R.PWR_CTRL 4 (some 0) false = none ∧ inAperture R.PWR_CTRL = false ∧ targetRefuses lockedCtl .portS R.PWR_CTRL 0 = none) ∧
    (specAt R.PWR_CTRL).map (fun r => (lockHit lockedCtl r R.PWR_CTRL 0, fldLocked lockedCtl r R.PWR_CTRL F.PWR_CTRL_MAX_STATE)) = some (true, true) ∧
    (R.KIC_SWI ∈ [R.LINE_LEN_CTRL, R.ATL_CTRL, R.ATL_FREEZE, R.KIC_SWI] ∧ bitOf (0x7 : Word).toNat (2 + 16) = false) ∧
    (cisStalls retraining (.bus .k0) = true ∧ inAperture 0x44000000 = true ∧ cisStalls rel (.bus .portS) = false ∧ inAperture R.TOD_SET_SEC_LO = false ∧ wordsWait rel = false) ∧
    (accessCode rel .portS R.TOD_SET_SEC_LO 3 (some 0) false = some .width ∧ R.HOST_RX_MAP ≠ R.HOST_TX_MAP) ∧
    (R.PWR_CTRL ≠ R.HOST_CTRL ∧ R.PWR_CTRL ≠ R.HOST_RX_MAP ∧ R.PWR_CTRL ≠ R.HOST_TX_MAP ∧ R.PWR_CTRL ≠ R.CIS_SCRUB_CFG ∧ R.PWR_CTRL < 0x200000) ∧
    (0x208000 ≤ R.HOST_STATUS ∧ R.HOST_STATUS < 0x400000 ∧ 0x800000 ≤ 0x44000000) := by decide +kernel

/-- The hypotheses of PermDefaults. -/
theorem witness_PermDefaults :
    Origin.portJ.isHost = true ∧ inForceStaging rel (slotBase (inForceSlot rel)) = true ∧ rel.inReset = false ∧ bootPhase rel = 5 ∧ slotBase (inForceSlot rel) % 4 = 0 := by decide +kernel

/-- The hypotheses of ToleranceAndTargetStayComputed. -/
theorem witness_ToleranceAndTargetStayComputed :
    (match step rel with | .next t => t.inReset | _ => true) = false := witness_LaserEnablesStaySafe

/-- The hypotheses of InResetOnlyPinsAct. -/
theorem witness_InResetOnlyPinsAct :
    held.inReset = true ∧ Instr.faultRelease .portS ≠ .txdisAssert ∧ Instr.faultRelease .portS ≠ .txdisDeassert ∧
    (∀ w, Instr.faultRelease .portS ≠ .wakeEvent w) ∧ Instr.faultRelease .portS ≠ .trstAssert ∧
    Instr.faultRelease .portS ≠ .resetAssert ∧ (∀ d, Instr.faultRelease .portS ≠ .coldStart d) :=
  ⟨by decide +kernel, by simp, by simp, by simp, by simp, by simp, by simp⟩

/-- A step answers: the hypothesis of the two invariants. -/
theorem witness_step : ∃ t, step rel = .next t := ⟨_, rfl⟩

/-- A state whose lane 7 holds one sample and caches one entry. -/
def withEntry (s : State) (h : Held) (i : Nat) : State :=
  { s with atlas := Vector.replicate 8 { held := [h], cache := [{ idx := i, e := {}, dirty := false }] } }

/-- The context of a held sample is the frame's own, whatever the atlas holds. -/
theorem ctxSyms_withEntry (s : State) (h : Held) (i : Nat) : ctxSyms (withEntry s h i) 7 h = ctxSyms s 7 h := rfl

/-- The hypotheses of AtlasLearningComplete for an entry that the cache holds. -/
theorem witness_cached :
    ∃ (h : Held) (i : Nat), ctxEntry (ctxSyms (withEntry released h i) 7 h) = some i ∧
      ((withEntry released h i).atlas[(7 : Fin 8)].cache.any fun c => c.idx == i) = true := by
  have found : (ctxEntry (ctxSyms released 7 { frame := 1, pos := 300, y := 5, erased := false })).isSome = true := by decide +kernel
  obtain ⟨i, e⟩ := Option.isSome_iff_exists.mp found
  exact ⟨_, i, by rw [ctxSyms_withEntry]; exact e, by simp [withEntry]⟩

/-- Port I's words are not refused BUSY in a released device, and all of them are before the release. -/
theorem witness_portI_gate :
    (∀ b, gate rel .portI b true ≠ .stop .busy) ∧ (∀ b, gate (rel.setFld R.BOOT_STATUS F.BOOT_STATUS_PHASE 4) .portI b true = .stop .busy) := by
  have on : bootPhase rel = 5 ∧ rel.inReset = false := by decide +kernel
  have off : bootPhase (rel.setFld R.BOOT_STATUS F.BOOT_STATUS_PHASE 4) = 4 ∧ (rel.setFld R.BOOT_STATUS F.BOOT_STATUS_PHASE 4).inReset = false := by
    decide +kernel
  exact ⟨fun b => by simp [gate, Origin.isHost, Origin.keeper, on], fun b => by simp [gate, Origin.isHost, Origin.keeper, earlyRead, off]⟩

/-- The hypotheses of UpdatesComplete for an image that is to be verified. -/
theorem witness_verified :
    stFlag verifying F.BOOT_STAGE_STATUS_VERIFY_BUSY = true ∧ headerResult verifying (stagedImage verifying) = 0 ∧
    (stagedImage verifying).bodyOk = true ∧ verifying.fld R.BOOT_SEQ F.BOOT_SEQ_SEQ_EFF = 0 :=
  ⟨by decide +kernel, image_verifies.1, image_verifies.2, by decide +kernel⟩

/-! ### Well-formedness -/

def shortCal : CalResult := { cal with ical := [] }
def dir : List Nat := List.replicate 64 255
def boot (c : CalResult) (d0 d1 : List Nat) (b : Nat) : BootData :=
  { dir0 := d0, dir1 := d1, imgA := some [(0, b)], imgB := some [(0, b)], cal := Vector.replicate 8 c }
def monCal (o ol : Int) (g gl : Nat) : MonCalRes := { ofs := o, gain := g, ofsLp := ol, gainLp := gl, ofsRes := 0, gainRes := 0 }
def big : Nat := 2 ^ 32
def unfound (l : Bool) (k n : Nat) (j : List Nat) : SRxFrame := ⟨false, l, 0, List.replicate k (List.replicate n 0), false, j⟩

/-- Each check refuses a command that fails it alone. -/
theorem test_wellformed_refuses_accesses :
    ([.registerWrite .portS big 4 0, .registerWrite .portS 0 0 0, .registerWrite .portS 0 5 0, .portSRead big 0, .portSWrite big [0],
      .portSWrite 0 [], .portSWrite 0 (List.replicate 257 0), .portSFrameAbort .gap true big 0 [], .portSFrameAbort .word true 0 0 [0], .portSStatus 1 0, .portSStatus 2 0, .portSStatus 3 big,
      .portSReadTimeout big, .portIPrivateWrite 4 big [] 0, .portIPrivateWrite 5 0 [] 0, .portIPrivateWrite 4 0 [] 4,
      .portIPrivateWrite 3 0 [0] 0, .portIGroupWrite 3 0 [] 1, .portIPrivateRead false 0, .portIEntdaa 128, .portISetgrpa 128,
      .accessTimeout .portS big, .jtagDebugAccess big none, .gatewayDataAccess .portS true none,
      .gatewayDataAccess .portS false (some 0), .mbxInAck 0 0 65536, .mbxOutAck 0 65536, .mbxVendorOpcode 0 65536 none,
      .mbxVendorOpcode 0 0 (some ⟨7, 0, 0, []⟩), .mbxOutPost 0 0 ⟨7, 0, 0, []⟩, .mbxOutPost 0 0 ⟨17, 0, 0, []⟩,
      .mbxOutPost 0 0 ⟨8, 256, 0, []⟩, .mbxOutPost 0 0 ⟨8, 0, 256, []⟩, .mbxOutPost 0 0 ⟨8, 0, 0, [big]⟩, .irqSourceAssert 1024,
      .irqEoi 0 1024, .cisternRead .bucket big 4 .none [], .cisternRead .bucket 0 3 .none [], .cisternWrite .bucket big 4 0 [],
      .cisternWrite .bucket 0 3 0 [], .cisternWrite .bucket 0 4 big [], .cisternRead .bucket 0 4 .none [{ q := .bucket, a := big, k := 4 }],
      .cisternWrite .bucket 0 4 0 [{ q := .bucket, a := 0, k := 3 }], .remapCommand .portS (2 ^ 27), .mergeEntryAge (2 ^ 27) (Vector.replicate 4 CisFault.none),
      .crossingFault .fec 256 true 0, .blockFault .fec 256 true 0 true] :
      List Instr).all (fun i => !i.wf) = true := by decide +kernel

/-- Each check of an event's operands refuses an event that fails it alone. -/
theorem test_wellformed_refuses_events :
    ([.frameBoundary 0 true { samples := [128] }, .frameBoundary 0 true { ahead := [128] }, .epochBoundary 0 true { atlasUe := [(2 ^ 20, .none)] },
      .distillationBoundary 0 { samples := [128] }, .regionFault .line 16 0 0 0, .regionFault .line 0 16 0 0, .regionFault .line 0 0 256 0,
      .regionFault .line 0 0 0 16, .converterCalDone 0 shortCal, .atlasMissFill 0 (2 ^ 20) .none, .atlasCoherentRead .portS 0 (2 ^ 20),
      .atlasClear .portS 256, .hostCdrLock 0 16 0, .hostCoeffRequest 0 (.preset 8), .hostTrialMeasureDone 0 256 1,
      .kp4Snap .portS 256, .kp4Clear .portS 256, .seepRxFrame 0 (unfound true 2 64 []) 0,
      .seepRxFrame 0 (unfound false 4 64 []) 0, .seepRxFrame 0 (unfound true 1 64 [1024]) 0, .seepRxFrame 0 (unfound false 4 128 [256]) 0,
      .todRxMessage [256] 0, .scrubBgLapDone [(2 ^ 29, .none)], .refreshRatePoll 8, .captureSegment [128] ⟨0, 0, 0⟩,
      .coldStart (boot shortCal dir dir 0), .coldStart (boot cal [] dir 0), .coldStart (boot cal dir (List.replicate 64 256) 0),
      .coldStart (boot cal dir dir 256), .bootFailRecover .portS (boot cal [] dir 0), .sleepDelayRetry 13 [], .sleepNoAnswer 13 [],
      .sleepEntryStart [.portF], .sleepDelayRetry 0 [.ltr], .sleepNoAnswer 0 [.dpIdle], .sleepHoldoffExpiry [.txdis],
      .holdoverEntry [(2 ^ 21, .none)], .ledgerRecord [(2 ^ 21, .none)], .modelRefit [(2 ^ 21, .none)], .holdoverPrediction [(2 ^ 21, .none)],
      .sleepPrepareDone [⟨0, big, 0⟩] false, .sleepPrepareDone [⟨0, 0, big⟩] false, .sleepExitDone (Vector.replicate 8 shortCal),
      .sg4Scan [⟨big, .differs⟩], .supplyRestart (some ⟨big, []⟩), .supplyRestart (some ⟨0, [(2 ^ 20, 0)]⟩),
      .supplyRestart (some ⟨0, [(0, 256)]⟩), .monChannelResult 31 [], .monChannelResult 0 [⟨4096, false⟩], .monCalDone (monCal 128 0 0 0),
      .monCalDone (monCal 0 128 0 0), .monCalDone (monCal 0 0 4096 0), .monCalDone (monCal 0 0 0 4096)] :
      List Instr).all (fun i => !i.wf) = true := by decide +kernel

/-- The good neighbours of those commands are well formed. -/
theorem test_wellformed_accepts :
    ([.registerWrite .portS (big - 1) 4 0, .portSWrite 0 (List.replicate 256 0), .portIPrivateWrite 4 0 [0] 3, .portIPrivateWrite 3 0 [] 0,
      .mbxOutPost 0 0 ⟨8, 255, 255, [big - 1]⟩, .cisternWrite .bucket 0 4 (big - 1) [{ q := .bucket, a := big - 1, k := 2 }],
      .frameBoundary 0 true { samples := [127], ahead := [0] }, .epochBoundary 0 true { atlasUe := [(2 ^ 20 - 1, .none)] },
      .converterCalDone 0 cal, .atlasMissFill 0 0 .none, .sleepNoAnswer 12 [.pps, .doorbell 2], .portSStatus 15 0, .coldStart (boot cal dir dir 255), .seepRxFrame 0 (unfound true 1 64 [1023]) 0,
      .seepRxFrame 0 (unfound false 4 128 [255]) 0, .captureSegment [127] ⟨-1, 0, 0⟩, .monChannelResult 30 [⟨4095, true⟩],
      .monCalDone (monCal (-128) 127 4095 0), .supplyRestart none, .txdisAssert] : List Instr).all Instr.wf = true := by decide +kernel

/-! ### Worked examples of spec/ -/

/-- A masked write (spec/00_scope.md, R11 and R12): 0xA5 with a write of 0x000F0003 holds 0xA3, and with 0x000F0007 0xA7. -/
theorem test_masked_write :
    (stored .portS R.ATL_CTRL 0x000F0003 (rel.setReg R.ATL_CTRL 0xA5)).reg R.ATL_CTRL = 0xA3 ∧
    (stored .portS R.ATL_CTRL 0x000F0007 (rel.setReg R.ATL_CTRL 0xA3)).reg R.ATL_CTRL = 0xA7 := by decide +kernel

/-- One tap update (spec/04_receive_chain.md, after R107). -/
theorem test_tap_update : adaptTap 4915 (-3368550400) 8421376 10 = 4940 := by decide +kernel

/-- Throttling (spec/16_thermal_and_monitor_adc.md, after R388): 103.5 °C and 106.25 °C with THR 100 °C, and R162's iterations. -/
theorem test_throttle : effortOf 14 = 65 ∧ effortOf 25 = 40 ∧ effortOf (-5) = 100 ∧ capEff 12 65 = 7 ∧ capEff 12 40 = 4 := by decide +kernel

/-- Choosing a state (spec/14_power_states.md, R348): 40 ms, 1 s and no limit give S3, and 10 ms gives S2. -/
theorem test_sleep_target :
    let s (b : Nat) : State := ((rel.setReg (R.PWR_LTR 0) 40000).setReg (R.PWR_LTR 1) (word b)).setReg (R.PWR_LTR 2) 0xFFFFFFFF
    ltrEff (s 1000000) = 40000 ∧ sleepTarget (s 1000000) = 3 ∧ sleepTarget (s 10000) = 2 := by decide +kernel

/-- One address, four requesters (spec/18_address_map.md, after R417). -/
theorem test_four_requesters :
    R.LINE_FE_STATUS 3 = 0x413014 ∧ (busRead .portI 0x8413014 4 rel).1 = .denied ∧ (busRead .portS 0x8413014 4 rel).1 = .ok ∧
    (busWrite .portS 0x8413014 4 0 false rel).1 = .unmapped ∧ (busRead .portF 0x80020 4 rel).1 = .denied ∧
    (busRead .portS 0x8413014 4 deep).1 = .asleep := by decide +kernel

/-- A group write of 0x80013008 to MBX_I_IN_CTRL at 0x31000 (spec/12_host_access.md, FLOW-mode example): LEN 8, OPCODE 0x30, TAG 1, GO. -/
theorem test_flow_message :
    R.MBX_IN_CTRL 1 = 0x31000 ∧ R.MBX_OUT_CTRL 1 = 0x3103C ∧ F.MBX_IN_CTRL_LEN.get 0x80013008 = 8 ∧
    F.MBX_IN_CTRL_OPCODE.get 0x80013008 = 0x30 ∧ F.MBX_IN_CTRL_TAG.get 0x80013008 = 1 ∧ cmd F.MBX_IN_CTRL_GO 0x80013008 = true := by
  decide +kernel

/-- Nesting on K0 (spec/13_keepers_and_interrupts.md, steps 1 and 3): with running priority 4, CHIP_FAULT of priority 14 is claimed, and
the stack is [4, 14], its top first here. -/
theorem test_nesting :
    let s := { alarmed with kic := { k := Vector.replicate 3 { stack := [(4, 12)], svc := [12] } } }.setFld (R.KIC_SRC_CFG 0) F.KIC_SRC_CFG_PRIO 14
    topRouted s 0 = some 1 ∧ (readAs .k0 (R.KIC_CLAIM 0) 4 s).resp[(3 : Fin 7)] = [{ code := .ok, data := 1 }] ∧
    (readAs .k0 (R.KIC_CLAIM 0) 4 s).kic.k[(0 : Fin 3)].stack = [(14, 1), (4, 12)] := by decide +kernel

/-- The identity that PORT S reads (R328), and the code of an address with no register (R14). -/
theorem test_identity :
    (busRead .portS R.CHIP_ID 4 rel).1 = .ok ∧ (busRead .portS R.CHIP_ID 4 rel).2.1 = 0x5A4E0816 ∧
    (busRead .portS R.CHIP_REV 4 rel).2.1 = 0xB0 ∧ (busRead .portS 0xFFFC 4 rel).1 = .unmapped := by decide +kernel

/-- A write of LEN_EN0 with TXDIS_N high raises LEN0 and no other lane's LEN (R87, R89). -/
theorem test_laser :
    let s := writeAs .portS R.LINE_LEN_CTRL 4 0x00010001 rel
    lenOut s 0 = true ∧ lenOut s 1 = false := by decide +kernel

end Sys2Proof.Tests
end

section
/-!
PROOF. The statements about the queue, the answers, the reset state and register writes.
-/
namespace Sys2Proof.Machine

/-! ### The queue -/

/-- Settles O1: `step` takes the front command by definition. -/
theorem frontCommandRuns : Obligations.FrontCommandRuns := fun s c rest => step_cons s c rest

/-- Both forms of a command's outcome answer a next state that leaves the queue. -/
theorem outcome_keeps_queue (g : State → State) (s : State) : ∃ t, outcome s g = .next t ∧ t.pending = s.pending := ⟨_, rfl, rfl⟩
theorem outcomePin_keeps_queue (g : State → State) (s : State) : ∃ t, outcomePin s g = .next t ∧ t.pending = s.pending :=
  ⟨_, rfl, rfl⟩

/-- Settles O3, by the command's arm of `exec`: six commands act on pins or start the device, all others give an `outcome`. -/
theorem everyCommandAnswers : Obligations.EveryCommandAnswers := by
  intro c s
  cases c
  case txdisAssert | txdisDeassert | wakeEvent | trstAssert | resetAssert | coldStart => exact outcomePin_keeps_queue _ s
  all_goals exact outcome_keeps_queue _ s

/-! ### Reset -/

/-- Settles O59, by evaluating the state after reset register by register. -/
theorem resetLeaves : Obligations.ResetLeaves := by
  unfold Obligations.ResetLeaves
  refine ⟨?_, ?_, ?_, ?_, ?_, ?_, ?_, ?_, ?_, ?_, ?_, ?_, rfl, State.reset_mem_wf, rfl, fun _ _ => rfl⟩ <;> decide +kernel

/-! ### Register writes -/

/-- What the keeper pair K0 was answered last, if the command answers a next state. -/
def answersToK0 : Host.Outcome State Fault Refusal → List Resp
  | .next t => t.resp[Origin.k0.idx]
  | _ => []

/-- An aligned write of 64 bits by K0 into the bucket is split into two accesses of 32 bits (R255), and both are answered OK. -/
theorem split_write_answers_twice :
    answersToK0 (exec (.registerWrite .k0 0x44000000 8 0) State.reset) = [{ code := .ok }, { code := .ok }] := by decide +kernel

/-- Refutes O57: step 1 of R307 has the code WIDTH for a size of 8, but K0's aligned write of 64 bits into the bucket is never checked as
such. It is split into two writes of 32 bits, which are accepted. (`Instr.wf` has no such command; the statement speaks of every size.) -/
theorem not_registerWritesComplete : ¬ Obligations.RegisterWritesComplete := by
  unfold Obligations.RegisterWritesComplete
  intro h
  obtain ⟨-, stopped, -⟩ := h State.reset .k0 0x44000000 0 rfl
  have width : accessCode State.reset .k0 0x44000000 8 (some 0) false = some .width := by decide +kernel
  have answered := stopped 8 .width (.inr (by decide +kernel)) (by decide) width
  have once : [{ code := .ok }, { code := .ok }] = [({ code := .width } : Resp)] := by
    rw [← split_write_answers_twice, answered]
    decide +kernel
  exact absurd once (by decide)

end Sys2Proof.Machine
end

section
/-!
PROOF. What follows every command neither mutes lane 0 without a condition of R88 nor ends the condition: a state in which the lane is
muted without one, and which shows none of the reactions, was so before.
-/
namespace Sys2Proof.Machine

/-! ### What the argument reads -/

/-- Registers of which every bit counts below. -/
def muteRegs : List Nat :=
  [R.LINE_PLL_STATUS 0, R.LINE_FE_CFG 0, R.LINE_CAL_STATUS 0, R.FEC_PROFILE, R.BOOT_STAGE_STATUS, R.CIS_STATUS] ++
    (List.finRange 8).map fun n => R.WELL_RX_STATUS n

/-- What the argument reads of a state. -/
def muteView (s : State) :=
  (muteRegs.map s.reg, lenOut s 0, pwrState s, s.actReg R.LINE_LEN_CTRL, s.light[(0 : Fin 8)], s.now, s.line[(0 : Fin 8)].steerAt,
    s.boot.upd.cfg, s.inReset)

/-- A write to the register can change nothing of `muteView`. -/
abbrev Unwatched (a : Nat) : Prop := ∀ b ∈ R.PWR_STATUS :: R.LINE_LEN_STATUS :: muteRegs, b ≠ a

variable (s : State)

theorem muteView_congr {s t : State} (regs : t.regs = s.regs := by rfl) (act : t.act = s.act := by rfl)
    (light : t.light = s.light := by rfl) (now : t.now = s.now := by rfl) (line : t.line = s.line := by rfl)
    (boot : t.boot = s.boot := by rfl) (reset : t.inReset = s.inReset := by rfl) : muteView t = muteView s := by
  have r : t.reg = s.reg := funext fun a => State.reg_of_regs regs a
  simp only [muteView, lenOut, pwrState, State.fld, State.actReg, r, act, light, now, line, boot, reset]

theorem muteView_setReg {a : Nat} (h : Unwatched a) (w : Word) : muteView (s.setReg a w) = muteView s := by
  obtain ⟨pwr, len, rest⟩ : R.PWR_STATUS ≠ a ∧ R.LINE_LEN_STATUS ≠ a ∧ ∀ b ∈ muteRegs, b ≠ a := by simpa [Unwatched] using h
  have r : muteRegs.map (s.setReg a w).reg = muteRegs.map s.reg := List.map_congr_left fun b hb => s.reg_setReg_ne (rest b hb) w
  simp only [muteView, r, lenOut, pwrState, State.fld, s.reg_setReg_ne pwr, s.reg_setReg_ne len, State.actReg_setReg,
    State.setReg_light, State.setReg_now, State.setReg_line, State.setReg_boot, State.setReg_inReset]

theorem muteView_setFld {a : Nat} (h : Unwatched a) (f : Fld) (v : Nat) : muteView (s.setFld a f v) = muteView s := muteView_setReg s h _
theorem muteView_addSat {a : Nat} (h : Unwatched a) (f : Fld) (v : Nat) : muteView (s.addSat a f v) = muteView s := muteView_setReg s h _

theorem muteView_setFld_pwrStatus {f : Fld} (above : 3 ≤ f.lo) (fits : f.lo + f.w ≤ 32) (v : Nat) :
    muteView (s.setFld R.PWR_STATUS f v) = muteView s := by
  have apart : f.apart F.PWR_STATUS_STATE := .inr above
  have other : ∀ b ∈ R.LINE_LEN_STATUS :: muteRegs, b ≠ R.PWR_STATUS := by decide
  have r : muteRegs.map (s.setFld R.PWR_STATUS f v).reg = muteRegs.map s.reg :=
    List.map_congr_left fun b hb => s.reg_setFld_ne (other b (List.mem_cons_of_mem _ hb)) f v
  simp only [muteView, r, lenOut, pwrState, s.fld_setFld_apart _ f _ v fits apart, s.fld_setFld_ne (other _ List.mem_cons_self),
    State.actReg_setFld, State.setFld_light, State.setFld_now, State.setFld_line, State.setFld_boot, State.setFld_inReset]

theorem unwatched_journal : Unwatched R.SAF_JNL_STATUS := by decide

theorem muteView_jLostPend (k : Nat) : muteView { s with jLostPend := k } = muteView s := muteView_congr

theorem muteView_jLose : muteView s.jLose = muteView s := by
  rw [State.jLose, muteView_jLostPend, muteView_setFld _ unwatched_journal, muteView_addSat _ unwatched_journal]

theorem muteView_journal (code payload : Nat) : muteView (s.journal code payload) = muteView s := by
  simp only [State.journal, State.journalAt]
  split
  · exact muteView_jLose s
  · split
    · exact muteView_congr
    · split
      · rw [muteView_jLose]
        exact muteView_congr
      · exact muteView_congr

theorem muteView_raise {a : Nat} {f : Fld} (h : ∀ v, muteView (s.setFld a f v) = muteView s) (bits id : Nat) :
    muteView (s.raise a f bits id) = muteView s := by
  simp only [State.raise]
  split
  · exact h _
  · rw [muteView_journal]; exact h _

/-! ### The mailboxes, requests and Port I -/

theorem muteView_foldl {α : Type} {g : State → α → State} (h : ∀ t x, muteView (g t x) = muteView t) (l : List α) :
    muteView (l.foldl g s) = muteView s := by
  induction l generalizing s with
  | nil => rfl
  | cons x l ih => rw [List.foldl_cons, ih, h]

theorem unwatched_mbx : ∀ p : Fin 3,
    Unwatched (R.MBX_OUT_CTRL p) ∧ Unwatched (R.MBX_STATUS p) ∧ ∀ k < 16, Unwatched (R.MBX_DATA p k) := by decide

theorem muteView_mbxPost (p : Fin 3) (r : Reply) : muteView (mbxPost p r s) = muteView s := by
  obtain ⟨ctrl, status, data⟩ := unwatched_mbx p
  simp only [mbxPost, muteView_setFld _ ctrl, muteView_setFld _ status]
  have below : ∀ k ∈ List.range (min 16 r.len), k < 16 := fun k hk => by have := List.mem_range.mp hk; omega
  generalize List.range (min 16 r.len) = l at below
  induction l generalizing s with
  | nil => rfl
  | cons k l ih =>
    obtain ⟨hk, hl⟩ := List.forall_mem_cons.mp below
    rw [List.foldl_cons, ih _ hl, muteView_setReg _ (data k hk)]

theorem muteView_mbxPostNext (p : Fin 3) : muteView (mbxPostNext p s) = muteView s := by
  obtain ⟨-, status, -⟩ := unwatched_mbx p
  simp only [mbxPostNext]
  split
  · rfl
  · split
    · rfl
    · rw [muteView_mbxPost, mbxQueued, muteView_setFld _ status]; rfl

theorem muteView_repliesPost : muteView (repliesPost s) = muteView s := by
  refine muteView_foldl s (fun t p => ?_) _
  simp only [when]
  split
  · exact muteView_mbxPostNext t p
  · rfl

theorem muteView_requestsFollow : muteView (requestsFollow s) = muteView s := by
  refine muteView_foldl s (fun t k => ?_) _
  split <;> rfl

theorem muteView_ibiFollow (old : State) : muteView (ibiFollow old s) = muteView s := by
  simp only [ibiFollow]
  split
  · rfl
  · split
    · rfl
    · split <;> rfl

/-! ### Power -/

theorem muteView_levelMove (f : Fld) (need : Nat) : muteView (levelMove f need s) = muteView s := by
  have level : Unwatched R.PWR_LEVEL := by decide
  simp only [levelMove]
  split
  · exact muteView_setFld s level f need
  · rfl

theorem muteView_perfLevelChange : muteView (perfLevelChange s) = muteView s := by
  have level : Unwatched R.PWR_LEVEL := by decide
  have req : Unwatched R.PWR_AVS_REQ := by decide
  have st : Unwatched R.PWR_AVS_STATUS := by decide
  have clocks : muteView (clocksMove s) = muteView s := by
    simp only [clocksMove, muteView_levelMove, muteView_setFld _ level]
    exact muteView_foldl s (fun t n => muteView_levelMove t _ _) _
  have avs : ∀ (l : Nat) (up : Bool) (t : State), muteView (avsRequest l up t) = muteView t := fun l up t =>
    (muteView_raise _ (fun v => muteView_setFld _ st _ v) 1 436).trans (muteView_setFld t req _ _)
  simp only [perfLevelChange, levelsTo]
  split
  · exact clocks
  · rw [avs, clocks]

theorem muteView_wakeCause (bits : Nat) : muteView (wakeCause bits s) = muteView s := muteView_setReg s (by decide) _

theorem muteView_exitStart (causes : Nat) : muteView (exitStart causes s) = muteView s := by
  have idle : Unwatched R.PWR_DP_IDLE := by decide
  have cnt : Unwatched R.PWR_CNT := by decide
  calc muteView (exitStart causes s)
      = muteView (((wakeCause causes (setDpIdle 0 s)).raise1 R.PWR_STATUS F.PWR_STATUS_WAKE_EV 433).addSat R.PWR_CNT F.PWR_CNT_WAKES 1) :=
        muteView_perfLevelChange _
    _ = muteView (wakeCause causes (setDpIdle 0 s)) := by
        rw [muteView_addSat _ cnt, State.raise1, muteView_raise _ (fun v => muteView_setFld_pwrStatus _ (by decide) (by decide) v)]
    _ = muteView s := by
        rw [muteView_wakeCause, setDpIdle, muteView_setFld _ idle, muteView_setFld_pwrStatus _ (by decide) (by decide)]

theorem muteView_wakesNote (lv : Nat) : muteView (wakesNote lv s) = muteView s := by
  show muteView (if _ then wakeCause _ s else s) = muteView s
  split
  · exact muteView_wakeCause s _
  · rfl

theorem muteView_powerFollow : muteView (powerFollow s) = muteView s := by
  have ltr : Unwatched R.PWR_LTR_EFF := by decide
  have held : ∀ (t : State) (v : Nat), muteView (t.setFld R.PWR_STATUS F.PWR_STATUS_WAKE_HELD v) = muteView t := fun t v =>
    muteView_setFld_pwrStatus t (by decide) (by decide) v
  have target : ∀ (t : State) (v : Nat), muteView (t.setFld R.PWR_STATUS F.PWR_STATUS_TARGET v) = muteView t := fun t v =>
    muteView_setFld_pwrStatus t (by decide) (by decide) v
  simp only [powerFollow]
  split <;> simp only [held, muteView_exitStart, muteView_wakesNote, target, muteView_setFld _ ltr]

/-! ### A lane muted too late -/

/-- Lane 0 is muted although no condition of R88 holds for it, and nothing else that `follow` might have done shows: the image tail is under
way with no record left, the host transmit clocks have not been followed in this cycle, no lane's receiver is idle, and the cistern is not
in self-refresh. `follow` brings about no such state: see `lateMuted_follow`. -/
structure LateMuted (s : State) : Prop where
  running : s.inReset = false
  muted : s.light[(0 : Fin 8)].muted = true
  settled : s.light[(0 : Fin 8)].settled = true
  out : lenOut s 0 = true
  unmute : muteInForce s 0 = false
  lock : s.flag (R.LINE_PLL_STATUS 0) F.LINE_PLL_STATUS_LOCK = true
  dac : s.flag (R.LINE_FE_CFG 0) F.LINE_FE_CFG_DAC_EN = true
  calibrated : s.flag (R.LINE_CAL_STATUS 0) F.LINE_CAL_STATUS_RUNNING = false
  active : pwrState s = 0
  profile : s.flag R.FEC_PROFILE F.FEC_PROFILE_BUSY = false
  tail : updStep s = 6
  records : s.boot.upd.cfg = []
  steered : s.line[(0 : Fin 8)].steerAt ≠ s.now
  receivers : ∀ n : Fin 8, rxState s n ≠ 0
  awake : cisFlag s F.CIS_STATUS_SELF_REFRESH = false

theorem LateMuted.muteCond_eq {s : State} (h : LateMuted s) : muteCond s 0 = false := by
  simp only [muteCond, Fin.val_zero, h.out, h.unmute, h.lock, h.dac, h.settled, h.calibrated, h.active, h.profile]
  rfl

theorem LateMuted.of_muteView {s t : State} (e : muteView t = muteView s) (h : LateMuted t) : LateMuted s := by
  simp only [muteView, Prod.mk.injEq, List.map_inj_left] at e
  obtain ⟨regs, out, pwr, act, light, now, steer, cfg, reset⟩ := e
  have flags : ∀ a ∈ muteRegs, ∀ f, s.fld a f = t.fld a f := fun a ha f => by simp only [State.fld, regs a ha]
  have flag : ∀ a ∈ muteRegs, ∀ f, s.flag a f = t.flag a f := fun a ha f => by simp only [State.flag, flags a ha]
  exact {
    running := reset ▸ h.running
    muted := light ▸ h.muted
    settled := light ▸ h.settled
    out := out ▸ h.out
    unmute := by rw [← h.unmute, muteInForce, muteInForce, State.actFld, State.actFld, act]
    lock := (flag _ (by decide) _).trans h.lock
    dac := (flag _ (by decide) _).trans h.dac
    calibrated := (flag _ (by decide) _).trans h.calibrated
    active := pwr ▸ h.active
    profile := (flag _ (by decide) _).trans h.profile
    tail := (flags _ (by decide) _).trans h.tail
    records := cfg ▸ h.records
    steered := now ▸ steer ▸ h.steered
    receivers := fun n => by
      have known : ∀ k : Fin 8, R.WELL_RX_STATUS k ∈ muteRegs := by decide
      exact fun z => h.receivers n ((flags _ (known n) _).symm.trans z)
    awake := (flag _ (by decide) _).trans h.awake }

/-! ### Regions -/

theorem muteView_region (g : Vector RegionSt 5) : muteView { s with region := g } = muteView s := muteView_congr

theorem muteView_modSeep (n : Fin 8) (g : SeepLane → SeepLane) : muteView (modSeep n g s) = muteView s := muteView_congr

theorem muteView_requeueFrame (once : Bool) (n : Fin 8) : muteView (requeueFrame once n s) = muteView s := by
  have close : ∀ t : State, muteView (frameClose false n t) = muteView t := fun t => by
    simp only [frameClose]
    split
    · rfl
    · exact muteView_modSeep t n _
  have level : Unwatched (R.SEEP_LN_STATUS n) := by
    have : ∀ n : Fin 8, Unwatched (R.SEEP_LN_STATUS n) := by decide
    exact this n
  simp only [requeueFrame]
  split
  · rw [txqFollow, muteView_setFld _ level, muteView_modSeep, close]
  · rw [muteView_modSeep, close]

theorem muteView_timing : muteView (regionBegin .timing s) = muteView s := by
  have lane : ∀ (t : State) (n : Fin 8),
      muteView (if seepEn t n then modSeep n (fun l => { l with rxTag := none, asm := none }) (requeueFrame true n t) else t) =
        muteView t := fun t n => by
    split
    · rw [muteView_modSeep, muteView_requeueFrame]
    · rfl
  simp only [regionBegin]
  split
  · rfl
  · rw [seepRestart, forLanes, muteView_foldl _ lane, ttRestart]
    exact muteView_congr

theorem muteView_keep : muteView (regionBegin .keep s) = muteView s := by
  have pair : ∀ (t : State) (k : Fin 3),
      muteView (if pairPowered t k then modK k (fun x => { x with down := true }) (pairReset k t) else t) = muteView t := fun t k => by
    have mode : ∀ k : Fin 3, Unwatched (R.KIC_MODE k) := by decide
    have mod : ∀ (g : KeeperSt → KeeperSt) (x : State), muteView (modK k g x) = muteView x := fun g x => muteView_congr
    split
    · rw [mod, pairReset, muteView_setReg _ (mode k), mod]
    · rfl
  simp only [regionBegin]
  split
  · rfl
  · rw [muteView_foldl _ pair, muteView_region]

theorem cisFlag_selfRefresh : cisFlag (selfRefresh true s) F.CIS_STATUS_SELF_REFRESH = true := by
  have fits : F.CIS_STATUS_SELF_REFRESH.fits := by unfold Fld.fits; decide
  have set : ∀ t : State, cisFlag (t.setFld R.CIS_STATUS F.CIS_STATUS_SELF_REFRESH (b2n true))
      F.CIS_STATUS_SELF_REFRESH = true := fun t => by
    rw [cisFlag, State.flag, State.fld_setFld _ _ _ _ fits]
    rfl
  simp only [selfRefresh]
  split
  · assumption
  · exact set _

theorem lateMuted_cistern (h : LateMuted (regionBegin .cistern s)) : LateMuted s := by
  simp only [regionBegin] at h
  split at h
  · exact h
  · split at h
    · exact h.of_muteView (muteView_region s _)
    · exact absurd h.awake (by rw [cisFlag_selfRefresh]; decide)

/-- What the first lane's update brings about and every lane's update keeps holds after the updates of all lanes. -/
theorem forLanes_of_first (P : State → Prop) {g : Fin 8 → State → State} (first : ∀ t, P (g 0 t)) (keeps : ∀ n t, P t → P (g n t)) :
    P (forLanes g s) := by
  rw [forLanes, List.finRange_succ, List.foldl_cons]
  exact List.foldlRecOn _ _ (first s) fun t h n _ => keeps n t h

theorem steerAt_steerFollow : (steerFollow s).line[(0 : Fin 8)].steerAt = (steerFollow s).now := by
  refine forLanes_of_first s (fun t => t.line[(0 : Fin 8)].steerAt = t.now) (fun t => ?_) (fun n t h => ?_)
  · simp only [State.setFld_line, State.setFld_now, modLine_line, modLine_now, vmod_same]
  · by_cases e : 0 = n
    · subst e
      simp only [State.setFld_line, State.setFld_now, modLine_line, modLine_now, vmod_same]
    · simp only [State.setFld_line, State.setFld_now, modLine_line, modLine_now, vmod_ne _ e, h]

theorem steerAt_hostFollow : (hostFollow s).line[(0 : Fin 8)].steerAt = (hostFollow s).now := by
  simp only [hostFollow, hostTxFollow]
  refine forLanes_keeps (fun t => t.line[(0 : Fin 8)].steerAt = t.now) (fun n t h => ?_) (steerAt_steerFollow _)
  split <;> exact h

theorem lateMuted_host (h : LateMuted (regionBegin .host s)) : LateMuted s := by
  simp only [regionBegin] at h
  split at h
  · exact h
  · exact absurd (steerAt_hostFollow _) h.steered

theorem rxState_laneReinit (n : Fin 8) : rxState (laneReinit n s) n = 0 :=
  State.fld_setFld _ _ _ 0 (by unfold Fld.fits; decide)

/-- Steps of which each comes from such a state only do so together. -/
theorem lateMuted_foldl {α : Type} {g : State → α → State} (back : ∀ t x, LateMuted (g t x) → LateMuted t) (l : List α)
    (h : LateMuted (l.foldl g s)) : LateMuted s := by
  induction l generalizing s with
  | nil => exact h
  | cons x l ih => exact back s x (ih _ h)

theorem lateMuted_reinits (lanes : Nat) (l : List (Fin 8))
    (h : LateMuted (l.foldl (fun s (n : Fin 8) => if bitOf lanes n then laneReinit n s else s) s)) : LateMuted s := by
  refine lateMuted_foldl s (fun t n step => ?_) l h
  split at step
  · exact absurd (rxState_laneReinit _ n) (step.receivers n)
  · exact step

theorem muteView_atlasRestart : muteView (atlasRestart s) = muteView s :=
  muteView_foldl s (g := fun t n => modAtl n _ t) (fun _ _ => muteView_congr) (List.finRange 8)

theorem lateMuted_line (h : LateMuted (regionBegin .line s)) : LateMuted s := by
  simp only [regionBegin, forLanes] at h
  split at h
  · exact h
  · have begun := lateMuted_reinits _ _ _ h
    split at begun
    · exact begun.of_muteView ((muteView_atlasRestart _).trans (muteView_region s _))
    · exact begun.of_muteView (muteView_region s _)

theorem lateMuted_regionsBegin (h : LateMuted (regionsBegin s)) : LateMuted s :=
  lateMuted_line s (lateMuted_host _ (((lateMuted_cistern _ h).of_muteView (muteView_keep _)).of_muteView (muteView_timing _)))

/-! ### The device's images -/

/-- Raising a flag leaves a field of its register that shares no bit with it. -/
theorem fld_raise_apart {a : Nat} (ha : a ≠ R.SAF_JNL_STATUS) {f g : Fld} (fits : f.fits) (apart : f.apart g) (bits id : Nat) :
    (s.raise a f bits id).fld a g = s.fld a g := by
  simp only [State.raise]
  split
  · exact s.fld_setFld_apart a f g _ fits apart
  · rw [State.fld, State.reg_journal _ ha]
    exact s.fld_setFld_apart a f g _ fits apart

theorem updStep_updEnd (i : Image) : updStep (updEnd i s) = 0 := by
  have fits : F.BOOT_STAGE_STATUS_UPD_DONE.fits := by unfold Fld.fits; decide
  have apart : F.BOOT_STAGE_STATUS_UPD_DONE.apart F.BOOT_STAGE_STATUS_STEP := by unfold Fld.apart; decide
  rw [updStep, updEnd, State.raise1, fld_raise_apart _ (by decide) fits apart]
  exact State.fld_setFld _ _ _ 0 (by unfold Fld.fits; decide)

theorem not_lateMuted_tailRecords (i : Image) (l : List (CfgRec × Nat)) : ¬ LateMuted (tailRecords i l s) := by
  intro h
  simp only [tailRecords] at h
  split at h
  · exact absurd h.tail ‹_›
  · split at h
    · exact absurd h.tail (by rw [updStep_updEnd]; decide)
    · have none : (cfgRun l s).1 = [] := h.records
      exact absurd (none ▸ rfl) ‹¬ (cfgRun l s).1.isEmpty = true›

theorem lateMuted_updTail (h : LateMuted (updTail s)) : LateMuted s := by
  unfold updTail at h
  split at h
  · exact h
  · split at h
    · exact absurd h (not_lateMuted_tailRecords _ _ _)
    · split at h
      · exact h
      · split at h
        · exact h
        · split at h
          · exact absurd h (not_lateMuted_tailRecords _ _ _)
          · split at h
            · exact absurd h (not_lateMuted_tailRecords _ _ _)
            · exact h

/-! ### LEN and the DAC -/

theorem muteView_light {l : Vector LightLane 8} (e : l[(0 : Fin 8)] = s.light[(0 : Fin 8)]) : muteView { s with light := l } = muteView s := by
  simp only [muteView, e]
  rfl

theorem muteCond_light {l : Vector LightLane 8} {n : Fin 8} (e : l[n].settled = s.light[n].settled) :
    muteCond { s with light := l } n = muteCond s n := by
  simp only [muteCond, e]
  rfl

/-- `muteUpdate` mutes only where a condition holds, and in the state after it none does. -/
theorem lateMuted_muteUpdate (h : LateMuted (muteUpdate 0 s)) : LateMuted s := by
  simp only [muteUpdate] at h
  split at h
  · have same := h.muteCond_eq
    rw [muteCond_light s (by rw [vmod_same])] at same
    exact absurd ‹muteCond s 0 = true› (by rw [same]; decide)
  · exact h

/-- A write to LINE_LEN_STATUS that leaves LEN0 leaves all that counts. -/
theorem muteView_setFld_len {f : Fld} {v : Nat} (out : lenOut (s.setFld R.LINE_LEN_STATUS f v) 0 = lenOut s 0) :
    muteView (s.setFld R.LINE_LEN_STATUS f v) = muteView s := by
  have other : ∀ b ∈ R.PWR_STATUS :: muteRegs, b ≠ R.LINE_LEN_STATUS := by decide
  have r : muteRegs.map (s.setFld R.LINE_LEN_STATUS f v).reg = muteRegs.map s.reg :=
    List.map_congr_left fun b hb => s.reg_setFld_ne (other b (List.mem_cons_of_mem _ hb)) f v
  simp only [muteView, r, out, pwrState, s.fld_setFld_ne (other _ List.mem_cons_self),
    State.actReg_setFld, State.setFld_light, State.setFld_now, State.setFld_line, State.setFld_boot, State.setFld_inReset]

/-- The fields above LEN_OUT. -/
theorem muteView_setFld_len_above {f : Fld} (above : 8 ≤ f.lo) (fits : f.lo + f.w ≤ 32) (v : Nat) :
    muteView (s.setFld R.LINE_LEN_STATUS f v) = muteView s :=
  have apart : f.apart F.LINE_LEN_STATUS_LEN_OUT := .inr above
  muteView_setFld_len s (by rw [lenOut, s.fld_setFld_apart _ _ _ _ fits apart, lenOut])

/-- LEN_OUT itself, where the new value has the old bit 0. -/
theorem muteView_setLenOut {v : Nat} (even : v % 2 = s.fld R.LINE_LEN_STATUS F.LINE_LEN_STATUS_LEN_OUT % 2) :
    muteView (s.setFld R.LINE_LEN_STATUS F.LINE_LEN_STATUS_LEN_OUT v) = muteView s := by
  refine muteView_setFld_len s ?_
  have w : (2 : Nat) ^ F.LINE_LEN_STATUS_LEN_OUT.w = 256 := rfl
  rw [lenOut, s.fld_setFld _ _ _ (by unfold Fld.fits; decide), lenOut, bitOf, bitOf, w]
  simp only [Nat.pow_zero, Nat.div_one, ← even]
  congr 1
  omega

theorem two_pow_even {n : Fin 8} (h : 0 ≠ n) : 2 ^ n.val % 2 = 0 := by
  have : ∀ n : Fin 8, 0 ≠ n → 2 ^ n.val % 2 = 0 := by decide
  exact this n h

theorem muteView_lenRise {n : Fin 8} (h : 0 ≠ n) : muteView (lenRise n s) = muteView s := by
  have even := two_pow_even h
  refine (muteView_light _ (vmod_ne _ h _)).trans (muteView_setLenOut s ?_)
  have := @Nat.or_mod_two_eq_one (s.fld R.LINE_LEN_STATUS F.LINE_LEN_STATUS_LEN_OUT) (2 ^ n.val)
  show (s.fld R.LINE_LEN_STATUS F.LINE_LEN_STATUS_LEN_OUT ||| 2 ^ n.val) % 2 = _
  omega

theorem muteView_lenFall {n : Fin 8} (h : 0 ≠ n) : muteView (lenFall n s) = muteView s := by
  have clear : ∀ t : State, muteView (t.clrBits R.LINE_LEN_STATUS F.LINE_LEN_STATUS_LEN_OUT (2 ^ n.val)) = muteView t := fun t => by
    refine muteView_setLenOut t ?_
    have even := two_pow_even h
    have parity := @Nat.and_mod_two_eq_one (t.fld R.LINE_LEN_STATUS F.LINE_LEN_STATUS_LEN_OUT) (2 ^ n.val)
    have le := @Nat.and_le_left (t.fld R.LINE_LEN_STATUS F.LINE_LEN_STATUS_LEN_OUT) (2 ^ n.val)
    show (_ - (t.fld R.LINE_LEN_STATUS F.LINE_LEN_STATUS_LEN_OUT &&& 2 ^ n.val)) % 2 = _
    omega
  simp only [lenFall]
  split
  · rw [muteView_raise _ (fun v => muteView_setFld_len_above _ (by decide) (by decide) v), muteView_light _ (vmod_ne _ h _), clear]
  · rw [muteView_light _ (vmod_ne _ h _), clear]

/-- A fall of LEN0 starts the settle time anew. -/
theorem settled_lenFall : (lenFall 0 s).light[(0 : Fin 8)].settled = false := by
  have journal : ∀ (t : State) (c p : Nat), (t.journal c p).light = t.light := fun t c p => by
    simp only [State.journal, State.journalAt]
    split
    · rfl
    · split
      · rfl
      · split <;> rfl
  simp only [lenFall]
  split
  · simp only [State.raise]
    split <;> simp only [journal, State.setFld_light, vmod_same]
  · simp only [vmod_same]

theorem lateMuted_lenLane (n : Fin 8) (h : LateMuted (lenLane n s)) : LateMuted s := by
  by_cases e : 0 = n
  · subst e
    have moved := lateMuted_muteUpdate _ h
    split at moved
    · exact absurd moved.settled (by simp only [lenRise, vmod_same]; decide)
    · split at moved
      · exact absurd moved.settled (by rw [settled_lenFall]; decide)
      · exact moved
  · have muted : ∀ t : State, muteView (muteUpdate n t) = muteView t := fun t => by
      simp only [muteUpdate]
      split
      · exact muteView_light t (vmod_ne _ e _)
      · rfl
    refine h.of_muteView ?_
    simp only [lenLane, muted]
    split
    · exact muteView_lenRise s e
    · split
      · exact muteView_lenFall s e
      · rfl

theorem lateMuted_lenUpdate (h : LateMuted (lenUpdate s)) : LateMuted s := by
  have above := fun (t : State) {f : Fld} (lo : 8 ≤ f.lo) (fits : f.lo + f.w ≤ 32) (v : Nat) => muteView_setFld_len_above t lo fits v
  have lanes : LateMuted (forLanes lenLane s) := by
    refine h.of_muteView ?_
    simp only [lenUpdate]
    rw [above _ (by decide) (by decide), above _ (by decide) (by decide), above _ (by decide) (by decide)]
  exact lateMuted_foldl s (fun t n step => lateMuted_lenLane t n step) _ lanes

/-- A state that is so after `follow` was so before. -/
theorem lateMuted_follow (old : State) (h : LateMuted (follow old s)) : LateMuted s := by
  have g := lateMuted_lenUpdate _ h
  split at g
  · exact g
  · have r := ((g.of_muteView (muteView_ibiFollow _ old)).of_muteView (muteView_powerFollow _)).of_muteView (muteView_requestsFollow _)
    exact lateMuted_updTail s ((lateMuted_regionsBegin _ r).of_muteView (muteView_repliesPost _))

end Sys2Proof.Machine
end

section
/-!
PROOF. The statement about the frame, epoch and distillation boundaries.
-/
namespace Sys2Proof.Machine

/-! ### A transmit frame of idle pumps -/

/-- Free values drawn one after the other only advance their counter. -/
theorem freshList_state (w k : Nat) (s : State) : (freshList w k s).2 = { s with freeCtr := s.freeCtr + k } := by
  induction k generalizing s with
  | zero => rfl
  | succ k ih => simp [freshList, State.fresh, ih, Nat.add_assoc, Nat.add_comm 1 k]

/-- No pump of the lane transmits or is to transmit, and the hardware map is off: every block of a frame is free values. -/
abbrev TxIdle (s : State) (n : Fin 8) : Prop :=
  s.well[n].hwMap = false ∧ s.well[n].vacant.isEmpty = true ∧ (pumpsIn s n 2).isEmpty = true

theorem TxIdle.dealOrder_eq {s : State} {n : Fin 8} (idle : TxIdle s n) : dealOrder s n 2 = [] := by
  obtain ⟨-, vacant, pumps⟩ := idle
  rw [List.isEmpty_iff] at vacant pumps
  simp only [dealOrder, vacant, pumps, List.find?_nil, Option.map_none, List.filterMap_none]

theorem txBlockOut_idle {n : Fin 8} {s : State} (idle : TxIdle s n) (depth : Nat) (syms : List Nat) (j : Nat) :
    (txBlockOut n depth syms j s).2 = { s with freeCtr := s.freeCtr + 64 } := by
  simp only [txBlockOut, idle.1, idle.dealOrder_eq, dealTo, List.length_nil, List.getElem?_nil, Bool.false_eq_true, if_false]
  exact freshList_state 7 64 s

theorem txBlocks_idle {n : Fin 8} (depth : Nat) (syms : List Nat) (k : Nat) :
    ∀ {s : State} (j : Nat), TxIdle s n → (txBlocks n depth syms j k s).2 = { s with freeCtr := s.freeCtr + 64 * k } := by
  induction k with
  | zero => intro s j idle; rfl
  | succ k ih =>
    intro s j idle
    have next : TxIdle (txBlockOut n depth syms j s).2 n := by rw [txBlockOut_idle idle]; exact idle
    simp only [txBlocks]
    rw [ih (j + 1) next, txBlockOut_idle idle]
    simp [Nat.mul_add, Nat.add_assoc, Nat.add_comm 64]

/-- Of a frame of an idle lane only the place in the order, the free values and the samples are left. -/
theorem txFrame_idle {n : Fin 8} {s : State} (idle : TxIdle s n) (syms next : List Nat) (depth : Nat) :
    txFrame n syms next depth s = { dealt n 2 (syms.length / 64) s with
      freeCtr := (txFrame n syms next depth s).freeCtr, sig := (txFrame n syms next depth s).sig } := by
  simp only [txFrame]
  rw [txBlocks_idle depth _ _ 0 idle]
  rfl

theorem TxIdle.dealt {s : State} {n : Fin 8} (idle : TxIdle s n) (k : Fin 8) (blocks : Nat) : TxIdle (dealt k 2 blocks s) n := by
  obtain ⟨off, vacant, pumps⟩ := idle
  refine ⟨?_, ?_, pumps⟩
  all_goals
    by_cases e : n = k
    · subst e
      simpa only [Machine.dealt, vmod_same, List.isEmpty_map]
    · simpa only [Machine.dealt, vmod_ne _ e]

/-- The symbols of a frame, lane by lane, as `txSymbols` gives them. -/
abbrev LaneSyms := List (Fin 8 × List Nat × List Nat)

/-- The frame of one lane goes out. -/
def frameOut (s : State) (p : Fin 8 × List Nat × List Nat) : State :=
  txFrame p.1 p.2.1 p.2.2 (if seepEn s p.1 then seepDepth s p.1 else 0) s

/-- The place in the lane's order after its frame. -/
def dealOut (s : State) (p : Fin 8 × List Nat × List Nat) : State := dealt p.1 2 (p.2.1.length / 64) s

theorem deals_with (l : LaneSyms) (s : State) (c : Nat) (g : Vector SigSt 8) :
    l.foldl dealOut { s with freeCtr := c, sig := g } = { l.foldl dealOut s with freeCtr := c, sig := g } := by
  induction l generalizing s with
  | nil => rfl
  | cons p l ih => exact ih (dealOut s p)

/-- Of the frames of idle lanes no more is left. -/
theorem frames_idle (l : LaneSyms) : ∀ s : State, (∀ p ∈ l, TxIdle s p.1) →
    l.foldl frameOut s = { l.foldl dealOut s with freeCtr := (l.foldl frameOut s).freeCtr, sig := (l.foldl frameOut s).sig } := by
  induction l with
  | nil => intro s idle; rfl
  | cons p l ih =>
    intro s idle
    obtain ⟨head, tail⟩ := List.forall_mem_cons.mp idle
    have frame : frameOut s p = { dealOut s p with freeCtr := (frameOut s p).freeCtr, sig := (frameOut s p).sig } :=
      txFrame_idle head _ _ _
    have still : ∀ q ∈ l, TxIdle (frameOut s p) q.1 := fun q hq => by
      rw [frame]
      exact (tail q hq).dealt p.1 _
    have places := deals_with l (dealOut s p) (frameOut s p).freeCtr (frameOut s p).sig
    rw [← frame] at places
    refine (ih (frameOut s p) still).trans ?_
    rw [places]
    rfl

/-- What a transmit boundary does after the stream of its frame. -/
def afterStream (lanes : List (Fin 8)) (s : State) : State :=
  let s := if lanes.any (txMarked s) then { s with tod := { s.tod with tmfDue := none } } else s
  let s := lanes.foldl (fun s n =>
    let l := s.line[n]
    let e := epochEnds l.txCnt false
    let s := modLine n (fun l => { l with txCnt := l.txCnt + 1, txEpochs := if e then l.txEpochs + 1 else l.txEpochs, txHeld := false }) s
    let s := txFrameWork n s
    txPumpsLoad n (if e || l.txHeld then txEpochFields n s else s)) s
  match lanes with
  | [] => s
  | n :: _ => if s.line[n].txCnt % 1024 = 0 then justEpoch (spreadLead s n) lanes s else s

theorem txBoundary_eq (lanes : List (Fin 8)) (d : FrameData) (s : State) : txBoundary lanes d s = afterStream lanes (txStream lanes d s) := rfl

theorem txStream_eq (lanes : List (Fin 8)) (d : FrameData) {s : State} (on : dataOn s = true) :
    txStream lanes d s = (txSymbols lanes d s).1.foldl frameOut (txSymbols lanes d s).2 := by
  simp only [txStream, on]
  rfl

/-! ### The counterexample -/

/-- Lanes 0 and 7 of one port run and lane 0 may send, but for a profile change in progress. In well 7 a pump 129 is to hand over to a
pump 128. There are no such pumps, and the address of PUMP_STATE of pump 128 is that of FEC_PROFILE. -/
def handingOver : State :=
  let s : State := { State.reset with
    now := 1
    line := Vector.ofFn fun n => if n = 0 ∨ n = 7 then { txRun := true } else {}
    light := Vector.replicate 8 { settled := true }
    frm := vmod State.reset.frm 0 fun f => { f with txBuf := [false] }
    well := vmod State.reset.well 7 fun w => { w with move := some { victim := 129, spare := 128 } } }
  let s := s.setFld R.FEC_PROFILE F.FEC_PROFILE_BUSY 1
  let s := s.setFld (R.PUMP_STATE 7 129) F.PUMP_STATE_ROLE 2
  let s := s.setFld R.LINE_LEN_CTRL F.LINE_LEN_CTRL_LEN_EN 1
  let s := s.setFld R.LINE_LEN_STATUS F.LINE_LEN_STATUS_LEN_OUT 1
  let s := s.setFld (R.LINE_PLL_STATUS 0) F.LINE_PLL_STATUS_LOCK 1
  let s := s.setFld (R.LINE_FE_CFG 0) F.LINE_FE_CFG_DAC_EN 1
  let s := s.setFld R.BOOT_STAGE_STATUS F.BOOT_STAGE_STATUS_STEP 6
  let s := (List.range 8).foldl (fun s n => s.setFld (R.WELL_RX_STATUS n) F.WELL_RX_STATUS_STATE 4) s
  [0, 7].foldl (fun s n => (List.range 8).foldl (fun s k => s.setFld (R.PUMP_STATE n (48 + k)) F.PUMP_STATE_ROLE 0) s) s

/-- The symbols of its next frame, and the state after them. -/
def handingOverSyms : LaneSyms × State := txSymbols [0, 7] {} handingOver

/-- The state after the frame's stream, whose free values and samples nothing below reads. -/
def handingOverSent : State :=
  let t := handingOverSyms.1.foldl frameOut handingOverSyms.2
  { handingOverSyms.1.foldl dealOut handingOverSyms.2 with freeCtr := t.freeCtr, sig := t.sig }

theorem boundary_tx {n : Fin 8} {b : Bound} (d : FrameData) {s : State}
    (due : (s.line[n].txRun && boundComes b s.line[n].txCnt s.line[n].txEpochs false) = true) :
    boundary n false b d s = afterStream (txLanes s n) (txStream (txLanes s n) d s) := by
  simp only [boundary, due, Bool.false_eq_true, if_false, if_true]
  exact txBoundary_eq _ d s

theorem boundary_handingOver : boundary 0 false .frame {} handingOver = afterStream [0, 7] handingOverSent := by
  have lanes : txLanes handingOver 0 = [0, 7] := by decide +kernel
  have idle : ∀ p ∈ handingOverSyms.1, TxIdle handingOverSyms.2 p.1 := by decide +kernel
  have sent : txStream [0, 7] {} handingOver = handingOverSent :=
    (txStream_eq _ _ (by decide +kernel)).trans (frames_idle _ _ idle)
  rw [boundary_tx {} (by decide +kernel), lanes, sent]

/-- The next state. -/
def handedOver : State := follow handingOver (afterStream [0, 7] handingOverSent)

/-- The hand-over clears BUSY after lane 0 has been muted for it. -/
theorem lateMuted_handedOver : LateMuted handedOver := by
  obtain ⟨running, muted, settled, out, unmute, lock, dac, calibrated, active, profile, tail, records, steered, receivers, awake⟩ :
      handedOver.inReset = false ∧ handedOver.light[(0 : Fin 8)].muted = true ∧ handedOver.light[(0 : Fin 8)].settled = true ∧
      lenOut handedOver 0 = true ∧ muteInForce handedOver 0 = false ∧
      handedOver.flag (R.LINE_PLL_STATUS 0) F.LINE_PLL_STATUS_LOCK = true ∧
      handedOver.flag (R.LINE_FE_CFG 0) F.LINE_FE_CFG_DAC_EN = true ∧
      handedOver.flag (R.LINE_CAL_STATUS 0) F.LINE_CAL_STATUS_RUNNING = false ∧ pwrState handedOver = 0 ∧
      handedOver.flag R.FEC_PROFILE F.FEC_PROFILE_BUSY = false ∧ updStep handedOver = 6 ∧ handedOver.boot.upd.cfg = [] ∧
      handedOver.line[(0 : Fin 8)].steerAt ≠ handedOver.now ∧ (∀ n : Fin 8, rxState handedOver n ≠ 0) ∧
      cisFlag handedOver F.CIS_STATUS_SELF_REFRESH = false := by decide +kernel
  exact ⟨running, muted, settled, out, unmute, lock, dac, calibrated, active, profile, tail, records, steered, receivers, awake⟩

/-- Refutes O8: at the boundary of lane-spread lanes 0 and 7 lane 0 is muted for a profile change in progress, and then the hand-over
in well 7 clears FEC_PROFILE.BUSY, as a pump 128 has that register for its PUMP_STATE. Lane 0 is left muted with no condition of R88, and no
other state before `follow` leads to the next state. (No well has a pump 128; the statement speaks of every state.) -/
theorem not_frameAndEpochBoundariesComplete : ¬ Obligations.FrameAndEpochBoundariesComplete := by
  unfold Obligations.FrameAndEpochBoundariesComplete
  intro h
  have running : Running handingOver := by unfold Running; decide +kernel
  obtain ⟨-, tx, -⟩ := h handingOver 0 {} running
  obtain ⟨own, ⟨u, done, counts, -⟩, -⟩ := tx (by decide +kernel)
  have next : { follow handingOver u with pending := handingOver.pending } =
      { handedOver with pending := handingOver.pending } := by
    have both := done.symm.trans (exec_outcome handingOver (g := boundary 0 false .frame {}) running)
    rw [boundary_handingOver] at both
    exact Host.Outcome.next.inj both
  have queue : ∀ (t : State) (l : List Instr), muteView { t with pending := l } = muteView t := fun t l => muteView_congr
  have late : LateMuted u := lateMuted_follow u handingOver
    (lateMuted_handedOver.of_muteView ((queue _ _).symm.trans ((congrArg muteView next.symm).trans (queue _ _))))
  have muted := (counts 0 own).2
  rw [late.muteCond_eq] at muted
  exact absurd (late.muted.symm.trans muted) (by decide)

end Sys2Proof.Machine
end

section
/-!
PROOF. Accesses of registers that pass: what a command that is such an access answers, and what the semaphores, the mailbox words and the
doorbells hold after it.
-/
namespace Sys2Proof.Machine

variable (s : State)

/-! ### Bits -/

theorem bitOf_eq_testBit (x i : Nat) : bitOf x i = x.testBit i := by
  rw [bitOf, Nat.testBit_eq_decide_div_mod_eq]; rfl

/-- The bits of `x` that `b` has, and those that it has not, make up `x`. -/
theorem ldiff_add_land (x b : Nat) : Nat.ldiff x b + (x &&& b) = x := by
  induction x using Nat.binaryRec generalizing b with
  | zero =>
    have none : Nat.ldiff 0 b = 0 := Nat.eq_of_testBit_eq (by simp [Nat.testBit_ldiff])
    simp [none]
  | bit c m ih =>
    have rest := ih b.div2
    rw [← Nat.bit_bodd_div2 b, Nat.ldiff_bit, Nat.land_bit]
    cases c <;> cases b.bodd <;> simp only [Nat.bit_val] <;> simp <;> omega

/-- Taking from `x` the bits that it has of `b` clears them. -/
theorem bitOf_sub_land (x b j : Nat) : bitOf (x - Nat.land x b) j = (bitOf x j && !bitOf b j) := by
  have parts : Nat.ldiff x b + Nat.land x b = x := ldiff_add_land x b
  rw [show x - Nat.land x b = Nat.ldiff x b by omega]
  simp only [bitOf_eq_testBit, Nat.testBit_ldiff]

/-! ### A command that is a register access -/

theorem running_of_writeFits {o : Origin} {a : Nat} {w : Word} (h : WriteFits o a w s = true) : Running s := by
  simp only [WriteFits, Bool.and_eq_true, Bool.not_eq_true'] at h
  exact h.1.1.1.1

theorem writeFits_of_ok {o : Origin} {a : Nat} {w : Word} (h : WriteOk o a w s = true) : WriteFits o a w s = true := by
  simp only [WriteOk, Bool.and_eq_true] at h
  exact h.2

/-- A command with an effect `g` completes with it. -/
theorem completes_of_outcome {c : Instr} {g : State → State} (cmd : exec c s = outcome s g) (h : Running s) :
    Completes c s (g s) := cmd.trans (exec_outcome s h)

/-- A command that is the write of a register completes with the register's effect when the write passes. -/
theorem completesWrite_of_ok {c : Instr} {o : Origin} {a : Nat} {w : Word}
    (cmd : exec c s = outcome s (writeAs o a 4 w)) (h : WriteOk o a w s = true) : CompletesWrite c o a w s := by
  unfold CompletesWrite
  rw [← writeAs_ok s h]
  exact completes_of_outcome s cmd (running_of_writeFits s (writeFits_of_ok s h))

/-- A register at which a write stores no field is left to its effect. -/
theorem stored_of_storesNothing {a : Nat} (h : storesNothing a = true) (hb : before a s = s) (o : Origin) (w : Word) :
    stored o a w s = s := by
  unfold stored
  cases specAt a <;> simp [store, h, hb]

/-- Nothing has to come up to date before a write below the host lanes' registers. -/
theorem before_low {a : Nat} (h : a < 0x200000) : before a s = s := by
  have host : a ≠ R.HOST_CTRL := by unfold R.HOST_CTRL; omega
  have rx : a ≠ R.HOST_RX_MAP := by unfold R.HOST_RX_MAP; omega
  have tx : a ≠ R.HOST_TX_MAP := by unfold R.HOST_TX_MAP; omega
  have scrub : a ≠ R.CIS_SCRUB_CFG := by unfold R.CIS_SCRUB_CFG; omega
  simp only [before, host, rx, tx, scrub, if_false, false_or]
  split
  · omega
  · split
    · omega
    · rfl

/-- A register below the host lanes' with a meaning of its own is written by its effect alone. -/
theorem accepted_of_storesNothing {a : Nat} (low : a < 0x200000) (h : storesNothing a = true) (o : Origin) (w : Word) :
    accepted o a w s = effects o a w s s := by
  rw [accepted, before_low s low, stored_of_storesNothing s h (before_low s low)]

/-! ### Semaphores (R317) -/

theorem sem_lt (k : Fin 16) : R.CHIP_SEM k < 0x200 := by unfold R.CHIP_SEM; omega

theorem arrIdx_sem (k : Fin 16) : arrIdx (R.CHIP_SEM k) (R.CHIP_SEM 0) 4 16 = some k.val := by revert k; decide

theorem storesNothing_sem (k : Fin 16) : storesNothing (R.CHIP_SEM k) = true := by simp [storesNothing, arrIdx_sem]

theorem sem_ne {j k : Fin 16} (h : j ≠ k) : R.CHIP_SEM j ≠ R.CHIP_SEM k := by
  have : j.val ≠ k.val := fun e => h (Fin.ext e)
  unfold R.CHIP_SEM; omega

theorem sem_ne_journal (k : Fin 16) : R.CHIP_SEM k ≠ R.SAF_JNL_STATUS := by unfold R.CHIP_SEM R.SAF_JNL_STATUS; omega

theorem measured_low {a : Nat} (h : a < 0x200000) : measured a s = s := by
  unfold measured R.CIS_SCRUB_POS
  simp [show ¬ 0x200000 ≤ a by omega, show ¬ 0x800000 ≤ a by omega, show a ≠ 0x1300018 by omega]

theorem aliased_low {a : Nat} (h : a < 0x200000) : aliased a = a := by
  simp [aliased, inAlias, show ¬ 0x8000000 ≤ a by omega]

theorem inAlias_low {a : Nat} (h : a < 0x200000) : inAlias a = false := by simp [inAlias, show ¬ 0x8000000 ≤ a by omega]

theorem recordFor_ok (o : Origin) (a : Nat) (t : State) : recordFor o .ok a t = t := by cases o <;> simp [recordFor, recordErr]

theorem semHolder_lt (k : Nat) : semHolder s k < 16 := Nat.mod_lt _ (by decide)

/-- What a read of a semaphore returns fits in its answer. -/
theorem semRead_lt (o : Origin) (k : Nat) : (semRead o k s).1.toNat < 16 := by
  have := semHolder_lt s k
  unfold semRead
  dsimp only
  split
  · split <;> simp
  · split
    · simp
    · simp; omega

/-- The register fabric answers a read of a semaphore with what `semRead` gives. -/
theorem regRead_sem (o : Origin) (k : Fin 16) :
    regRead o (R.CHIP_SEM k) false s = (.ok, semRead o k s) := by
  have claim : arrIdx (R.CHIP_SEM k) (R.KIC_CLAIM 0) 0x100 3 = none := by revert k; decide
  have served : readRefuses s o (R.CHIP_SEM k) false = none := by
    have low := sem_lt k
    have data (n : Nat) : R.CHIP_SEM k ≠ R.ATL_RD_DATA0 n ∧ R.CHIP_SEM k ≠ R.ATL_RD_DATA1 n := by
      unfold R.ATL_RD_DATA0 R.ATL_RD_DATA1; omega
    simp only [readRefuses, claim, data, false_or, false_and, if_false]
  simp only [regRead, served, measured_low s ((sem_lt k).trans (by decide)), arrIdx_sem, Bool.false_eq_true, if_false]

/-- A read of a semaphore that passes answers what `semRead` gives. -/
theorem readAs_sem {o : Origin} {k : Fin 16} (h : ReadOk o (R.CHIP_SEM k) s = true) :
    readAs o (R.CHIP_SEM k) 4 s = answer s o { code := .ok, data := (semRead o k s).1.toNat } (semRead o k s).2 := by
  have low : R.CHIP_SEM k < 0x200000 := (sem_lt k).trans (by decide)
  simp only [ReadOk, Bool.and_eq_true, Bool.not_eq_true', Option.isNone_iff_eq_none] at h
  obtain ⟨⟨⟨⟨-, idle⟩, passes⟩, register⟩, -⟩ := h
  have word : wordAddr (R.CHIP_SEM k) = R.CHIP_SEM k := by unfold wordAddr R.CHIP_SEM; omega
  have aligned : R.CHIP_SEM k % 4 = 0 := by unfold R.CHIP_SEM; omega
  have journal : inJournal (R.CHIP_SEM k) = false := by simp [inJournal, show ¬ 0x1400000 ≤ R.CHIP_SEM k by omega]
  have fits : (semRead o k s).1.toNat % 4294967296 = (semRead o k s).1.toNat := Nat.mod_eq_of_lt ((semRead_lt s o k).trans (by decide))
  have bus : busRead o (R.CHIP_SEM k) 4 s = (.ok, (semRead o k s).1.toNat, (semRead o k s).2) := by
    simp [busRead, passes, register, aliased_low low, inAlias_low low, word, journal, regRead_sem, aligned, fits]
  simp only [readAs, fabricTurn_idle s idle, readNow, bus, recordFor_ok]

@[simp] theorem answer_regs (old : State) (o : Origin) (r : Resp) : (answer old o r s).regs = s.regs := rfl
@[simp] theorem answer_fld (old : State) (o : Origin) (r : Resp) (a : Nat) (f : Fld) : (answer old o r s).fld a f = s.fld a f := rfl
@[simp] theorem answer_resp (old : State) (o : Origin) (r : Resp) : (answer old o r s).resp[o.idx] = [r] := by
  simp [answer, respond]

/-- Only the command's own requester reads: the semaphore is read once. -/
theorem semClaims_one (o : Origin) (k : Fin 16) : semClaims [o] k s = readAs o (R.CHIP_SEM k) 4 s := by cases o <;> rfl

theorem readOk_running {o : Origin} {a : Nat} (h : ReadOk o a s = true) : Running s := by
  simp only [ReadOk, Bool.and_eq_true, Bool.not_eq_true'] at h
  exact h.1.1.1.1

/-- A claim by one requester completes as its read of the semaphore. -/
theorem completesRead_sem {o : Origin} {k : Fin 16} (h : ReadOk o (R.CHIP_SEM k) s = true) {d : Nat} (hd : (semRead o k s).1.toNat = d) :
    CompletesRead (.semClaim [o] k) o (R.CHIP_SEM k) d s := by
  refine ⟨?_, ?_⟩
  · exact semClaims_one s o k ▸ completes_of_outcome s (g := semClaims [o] k) rfl (readOk_running s h)
  · rw [readAs_sem s h, answer_resp, hd]

theorem semCode_fits : F.CHIP_SEM_CODE.fits := by unfold Fld.fits; decide

theorem semHolder_setFld (k : Nat) (h : Nat) : semHolder (s.setFld (R.CHIP_SEM k) F.CHIP_SEM_CODE h) k = h % 16 :=
  s.fld_setFld _ _ _ semCode_fits

theorem holder_lt (o : Origin) : o.holder < 16 := by cases o <;> decide

/-- A free semaphore is the requester's after a read that may claim it, and answers 1. -/
theorem semClaim_free {o : Origin} {k : Fin 16} (h : ReadOk o (R.CHIP_SEM k) s = true) (free : semHolder s k = 0) (may : mayClaim s o k = true) :
    CompletesRead (.semClaim [o] k) o (R.CHIP_SEM k) 1 s ∧ semHolder (readAs o (R.CHIP_SEM k) 4 s) k = o.holder := by
  have read : semRead o k s = (1, s.setFld (R.CHIP_SEM k) F.CHIP_SEM_CODE o.holder) := by simp [semRead, free, may]
  refine ⟨completesRead_sem s h (by rw [read]; rfl), ?_⟩
  rw [readAs_sem s h, read]
  exact (semHolder_setFld s k o.holder).trans (Nat.mod_eq_of_lt (holder_lt o))

/-- A semaphore that another holds answers its holder and stays. -/
theorem semClaim_held {o : Origin} {k : Fin 16} (h : ReadOk o (R.CHIP_SEM k) s = true) (held : semHolder s k ≠ 0)
    (other : semHolder s k ≠ o.holder) :
    CompletesRead (.semClaim [o] k) o (R.CHIP_SEM k) (semHolder s k) s ∧ (readAs o (R.CHIP_SEM k) 4 s).regs = s.regs := by
  have read : semRead o k s = (word (semHolder s k), s) := by simp [semRead, held, other]
  have fits : (word (semHolder s k)).toNat = semHolder s k := by
    have := semHolder_lt s k
    simp; omega
  refine ⟨completesRead_sem s h (by rw [read]; exact fits), ?_⟩
  rw [readAs_sem s h, read, answer_regs]

theorem accepted_sem (o : Origin) (k : Fin 16) (w : Word) : accepted o (R.CHIP_SEM k) w s = semWrite o k s := by
  rw [accepted_of_storesNothing s ((sem_lt k).trans (by decide)) (storesNothing_sem k)]
  simp only [effects, arrIdx_sem]

/-- A release touches the semaphore's register and the journal. -/
theorem semHolder_semWrite (o : Origin) (j k : Fin 16) : semHolder (semWrite o k s) j = if j = k then 0 else semHolder s j := by
  have journal : ∀ t : State, ∀ x y, semHolder (t.journal x y) j = semHolder t j := fun t x y => by
    simp only [semHolder, State.fld, t.reg_journal (sem_ne_journal j)]
  have put : semHolder (s.setFld (R.CHIP_SEM k) F.CHIP_SEM_CODE 0) j = if j = k then 0 else semHolder s j := by
    split
    next e => rw [e]; exact semHolder_setFld s k 0
    next e => exact s.fld_setFld_ne (sem_ne e) _ _ _
  unfold semWrite
  dsimp only
  split
  · exact put
  · rw [journal, put]


/-! ### Mailboxes and doorbells (R319, R320, R324) -/

/-- An address in a mailbox's page. -/
abbrev InMailbox (p : Fin 3) (a : Nat) : Prop := a / 0x1000 = 0x30 + p.val

/-- A write in a mailbox's page is the mailbox's. -/
theorem effects_mailbox {p : Fin 3} {a : Nat} (h : InMailbox p a) (o : Origin) (w : Word) (old : State) :
    effects o a w old s = effMailbox o p a w s := by
  have sem : arrIdx a (R.CHIP_SEM 0) 4 16 = none := by
    unfold arrIdx R.CHIP_SEM; rw [if_neg]; omega
  have page : arrIdx (a / 0x1000) 0x30 1 3 = some p.val := by
    unfold arrIdx; rw [if_pos (by omega)]; congr 1; omega
  have third : (⟨p.val % 3, Nat.mod_lt _ (by decide)⟩ : Fin 3) = p := Fin.ext (Nat.mod_eq_of_lt p.isLt)
  simp only [effects, sem, show ¬ a < 0x10000 by omega, show ¬ a < 0x20000 by omega, show ¬ a < 0x30000 by omega,
    show a < 0x40000 by omega, if_true, if_false, effMbx, page, third]

theorem arrIdx_mbxData (p : Fin 3) (i : Fin 16) : arrIdx (R.MBX_DATA p i) (R.MBX_DATA p 0) 4 16 = some i.val := by
  unfold arrIdx R.MBX_DATA; rw [if_pos (by omega)]; congr 1; omega

theorem inMailbox_data (p : Fin 3) (i : Fin 16) : InMailbox p (R.MBX_DATA p i) := by unfold InMailbox R.MBX_DATA; omega
theorem inMailbox_todev (p : Fin 3) : InMailbox p (R.MBX_DB_TODEV p) := by unfold InMailbox R.MBX_DB_TODEV; omega
theorem inMailbox_todevAck (p : Fin 3) : InMailbox p (R.MBX_DB_TODEV_ACK p) := by unfold InMailbox R.MBX_DB_TODEV_ACK; omega
theorem inMailbox_tohost (p : Fin 3) : InMailbox p (R.MBX_DB_TOHOST p) := by unfold InMailbox R.MBX_DB_TOHOST; omega
theorem inMailbox_tohostSet (p : Fin 3) : InMailbox p (R.MBX_DB_TOHOST_SET p) := by unfold InMailbox R.MBX_DB_TOHOST_SET; omega

/-- The data words and the doorbells of a mailbox are registers that their effect alone writes. -/
theorem accepted_mailbox {p : Fin 3} {a : Nat} (h : InMailbox p a) (own : 0x40 ≤ a % 0x1000 ∨ a % 0x1000 = 0x20 ∨ a % 0x1000 = 0x24 ∨
    a % 0x1000 = 0x28 ∨ a % 0x1000 = 0x2C) (o : Origin) (w : Word) : accepted o a w s = effMailbox o p a w s := by
  have nothing : storesNothing a = true := by
    simp [storesNothing, show 0x30000 ≤ a by omega, show a < 0x33000 by omega]
    omega
  rw [accepted_of_storesNothing s (by omega) nothing, effects_mailbox s h]

theorem isHost_portOrigin (p : Fin 3) : (portOrigin p).isHost = true := by fin_cases p <;> rfl
theorem isHost_keeperOrigin (k : Fin 3) : (keeperOrigin k).isHost = false := by fin_cases k <;> rfl

/-- A host's data word enters the inbound mailbox. -/
theorem accepted_mbxData (p : Fin 3) (i : Fin 16) (w : Word) : accepted (portOrigin p) (R.MBX_DATA p i) w s = mbxFill p i w s := by
  rw [accepted_mailbox s (inMailbox_data p i) (by unfold R.MBX_DATA; omega)]
  simp [effMailbox, arrIdx_mbxData, mbxDataStore, isHost_portOrigin, Nat.mod_eq_of_lt i.isLt]

theorem arrIdx_mbxData_none {p : Fin 3} {a : Nat} (h : a < R.MBX_DATA p 0) : arrIdx a (R.MBX_DATA p 0) 4 16 = none := by
  unfold arrIdx; rw [if_neg]; omega

theorem accepted_todev (p : Fin 3) (b : Word) : accepted (portOrigin p) (R.MBX_DB_TODEV p) b s =
    when (b != 0) (fun s => doorbellWake p (dbSetDev p b.toNat s)) s := by
  rw [accepted_mailbox s (inMailbox_todev p) (by unfold R.MBX_DB_TODEV; omega)]
  have notData := arrIdx_mbxData_none (show R.MBX_DB_TODEV p < R.MBX_DATA p 0 by unfold R.MBX_DB_TODEV R.MBX_DATA; omega)
  simp only [effMailbox, notData]
  simp [R.MBX_IN_CTRL, R.MBX_DB_TODEV]

theorem accepted_todevAck (k p : Fin 3) (b : Word) : accepted (keeperOrigin k) (R.MBX_DB_TODEV_ACK p) b s = dbAckDev p b.toNat s := by
  rw [accepted_mailbox s (inMailbox_todevAck p) (by unfold R.MBX_DB_TODEV_ACK; omega)]
  have notData := arrIdx_mbxData_none (show R.MBX_DB_TODEV_ACK p < R.MBX_DATA p 0 by unfold R.MBX_DB_TODEV_ACK R.MBX_DATA; omega)
  simp only [effMailbox, notData]
  simp [isHost_keeperOrigin, R.MBX_IN_CTRL, R.MBX_DB_TODEV, R.MBX_DB_TOHOST, R.MBX_OUT_ACK, R.MBX_DB_TODEV_ACK]

theorem accepted_tohostSet (k p : Fin 3) (b : Word) : accepted (keeperOrigin k) (R.MBX_DB_TOHOST_SET p) b s = dbSetHost p b.toNat s := by
  rw [accepted_mailbox s (inMailbox_tohostSet p) (by unfold R.MBX_DB_TOHOST_SET; omega)]
  have notData := arrIdx_mbxData_none (show R.MBX_DB_TOHOST_SET p < R.MBX_DATA p 0 by unfold R.MBX_DB_TOHOST_SET R.MBX_DATA; omega)
  simp only [effMailbox, notData]
  simp [isHost_keeperOrigin, R.MBX_IN_CTRL, R.MBX_DB_TODEV, R.MBX_DB_TOHOST, R.MBX_OUT_ACK, R.MBX_DB_TODEV_ACK, R.MBX_DB_TOHOST_SET]

theorem accepted_tohost (p : Fin 3) (b : Word) : accepted (portOrigin p) (R.MBX_DB_TOHOST p) b s = dbClearHost p b.toNat s := by
  rw [accepted_mailbox s (inMailbox_tohost p) (by unfold R.MBX_DB_TOHOST; omega)]
  have notData := arrIdx_mbxData_none (show R.MBX_DB_TOHOST p < R.MBX_DATA p 0 by unfold R.MBX_DB_TOHOST R.MBX_DATA; omega)
  simp only [effMailbox, notData]
  simp [R.MBX_IN_CTRL, R.MBX_DB_TODEV, R.MBX_DB_TOHOST]

/-! ### What the power controller leaves -/

/-- A register that is neither one of the power controller's nor the journal's status. -/
abbrev OutsidePwr (a : Nat) : Prop := (a < 0x10000 ∨ 0x20000 ≤ a) ∧ a ≠ R.SAF_JNL_STATUS

section
variable {a : Nat}

/-- What each step of a list keeps, all of them keep. -/
theorem foldl_keeps {α β : Type} (v : State → β) {g : State → α → State} (h : ∀ t x, v (g t x) = v t) (l : List α) :
    v (l.foldl g s) = v s := by
  induction l generalizing s with
  | nil => rfl
  | cons x l ih => exact (ih _).trans (h s x)

theorem reg_pwrFld {b : Nat} (out : OutsidePwr a) (hb : 0x10000 ≤ b ∧ b < 0x20000) (f : Fld) (v : Nat) :
    (s.setFld b f v).reg a = s.reg a := s.reg_setFld_ne (by have := out.1; omega) f v

theorem reg_pwrAdd {b : Nat} (out : OutsidePwr a) (hb : 0x10000 ≤ b ∧ b < 0x20000) (f : Fld) (v : Nat) :
    (s.addSat b f v).reg a = s.reg a := reg_pwrFld s out hb f _

theorem reg_pwrRaise {b : Nat} (out : OutsidePwr a) (hb : 0x10000 ≤ b ∧ b < 0x20000) (f : Fld) (id : Nat) :
    (s.raise1 b f id).reg a = s.reg a := s.reg_raise (by have := out.1; omega) out.2 f 1 id

theorem reg_wakeCause (out : OutsidePwr a) (c : Nat) : (wakeCause c s).reg a = s.reg a :=
  s.reg_setReg_ne (by have := out.1; unfold R.PWR_WAKE_CAUSE; omega) _

theorem reg_setDpIdle (out : OutsidePwr a) (v : Nat) : (setDpIdle v s).reg a = s.reg a := by
  rw [setDpIdle, reg_pwrFld _ out (by decide), reg_pwrFld _ out (by decide)]

theorem reg_entryAbandon (out : OutsidePwr a) : (entryAbandon s).reg a = s.reg a := reg_pwrFld _ out (by decide) _ _

theorem reg_levelMove (out : OutsidePwr a) (f : Fld) (need : Nat) : (levelMove f need s).reg a = s.reg a := by
  unfold levelMove
  split
  · exact reg_pwrFld s out (by decide) _ _
  · rfl

theorem reg_clocksMove (out : OutsidePwr a) : (clocksMove s).reg a = s.reg a := by
  have moves := foldl_keeps s (·.reg a) (g := fun (s : State) n => levelMove (wellLevel n) (wellNeed s n) s)
    (fun t n => reg_levelMove t out _ _) (List.range 8)
  simp only [clocksMove, reg_levelMove _ out, reg_pwrFld _ out (b := R.PWR_LEVEL) (by decide), moves]

theorem reg_avsRequest (out : OutsidePwr a) (l : Nat) (up : Bool) : (avsRequest l up s).reg a = s.reg a := by
  show ((s.setFld R.PWR_AVS_REQ _ _).raise1 R.PWR_AVS_STATUS _ _).reg a = _
  rw [reg_pwrRaise _ out (by decide), reg_pwrFld _ out (by decide)]

theorem reg_perfLevelChange (out : OutsidePwr a) : (perfLevelChange s).reg a = s.reg a := by
  unfold perfLevelChange levelsTo
  dsimp only
  split
  · exact reg_clocksMove s out
  · rw [reg_avsRequest _ out, reg_clocksMove s out]

theorem reg_exitStart (out : OutsidePwr a) (c : Nat) : (exitStart c s).reg a = s.reg a := by
  unfold exitStart
  rw [reg_perfLevelChange _ out]
  exact (reg_pwrAdd _ out (by decide) _ _).trans ((reg_pwrRaise _ out (by decide) _ _).trans ((reg_wakeCause _ out _).trans (reg_setDpIdle s out 0)))

theorem reg_edgeWake (out : OutsidePwr a) (c : Nat) : (edgeWake c s).reg a = s.reg a := by
  unfold edgeWake
  split
  · split
    · rw [reg_pwrAdd _ out (by decide), reg_pwrRaise _ out (by decide)]
    · rw [reg_pwrRaise _ out (by decide), reg_wakeCause _ out, reg_setDpIdle _ out, reg_entryAbandon s out]
  · split
    · rfl
    · split
      · exact reg_wakeCause s out c
      · exact reg_exitStart s out c

theorem reg_doorbellWake (out : OutsidePwr a) (p : Nat) : (doorbellWake p s).reg a = s.reg a := by
  unfold doorbellWake
  split
  · exact reg_edgeWake s out _
  · rfl

end

theorem outsidePwr_mailbox {p : Fin 3} {a : Nat} (h : InMailbox p a) : OutsidePwr a := by
  unfold OutsidePwr R.SAF_JNL_STATUS; omega

/-! ### Doorbells -/

theorem fld_lt (a : Nat) (f : Fld) : s.fld a f < 2 ^ f.w := Nat.mod_lt _ (by positivity)

theorem todevDb_fits : F.MBX_DB_TODEV_DB.fits := by unfold Fld.fits; decide
theorem tohostDb_fits : F.MBX_DB_TOHOST_DB.fits := by unfold Fld.fits; decide

theorem lor_lt (x : Nat) (hx : x < 2 ^ 32) (b : Word) : Nat.lor x b.toNat % 2 ^ 32 = Nat.lor x b.toNat :=
  Nat.mod_eq_of_lt (Nat.or_lt_two_pow hx b.isLt)

/-- A host's write sets the bits that it names. -/
theorem fld_dbSetDev (p : Fin 3) (b : Word) : (dbSetDev p b.toNat s).fld (R.MBX_DB_TODEV p) F.MBX_DB_TODEV_DB =
    Nat.lor (s.fld (R.MBX_DB_TODEV p) F.MBX_DB_TODEV_DB) b.toNat := by
  have notJournal : R.MBX_DB_TODEV p ≠ R.SAF_JNL_STATUS := (outsidePwr_mailbox (inMailbox_todev p)).2
  have set := (s.fld_setFld (R.MBX_DB_TODEV p) F.MBX_DB_TODEV_DB (Nat.lor (s.fld (R.MBX_DB_TODEV p) F.MBX_DB_TODEV_DB) b.toNat)
    todevDb_fits).trans (lor_lt _ (fld_lt s _ _) b)
  unfold dbSetDev
  dsimp only
  split
  · exact set
  · rw [State.fld, State.reg_journal _ notJournal]; exact set

theorem fld_accepted_todev (p : Fin 3) (b : Word) : (accepted (portOrigin p) (R.MBX_DB_TODEV p) b s).fld (R.MBX_DB_TODEV p) F.MBX_DB_TODEV_DB =
    Nat.lor (s.fld (R.MBX_DB_TODEV p) F.MBX_DB_TODEV_DB) b.toNat := by
  rw [accepted_todev, when]
  split
  · rw [State.fld, reg_doorbellWake _ (outsidePwr_mailbox (inMailbox_todev p))]
    exact fld_dbSetDev s p b
  next none =>
    rw [show b = 0 by simpa using none]
    exact (Nat.or_zero _).symm

/-- What is left of a doorbell word whose bits `b` are cleared. -/
theorem bitOf_clrBits {a : Nat} {f : Fld} (fits : f.fits) (b j : Nat) :
    bitOf ((s.clrBits a f b).fld a f) j = (bitOf (s.fld a f) j && !bitOf b j) := by
  have small : s.fld a f - Nat.land (s.fld a f) b < 2 ^ f.w := (Nat.sub_le _ _).trans_lt (fld_lt s a f)
  rw [State.clrBits, s.fld_setFld a f _ fits, Nat.mod_eq_of_lt small, bitOf_sub_land]

theorem fld_dbClearHost (p : Fin 3) (b : Nat) (a : Nat) (f : Fld) :
    (dbClearHost p b s).fld a f = (s.clrBits (R.MBX_DB_TOHOST p) F.MBX_DB_TOHOST_DB b).fld a f := by
  unfold dbClearHost
  split <;> rfl

/-! ### The statement -/

/-- The mode takes effect between messages. -/
theorem mbxFlow_mbxModeApply (p : Fin 3) (inEmpty : mbxInFull s p = false) (outEmpty : mbxOutFull s p = false) :
    mbxFlow (mbxModeApply p s) p = s.flag R.MBX_CFG (if p = 0 then F.MBX_CFG_MODE_S else if p = 1 then F.MBX_CFG_MODE_I else F.MBX_CFG_MODE_F) := by
  have one : (if p = 0 then F.MBX_CFG_MODE_S else if p = 1 then F.MBX_CFG_MODE_I else F.MBX_CFG_MODE_F).w = 1 := by fin_cases p <;> rfl
  have bit := fld_lt s R.MBX_CFG (if p = 0 then F.MBX_CFG_MODE_S else if p = 1 then F.MBX_CFG_MODE_I else F.MBX_CFG_MODE_F)
  rw [one] at bit
  simp only [mbxModeApply, inEmpty, outEmpty, Bool.or_self, Bool.false_eq_true, if_false, mbxFlow, State.flag,
    s.fld_setFld _ _ _ (show F.MBX_STATUS_MODE.fits by unfold Fld.fits; decide)]
  rw [Nat.mod_eq_of_lt (show _ < 2 ^ F.MBX_STATUS_MODE.w from bit)]

theorem mbxModeApply_full (p : Fin 3) (full : mbxInFull s p = true ∨ mbxOutFull s p = true) : mbxModeApply p s = s := by
  unfold mbxModeApply
  rcases full with h | h <;> simp [h]

/-- Settles O47: each access that passes is its register's own effect, of which one lemma above says what it holds. -/
theorem semaphoresAndDoorbellsComplete : Obligations.SemaphoresAndDoorbellsComplete := by
  unfold Obligations.SemaphoresAndDoorbellsComplete
  intro s
  refine ⟨?claim, ?claims, ?release, ?data, ?mode, ?modeWaits, ?doorbells⟩
  case claim => exact fun o k ok => ⟨semClaim_free s ok, semClaim_held s ok⟩
  case claims => exact fun l k running => completes_of_outcome s (g := semClaims l k) rfl running
  case release =>
    intro o k a ok
    refine ⟨completesWrite_of_ok s rfl ok, ?_, fun j other => ?_⟩
    · rw [accepted_sem, semHolder_semWrite, if_pos rfl]
    · rw [accepted_sem, semHolder_semWrite, if_neg other]
  case data =>
    intro p i w o a ok
    refine ⟨completesWrite_of_ok s rfl ok, ?_, fun j other => ?_, ?_⟩
    · rw [accepted_mbxData, mbxFill, modMbx_mbx, vmod_same]
      simp
    · have apart : i.val ≠ j.val := fun e => other (Fin.ext e.symm)
      rw [accepted_mbxData, mbxFill, modMbx_mbx, vmod_same]
      simp [apart]
    · rw [accepted_mbxData]
      rfl
  case mode =>
    exact fun p running inEmpty outEmpty => ⟨_, completes_of_outcome s (g := mbxModeApply p) rfl running, mbxFlow_mbxModeApply s p inEmpty outEmpty⟩
  case modeWaits =>
    intro p running full
    exact (congrArg (Completes (.mbxModeApply p) s) (mbxModeApply_full s p full)).mp
      (completes_of_outcome s (g := mbxModeApply p) rfl running)
  case doorbells =>
    intro p k b
    refine ⟨fun ok => ⟨completesWrite_of_ok s rfl ok, fld_accepted_todev s p b⟩, fun ok => ⟨completesWrite_of_ok s rfl ok, fun j _ => ?_⟩,
      fun ok => ⟨completesWrite_of_ok s rfl ok, ?_⟩, fun ok => ⟨completesWrite_of_ok s rfl ok, fun j _ => ?_⟩⟩
    · rw [accepted_todevAck, dbAckDev, bitOf_clrBits s todevDb_fits]
    · rw [accepted_tohostSet, dbSetHost, s.fld_setFld _ _ _ tohostDb_fits]
      exact lor_lt _ (fld_lt s _ _) b
    · rw [accepted_tohost, fld_dbClearHost, bitOf_clrBits s tohostDb_fits]

end Sys2Proof.Machine
end

section
/-!
PROOF. What a state's bookkeeping leaves: a view of the state that reads none of the fields that an operation sets, and none of the
state that it keeps beside the registers, is the same after the operation.
-/
namespace Sys2Proof.Machine

variable {β : Type}

/-- `v` reads nothing of the fields `T`, of the journal's queue, of the repair export list, of the controller of the cistern but for the
merge buffer, of the staged image or of the free values. -/
structure Inert (T : Nat → Fld → Prop) (v : State → β) : Prop where
  fld : ∀ (s : State) (a : Nat) (f : Fld) (x : Nat), T a f → v (s.setFld a f x) = v s
  reg : ∀ (s : State) (a : Nat) (w : Word), (∀ f, T a f) → v (s.setReg a w) = v s
  journal : ∀ f, T R.SAF_JNL_STATUS f
  repair : ∀ f, T R.BOOT_RPR_COUNT f
  queue : ∀ (s : State) (q : List JEntry) (k : Nat), v { s with jq := q, jLostPend := k } = v s
  free : ∀ (s : State) (k : Nat), v { s with freeCtr := k } = v s
  rpr : ∀ (s : State) (l : List RepairRec), v { s with rpr := l } = v s
  cis : ∀ (s : State) (c : CisSt), c.merge = s.cis.merge → v { s with cis := c } = v s
  boot : ∀ (s : State) (b : BootSt) (p : PumpSection), v { s with boot := b, stagedPumps := p } = v s

/-- `v` does not read the merge buffer either. -/
structure InertAll (T : Nat → Fld → Prop) (v : State → β) : Prop extends Inert T v where
  merge : ∀ (s : State) (c : CisSt), v { s with cis := c } = v s

namespace Inert

variable {T : Nat → Fld → Prop} {v : State → β} (h : Inert T v) (s : State)
include h

theorem addSat {a : Nat} {f : Fld} (t : T a f) (n : Nat) : v (s.addSat a f n) = v s := h.fld s a f _ t

theorem jLose : v s.jLose = v s := by
  have counted : v ((s.addSat R.SAF_JNL_STATUS F.SAF_JNL_STATUS_LOST 1).setFld R.SAF_JNL_STATUS F.SAF_JNL_STATUS_LOST_EV 1) = v s :=
    (h.fld _ _ _ _ (h.journal _)).trans (h.addSat s (h.journal _) 1)
  exact (h.queue _ _ _).trans counted

theorem journalAt (src c p : Nat) : v (s.journalAt src c p) = v s := by
  unfold State.journalAt
  split
  · exact h.jLose s
  · dsimp only
    split
    · exact h.queue s _ s.jLostPend
    · split
      · exact (h.jLose _).trans (h.queue s _ _)
      · exact h.queue s _ _

theorem raise {a : Nat} {f : Fld} (t : T a f) (bits id : Nat) : v (s.raise a f bits id) = v s := by
  simp only [State.raise]
  split
  · exact h.fld s a f _ t
  · exact (h.journalAt _ _ _ _).trans (h.fld s a f _ t)

theorem raise1 {a : Nat} {f : Fld} (t : T a f) (id : Nat) : v (s.raise1 a f id) = v s := h.raise s t 1 id

theorem addRepair (r : RepairRec) : v (addRepair r s) = v s := by
  unfold Machine.addRepair
  split
  · exact (h.fld _ _ _ _ (h.repair _)).trans (h.rpr s _)
  · exact h.fld s _ _ _ (h.repair _)

/-- Fewer fields. -/
theorem mono {T' : Nat → Fld → Prop} (sub : ∀ a f, T' a f → T a f) (journal : ∀ f, T' R.SAF_JNL_STATUS f)
    (repair : ∀ f, T' R.BOOT_RPR_COUNT f) : Inert T' v where
  fld s a f x t := h.fld s a f x (sub a f t)
  reg s a w t := h.reg s a w (fun f => sub a f (t f))
  journal := journal
  repair := repair
  queue := h.queue
  free := h.free
  rpr := h.rpr
  cis := h.cis
  boot := h.boot

end Inert

/-! ### Views -/

/-- A field that shares no bit with any field of `T`. -/
theorem inert_fld {T : Nat → Fld → Prop} {b : Nat} {g : Fld} (journal : ∀ f, T R.SAF_JNL_STATUS f) (repair : ∀ f, T R.BOOT_RPR_COUNT f)
    (apart : ∀ a f, T a f → b ≠ a ∨ (f.fits ∧ f.apart g)) (regs : ∀ a, (∀ f, T a f) → b ≠ a) : InertAll T (fun s => s.fld b g) where
  fld s a f x t := by
    by_cases same : b = a
    · obtain ⟨fits, away⟩ := (apart a f t).resolve_left (not_not_intro same)
      subst same
      exact s.fld_setFld_apart b f g x fits away
    · exact s.fld_setFld_ne same f g x
  reg s a w t := by simp only [State.fld, s.reg_setReg_ne (regs a t)]
  journal := journal
  repair := repair
  queue _ _ _ := rfl
  free _ _ := rfl
  rpr _ _ := rfl
  cis _ _ _ := rfl
  boot _ _ _ := rfl
  merge _ _ := rfl

end Sys2Proof.Machine
end

section
/-!
PROOF. The cistern: what passes through the merge buffer and what a read meets change no byte, and of the registers those of the
controller alone.
-/
namespace Sys2Proof.Machine

variable {β : Type} (s : State)

/-! ### What the controller writes -/

/-- Fields that the controller of the cistern, the repair export list, the journal and the staging slot set. -/
def CisTouch (a : Nat) (f : Fld) : Prop :=
  (a = R.CIS_STATUS ∧ f.fits ∧ (f.lo = 6 ∧ f.w = 1 ∨ 16 ≤ f.lo)) ∨ (0x130001c ≤ a ∧ a < 0x1300060) ∨ a = R.BOOT_STAGE_STATUS ∨
    a = R.SAF_JNL_STATUS ∨ a = R.BOOT_RPR_COUNT

theorem cisTouch_reg {a : Nat} (h : 0x130001c ≤ a ∧ a < 0x1300060) (f : Fld) : CisTouch a f := .inr (.inl h)

theorem cisTouch_event {f : Fld} (fits : f.fits) (event : 16 ≤ f.lo) : CisTouch R.CIS_STATUS f := .inl ⟨rfl, fits, .inr event⟩

theorem inert_mem : InertAll CisTouch State.mem :=
  ⟨⟨fun _ _ _ _ _ => rfl, fun _ _ _ _ => rfl, fun _ => by simp [CisTouch], fun _ => by simp [CisTouch],
    fun _ _ _ => rfl, fun _ _ => rfl, fun _ _ => rfl, fun _ _ _ => rfl, fun _ _ _ => rfl⟩, fun _ _ => rfl⟩

theorem inert_resp : InertAll CisTouch State.resp :=
  ⟨⟨fun _ _ _ _ _ => rfl, fun _ _ _ _ => rfl, fun _ => by simp [CisTouch], fun _ => by simp [CisTouch],
    fun _ _ _ => rfl, fun _ _ => rfl, fun _ _ => rfl, fun _ _ _ => rfl, fun _ _ _ => rfl⟩, fun _ _ => rfl⟩

theorem inert_merge : Inert CisTouch (fun s => s.cis.merge) :=
  ⟨fun _ _ _ _ _ => rfl, fun _ _ _ _ => rfl, fun _ => by simp [CisTouch], fun _ => by simp [CisTouch],
    fun _ _ _ => rfl, fun _ _ => rfl, fun _ _ => rfl, fun _ _ same => same, fun _ _ _ => rfl⟩

/-- A field of another register, or a flag of CIS_STATUS that is no event. -/
theorem inert_cisFld {b : Nat} {g : Fld} (other : b = R.CIS_STATUS ∧ (g.lo + g.w ≤ 6 ∨ 7 ≤ g.lo ∧ g.lo + g.w ≤ 16) ∨
    b ≠ R.CIS_STATUS ∧ (b < 0x130001c ∨ 0x1300060 ≤ b) ∧ b ≠ R.BOOT_STAGE_STATUS ∧ b ≠ R.SAF_JNL_STATUS ∧ b ≠ R.BOOT_RPR_COUNT) :
    InertAll CisTouch (fun s => s.fld b g) := by
  refine inert_fld (fun _ => by simp [CisTouch]) (fun _ => by simp [CisTouch]) (fun a f t => ?_) (fun a t => ?_)
  · by_cases same : b = a
    · refine .inr ?_
      subst same
      rcases other with ⟨rfl, away⟩ | away
      · obtain ⟨-, fits, event⟩ := t.resolve_right (by unfold R.CIS_STATUS R.BOOT_STAGE_STATUS R.SAF_JNL_STATUS R.BOOT_RPR_COUNT; omega)
        refine ⟨fits, ?_⟩
        unfold Fld.apart
        omega
      · exact absurd t (by unfold CisTouch; omega)
    · exact .inl same
  · rintro rfl
    have first := t { lo := 0, w := 1, ty := .ro, rst := 0 }
    unfold CisTouch R.CIS_STATUS R.BOOT_STAGE_STATUS R.SAF_JNL_STATUS R.BOOT_RPR_COUNT at first
    unfold R.CIS_STATUS R.BOOT_STAGE_STATUS R.SAF_JNL_STATUS R.BOOT_RPR_COUNT at other
    simp only at first
    omega

/-- What a remap alone sets: the table, its two flags, the repair export list and the journal's losses. -/
def RemapTouch (a : Nat) (f : Fld) : Prop :=
  (a = R.CIS_STATUS ∧ f.fits ∧ f.w = 1 ∧ (f.lo = 6 ∨ f.lo = 20)) ∨ (0x1300040 ≤ a ∧ a < 0x1300060) ∨ a = R.SAF_JNL_STATUS ∨ a = R.BOOT_RPR_COUNT

theorem remapTouch_reg {k : Nat} (hk : k < 8) (f : Fld) : RemapTouch (R.CIS_REMAP k) f := .inr (.inl (by unfold R.CIS_REMAP; omega))

theorem cisTouch_of_remapTouch (a : Nat) (f : Fld) (t : RemapTouch a f) : CisTouch a f := by
  rcases t with ⟨rfl, fits, one, lo | lo⟩ | table | rest
  · exact .inl ⟨rfl, fits, .inl ⟨lo, one⟩⟩
  · exact .inl ⟨rfl, fits, .inr (by omega)⟩
  · exact cisTouch_reg (by omega) f
  · exact .inr (.inr (.inr rest))

theorem Inert.remap {v : State → β} (h : Inert CisTouch v) : Inert RemapTouch v :=
  h.mono cisTouch_of_remapTouch (fun _ => .inr (.inr (.inl rfl))) (fun _ => .inr (.inr (.inr rfl)))

/-- A field of another register, or another flag of CIS_STATUS. -/
theorem inert_remapFld {b : Nat} {g : Fld} (other : b = R.CIS_STATUS ∧ (g.lo + g.w ≤ 6 ∨ 7 ≤ g.lo ∧ g.lo + g.w ≤ 20 ∨ 21 ≤ g.lo) ∨
    b ≠ R.CIS_STATUS ∧ (b < 0x1300040 ∨ 0x1300060 ≤ b) ∧ b ≠ R.SAF_JNL_STATUS ∧ b ≠ R.BOOT_RPR_COUNT) :
    InertAll RemapTouch (fun s => s.fld b g) := by
  refine inert_fld (fun _ => by simp [RemapTouch]) (fun _ => by simp [RemapTouch]) (fun a f t => ?_) (fun a t => ?_)
  · by_cases same : b = a
    · refine .inr ?_
      subst same
      rcases other with ⟨rfl, away⟩ | away
      · obtain ⟨-, fits, one, at'⟩ := t.resolve_right (by unfold R.CIS_STATUS R.SAF_JNL_STATUS R.BOOT_RPR_COUNT; omega)
        refine ⟨fits, ?_⟩
        unfold Fld.apart
        omega
      · exact absurd t (by unfold RemapTouch; omega)
    · exact .inl same
  · rintro rfl
    have first := t { lo := 0, w := 1, ty := .ro, rst := 0 }
    unfold RemapTouch R.CIS_STATUS R.SAF_JNL_STATUS R.BOOT_RPR_COUNT at first
    unfold R.CIS_STATUS R.SAF_JNL_STATUS R.BOOT_RPR_COUNT at other
    simp only at first
    omega

section
variable {v : State → β} {T : Nat → Fld → Prop} (h : Inert T v)
include h

theorem Inert.modCis {g : CisSt → CisSt} (keeps : (g s.cis).merge = s.cis.merge := by rfl) : v (modCis g s) = v s := h.cis s _ keeps

theorem Inert.poisonWord (w : Nat) : v (poisonWord w s) = v s := by
  unfold Machine.poisonWord
  dsimp only
  split
  · rfl
  · exact h.modCis s

theorem Inert.poisonWords {α : Type} (w : α → Nat) (l : List α) : v (l.foldl (fun s i => Machine.poisonWord (w i) s) s) = v s :=
  foldl_keeps s v (fun t i => h.poisonWord t (w i)) l

end

section
variable {v : State → β} (h : Inert CisTouch v)
include h

theorem Inert.cisEvent {f : Fld} (fits : f.lo + f.w ≤ 32 := by decide) (event : 16 ≤ f.lo := by decide) : v (cisEvent f s) = v s :=
  h.raise1 s (cisTouch_event fits event) _

theorem Inert.cisReg {a : Nat} (at' : 0x130001c ≤ a ∧ a < 0x1300060) (f : Fld) (x : Nat) : v (s.setFld a f x) = v s :=
  h.fld s a f x (cisTouch_reg at' f)

end

theorem freeSpare_lt {s : State} {k : Nat} (h : freeSpare s = some k) : k < 8 := by
  simpa using List.mem_of_find?_eq_some h

theorem remapOf_lt {s : State} {line k : Nat} (h : remapOf s line = some k) : k < 8 := by
  simpa using List.mem_of_find?_eq_some h

section
variable {v : State → β} (h : Inert RemapTouch v)
include h

theorem Inert.remapReg {k : Nat} (hk : k < 8) (f : Fld) (x : Nat) : v (s.setFld (R.CIS_REMAP k) f x) = v s :=
  h.fld s _ f x (remapTouch_reg hk f)

theorem Inert.full : v (s.setFld R.CIS_STATUS F.CIS_STATUS_REMAP_FULL 1) = v s :=
  h.fld s _ _ _ (.inl ⟨rfl, by unfold Fld.fits; decide, rfl, .inl rfl⟩)

theorem Inert.remapEvent : v (Machine.cisEvent F.CIS_STATUS_REMAP_EV s) = v s :=
  h.raise1 s (.inl ⟨rfl, by unfold Fld.fits; decide, rfl, .inr rfl⟩) _

theorem Inert.remapCreate (line cause : Nat) : v (remapCreate line cause s) = v s := by
  unfold Machine.remapCreate
  split
  · exact h.full s
  next k free =>
    have entry (m : State) (same : v m = v s) := (h.addRepair _ { typ := 1, unit := 0, loc := line }).trans
      ((h.remapEvent _).trans ((h.remapReg _ (freeSpare_lt free) F.CIS_REMAP_VALID 1).trans
      ((h.remapReg _ (freeSpare_lt free) F.CIS_REMAP_CAUSE cause).trans ((h.remapReg m (freeSpare_lt free) F.CIS_REMAP_LINE_ADDR line).trans same))))
    have filled (m : State) (same : v m = v s) : v (if (freeSpare m).isNone then m.setFld R.CIS_STATUS F.CIS_STATUS_REMAP_FULL 1 else m) = v s := by
      split
      · exact (h.full _).trans same
      · exact same
    refine filled _ (entry _ ?_)
    split
    next o old => exact (h.modCis _).trans (h.reg s _ _ (remapTouch_reg (remapOf_lt old)))
    next => rfl

theorem Inert.remapFault (line cause : Nat) : v (remapFault line cause s) = v s := by
  unfold Machine.remapFault
  split
  · exact h.modCis s
  · exact h.remapCreate s _ _

theorem Inert.remapRead (line cause : Nat) (seen bad : List Nat) : v (remapRead line cause seen bad s) = v s := by
  unfold Machine.remapRead
  split
  · dsimp only
    refine (h.remapFault _ _ _).trans ((h.poisonWords _ _ _).trans ?_)
    split
    · rfl
    · exact h.free s _
  · split
    · exact h.remapFault s _ _
    · rfl

end

section
variable {v : State → β} (h : Inert CisTouch v)
include h

theorem Inert.correctable : v (correctable s) = v s :=
  (h.cisEvent _).trans (h.addSat s (cisTouch_reg (by decide) _) 1)

theorem Inert.uncorrectable (word src : Nat) (p r : Bool) : v (uncorrectable word src p r s) = v s := by
  unfold Machine.uncorrectable
  rw [h.cisEvent, h.cisReg _ (by decide), h.cisReg _ (by decide), h.cisReg _ (by decide), h.cisReg _ (by decide)]
  exact h.addSat s (cisTouch_reg (by decide) _) 1

theorem Inert.meetWord (word src : Nat) (f : CisFault) : v (meetWord word src f s).2.2 = v s := by
  unfold Machine.meetWord
  split
  · exact h.uncorrectable s _ _ _ _
  · split
    · rfl
    · exact h.correctable s
    · exact (h.correctable _).trans (h.modCis s)
    · exact (h.uncorrectable _ _ _ _ _).trans (h.modCis s)

theorem Inert.meetWords (line src : Nat) (l : List (Nat × CisFault)) : v (meetWords line src l s).2.2 = v s := by
  unfold Machine.meetWords
  suffices ∀ b : List Nat × Option Nat × State, v b.2.2 = v s → v (l.foldl _ b).2.2 = v s from this _ rfl
  induction l with
  | nil => exact fun b e => e
  | cons p l ih => exact fun b e => ih _ ((h.meetWord _ _ _ _).trans e)

theorem Inert.readLine (line src : Nat) (l : List (Nat × CisFault)) : v (readLine line src l s).2 = v s := by
  have met := h.meetWords s line src l
  unfold Machine.readLine
  dsimp only
  split
  · exact (h.remap.remapRead _ _ _ _ _).trans met
  · exact met

theorem Inert.readWord (word src : Nat) (f : CisFault) : v (readWord word src f s).2 = v s :=
  h.readLine s (word / 4) src [(word % 4, f)]

/-- After its entry has left the merge buffer, the rest of a line's drain. -/
theorem Inert.mergeLeave_left (e : MergeEntry) (f : Nat → CisFault) :
    v (mergeLeave e f s) = v (Machine.modCis (fun c => { c with merge := c.merge.filter fun x => x.line != e.line }) s) := by
  unfold Machine.mergeLeave
  dsimp only
  rw [foldl_keeps _ v (g := fun s i => unpoisonWord (e.line * 4 + i) s) (fun t i => h.modCis t),
    foldl_keeps _ v (g := fun s i => Machine.poisonWord (e.line * 4 + i) (Machine.cisEvent F.CIS_STATUS_RMW_UE s))
      (fun t i => (h.poisonWord _ _).trans (h.cisEvent t)), h.readLine]

end

section
variable {v : State → β} (h : InertAll CisTouch v)
include h

theorem InertAll.anyCis (g : CisSt → CisSt) : v (modCis g s) = v s := h.merge s _

theorem InertAll.mergeLeave (e : MergeEntry) (f : Nat → CisFault) : v (mergeLeave e f s) = v s :=
  (h.toInert.mergeLeave_left s e f).trans (h.anyCis s _)

theorem InertAll.mergePush (e : MergeEntry) : v (mergePush e s) = v s := by
  unfold Machine.mergePush
  dsimp only
  rw [h.mergeLeave]
  split
  · rfl
  · exact h.free s _

theorem InertAll.mergeWrite (line mask : Nat) : v (mergeWrite line mask s) = v s := by
  unfold Machine.mergeWrite
  split
  · dsimp only
    split
    · exact h.mergePush s _
    · exact h.anyCis s _
  · split
    · exact h.mergePush s _
    · refine (h.anyCis _ _).trans ?_
      split
      · split
        · exact h.mergePush s _
        · rfl
      · rfl

theorem InertAll.cisWritten (a k : Nat) : v (cisWritten a k s) = v s := foldl_keeps s v (fun t _ => h.mergeWrite t _ _) _

theorem InertAll.stageWritten : v (stageWritten s) = v s := by
  have st (t : State) (f : Fld) (x : Nat) : v (setSt f x t) = v t := h.fld t _ f x (by simp [CisTouch])
  have unverified : v (unverify s) = v s := (h.boot (setSt F.BOOT_STAGE_STATUS_VERIFIED 0 s) _ _).trans (st s _ _)
  unfold Machine.stageWritten
  dsimp only
  split
  · exact (h.raise1 _ (by simp [CisTouch]) _).trans ((st _ _ _).trans ((st _ _ _).trans unverified))
  · exact unverified

end

end Sys2Proof.Machine
end

section
/-!
PROOF. Accesses of the cistern: the bytes that a write leaves, what a read answers, and what stalls.
-/
namespace Sys2Proof.Machine

variable (s : State)

/-! ### Bytes -/

theorem State.byte_of_mem {s t : State} (h : t.mem = s.mem) (a : Nat) : t.byte a = s.byte a := by simp only [State.byte, h]

/-- Every byte outside the `k` from `a` on stays. -/
theorem byte_setBytesNat_out {b : Nat} : ∀ (k a v : Nat) (s : State), b < a ∨ a + k ≤ b → (s.setBytesNat a v k).byte b = s.byte b
  | 0, _, _, _, _ => rfl
  | k + 1, a, v, s, out =>
    (byte_setBytesNat_out k (a + 1) (v / 256) _ (by omega)).trans (s.byte_setByte_ne (by omega) _)

/-- The bytes written are those of the value, least significant first. -/
theorem byte_setBytesNat (k a v i : Nat) (s : State) (h : i < k) : ((s.setBytesNat a v k).byte (a + i)).toNat = v / 256 ^ i % 256 := by
  induction k generalizing a v i s with
  | zero => omega
  | succ k ih =>
    cases i with
    | zero =>
      have first : (s.setBytesNat a v (k + 1)).byte a = BitVec.ofNat 8 v :=
        (byte_setBytesNat_out k (a + 1) (v / 256) _ (by omega)).trans (s.byte_setByte a _)
      simpa using congrArg BitVec.toNat first
    | succ i =>
      rw [show a + (i + 1) = a + 1 + i by omega, pow_succ', ← Nat.div_div_eq_div_mul]
      exact ih (a + 1) (v / 256) i _ (by omega)

/-! ### The arbiter with one access -/

theorem cisternServeAll_one (x : CisAccess) : cisternServeAll [x] s = cisternServe s x := by
  have order : cisOrder 1 [] [x] = [x] := by simp [cisOrder, cisPick]
  unfold cisternServeAll
  rw [List.length_singleton, order]
  rfl

/-- A read and a write with no other request, as commands. -/
theorem completes_cisternRead (q : CisReq) (a k : Nat) (f : CisFault) (h : Running s) :
    Completes (.cisternRead q a k f []) s (cisternServe s { q := q, a := a, k := k, f := f }) :=
  cisternServeAll_one s _ ▸ completes_of_outcome s (g := cisternReadAs q a k f []) rfl h

theorem completes_cisternWrite (q : CisReq) (a k v : Nat) (h : Running s) :
    Completes (.cisternWrite q a k v []) s (cisternServe s { q := q, a := a, k := k, w := some v }) :=
  cisternServeAll_one s _ ▸ completes_of_outcome s (g := cisternWriteAs q a k v []) rfl h

/-- While the interface retrains the access joins those that stalled. -/
theorem cisternServe_stalls {x : CisAccess} (stalls : cisStalls s x.q = true) (ap : inAperture x.a = true) :
    cisternServe s x = modCis (fun c => { c with stalled := c.stalled ++ [x] }) s := by simp [cisternServe, stalls, ap]

theorem cisternServe_now {x : CisAccess} (now : cisStalls s x.q = false) : cisternServe s x = cisternHalf s x := by
  simp [cisternServe, now]

/-- An access of other than 64 aligned bits is not split. -/
theorem cisternHalf_whole {x : CisAccess} (h : x.k ≠ 8 ∨ x.a % 8 ≠ 0 ∨ x.q.isHost = true) : cisternHalf s x = cisternOne s x := by
  have whole : cisHalves x = [x] := if_neg (by rintro ⟨eight, aligned, inside⟩; simp_all)
  simp [cisternHalf, whole]

/-! ### Refusals -/

theorem le_four_of_served {host : Bool} {a k : Nat} {read : Bool} (h : cisRefusal host a k read s = none) : k ≤ 4 := by
  by_contra more
  unfold cisRefusal at h
  split at h
  · cases h
  · rw [if_pos (by omega)] at h
    cases h

/-- The refusal of a write by a requester that is no host reads three fields. -/
theorem cisRefusal_congr {t : State} {a k : Nat} (state : pwrState t = pwrState s)
    (lost : cisFlag t F.CIS_STATUS_UNAVAILABLE = cisFlag s F.CIS_STATUS_UNAVAILABLE) :
    cisRefusal false a k false t = cisRefusal false a k false s := by
  simp [cisRefusal, deepSleep, state, lost]

/-- The upper half of an aligned double word is served where the lower is. -/
theorem cisRefusal_upper {a : Nat} (aligned : a % 8 = 0) (h : cisRefusal false a 4 false s = none) :
    cisRefusal false (a + 4) 4 false s = none := by
  have area : inAperture (a + 4) = inAperture a ∧ inReserved (a + 4) = inReserved a := by
    simp only [inAperture, inReserved, ← Bool.decide_and, decide_eq_decide]; omega
  have width : (a + 4) % 4 = a % 4 := by omega
  simpa [cisRefusal, area, width] using h

/-! ### Writes -/

section
variable {β : Type} {v : State → β} (h : InertAll CisTouch v)
include h

/-- A write that is not refused leaves its bytes and what the controller keeps. -/
theorem InertAll.aperturePut {host : Bool} {a k x : Nat} (served : cisRefusal host a k false s = none) :
    v (aperturePut host a k x s).2 = v (s.setBytesNat a x k) := by
  simp only [Machine.aperturePut, cisSave, served, true_and]
  split
  · exact (h.stageWritten _).trans (h.cisWritten _ a k)
  · exact h.cisWritten _ a k

end

theorem aperturePut_code {host : Bool} {a k x : Nat} (served : cisRefusal host a k false s = none) :
    (aperturePut host a k x s).1 = .ok := by simp [aperturePut, cisSave, served]

theorem setBytesNat_regs : ∀ (k a v : Nat) (s : State), (s.setBytesNat a v k).regs = s.regs
  | 0, _, _, _ => rfl
  | k + 1, a, v, _ => setBytesNat_regs k (a + 1) (v / 256) _

theorem setBytesNat_resp : ∀ (k a v : Nat) (s : State), (s.setBytesNat a v k).resp = s.resp
  | 0, _, _, _ => rfl
  | k + 1, a, v, _ => setBytesNat_resp k (a + 1) (v / 256) _

/-- The bytes of a state after a write of `k` bytes of `v` at `a`. -/
structure Wrote (a k v : Nat) (s u : State) : Prop where
  bytes : ∀ i, i < k → (u.byte (a + i)).toNat = v / 256 ^ i % 256
  rest : ∀ b, b < a ∨ a + k ≤ b → u.byte b = s.byte b
  wf : Memory.wf s.mem = true → Memory.wf u.mem = true

theorem wrote_of_mem {a k v : Nat} {u : State} (h : u.mem = (s.setBytesNat a v k).mem) : Wrote a k v s u where
  bytes i hi := (congrArg BitVec.toNat (State.byte_of_mem h (a + i))).trans (byte_setBytesNat k a v i s hi)
  rest b out := (State.byte_of_mem h b).trans (byte_setBytesNat_out k a v s out)
  wf canonical := h ▸ State.setBytesNat_wf k s a v canonical

theorem Wrote.of_mem {a k v : Nat} {t u : State} (h : Wrote a k v s t) (m : u.mem = t.mem) : Wrote a k v s u where
  bytes i hi := (congrArg BitVec.toNat (State.byte_of_mem m (a + i))).trans (h.bytes i hi)
  rest b out := (State.byte_of_mem m b).trans (h.rest b out)
  wf canonical := m ▸ h.wf canonical

theorem answer_mem (old : State) (o : Origin) (r : Resp) (t : State) : (answer old o r t).mem = t.mem := rfl

theorem wrote_aperturePut {host : Bool} {a k x : Nat} (served : cisRefusal host a k false s = none) :
    Wrote a k x s (aperturePut host a k x s).2 := wrote_of_mem s (inert_mem.aperturePut s served)

/-- A write by a bus requester that no check stops is the aperture's, and is answered OK. -/
theorem writeAs_aperture {o : Origin} {a k : Nat} {w : Word} (idle : wordsWait s = false) (passes : accessCode s o a k (some w) false = none)
    (ap : inAperture a = true) (served : cisRefusal o.isHost a k false s = none) :
    writeAs o a k w s = answer s o { code := .ok } (aperturePut o.isHost a k w.toNat s).2 := by
  have bus : busWrite o a k w false s = aperturePut o.isHost a k w.toNat s := by simp [busWrite, passes, ap]
  simp only [writeAs, writeNow, fabricTurn_idle s idle, bus, aperturePut_code s served, recordFor_ok]

/-- The bytes of a value and of its low word are the same as far as the word reaches. -/
theorem word_bytes {v i : Nat} (hi : i < 4) : (word v).toNat / 256 ^ i % 256 = v / 256 ^ i % 256 := by
  simp only [word, BitVec.toNat_ofNat]
  interval_cases i <;> omega

theorem wrote_busWrite {o : Origin} {a k v : Nat} (idle : wordsWait s = false) (now : cisStalls s (.bus o) = false)
    (passes : accessCode s o a k (some (word v)) false = none) (ap : inAperture a = true) (served : cisRefusal o.isHost a k false s = none) :
    (cisternServe s { q := .bus o, a := a, k := k, w := some v }).resp[o.idx] = [{ code := .ok }] ∧
    Wrote a k v s (cisternServe s { q := .bus o, a := a, k := k, w := some v }) := by
  have four := le_four_of_served s served
  have run : cisternServe s { q := .bus o, a := a, k := k, w := some v } =
      answer s o { code := .ok } (aperturePut o.isHost a k (word v).toNat s).2 := by
    rw [cisternServe_now s now, cisternHalf_whole s (.inl (by simp; omega))]
    exact writeAs_aperture s idle passes ap served
  have wrote := (wrote_aperturePut s (x := (word v).toNat) served).of_mem s (answer_mem s o { code := .ok } _)
  rw [run]
  exact ⟨answer_resp _ _ _ _, fun i hi => (wrote.bytes i hi).trans (word_bytes (by omega)), wrote.rest, wrote.wf⟩

/-- A write by a requester that is not on the bus is the aperture's. -/
theorem cisternOne_inside {q : CisReq} (inside : ∀ o, q ≠ .bus o) (a k v : Nat) (f : CisFault) :
    cisternOne s { q := q, a := a, k := k, w := some v, f := f } = (aperturePut false a k v s).2 := by
  cases q with
  | bus o => exact absurd rfl (inside o)
  | _ => rfl

theorem isHost_inside {q : CisReq} (inside : ∀ o, q ≠ .bus o) : q.isHost = false := by
  cases q with
  | bus o => exact absurd rfl (inside o)
  | _ => rfl

/-- It answers nobody. -/
theorem aperturePut_resp {host : Bool} {a k x : Nat} (served : cisRefusal host a k false s = none) :
    (aperturePut host a k x s).2.resp = s.resp := (inert_resp.aperturePut s served).trans (setBytesNat_resp k a x s)

theorem wrote_inside {q : CisReq} (inside : ∀ o, q ≠ .bus o) {a k v : Nat} (now : cisStalls s q = false)
    (served : cisRefusal false a k false s = none) :
    (cisternServe s { q := q, a := a, k := k, w := some v }).resp = s.resp ∧
    Wrote a k v s (cisternServe s { q := q, a := a, k := k, w := some v }) := by
  have four := le_four_of_served s served
  rw [cisternServe_now s now, cisternHalf_whole s (.inl (by simp; omega)), cisternOne_inside s inside]
  exact ⟨aperturePut_resp s served, wrote_aperturePut s served⟩

/-- Two halves written one after the other are the whole. -/
theorem wrote_halves {a v : Nat} {t u : State} (low : Wrote a 4 (v % 2 ^ 32) s t) (high : Wrote (a + 4) 4 (v / 2 ^ 32) t u) :
    Wrote a 8 v s u where
  bytes i hi := by
    by_cases h : i < 4
    · rw [high.rest _ (by omega), low.bytes i h]
      interval_cases i <;> omega
    · obtain ⟨j, rfl⟩ : ∃ j, i = 4 + j := ⟨i - 4, by omega⟩
      have j4 : j < 4 := by omega
      rw [show a + (4 + j) = a + 4 + j by omega, high.bytes j j4]
      interval_cases j <;> omega
  rest b out := (high.rest b (by omega)).trans (low.rest b (by omega))
  wf canonical := high.wf (low.wf canonical)

/-- An aligned write of 64 bits by a requester that is not on the bus writes its lower half first. -/
theorem wrote_double {q : CisReq} (inside : ∀ o, q ≠ .bus o) {a v : Nat} (now : cisStalls s q = false) (aligned : a % 8 = 0)
    (served : cisRefusal false a 4 false s = none) :
    (cisternServe s { q := q, a := a, k := 8, w := some v }).resp = s.resp ∧
    Wrote a 8 v s (cisternServe s { q := q, a := a, k := 8, w := some v }) := by
  obtain ⟨t, ht⟩ : ∃ t, t = (aperturePut false a 4 (v % 2 ^ 32) s).2 := ⟨_, rfl⟩
  have fld (b : Nat) (g : Fld) (other) := (inert_cisFld (b := b) (g := g) other).aperturePut s (x := v % 2 ^ 32) served
  have state : pwrState t = pwrState s := by
    rw [ht]
    exact (fld R.PWR_STATUS F.PWR_STATUS_STATE (by decide)).trans (by simp only [State.fld, State.reg, setBytesNat_regs]; rfl)
  have lost : cisFlag t F.CIS_STATUS_UNAVAILABLE = cisFlag s F.CIS_STATUS_UNAVAILABLE := by
    have same := fld R.CIS_STATUS F.CIS_STATUS_UNAVAILABLE (by decide)
    simp only [State.fld, State.reg_of_regs (setBytesNat_regs _ _ _ s)] at same
    simp only [ht, cisFlag, State.flag, State.fld, same]
  have upper : cisRefusal false (a + 4) 4 false t = none :=
    (cisRefusal_congr s state lost).trans (cisRefusal_upper s aligned served)
  have run : cisternServe s { q := q, a := a, k := 8, w := some v } = (aperturePut false (a + 4) 4 (v / 2 ^ 32) t).2 := by
    rw [cisternServe_now s now]
    have halves : cisHalves { q := q, a := a, k := 8, w := some v } =
        [{ q := q, a := a, k := 4, w := some (v % 2 ^ 32) }, { q := q, a := a + 4, k := 4, w := some (v / 2 ^ 32) }] := by
      simp [cisHalves, aligned, isHost_inside inside, CisFault.again]
    simp only [cisternHalf, halves, cisternOne_inside _ inside, ← ht]
  rw [run]
  refine ⟨(aperturePut_resp t upper).trans (by rw [ht, aperturePut_resp s served]), wrote_halves s (t := t) ?_ (wrote_aperturePut t upper)⟩
  rw [ht]
  exact wrote_aperturePut s served

end Sys2Proof.Machine
end

section
/-!
PROOF. What a read of the cistern answers and what its failure records; the settlement of the statement about cistern accesses.
-/
namespace Sys2Proof.Machine

variable (s : State)

/-! ### Words that a read meets -/

/-- A sound word is read without a trace. -/
theorem readWord_sound {w : Nat} (src : Nat) (sound : poisonAt s w = false) : readWord w src .none s = (false, s) := by
  have at' : w / 4 * 4 + w % 4 = w := by omega
  simp [readWord, readLine, meetWords, meetWord, at', sound]

/-- The state in which a word whose retry fails has been recorded and remapped. -/
def lost (w src : Nat) : State :=
  remapRead (w / 4) 1 [w % 4] [w % 4] (uncorrectable w src false (willRemap s (w / 4)) (burstCount s))

theorem readWord_lost {w : Nat} (src : Nat) (sound : poisonAt s w = false) :
    readWord w src (.uncorr false) s = (true, lost s w src) := by
  have at' : w / 4 * 4 + w % 4 = w := by omega
  simp [readWord, readLine, meetWords, meetWord, at', sound, lost]

theorem fld_raise1_ne {a b : Nat} (hb : b ≠ a) (hj : b ≠ R.SAF_JNL_STATUS) (f g : Fld) (id : Nat) :
    (s.raise1 a f id).fld b g = s.fld b g := by simp only [State.fld, State.raise1, s.reg_raise hb hj]

/-- What the failure records stays through the remap. -/
theorem lost_records (w src : Nat) :
    (lost s w src).flag R.CIS_STATUS F.CIS_STATUS_UE_EV = true ∧
    (lost s w src).fld R.CIS_UE_ADDR F.CIS_UE_ADDR_ADDR = w * 8 % 2 ^ 32 ∧
    (lost s w src).fld R.CIS_UE_INFO F.CIS_UE_INFO_SOURCE = src % 2 ^ 4 := by
  have event : (uncorrectable w src false (willRemap s (w / 4)) (burstCount s)).flag R.CIS_STATUS F.CIS_STATUS_UE_EV = true :=
    State.flag_raise1 _ (by decide) _ _ (by unfold Fld.fits; decide) rfl
  refine ⟨?_, ?_, ?_⟩
  · have kept := (inert_remapFld (b := R.CIS_STATUS) (g := F.CIS_STATUS_UE_EV) (by decide)).remapRead
      (uncorrectable w src false (willRemap s (w / 4)) (burstCount s)) (w / 4) 1 [w % 4] [w % 4]
    simpa only [lost, State.flag, kept] using event
  · refine ((inert_remapFld (b := R.CIS_UE_ADDR) (g := F.CIS_UE_ADDR_ADDR) (by decide)).remapRead _ _ _ _ _).trans ?_
    refine (fld_raise1_ne _ (by decide) (by decide) _ _ _).trans ?_
    simp only [State.fld_setFld_ne _ (show R.CIS_UE_ADDR ≠ R.CIS_UE_INFO by decide)]
    exact State.fld_setFld _ _ F.CIS_UE_ADDR_ADDR _ (by unfold Fld.fits; decide)
  · refine ((inert_remapFld (b := R.CIS_UE_INFO) (g := F.CIS_UE_INFO_SOURCE) (by decide)).remapRead _ _ _ _ _).trans ?_
    refine (fld_raise1_ne _ (by decide) (by decide) _ _ _).trans ?_
    rw [State.fld_setFld_apart _ _ F.CIS_UE_INFO_REMAPPED _ _ (by unfold Fld.fits; decide) (by unfold Fld.apart; decide),
      State.fld_setFld_apart _ _ F.CIS_UE_INFO_POISONED _ _ (by unfold Fld.fits; decide) (by unfold Fld.apart; decide)]
    exact State.fld_setFld _ _ F.CIS_UE_INFO_SOURCE _ (by unfold Fld.fits; decide)

theorem lost_mem (w src : Nat) : (lost s w src).mem = s.mem :=
  (inert_mem.remap.remapRead _ _ _ _ _).trans ((inert_mem.uncorrectable _ _ _ _ _).trans rfl)

/-- A recorded refusal sets registers of its port and the journal's losses. -/
theorem reg_recordFor (o : Origin) (c : Code) (a : Nat) {b : Nat} (high : 0x1000 ≤ b) (journal : b ≠ R.SAF_JNL_STATUS) :
    (recordFor o c a s).reg b = s.reg b := by
  have err (p : Fin 3) : (recordErr p c a s).reg b = s.reg b := by
    have ne : b ≠ R.CHIP_PORT_ERR p ∧ b ≠ R.CHIP_PORT_ADDR p := by unfold R.CHIP_PORT_ERR R.CHIP_PORT_ADDR; omega
    obtain ⟨atErr, atAddr⟩ := ne
    unfold recordErr
    split
    · rfl
    · dsimp only
      rw [State.raise1, State.reg_raise _ atErr journal, State.addSat, State.reg_setFld_ne _ atErr, State.reg_setFld_ne _ atErr]
      split
      · rfl
      · rw [State.reg_setFld_ne _ atAddr, State.reg_setFld_ne _ atErr]
  cases o with
  | portS => exact err 0
  | portI => exact err 1
  | portF => exact err 2
  | _ => rfl

/-! ### Reads -/

section
variable {o : Origin} {a k : Nat} (idle : wordsWait s = false) (now : cisStalls s (.bus o) = false)
  (passes : accessCode s o a k none false = none) (ap : inAperture a = true) (served : cisRefusal o.isHost a k true s = none)
include idle now passes ap served

/-- A read by a bus requester that no check stops answers what the aperture gives. -/
theorem serve_busRead (f : CisFault) : cisternServe s { q := .bus o, a := a, k := k, f := f } =
    answer s o { code := (cisLoad (CisReq.bus o).code o.isHost a k f s).1, data := (cisLoad (CisReq.bus o).code o.isHost a k f s).2.1 }
      (recordFor o (cisLoad (CisReq.bus o).code o.isHost a k f s).1 a (cisLoad (CisReq.bus o).code o.isHost a k f s).2.2) := by
  have four := le_four_of_served s served
  rw [cisternServe_now s now, cisternHalf_whole s (.inl (by simp; omega))]
  simp only [cisternOne, cisternReadOne, fabricTurn_idle s idle, passes, ap, if_true]

variable (main : mergeHolds s a k = false) (sound : poisonAt s (a / 8) = false)
include main sound

theorem serve_soundRead : cisternServe s { q := .bus o, a := a, k := k } = answer s o { code := .ok, data := s.bytesNat a k } s := by
  have load : cisLoad (CisReq.bus o).code o.isHost a k .none s = (.ok, s.bytesNat a k, s) := by
    simp [cisLoad, served, main, readWord_sound s _ sound]
  rw [serve_busRead s idle now passes ap served, load, recordFor_ok]

theorem serve_lostRead : cisternServe s { q := .bus o, a := a, k := k, f := .uncorr false } =
    answer s o { code := .ecc } (recordFor o .ecc a (lost s (a / 8) (CisReq.bus o).code)) := by
  have load : cisLoad (CisReq.bus o).code o.isHost a k (.uncorr false) s = (.ecc, 0, lost s (a / 8) (CisReq.bus o).code) := by
    simp [cisLoad, served, main, readWord_lost s _ sound]
  rw [serve_busRead s idle now passes ap served, load]

end

/-- A sound load changes nothing. -/
theorem cisLoad_sound {host : Bool} {src a k : Nat} (sound : poisonAt s (a / 8) = false) :
    (cisLoad src host a k .none s).2.2 = s ∧ ((cisLoad src host a k .none s).1 = .ecc → (cisRefusal host a k true s) = some .ecc) := by
  unfold cisLoad
  split
  next c refused => exact ⟨rfl, fun e => refused.trans (congrArg some e)⟩
  next =>
    split
    · exact ⟨rfl, nofun⟩
    · simp [readWord_sound s src sound]

/-- The cistern refuses no access with ECC. -/
theorem cisRefusal_ne_ecc (host : Bool) (a k : Nat) (read : Bool) : cisRefusal host a k read s ≠ some .ecc := by
  unfold cisRefusal
  split_ifs <;> nofun

theorem one_soundRead {q : CisReq} (inside : ∀ o, q ≠ .bus o) {a : Nat} (k : Nat) (sound : poisonAt s (a / 8) = false) :
    cisternOne s { q := q, a := a, k := k } = s := by
  obtain ⟨same, code⟩ := cisLoad_sound s (host := false) (src := q.code) (k := k) sound
  have served : (cisLoad q.code false a k .none s).1 ≠ .ecc := fun e => cisRefusal_ne_ecc s _ _ _ _ (code e)
  cases q with
  | bus o => exact absurd rfl (inside o)
  | _ => simpa only [cisternOne, cisternReadOne, served, if_false] using same

/-- A sound read by a requester that is not on the bus leaves the state as it was. -/
theorem serve_insideRead {q : CisReq} (inside : ∀ o, q ≠ .bus o) {a k : Nat} (now : cisStalls s q = false)
    (sound : poisonAt s (a / 8) = false) : cisternServe s { q := q, a := a, k := k } = s := by
  rw [cisternServe_now s now]
  by_cases double : k = 8 ∧ a % 8 = 0
  · obtain ⟨rfl, aligned⟩ := double
    have upper : (a + 4) / 8 = a / 8 := by omega
    have halves : cisHalves { q := q, a := a, k := 8 } = [{ q := q, a := a, k := 4 }, { q := q, a := a + 4, k := 4 }] := by
      simp [cisHalves, aligned, isHost_inside inside, CisFault.again]
    simp only [cisternHalf, halves, one_soundRead s inside 4 sound, one_soundRead s inside 4 (upper.symm ▸ sound)]
  · rw [cisternHalf_whole s (not_and_or.mp double |>.elim .inl (.inr ∘ .inl)), one_soundRead s inside k sound]

/-! ### MERGE_ENTRY_AGE -/

theorem mergeAge_none {line : Nat} (f : Vector CisFault 4) (h : s.cis.merge.any (fun e => e.line == line) = false) :
    mergeAge line f s = s := by
  have none : s.cis.merge.find? (fun e => e.line == line) = none := by
    rw [List.find?_eq_none]
    simpa using h
  simp [mergeAge, none]

/-- The line's entry leaves the merge buffer, and no byte changes. -/
theorem mergeAge_some {line : Nat} (f : Vector CisFault 4) (h : s.cis.merge.any (fun e => e.line == line) = true) :
    (mergeAge line f s).cis.merge.any (fun e => e.line == line) = false ∧ (mergeAge line f s).mem = s.mem := by
  obtain ⟨e, found⟩ : ∃ e, s.cis.merge.find? (fun e => e.line == line) = some e := by
    rw [← Option.isSome_iff_exists, List.find?_isSome]
    simpa using h
  have its : e.line = line := by simpa using List.find?_some found
  have run : mergeAge line f s = mergeLeave e (fun i => f.getD i .none) s := by simp [mergeAge, found]
  rw [run]
  refine ⟨?_, inert_mem.mergeLeave s e _⟩
  rw [inert_merge.mergeLeave_left s e _]
  simp [modCis, its]

/-! ### The settlement -/

theorem completes_stalledRead {q : CisReq} {a : Nat} (h : Running s) (stalls : cisStalls s q = true) (ap : inAperture a = true) (k : Nat)
    (f : CisFault) : ∃ u, Completes (.cisternRead q a k f []) s u ∧
      u.cis.stalled = s.cis.stalled ++ [{ q := q, a := a, k := k, f := f }] ∧ u.mem = s.mem ∧ u.regs = s.regs ∧ u.resp = s.resp := by
  refine ⟨_, completes_cisternRead s q a k f h, ?_⟩
  rw [cisternServe_stalls s stalls ap]
  exact ⟨rfl, rfl, rfl, rfl⟩

theorem completes_stalledWrite {q : CisReq} {a : Nat} (h : Running s) (stalls : cisStalls s q = true) (ap : inAperture a = true) (k v : Nat) :
    ∃ u, Completes (.cisternWrite q a k v []) s u ∧
      u.cis.stalled = s.cis.stalled ++ [{ q := q, a := a, k := k, w := some v }] ∧ u.mem = s.mem ∧ u.regs = s.regs ∧ u.resp = s.resp := by
  refine ⟨_, completes_cisternWrite s q a k v h, ?_⟩
  rw [cisternServe_stalls s stalls ap]
  exact ⟨rfl, rfl, rfl, rfl⟩

theorem aperture_lt {a : Nat} (h : inAperture a = true) : a < 2 ^ 32 := by
  simp only [inAperture, Bool.and_eq_true, decide_eq_true_eq] at h
  omega

/-- A read that loses its word answers ECC and records it. -/
theorem completes_lostRead {o : Origin} {a k : Nat} (h : Running s) (idle : wordsWait s = false) (now : cisStalls s (.bus o) = false)
    (passes : accessCode s o a k none false = none) (ap : inAperture a = true) (served : cisRefusal o.isHost a k true s = none)
    (main : mergeHolds s a k = false) (sound : poisonAt s (a / 8) = false) :
    ∃ u, Completes (.cisternRead (.bus o) a k (.uncorr false) []) s u ∧ u.resp[o.idx] = [{ code := .ecc }] ∧ u.mem = s.mem ∧
      u.flag R.CIS_STATUS F.CIS_STATUS_UE_EV = true ∧ u.fld R.CIS_UE_ADDR F.CIS_UE_ADDR_ADDR = a / 8 * 8 ∧
      u.fld R.CIS_UE_INFO F.CIS_UE_INFO_SOURCE = (CisReq.bus o).code := by
  obtain ⟨event, addr, source⟩ := lost_records s (a / 8) (CisReq.bus o).code
  have low : a / 8 * 8 % 2 ^ 32 = a / 8 * 8 := Nat.mod_eq_of_lt (by have := aperture_lt ap; omega)
  have code : (CisReq.bus o).code % 2 ^ 4 = (CisReq.bus o).code := by cases o <;> rfl
  have keeps (b : Nat) (g : Fld) (high : 0x1000 ≤ b) (journal : b ≠ R.SAF_JNL_STATUS) :
      (recordFor o .ecc a (lost s (a / 8) (CisReq.bus o).code)).fld b g = (lost s (a / 8) (CisReq.bus o).code).fld b g := by
    simp only [State.fld, reg_recordFor _ o .ecc a (b := b) high journal]
  refine ⟨_, completes_cisternRead s (.bus o) a k (.uncorr false) h, ?_⟩
  rw [serve_lostRead s idle now passes ap served main sound]
  refine ⟨answer_resp _ _ _ _, ?_, ?_, ?_, ?_⟩
  · exact (answer_mem _ _ _ _).trans ((recordFor_mem _ o .ecc a).trans (lost_mem s _ _))
  · simp only [State.flag, answer_fld, keeps R.CIS_STATUS _ (by decide) (by decide)]
    exact event
  · rw [answer_fld, keeps R.CIS_UE_ADDR _ (by decide) (by decide), addr, low]
  · rw [answer_fld, keeps R.CIS_UE_INFO _ (by decide) (by decide), source, code]

/-- Settles O39: a write leaves its bytes in memory and a read answers them; what passes through the merge buffer, the error log and
the remap table changes no byte. -/
theorem cisternAccessesComplete : Obligations.CisternAccessesComplete := by
  intro s a k running
  refine ⟨fun q f others => ?_, fun q v others => ?_, fun q f v stalls ap => ?_, fun o v idle now passes ap served => ?_,
    fun q v inside now served => ?_, fun q v inside now served aligned => ?_, fun q inside now sound => ?_,
    fun o idle now passes ap served main sound => ?_, fun line f held => ?_, fun line f none => ?_⟩
  · exact completes_of_outcome s (g := cisternReadAs q a k f others) rfl running
  · exact completes_of_outcome s (g := cisternWriteAs q a k v others) rfl running
  · exact ⟨completes_stalledRead s running stalls ap k f, completes_stalledWrite s running stalls ap k v⟩
  · obtain ⟨resp, wrote⟩ := wrote_busWrite s (v := v) idle now passes ap served
    exact ⟨_, completes_cisternWrite s (.bus o) a k v running, resp, wrote.bytes, wrote.rest, wrote.wf⟩
  · obtain ⟨resp, wrote⟩ := wrote_inside s (v := v) inside now served
    exact ⟨_, completes_cisternWrite s q a k v running, resp, wrote.bytes, wrote.rest, wrote.wf⟩
  · obtain ⟨resp, wrote⟩ := wrote_double s (v := v) inside now aligned served
    exact ⟨_, completes_cisternWrite s q a 8 v running, resp, wrote.bytes, wrote.rest⟩
  · have run := completes_cisternRead s q a k .none running
    rwa [serve_insideRead s inside now sound] at run
  · have run := completes_cisternRead s (.bus o) a k .none running
    rw [serve_soundRead s idle now passes ap served main sound] at run
    refine ⟨⟨_, run, ?_⟩, completes_lostRead s running idle now passes ap served main sound⟩
    exact ⟨answer_resp _ _ _ _, answer_mem _ _ _ _, answer_regs _ _ _ _⟩
  · obtain ⟨left, mem⟩ := mergeAge_some s f held
    exact ⟨_, completes_of_outcome s (g := mergeAge line f) rfl running, left, mem⟩
  · have run := completes_of_outcome s (c := .mergeEntryAge line f) (g := mergeAge line f) rfl running
    rwa [mergeAge_none s f none] at run

end Sys2Proof.Machine
end

section
/-!
PROOF. What follows a command leaves most registers, in a state that shows that no reinitialisation, no image tail and no retraining took
place: the argument back from such a state to the one before `follow` serves the refutations.
-/
namespace Sys2Proof.Machine

variable (s : State)

/-! ### Still states -/

/-- What shows that nothing but bookkeeping happened: the image tail is under way with no record left, the host transmit clocks have not been
followed in this cycle, no lane's receiver is idle, and no retraining is recorded. -/
structure Still (s : State) : Prop where
  running : s.inReset = false
  tail : updStep s = 6
  records : s.boot.upd.cfg = []
  steered : s.line[(0 : Fin 8)].steerAt ≠ s.now
  receivers : ∀ n : Fin 8, rxState s n ≠ 0
  untrained : cisFlag s F.CIS_STATUS_RETRAIN_EV = false

/-- What `Still` reads. -/
def stillView (s : State) := (muteRegs.map s.reg, s.now, s.line[(0 : Fin 8)].steerAt, s.boot.upd.cfg, s.inReset)

theorem stillView_of_muteView {s t : State} (h : muteView t = muteView s) : stillView t = stillView s := by
  simp only [muteView, Prod.mk.injEq] at h
  obtain ⟨regs, -, -, -, -, now, steer, cfg, reset⟩ := h
  simp only [stillView, regs, now, steer, cfg, reset]

theorem Still.of_view {s t : State} (e : stillView t = stillView s) (h : Still t) : Still s := by
  simp only [stillView, Prod.mk.injEq, List.map_inj_left] at e
  obtain ⟨regs, now, steer, cfg, reset⟩ := e
  have flags : ∀ a ∈ muteRegs, ∀ f, s.fld a f = t.fld a f := fun a ha f => by simp only [State.fld, regs a ha]
  exact {
    running := reset ▸ h.running
    tail := (flags _ (by decide) _).trans h.tail
    records := cfg ▸ h.records
    steered := now ▸ steer ▸ h.steered
    receivers := fun n => by
      have known : ∀ k : Fin 8, R.WELL_RX_STATUS k ∈ muteRegs := by decide
      exact fun z => h.receivers n ((flags _ (known n) _).symm.trans z)
    untrained := by
      have same := flags R.CIS_STATUS (by decide) F.CIS_STATUS_RETRAIN_EV
      rw [cisFlag, State.flag, same]
      exact h.untrained }

/-- A register of the chip, of a well or of the cistern: none that the mailboxes, the power manager, the laser enables or a reaction's
start write. -/
def Aside (b : Nat) : Prop := b < 0x10000 ∨ (0x800000 ≤ b ∧ b < 0x1100000) ∨ 0x1300000 ≤ b

theorem Aside.outsidePwr {b : Nat} (h : Aside b) : OutsidePwr b := by unfold OutsidePwr R.SAF_JNL_STATUS; unfold Aside at h; omega

theorem Aside.ne {a b : Nat} (h : Aside b) (low : 0x10000 ≤ a) (high : a < 0x800000 ∨ 0x1100000 ≤ a ∧ a < 0x1300000) : b ≠ a := by
  unfold Aside at h; omega

/-- A step that comes to a still state comes from one, and leaves the registers aside. -/
def Kept (s t : State) : Prop := Still t → Still s ∧ ∀ b, Aside b → t.reg b = s.reg b

theorem Kept.refl : Kept s s := fun h => ⟨h, fun _ _ => rfl⟩

theorem Kept.trans {s t u : State} (h : Kept s t) (g : Kept t u) : Kept s u := fun still => by
  obtain ⟨middle, late⟩ := g still
  obtain ⟨first, early⟩ := h middle
  exact ⟨first, fun b aside => (late b aside).trans (early b aside)⟩

theorem Kept.of_view {s t : State} (e : stillView t = stillView s) (r : ∀ b, Aside b → t.reg b = s.reg b) : Kept s t :=
  fun h => ⟨h.of_view e, r⟩

theorem Kept.of_muteView {s t : State} (e : muteView t = muteView s) (r : ∀ b, Aside b → t.reg b = s.reg b) : Kept s t :=
  .of_view (stillView_of_muteView e) r

theorem Kept.foldl {α : Type} {g : State → α → State} (h : ∀ t x, Kept t (g t x)) (l : List α) : Kept s (l.foldl g s) := by
  induction l generalizing s with
  | nil => exact .refl s
  | cons x l ih => exact (h s x).trans (ih _)

/-! ### What `follow` does to the laser enables -/

section
variable {β : Type} {v : State → β} (len : ∀ s f x, v (State.setFld s R.LINE_LEN_STATUS f x) = v s)
  (journal : ∀ s c p, v (State.journal s c p) = v s) (light : ∀ (s : State) l, v { s with light := l } = v s)
include len journal light

theorem lenLane_keeps (n : Fin 8) : v (lenLane n s) = v s := by
  have mute (t : State) : v (muteUpdate n t) = v t := by
    unfold muteUpdate
    split
    · exact light t _
    · rfl
  have raised (t : State) (bits id : Nat) : v (t.raise R.LINE_LEN_STATUS F.LINE_LEN_STATUS_LEN_DROP bits id) = v t := by
    unfold State.raise
    dsimp only
    split
    · exact len t _ _
    · exact (journal _ _ _).trans (len t _ _)
  have fell (t : State) : v (lenFall n t) = v t := by
    have low : v { t.clrBits R.LINE_LEN_STATUS F.LINE_LEN_STATUS_LEN_OUT (2 ^ n.val) with
        light := vmod (t.clrBits R.LINE_LEN_STATUS F.LINE_LEN_STATUS_LEN_OUT (2 ^ n.val)).light n fun l => { l with settled := false, muted := true } } = v t :=
      (light _ _).trans (len t _ _)
    unfold lenFall
    dsimp only
    split
    · exact (raised _ _ _).trans low
    · exact low
  unfold lenLane
  dsimp only
  split
  · exact (mute _).trans ((light _ _).trans (len s _ _))
  · split
    · exact (mute _).trans (fell s)
    · exact mute s

theorem lenUpdate_keeps : v (lenUpdate s) = v s := by
  have lanes : v (forLanes lenLane s) = v s := foldl_keeps s v (fun t n => lenLane_keeps t len journal light n) _
  unfold lenUpdate
  exact (len _ _ _).trans ((len _ _ _).trans ((len _ _ _).trans lanes))

end

theorem stillView_journal (c p : Nat) : stillView (s.journal c p) = stillView s := stillView_of_muteView (muteView_journal s c p)

theorem stillView_len (f : Fld) (x : Nat) : stillView (s.setFld R.LINE_LEN_STATUS f x) = stillView s := by
  have other : ∀ b ∈ muteRegs, b ≠ R.LINE_LEN_STATUS := by decide
  have regs : muteRegs.map (s.setFld R.LINE_LEN_STATUS f x).reg = muteRegs.map s.reg :=
    List.map_congr_left fun b hb => s.reg_setFld_ne (other b hb) f x
  simp only [stillView, regs, State.setFld_now, State.setFld_line, State.setFld_boot, State.setFld_inReset]

theorem kept_lenUpdate : Kept s (lenUpdate s) := by
  refine .of_view (lenUpdate_keeps s stillView_len stillView_journal fun _ _ => rfl) fun b aside => ?_
  exact lenUpdate_keeps s (v := fun s => s.reg b) (fun t f x => t.reg_setFld_ne (aside.ne (by decide) (by decide)) f x)
    (fun t c p => t.reg_journal aside.outsidePwr.2 c p) fun _ _ => rfl

/-! ### The mailboxes, requests, Port I and power -/

theorem kept_repliesPost : Kept s (repliesPost s) := by
  refine .of_muteView (muteView_repliesPost s) fun b aside => ?_
  refine foldl_keeps s (fun s => s.reg b) (fun t p => ?_) _
  have mbx (x k : Nat) (u : State) (at' : 0x30000 ≤ x ∧ x < 0x40000) (f : Fld) : (u.setFld x f k).reg b = u.reg b :=
    u.reg_setFld_ne (aside.ne (by omega) (by omega)) f k
  have ctrl : 0x30000 ≤ R.MBX_OUT_CTRL p ∧ R.MBX_OUT_CTRL p < 0x40000 := by unfold R.MBX_OUT_CTRL; omega
  have status : 0x30000 ≤ R.MBX_STATUS p ∧ R.MBX_STATUS p < 0x40000 := by unfold R.MBX_STATUS; omega
  have data (r : Reply) (l : List Nat) (small : ∀ k ∈ l, k < 16) (u : State) :
      (l.foldl (fun s k => s.setReg (R.MBX_DATA p k) (word ((r.words[k]?).getD 0))) u).reg b = u.reg b := by
    induction l generalizing u with
    | nil => rfl
    | cons k l ih =>
      obtain ⟨hk, hl⟩ := List.forall_mem_cons.mp small
      rw [List.foldl_cons, ih hl]
      exact u.reg_setReg_ne (aside.ne (by unfold R.MBX_DATA; omega) (by unfold R.MBX_DATA; omega)) _
  simp only [when]
  split
  · unfold mbxPostNext
    split
    · rfl
    · split
      · rfl
      · simp only [mbxPost, mbx _ _ _ ctrl, mbx _ _ _ status]
        rw [data _ _ (fun k hk => by have := List.mem_range.mp hk; omega), mbxQueued, mbx _ _ _ status]
        rfl
  · rfl

theorem kept_requestsFollow : Kept s (requestsFollow s) := by
  refine .of_muteView (muteView_requestsFollow s) fun b _ => foldl_keeps s (fun s => s.reg b) (fun t k => ?_) _
  split <;> rfl

theorem kept_ibiFollow (old : State) : Kept s (ibiFollow old s) := by
  refine .of_muteView (muteView_ibiFollow s old) fun b _ => ?_
  unfold ibiFollow
  dsimp only
  split
  · rfl
  · split
    · rfl
    · split <;> rfl

theorem kept_powerFollow : Kept s (powerFollow s) := by
  refine .of_muteView (muteView_powerFollow s) fun b aside => ?_
  have out := aside.outsidePwr
  have note (t : State) (lv : Nat) : (wakesNote lv t).reg b = t.reg b := by
    show (if _ then wakeCause _ t else t).reg b = _
    split
    · exact reg_wakeCause t out _
    · rfl
  unfold powerFollow
  dsimp only
  split
  · rw [reg_pwrFld _ out (by decide), reg_exitStart _ out, note, reg_pwrFld _ out (by decide), reg_pwrFld _ out (by decide),
      reg_pwrFld _ out (by decide)]
  · rw [note, reg_pwrFld _ out (by decide), reg_pwrFld _ out (by decide), reg_pwrFld _ out (by decide)]

/-! ### Regions -/

theorem kept_timing : Kept s (regionBegin .timing s) := by
  refine .of_muteView (muteView_timing s) fun b aside => ?_
  have requeue (t : State) (n : Fin 8) : (requeueFrame true n t).reg b = t.reg b := by
    have close : (frameClose false n t).reg b = t.reg b := by
      simp only [frameClose]
      split <;> rfl
    unfold requeueFrame
    dsimp only
    split
    · exact (State.reg_setFld_ne _ (aside.ne (by unfold R.SEEP_LN_STATUS; omega) (by unfold R.SEEP_LN_STATUS; omega)) _ _).trans close
    · exact close
  have lane (t : State) (n : Fin 8) :
      (if seepEn t n then modSeep n (fun l => { l with rxTag := none, asm := none }) (requeueFrame true n t) else t).reg b = t.reg b := by
    split
    · exact requeue t n
    · rfl
  simp only [regionBegin]
  split
  · rfl
  · exact foldl_keeps _ (fun s => s.reg b) lane _

theorem kept_keep : Kept s (regionBegin .keep s) := by
  refine .of_muteView (muteView_keep s) fun b aside => ?_
  have pair (t : State) (k : Fin 3) :
      (if pairPowered t k then modK k (fun x => { x with down := true }) (pairReset k t) else t).reg b = t.reg b := by
    split
    · exact State.reg_setReg_ne _ (aside.ne (by unfold R.KIC_MODE; omega) (by unfold R.KIC_MODE; omega)) _
    · rfl
  simp only [regionBegin]
  split
  · rfl
  · exact foldl_keeps _ (fun s => s.reg b) pair _

theorem kept_host : Kept s (regionBegin .host s) := by
  simp only [regionBegin]
  split
  · exact .refl s
  · exact fun h => absurd (steerAt_hostFollow _) h.steered

/-- Self-refresh is one flag of CIS_STATUS. -/
theorem fld_selfRefresh (on : Bool) {g : Fld} (apart : F.CIS_STATUS_SELF_REFRESH.apart g) :
    (selfRefresh on s).fld R.CIS_STATUS g = s.fld R.CIS_STATUS g := by
  have engine : (engineFollow s).fld R.CIS_STATUS g = s.fld R.CIS_STATUS g := by
    unfold engineFollow
    split
    · rfl
    · exact State.fld_setFld_ne _ (by decide) _ _ _
  unfold selfRefresh
  split
  · rfl
  · exact (State.fld_setFld_apart _ _ _ _ _ (by unfold Fld.fits; decide) apart).trans engine

/-- The reaction of the cistern's region records a retraining, unless the cistern is not available. -/
theorem kept_cistern : Kept s (regionBegin .cistern s) := by
  have recorded (t : State) : cisFlag (selfRefresh true (cisEvent F.CIS_STATUS_RETRAIN_EV t)) F.CIS_STATUS_RETRAIN_EV = true := by
    have event : (cisEvent F.CIS_STATUS_RETRAIN_EV t).flag R.CIS_STATUS F.CIS_STATUS_RETRAIN_EV = true :=
      t.flag_raise1 (by decide) _ _ (by unfold Fld.fits; decide) rfl
    simpa only [cisFlag, State.flag, fld_selfRefresh _ _ (show F.CIS_STATUS_SELF_REFRESH.apart F.CIS_STATUS_RETRAIN_EV by unfold Fld.apart; decide)]
      using event
  simp only [regionBegin]
  split
  · exact .refl s
  · split
    · exact .of_muteView (muteView_region s _) fun _ _ => rfl
    · exact fun h => absurd h.untrained (by rw [recorded]; decide)

theorem kept_line : Kept s (regionBegin .line s) := by
  have reinit (lanes : Nat) (t : State) (n : Fin 8) : Kept t (if bitOf lanes n then laneReinit n t else t) := fun still => by
    split at still
    · exact absurd (rxState_laneReinit t n) (still.receivers n)
    next off => exact if_neg off ▸ ⟨still, fun _ _ => rfl⟩
  have atlas (t : State) : Kept t (atlasRestart t) :=
    .of_muteView (muteView_atlasRestart t) fun b _ => foldl_keeps t (fun s => s.reg b) (g := fun t n => modAtl n _ t) (fun _ _ => rfl) _
  have begun : Kept s { s with region := vmod s.region Region.line.idx fun g => { g with fresh := false } } :=
    .of_muteView (muteView_region s _) fun _ _ => rfl
  simp only [regionBegin, forLanes]
  split
  · exact .refl s
  · refine Kept.trans ?_ (Kept.foldl _ (reinit _) _)
    split
    · exact begun.trans (atlas _)
    · exact begun

theorem kept_regionsBegin : Kept s (regionsBegin s) :=
  ((((kept_line s).trans (kept_host _)).trans (kept_timing _)).trans (kept_keep _)).trans (kept_cistern _)

/-! ### The device's images -/

theorem not_still_tailRecords (i : Image) (l : List (CfgRec × Nat)) : ¬ Still (tailRecords i l s) := by
  intro h
  simp only [tailRecords] at h
  split at h
  · exact absurd h.tail ‹_›
  · split at h
    · exact absurd h.tail (by rw [updStep_updEnd]; decide)
    · have none : (cfgRun l s).1 = [] := h.records
      exact absurd (none ▸ rfl) ‹¬ (cfgRun l s).1.isEmpty = true›

/-- A tail that goes on ends the step or leaves records. -/
theorem updTail_eq_or (s : State) : updTail s = s ∨ ∃ i l t, updTail s = tailRecords i l t := by
  unfold updTail
  split
  · exact .inl rfl
  · split
    · exact .inr ⟨_, _, _, rfl⟩
    · split
      · exact .inl rfl
      · split
        · exact .inl rfl
        · split
          · exact .inr ⟨_, _, _, rfl⟩
          · split
            · exact .inr ⟨_, _, _, rfl⟩
            · exact .inl rfl

theorem kept_updTail : Kept s (updTail s) := fun h => by
  rcases updTail_eq_or s with same | ⟨i, l, t, tail⟩
  · exact same.symm ▸ ⟨same ▸ h, fun _ _ => rfl⟩
  · exact absurd (tail ▸ h) (not_still_tailRecords _ _ _)

/-! ### All of it -/

/-- A still state after `follow` was still before, and no register aside has changed. -/
theorem kept_follow (old : State) : Kept s (follow old s) := by
  unfold follow
  refine Kept.trans ?_ (kept_lenUpdate _)
  split
  · exact .refl s
  · exact (((((kept_updTail s).trans (kept_repliesPost _)).trans (kept_regionsBegin _)).trans (kept_requestsFollow _)).trans
      (kept_powerFollow _)).trans (kept_ibiFollow _ old)

/-- Where a command comes to a still state, a register aside is as in the state that `follow` got. -/
theorem reg_of_completes {c : Instr} {u t : State} (run : Completes c s u) (comes : exec c s = .next t) (still : Still t)
    {b : Nat} (aside : Aside b) : u.reg b = t.reg b := by
  have same : t = { follow s u with pending := s.pending } := Host.Outcome.next.inj (comes.symm.trans run)
  have kept := kept_follow u s
  generalize follow s u = w at same kept
  subst same
  have view : stillView { w with pending := s.pending } = stillView w := rfl
  exact ((kept (still.of_view view)).2 b aside).symm

end Sys2Proof.Machine
end

section
/-!
PROOF. A counterexample to the frame of the well commands: an isolated pump no longer keeps a bank from being valid, and BANK_VALID is in a
register of its own.
-/
namespace Sys2Proof.Machine

/-- A state that `Still` holds of, with no unit at work. -/
def stillState : State :=
  let s : State := { State.reset with now := 1 }
  let s := s.setFld R.BOOT_STAGE_STATUS F.BOOT_STAGE_STATUS_STEP 6
  (List.range 8).foldl (fun s n => s.setFld (R.WELL_RX_STATUS n) F.WELL_RX_STATUS_STATE 4) s

/-- A recipe of no demands. -/
def plainRecipe : Recipe :=
  { profile := .deep, rateLo := 0, rateHi := 0, reach := 0, rxMin := 0, txMin := 0, peakMac := 0, peakAcs := 0, sig := 0, init := [], slots := [] }

/-- A rotation step of well 0 is due and pump 0, which alone does not hold the recipe of bank 1, is named for it. -/
def rotating : State :=
  let s : State := { stillState with
    well := vmod stillState.well 0 fun w => { w with
      rotDue := true, named := some 0, bank1 := some plainRecipe,
      pump := vmod (w.pump.map fun p => { p with code1 := some plainRecipe }) 0 fun p => { p with code1 := none } } }
  s.setFld (R.WELL_ROT_CFG 0) F.WELL_ROT_CFG_ROT_EN 1

/-- The state after the step. -/
def rotated : State := { follow rotating (rotationStep 0 rotating) with pending := rotating.pending }

theorem still_rotated : Still rotated := by
  obtain ⟨running, tail, records, steered, receivers, untrained⟩ : rotated.inReset = false ∧ updStep rotated = 6 ∧ rotated.boot.upd.cfg = [] ∧
      rotated.line[(0 : Fin 8)].steerAt ≠ rotated.now ∧ (∀ n : Fin 8, rxState rotated n ≠ 0) ∧
      cisFlag rotated F.CIS_STATUS_RETRAIN_EV = false := by decide +kernel
  exact ⟨running, tail, records, steered, receivers, untrained⟩

/-- With pump 0 under test every pump that is not isolated holds the recipe of bank 1. -/
theorem bankValid_rotated : rotating.reg (R.WELL_IBANK 0) = 0x10#32 ∧ rotated.reg (R.WELL_IBANK 0) = 0x30#32 := by decide +kernel

/-- Refutes O16: well 0's rotation step isolates the one pump that does not hold the recipe of bank 1, and the well's BANK_VALID follows
(R53, R66). WELL_IBANK, which holds it, is not among the registers that the statement lets these commands change. -/
theorem not_wellCommandsKeepTheRest : ¬ Obligations.WellCommandsKeepTheRest := by
  unfold Obligations.WellCommandsKeepTheRest
  intro h
  have running : Running rotating := by unfold Running; decide +kernel
  have named : rotating.well[(0 : Fin 8)].retest = [] ∧ rotating.well[(0 : Fin 8)].named = some 0 := by decide +kernel
  have pumps : ∀ m, rotating.well[(0 : Fin 8)].named = some m → m < 64 := fun m e => by
    rw [named.2] at e
    cases e
    decide
  obtain ⟨u, done, rest⟩ := h rotating 0 (.rotationStep 0) running (.inr (.inl rfl)) (fun m mem => by rw [named.1] at mem; cases mem) pumps
  have kept : u.reg (R.WELL_IBANK 0) = rotating.reg (R.WELL_IBANK 0) := by
    obtain ⟨-, -, -, -, -, -, -, -, -, -, -, -, -, -, -, -, -, -, -, -, -, -, -, -, -, -, -, regs⟩ := rest
    exact regs _ (fun m small => by unfold R.WELL_IBANK R.PUMP_STATE R.PUMP_ERR; omega) (by decide) (by decide) (by decide) (by decide)
      (by decide) (by decide) (by decide) (by decide) (by decide)
  have comes : exec (.rotationStep 0) rotating = .next rotated := exec_outcome rotating (g := rotationStep 0) running
  have follows := reg_of_completes rotating done comes still_rotated (b := R.WELL_IBANK 0) (by unfold Aside; decide)
  rw [kept, bankValid_rotated.1, bankValid_rotated.2] at follows
  exact absurd follows (by decide)

end Sys2Proof.Machine
end

section
/-!
PROOF. Counterexamples to two endings of a region's reaction: the cistern that sleeps stays in self-refresh, and an access that waited may
be any access.
-/
namespace Sys2Proof.Machine

/-! ### The end of a retraining in deep sleep -/

/-- The cistern's region reacts while the device is in S3 with the cistern in self-refresh. -/
def retrainingAsleep : State :=
  let s : State := { stillState with region := vmod stillState.region Region.cistern.idx fun g => { g with reacting := true } }
  (s.setFld R.PWR_STATUS F.PWR_STATUS_STATE 3).setFld R.CIS_STATUS F.CIS_STATUS_SELF_REFRESH 1

/-- The state after the retraining. -/
def retrainedAsleep : State := { follow retrainingAsleep (retrainDone retrainingAsleep) with pending := retrainingAsleep.pending }

theorem still_retrainedAsleep : Still retrainedAsleep := by
  obtain ⟨running, tail, records, steered, receivers, untrained⟩ : retrainedAsleep.inReset = false ∧ updStep retrainedAsleep = 6 ∧
      retrainedAsleep.boot.upd.cfg = [] ∧ retrainedAsleep.line[(0 : Fin 8)].steerAt ≠ retrainedAsleep.now ∧
      (∀ n : Fin 8, rxState retrainedAsleep n ≠ 0) ∧ cisFlag retrainedAsleep F.CIS_STATUS_RETRAIN_EV = false := by decide +kernel
  exact ⟨running, tail, records, steered, receivers, untrained⟩

theorem selfRefresh_retrainedAsleep : cisFlag retrainedAsleep F.CIS_STATUS_SELF_REFRESH = true := by decide +kernel

/-- Refutes O40, in its last clause: a reaction of the cistern's region that ends in S3 leaves the cistern in self-refresh, where R26 keeps it
until the device wakes. -/
theorem not_scrubRefreshAndRemapComplete : ¬ Obligations.ScrubRefreshAndRemapComplete := by
  unfold Obligations.ScrubRefreshAndRemapComplete
  intro h
  have running : Running retrainingAsleep := by unfold Running; decide +kernel
  obtain ⟨-, -, -, -, -, -, -, -, -, -, -, -, -, ends⟩ := h retrainingAsleep
  obtain ⟨u, done, -, awake⟩ := ends running (by decide +kernel)
  have comes : exec .cisternRetrainDone retrainingAsleep = .next retrainedAsleep := exec_outcome retrainingAsleep (g := retrainDone) running
  have follows := reg_of_completes retrainingAsleep done comes still_retrainedAsleep (b := R.CIS_STATUS) (by unfold Aside; decide)
  have same : cisFlag u F.CIS_STATUS_SELF_REFRESH = cisFlag retrainedAsleep F.CIS_STATUS_SELF_REFRESH := by
    simp only [cisFlag, State.flag, State.fld, follows]
  rw [awake, selfRefresh_retrainedAsleep] at same
  cases same

/-! ### An access that waited for the end of a reaction -/

/-- The host region reacts while a keeper's write that releases FAULT_N waits for the cistern. -/
def reactingHost : State :=
  { stillState with
    region := vmod stillState.region Region.host.idx fun g => { g with reacting := true }
    cis := { stillState.cis with stalled := [{ q := .bus .k0, a := R.CHIP_FAULT_STATUS, k := 4, w := some 1 }] } }

/-- The state after the reaction, which took too long. -/
def releasedLate : State := { follow reactingHost (regionFinished .host false reactingHost) with pending := reactingHost.pending }

theorem still_releasedLate : Still releasedLate := by
  obtain ⟨running, tail, records, steered, receivers, untrained⟩ : releasedLate.inReset = false ∧ updStep releasedLate = 6 ∧
      releasedLate.boot.upd.cfg = [] ∧ releasedLate.line[(0 : Fin 8)].steerAt ≠ releasedLate.now ∧
      (∀ n : Fin 8, rxState releasedLate n ≠ 0) ∧ cisFlag releasedLate F.CIS_STATUS_RETRAIN_EV = false := by decide +kernel
  exact ⟨running, tail, records, steered, receivers, untrained⟩

theorem faultN_releasedLate : faultN releasedLate = true := by decide +kernel

/-- Refutes O12, in the clause of REGION_REACTION_DONE: the end of a reaction serves the accesses that waited for the cistern, and one that
writes 1 to CHIP_FAULT releases FAULT_N again, which the late reaction had asserted. (Only accesses in the aperture ever wait; the statement
speaks of every state.) -/
theorem not_blockAndRegionFaultsComplete : ¬ Obligations.BlockAndRegionFaultsComplete := by
  unfold Obligations.BlockAndRegionFaultsComplete
  intro h
  have running : Running reactingHost := by unfold Running; decide +kernel
  obtain ⟨-, -, -, ends, -⟩ := h reactingHost running
  obtain ⟨u, done, -, late⟩ := ends .host false (by decide +kernel)
  have comes : exec (.regionReactionDone .host false) reactingHost = .next releasedLate :=
    exec_outcome reactingHost (g := regionFinished .host false) running
  have follows := reg_of_completes reactingHost done comes still_releasedLate (b := R.CHIP_FAULT_STATUS) (by unfold Aside; decide)
  have same : faultN u = faultN releasedLate := by simp only [faultN, State.flag, State.fld, follows]
  rw [late rfl, faultN_releasedLate] at same
  cases same

end Sys2Proof.Machine
end

section
/-!
PROOF. Which fields of the registers an operation sets: a step is described by the fields that it may set, and every other field keeps its
value through it.
-/
namespace Sys2Proof.Machine

/-- No field of `T` shares a bit with field `g` of register `b`, and the journal does not write there. -/
def Misses (T : Nat → Fld → Prop) (b : Nat) (g : Fld) : Prop :=
  b ≠ R.SAF_JNL_STATUS ∧ ∀ a f, T a f → b ≠ a ∨ (f.fits ∧ f.apart g)

/-- From `s` to `t` only the fields `T` and the journal's losses are set. -/
def Sets (T : Nat → Fld → Prop) (s t : State) : Prop := ∀ b g, Misses T b g → t.fld b g = s.fld b g

namespace Sets

variable {T : Nat → Fld → Prop} {s t u : State}

theorem fld (h : Sets T s t) {b : Nat} {g : Fld} (m : Misses T b g) : t.fld b g = s.fld b g := h b g m

theorem flag (h : Sets T s t) {b : Nat} {g : Fld} (m : Misses T b g) : t.flag b g = s.flag b g := by
  simp only [State.flag, h.fld m]

theorem refl : Sets T s s := fun _ _ _ => rfl

theorem trans (h : Sets T s t) (g : Sets T t u) : Sets T s u := fun b f m => (g b f m).trans (h b f m)

theorem mono {T' : Nat → Fld → Prop} (h : Sets T s t) (sub : ∀ a f, T a f → T' a f) : Sets T' s t :=
  fun b g m => h b g ⟨m.1, fun a f w => m.2 a f (sub a f w)⟩

theorem of_regs (h : Sets T s t) (e : u.regs = t.regs := by rfl) : Sets T s u :=
  h.trans fun b g _ => by simp only [State.fld, State.reg_of_regs e]

theorem setFld (h : Sets T s t) {a : Nat} {f : Fld} (w : T a f) (x : Nat) : Sets T s (t.setFld a f x) :=
  h.trans fun b g m => by
    by_cases same : b = a
    · obtain ⟨fits, apart⟩ := (m.2 a f w).resolve_left (not_not_intro same)
      subst same
      exact t.fld_setFld_apart b f g x fits apart
    · exact t.fld_setFld_ne same f g x

theorem setReg (h : Sets T s t) {a : Nat} (w : ∀ f, T a f) (x : Word) : Sets T s (t.setReg a x) :=
  h.trans fun b g m => by
    have away : b ≠ a := (m.2 a { lo := 0, w := 33, ty := .ro, rst := 0 } (w _)).resolve_right fun both => by
      have fits := both.1
      unfold Fld.fits at fits
      simp at fits
    simp only [State.fld, t.reg_setReg_ne away]

theorem addSat (h : Sets T s t) {a : Nat} {f : Fld} (w : T a f) (x : Nat) : Sets T s (t.addSat a f x) := h.setFld w _
theorem addWrap (h : Sets T s t) {a : Nat} {f : Fld} (w : T a f) (x : Nat) : Sets T s (t.addWrap a f x) := h.setFld w _
theorem journalAt (h : Sets T s t) (src c p : Nat) : Sets T s (t.journalAt src c p) :=
  h.trans fun b g m => by simp only [State.fld, t.reg_journalAt m.1]

theorem journalFault (h : Sets T s t) (source mech : Nat) : Sets T s (t.journalFault source mech) :=
  (h.of_regs (u := (t.fresh 32).2)).journalAt _ _ _

theorem raise (h : Sets T s t) {a : Nat} {f : Fld} (w : T a f) (bits id : Nat) : Sets T s (t.raise a f bits id) := by
  unfold State.raise
  dsimp only
  split
  · exact h.setFld w _
  · exact (h.setFld w _).journalAt _ _ _

theorem raise1 (h : Sets T s t) {a : Nat} {f : Fld} (w : T a f) (id : Nat) : Sets T s (t.raise1 a f id) := h.raise w 1 id

theorem ite (h : Sets T s t) (g : Sets T s u) (c : Prop) [Decidable c] : Sets T s (if c then t else u) := by
  split
  · exact h
  · exact g

theorem foldl {α : Type} {g : State → α → State} (h : Sets T s t) (l : List α) (step : ∀ x ∈ l, ∀ u, Sets T u (g u x)) :
    Sets T s (l.foldl g t) := by
  induction l generalizing t with
  | nil => exact h
  | cons x l ih =>
    exact ih (h.trans (step x List.mem_cons_self t)) fun y hy => step y (List.mem_cons_of_mem _ hy)

end Sets

end Sys2Proof.Machine
end

section
/-!
PROOF. A well's pumps: what its pool registers follow, what a quarantine and a well fault set, and what they leave.
-/
namespace Sys2Proof.Machine

variable {s t : State}

/-! ### The pool (R66) -/

/-- The fields that follow the pump windows. -/
inductive PoolBook (n : Nat) : Nat → Fld → Prop
  | rx : PoolBook n (R.WELL_POOL n) F.WELL_POOL_RX_WORKING
  | tx : PoolBook n (R.WELL_POOL n) F.WELL_POOL_TX_WORKING
  | spares : PoolBook n (R.WELL_POOL n) F.WELL_POOL_SPARES
  | quarantined : PoolBook n (R.WELL_POOL n) F.WELL_POOL_QUAR_COUNT
  | quar0 : PoolBook n (R.WELL_QUAR0 n) F.WELL_QUAR0_QUAR
  | quar1 : PoolBook n (R.WELL_QUAR1 n) F.WELL_QUAR1_QUAR
  | reduced : PoolBook n (R.WELL_STATUS n) F.WELL_STATUS_VARIANT_REDUCED
  | valid : PoolBook n (R.WELL_IBANK n) F.WELL_IBANK_BANK_VALID

theorem sets_bankFollow (n : Fin 8) (s : State) : Sets (PoolBook n) s (bankFollow n s) :=
  Sets.refl.foldl _ fun k _ u => by
    split
    · exact .refl
    · exact Sets.refl.setFld .valid _

theorem sets_poolFollow (n : Fin 8) (s : State) : Sets (PoolBook n) s (poolFollow n s) :=
  Sets.trans (((((((Sets.refl.setFld .rx _).setFld .tx _).setFld .spares _).setFld .quarantined _).setFld .quar0 _).setFld .quar1 _).setFld
    .reduced _) (sets_bankFollow n _)

/-! ### Faults -/

/-- What the handling of a fault of well `n` sets beside the roles and marks of its pumps. -/
inductive FaultBook (n : Nat) : Nat → Fld → Prop
  | pool {a : Nat} {f : Fld} : PoolBook n a f → FaultBook n a f
  | bank {m : Nat} : m < 64 → FaultBook n (R.PUMP_STATE n m) F.PUMP_STATE_BANK
  | active : FaultBook n (R.WELL_IBANK n) F.WELL_IBANK_ACTIVE
  | pending : FaultBook n (R.WELL_IBANK n) F.WELL_IBANK_SWITCH_PEND
  | cancelled : FaultBook n (R.WELL_STATUS n) F.WELL_STATUS_SWITCH_CANCELLED
  | quarantine : FaultBook n (R.WELL_STATUS n) F.WELL_STATUS_QUARANTINE
  | stopped : FaultBook n (R.WELL_STATUS n) F.WELL_STATUS_ROT_STOPPED
  | repair (f : Fld) : FaultBook n R.BOOT_RPR_COUNT f
  | region (r : Region) (f : Fld) : FaultBook n (R.CHIP_RERR r.idx) f
  | chip (f : Fld) : FaultBook n R.CHIP_FAULT_STATUS f
  | doorbell {p : Nat} (f : Fld) : p < 3 → FaultBook n (R.MBX_DB_TOHOST p) f

theorem sets_chipEscalate (n : Nat) (r : Region) (s : State) : Sets (FaultBook n) s (chipEscalate r s) := by
  have chip : Sets (FaultBook n) s ((if s.flag R.CHIP_FAULT_STATUS F.CHIP_FAULT_STATUS_CHIP_FAULT then s.journalFault 0x50 r.idx else s).setFld
      (R.CHIP_RERR r.idx) F.CHIP_RERR_ESCALATED 1) := by
    refine Sets.setFld ?_ (.region r _) 1
    split
    · exact Sets.refl.journalFault _ _
    · exact .refl
  exact (chip.raise1 (.chip _) 1).foldl _ fun p hp u => Sets.refl.setFld (.doorbell _ (List.mem_range.mp hp)) _

theorem sets_regionFault (n : Nat) (r : Region) (block cause lanes : Nat) (safety : Bool) (s : State) :
    Sets (FaultBook n) s (regionFault r block cause lanes safety s) := by
  have recorded : Sets (FaultBook n) s
      (((s.setFld (R.CHIP_RERR r.idx) F.CHIP_RERR_LAST_BLOCK block).setFld (R.CHIP_RERR r.idx) F.CHIP_RERR_CAUSE cause).addSat
        (R.CHIP_RERR r.idx) F.CHIP_RERR_COUNT 1) :=
    ((Sets.refl.setFld (.region r _) _).setFld (.region r _) _).addSat (.region r _) _
  have pending (t : State) (h : Sets (FaultBook n) s t) :
      Sets (FaultBook n) s (pendFollow ((if t.flag (R.CHIP_RERR r.idx) F.CHIP_RERR_PEND then t.journalFault (16 * r.idx + block) cause
        else t).raise1 (R.CHIP_RERR r.idx) F.CHIP_RERR_PEND (2 + r.idx))) :=
    (((h.journalFault _ _).ite h _).raise1 (.region r _) _).setFld (.chip _) _
  have begins (t : State) (h : Sets (FaultBook n) s t) (g : Vector RegionSt 5) (c : Bool) :
      Sets (FaultBook n) s (if c then chipEscalate r { t with region := g } else { t with region := g }) := by
    split
    · exact h.of_regs.trans (sets_chipEscalate n r _)
    · exact h.of_regs
  exact begins _ (pending _ recorded) _ _

/-! ### Well faults -/

theorem pumpsIn_lt {s : State} {n role m : Nat} (h : m ∈ pumpsIn s n role) : m < 64 :=
  List.mem_range.mp (List.mem_of_mem_filter h)

theorem sets_cancelSwitch (n : Fin 8) (s : State) : Sets (FaultBook n) s (cancelSwitch n s) := by
  unfold cancelSwitch
  split
  · exact .refl
  next w _ =>
    have banks : Sets (FaultBook n) s
        ((pumpsIn s n 1 ++ pumpsIn s n 2).foldl (fun s m => s.setFld (R.PUMP_STATE n m) F.PUMP_STATE_BANK w.before) s) :=
      Sets.refl.foldl _ fun m hm u => by
        have small : m < 64 := (List.mem_append.mp hm).elim pumpsIn_lt pumpsIn_lt
        exact Sets.refl.setFld (.bank small) _
    exact (((banks.setFld .active _).setFld .pending _).of_regs).raise1 .cancelled _

theorem sets_countWellFault (n : Fin 8) (s : State) : Sets (FaultBook n) s (countWellFault n s) := by
  unfold countWellFault
  dsimp only
  split
  · exact (Sets.of_regs .refl).trans (sets_regionFault n .line _ _ _ _ _)
  · exact Sets.of_regs .refl

theorem sets_wellFault (n : Fin 8) (mech : WellMech) (s : State) : Sets (FaultBook n) s (wellFault n mech s) := by
  have recorded : Sets (FaultBook n) s (recordWellFault n mech s) := (Sets.of_regs .refl).journalFault _ _
  unfold wellFault
  dsimp only
  split
  · exact recorded
  · split
    · split
      · exact recorded
      · exact recorded.trans (sets_countWellFault n _)
    · exact ((recorded.trans (sets_cancelSwitch n _)).of_regs).trans (sets_countWellFault n _)

theorem sets_moveRepick (n : Fin 8) (s : State) : Sets (FaultBook n) s (moveRepick n s) := by
  have skipped : Sets (FaultBook n) s ((cancelMove n s).setFld (R.WELL_STATUS n) F.WELL_STATUS_ROT_STOPPED 1) :=
    (Sets.of_regs .refl).setFld .stopped _
  unfold moveRepick
  split
  · exact .refl
  · dsimp only
    split
    · exact .refl
    · split
      · split
        · exact Sets.of_regs .refl
        · exact skipped
      · exact skipped

theorem Sets.pool {n : Fin 8} (h : Sets (FaultBook n) s t) : Sets (FaultBook n) s (poolFollow n t) :=
  h.trans ((sets_poolFollow n t).mono fun _ _ => .pool)

theorem sets_awaitTakeover (n : Fin 8) (v : Vacancy) (s : State) : Sets (FaultBook n) s (awaitTakeover n v s) := by
  unfold awaitTakeover
  split
  · exact sets_wellFault n _ s
  · exact ((Sets.of_regs .refl).trans (sets_moveRepick n _)).pool

theorem Sets.repair {n : Nat} (h : Sets (FaultBook n) s t) (r : RepairRec) : Sets (FaultBook n) s (addRepair r t) := by
  unfold addRepair
  split
  · exact h.of_regs.setFld (.repair _) _
  · exact h.setFld (.repair _) _

end Sys2Proof.Machine
end

section
/-!
PROOF. Pump faults and takeovers (R32, R33, R57, R58).
-/
namespace Sys2Proof.Machine

variable (s : State)

/-! ### What a fault's bookkeeping leaves -/

/-- No field of the bookkeeping is in a pump's window but BANK. -/
theorem misses_window {n m : Nat} {b : Nat} {g : Fld} (hb : b = R.PUMP_STATE n m ∧ (g.lo + g.w ≤ 4 ∨ 5 ≤ g.lo) ∨ b = R.PUMP_ERR n m) :
    Misses (FaultBook n) b g := by
  have range : 0x880000 + n * 0x100000 ≤ b := by unfold R.PUMP_STATE R.PUMP_ERR at hb; omega
  refine ⟨by unfold R.SAF_JNL_STATUS; omega, fun a f w => ?_⟩
  cases w with
  | pool w => cases w <;> exact .inl (by simp only [R.WELL_POOL, R.WELL_QUAR0, R.WELL_QUAR1, R.WELL_STATUS, R.WELL_IBANK]; omega)
  | bank _ =>
    rcases hb with ⟨rfl, away⟩ | rfl
    · refine .inr ⟨by unfold Fld.fits; decide, ?_⟩
      have lo : F.PUMP_STATE_BANK.lo = 4 := rfl
      have one : F.PUMP_STATE_BANK.w = 1 := rfl
      unfold Fld.apart
      omega
    · exact .inl (by unfold R.PUMP_STATE R.PUMP_ERR; omega)
  | active | pending => exact .inl (by unfold R.WELL_IBANK; omega)
  | cancelled | quarantine | stopped => exact .inl (by unfold R.WELL_STATUS; omega)
  | repair => exact .inl (by unfold R.BOOT_RPR_COUNT; omega)
  | region r => exact .inl (by have : r.idx.val < 5 := r.idx.isLt; unfold R.CHIP_RERR; omega)
  | chip => exact .inl (by unfold R.CHIP_FAULT_STATUS; omega)
  | doorbell _ small => exact .inl (by unfold R.MBX_DB_TOHOST; omega)

theorem misses_role {n m : Nat} : Misses (FaultBook n) (R.PUMP_STATE n m) F.PUMP_STATE_ROLE := misses_window (.inl ⟨rfl, by decide⟩)
theorem misses_quar {n m : Nat} : Misses (FaultBook n) (R.PUMP_STATE n m) F.PUMP_STATE_QUAR := misses_window (.inl ⟨rfl, by decide⟩)

/-- What a pump's fault sets beside its own PUMP_ERR. -/
inductive WindowBook (n : Nat) : Nat → Fld → Prop
  | fault {a : Nat} {f : Fld} : FaultBook n a f → WindowBook n a f
  | state (m : Nat) (f : Fld) : WindowBook n (R.PUMP_STATE n m) f
  | busy : WindowBook n (R.WELL_POOL n) F.WELL_POOL_TEST_BUSY

theorem misses_err {n m : Nat} (g : Fld) : Misses (WindowBook n) (R.PUMP_ERR n m) g := by
  obtain ⟨journal, book⟩ : Misses (FaultBook n) (R.PUMP_ERR n m) g := misses_window (m := m) (.inr rfl)
  refine ⟨journal, fun a f w => ?_⟩
  cases w with
  | fault w => exact book a f w
  | state => exact .inl (by unfold R.PUMP_STATE R.PUMP_ERR; omega)
  | busy => exact .inl (by unfold R.WELL_POOL R.PUMP_ERR; omega)

/-! ### Quarantine -/

variable (n : Fin 8) (m : Nat)

theorem noteSlack_regs : (noteSlack n m s).regs = s.regs := by
  unfold noteSlack
  dsimp only
  split <;> rfl

/-- The pump isolated and marked, before the pool's registers follow. -/
def marked : State := (isolatePump n m s).setFld (R.PUMP_STATE n m) F.PUMP_STATE_QUAR 1

theorem sets_marked {T : Nat → Fld → Prop} (h : ∀ f, T (R.PUMP_STATE n m) f) : Sets T s (marked s n m) :=
  ((Sets.of_regs .refl (noteSlack_regs s n m)).setFld (h _) _).setFld (h _) _

theorem role_marked : pumpRole (marked s n m) n m = 3 :=
  (State.fld_setFld_apart _ _ _ _ _ (by unfold Fld.fits; decide) (by unfold Fld.apart; decide)).trans
    (State.fld_setFld _ _ _ _ (by unfold Fld.fits; decide))

theorem quar_marked : pumpQuar (marked s n m) n m = true := by
  have set : (marked s n m).fld (R.PUMP_STATE n m) F.PUMP_STATE_QUAR = 1 := State.fld_setFld _ _ _ _ (by unfold Fld.fits; decide)
  rw [pumpQuar, State.flag, set]
  rfl

/-- After the marks a quarantine is bookkeeping. -/
theorem sets_quarantine (record : Bool) : Sets (FaultBook n) (marked s n m) (quarantine n m record s) := by
  have event : Sets (FaultBook n) (marked s n m) (wellEvent n F.WELL_STATUS_QUARANTINE 1 (poolFollow n (marked s n m))) :=
    Sets.refl.pool.raise1 .quarantine _
  unfold quarantine
  dsimp only
  split
  · exact event.repair _
  · exact event

/-! ### A pump's fault -/

/-- What happens after the quarantine: the slot waits for a takeover, or the pool follows. -/
theorem sets_afterQuarantine (t u : State) (h : Sets (FaultBook n) t u) (role : Nat) (v : Vacancy) :
    Sets (FaultBook n) t (if role = 1 ∨ role = 2 then awaitTakeover n v u
      else if role = 0 ∧ (pumpsIn u n 0).length < u.well[n].vacant.length then wellFault n .pumpNoReserve u
      else if role = 0 then poolFollow n (moveRepick n u) else u) := by
  split
  · exact h.trans (sets_awaitTakeover n _ u)
  · split
    · exact h.trans (sets_wellFault n _ u)
    · split
      · exact (h.trans (sets_moveRepick n u)).pool
      · exact h

/-- The state in which the pump is quarantined: no longer under test, and no party to a change of hands. -/
def withdrawn (c : PumpCause) (m : Fin 64) : State :=
  let t := s.raise1 (R.PUMP_ERR n m) c.fld (32 + 16 * n + 8)
  let t := if pumpRole t n m = 3 ∧ t.fld (R.WELL_POOL n) F.WELL_POOL_TEST_PUMP = m then endSlice n t else t
  if (t.well[n].move.map fun v => v.spare == m.val || v.victim == m.val) = some true then cancelMove n t else t

theorem sets_withdrawn (c : PumpCause) (m : Fin 64) :
    Sets (WindowBook n) (s.raise1 (R.PUMP_ERR n m) c.fld (32 + 16 * n + 8)) (withdrawn s n c m) := by
  generalize hs0 : s.raise1 (R.PUMP_ERR n m) c.fld (32 + 16 * n + 8) = s0
  have slice (t : State) (p : Prop) [Decidable p] : Sets (WindowBook n) t (if p then endSlice n t else t) := by
    split
    · exact Sets.refl.setFld .busy 0
    · exact .refl
  have moved (t : State) (h : Sets (WindowBook n) s0 t) (p : Prop) [Decidable p] : Sets (WindowBook n) s0 (if p then cancelMove n t else t) := by
    split
    · exact h.of_regs
    · exact h
  simp only [withdrawn, hs0]
  exact moved _ (slice _ _) _

/-- A fault of a pump of a well that restarts, or of one in quarantine, sets nothing more than its flag; of any other it is a quarantine and
bookkeeping. -/
theorem pumpFault_cases (m : Fin 64) (c : PumpCause) (blk : Nat) :
    let t := s.raise1 (R.PUMP_ERR n m) c.fld (32 + 16 * n + 8)
    (t.well[n].restarting = true ∨ pumpQuar t n m = true) ∧ (pumpFault n m c blk s).regs = t.regs ∨
      Sets (FaultBook n) (quarantine n m true (withdrawn s n c m)) (pumpFault n m c blk s) := by
  intro t
  have unfolded : pumpFault n m c blk s = if t.well[n].restarting then
      { t with well := vmod t.well n fun w => { w with deferred := w.deferred ++ [(m.val, c)] } }
    else if pumpQuar t n m then t
    else
      let u := quarantine n m true (withdrawn s n c m)
      if pumpRole t n m = 1 ∨ pumpRole t n m = 2 then
        awaitTakeover n { role := pumpRole t n m, slot := pumpSlot t n m, pump := m, start := blk } u
      else if pumpRole t n m = 0 ∧ (pumpsIn u n 0).length < u.well[n].vacant.length then wellFault n .pumpNoReserve u
      else if pumpRole t n m = 0 then poolFollow n (moveRepick n u) else u := rfl
  rw [unfolded]
  split
  next restarting => exact .inl ⟨.inl restarting, rfl⟩
  next =>
    split
    next quar => exact .inl ⟨.inr quar, rfl⟩
    next => exact .inr (sets_afterQuarantine n _ _ .refl _ _)

/-- The flag of the cause is set. -/
theorem flag_raised (c : PumpCause) (m : Fin 64) :
    (s.raise1 (R.PUMP_ERR n m) c.fld (32 + 16 * n + 8)).flag (R.PUMP_ERR n m) c.fld = true := by
  have journal : R.PUMP_ERR n m ≠ R.SAF_JNL_STATUS := (misses_err (n := n) (m := m) c.fld).1
  have fits : c.fld.fits := by cases c <;> (unfold Fld.fits; decide)
  exact s.flag_raise1 journal _ _ fits (by cases c <;> rfl)

theorem flag_pumpFault (m : Fin 64) (c : PumpCause) (blk : Nat) : (pumpFault n m c blk s).flag (R.PUMP_ERR n m) c.fld = true := by
  have raised := flag_raised s n c m
  rcases pumpFault_cases s n m c blk with ⟨-, same⟩ | after
  · simpa only [State.flag, State.fld, State.reg_of_regs same] using raised
  · have kept : Sets (WindowBook n) (s.raise1 (R.PUMP_ERR n m) c.fld (32 + 16 * n + 8)) (pumpFault n m c blk s) :=
      (sets_withdrawn s n c m).trans ((sets_marked _ n m (.state m)).trans
        ((sets_quarantine _ n m true).trans after |>.mono fun _ _ => .fault))
    exact (kept.flag (misses_err _)).trans raised

/-- Setting a pump's PUMP_ERR leaves every PUMP_STATE. -/
theorem quar_raise (m k : Nat) (f : Fld) (id : Nat) : pumpQuar (s.raise1 (R.PUMP_ERR n m) f id) n k = pumpQuar s n k := by
  have other : R.PUMP_STATE n k ≠ R.PUMP_ERR n m := by unfold R.PUMP_STATE R.PUMP_ERR; omega
  have journal : R.PUMP_STATE n k ≠ R.SAF_JNL_STATUS := by unfold R.PUMP_STATE R.SAF_JNL_STATUS; omega
  simp only [pumpQuar, State.flag, fld_raise1_ne s other journal]

/-- No register, no event and no journal entry is part of a well's own state. -/
theorem inert_well : InertAll (fun _ _ => True) State.well :=
  ⟨⟨fun _ _ _ _ _ => rfl, fun _ _ _ _ => rfl, fun _ => trivial, fun _ => trivial,
    fun _ _ _ => rfl, fun _ _ => rfl, fun _ _ => rfl, fun _ _ _ => rfl, fun _ _ _ => rfl⟩, fun _ _ => rfl⟩

/-- A pump that was not in quarantine, of a well that does not restart, is isolated and marked. -/
theorem quarantined_pumpFault (m : Fin 64) (c : PumpCause) (blk : Nat) (working : s.well[n].restarting = false) (sound : pumpQuar s n m = false) :
    pumpQuar (pumpFault n m c blk s) n m = true ∧ pumpRole (pumpFault n m c blk s) n m = 3 := by
  rcases pumpFault_cases s n m c blk with ⟨excused, -⟩ | after
  · rw [inert_well.raise1 s trivial, quar_raise, working, sound] at excused
    simp at excused
  · have kept := (sets_quarantine (withdrawn s n c m) n m true).trans after
    exact ⟨(kept.flag misses_quar).trans (quar_marked _ n m), (kept.fld misses_role).trans (role_marked _ n m)⟩

/-! ### A takeover -/

theorem bankFollow_well : (bankFollow n s).well = s.well := foldl_keeps s State.well (fun t k => by split <;> rfl) _
theorem poolFollow_well : (poolFollow n s).well = s.well := (bankFollow_well _ n).trans rfl

theorem vacant_modPump (g : PumpMem → PumpMem) : (modPump n m g s).well[n].vacant = s.well[n].vacant := by
  simp only [modPump, vmod_same]

theorem misses_pool_state {n m : Nat} (g : Fld) : Misses (PoolBook n) (R.PUMP_STATE n m) g :=
  ⟨by unfold R.PUMP_STATE R.SAF_JNL_STATUS; omega, fun a f w => by
    cases w <;> exact .inl (by simp only [R.PUMP_STATE, R.WELL_POOL, R.WELL_QUAR0, R.WELL_QUAR1, R.WELL_STATUS, R.WELL_IBANK]; omega)⟩

/-- The spare gets the slot's role and number, and the slot no longer waits. -/
theorem pumpTakeover_some {v : Vacancy} {rest : List Vacancy} {l : List Nat} (waits : s.well[n].vacant = v :: rest) (spare : spares s n = m :: l)
    (role : v.role ≤ 3) (slot : v.slot < 64) :
    pumpRole (pumpTakeover n s) n m = v.role ∧ (pumpTakeover n s).fld (R.PUMP_STATE n m) F.PUMP_STATE_SLOT = v.slot ∧
      (pumpTakeover n s).well[n].vacant = rest ∧ (pumpTakeover n s).flag (R.WELL_STATUS n) F.WELL_STATUS_TAKEOVER = true := by
  obtain ⟨t, ht⟩ : ∃ t : State, t = { s with well := vmod s.well n fun w => { w with vacant := rest } } := ⟨_, rfl⟩
  obtain ⟨u, hu⟩ : ∃ u : State, u = poolFollow n (bindPump n m v t) := ⟨_, rfl⟩
  have run : pumpTakeover n s = (wellEvent n F.WELL_STATUS_TAKEOVER 0 u).addSat (R.WELL_CNT n) F.WELL_CNT_TAKEOVERS 1 := by
    simp only [pumpTakeover, waits, spare, hu, ht]
  have otherCnt (b : Nat) (hb : b = R.PUMP_STATE n m ∨ b = R.WELL_STATUS n) : b ≠ R.WELL_CNT n := by
    unfold R.PUMP_STATE R.WELL_STATUS at hb; unfold R.WELL_CNT; omega
  have window (f : Fld) : (pumpTakeover n s).fld (R.PUMP_STATE n m) f = (bindPump n m v t).fld (R.PUMP_STATE n m) f := by
    have status : R.PUMP_STATE n m ≠ R.WELL_STATUS n := by unfold R.PUMP_STATE R.WELL_STATUS; omega
    rw [run, State.addSat, State.fld_setFld_ne _ (otherCnt _ (.inl rfl)), wellEvent, fld_raise1_ne _ status (misses_pool_state f).1, hu]
    exact (sets_poolFollow n _).fld (misses_pool_state f)
  refine ⟨?_, ?_, ?_, ?_⟩
  · refine (window _).trans ?_
    have bound : (bindPump n m v t).fld (R.PUMP_STATE n m) F.PUMP_STATE_ROLE = v.role % 2 ^ 2 :=
      (State.fld_setFld_apart _ _ _ _ _ (by unfold Fld.fits; decide) (by unfold Fld.apart; decide)).trans
        ((State.fld_setFld_apart _ _ _ _ _ (by unfold Fld.fits; decide) (by unfold Fld.apart; decide)).trans
          (State.fld_setFld _ _ _ _ (by unfold Fld.fits; decide)))
    omega
  · refine (window _).trans ?_
    have bound : (bindPump n m v t).fld (R.PUMP_STATE n m) F.PUMP_STATE_SLOT = v.slot % 2 ^ 6 :=
      (State.fld_setFld_apart _ _ _ _ _ (by unfold Fld.fits; decide) (by unfold Fld.apart; decide)).trans
        (State.fld_setFld _ _ _ _ (by unfold Fld.fits; decide))
    omega
  · have well : (pumpTakeover n s).well = (bindPump n m v t).well := by
      rw [run]
      exact (inert_well.raise1 u trivial _).trans (hu ▸ poolFollow_well _ n)
    have bound : (bindPump n m v t).well[n].vacant = t.well[n].vacant := vacant_modPump _ n m _
    rw [well, bound, ht, vmod_same]
  · have journal : R.WELL_STATUS n ≠ R.SAF_JNL_STATUS := by unfold R.WELL_STATUS R.SAF_JNL_STATUS; omega
    have raised : (wellEvent n F.WELL_STATUS_TAKEOVER 0 u).flag (R.WELL_STATUS n) F.WELL_STATUS_TAKEOVER = true :=
      u.flag_raise1 journal _ _ (by unfold Fld.fits; decide) rfl
    simpa only [run, State.flag, State.addSat, State.fld_setFld_ne _ (otherCnt _ (.inr rfl))] using raised

/-- Settles O10: of what follows the quarantine nothing writes a PUMP_ERR, a role or a mark of quarantine. -/
theorem pumpFaultsQuarantineAndTakeOver : Obligations.PumpFaultsQuarantineAndTakeOver := by
  intro s n running
  refine ⟨fun m c blk => ?_, fun m blk working => ?_, fun m blk notRx notTx => ?_, fun v rest m l waits spare role slot => ?_⟩
  · exact ⟨_, completes_of_outcome s (g := pumpFault n m c blk) rfl running, flag_pumpFault s n m c blk, quarantined_pumpFault s n m c blk⟩
  · refine ⟨_, completes_of_outcome s (g := slotMissed n m blk) rfl running, ?_⟩
    rw [slotMissed, if_pos working]
    exact flag_pumpFault _ n m .deadline blk
  · have run := completes_of_outcome s (c := .blockSlotEnd n m blk) (g := slotMissed n m blk) rfl running
    rwa [slotMissed, if_neg (by simp [notRx, notTx])] at run
  · exact ⟨_, completes_of_outcome s (g := pumpTakeover n) rfl running, pumpTakeover_some s n m waits spare role slot⟩

end Sys2Proof.Machine
end

section
/-!
PROOF. Rotation steps and test slices (R56, R59, R372 to R374).
-/
namespace Sys2Proof.Machine

variable (s : State) (n : Fin 8) (m : Nat)

/-! ### What a slice sets -/

/-- What a verdict on a pump sets. -/
inductive VerdictBook (n : Nat) : Nat → Fld → Prop
  | fault {a : Nat} {f : Fld} : FaultBook n a f → VerdictBook n a f
  | state (m : Nat) (f : Fld) : VerdictBook n (R.PUMP_STATE n m) f
  | err (m : Nat) (f : Fld) : VerdictBook n (R.PUMP_ERR n m) f

/-- What the end of a slice sets beside the well's TEST_BUSY and TEST_PUMP. -/
inductive SliceBook (n : Nat) : Nat → Fld → Prop
  | verdict {a : Nat} {f : Fld} : VerdictBook n a f → SliceBook n a f
  | result (f : Fld) : SliceBook n R.SAF_LBIST_STATUS f

/-- The fields of WELL_POOL that no pump window determines. -/
theorem misses_pool_test {g : Fld} (h : g.lo = 16 ∧ g.w = 6 ∨ g.lo = 22 ∧ g.w = 1) : Misses (PoolBook n) (R.WELL_POOL n) g := by
  refine ⟨by unfold R.WELL_POOL R.SAF_JNL_STATUS; omega, fun a f w => ?_⟩
  cases w with
  | rx | tx | spares | quarantined =>
    refine .inr ⟨by unfold Fld.fits; decide, ?_⟩
    simp only [Fld.apart, F.WELL_POOL_RX_WORKING, F.WELL_POOL_TX_WORKING, F.WELL_POOL_SPARES, F.WELL_POOL_QUAR_COUNT]
    omega
  | quar0 => exact .inl (by unfold R.WELL_POOL R.WELL_QUAR0; omega)
  | quar1 => exact .inl (by unfold R.WELL_POOL R.WELL_QUAR1; omega)
  | reduced => exact .inl (by unfold R.WELL_POOL R.WELL_STATUS; omega)
  | valid => exact .inl (by unfold R.WELL_POOL R.WELL_IBANK; omega)

theorem misses_busy : Misses (SliceBook n) (R.WELL_POOL n) F.WELL_POOL_TEST_BUSY := by
  obtain ⟨journal, pool⟩ := misses_pool_test n (g := F.WELL_POOL_TEST_BUSY) (.inr (by decide))
  refine ⟨journal, fun a f w => ?_⟩
  unfold R.WELL_POOL at pool ⊢
  cases w with
  | verdict w =>
    cases w with
    | fault w =>
      cases w with
      | pool w => exact pool a f w
      | bank => exact .inl (by unfold R.PUMP_STATE; omega)
      | active | pending => exact .inl (by unfold R.WELL_IBANK; omega)
      | cancelled | quarantine | stopped => exact .inl (by unfold R.WELL_STATUS; omega)
      | repair => exact .inl (by unfold R.BOOT_RPR_COUNT; omega)
      | region r => exact .inl (by have : r.idx.val < 5 := r.idx.isLt; unfold R.CHIP_RERR; omega)
      | chip => exact .inl (by unfold R.CHIP_FAULT_STATUS; omega)
      | doorbell _ small => exact .inl (by unfold R.MBX_DB_TOHOST; omega)
    | state => exact .inl (by unfold R.PUMP_STATE; omega)
    | err => exact .inl (by unfold R.PUMP_ERR; omega)
  | result => exact .inl (by unfold R.SAF_LBIST_STATUS; omega)

/-- A verdict writes no result's register. -/
theorem misses_result (g : Fld) : Misses (VerdictBook n) R.SAF_LBIST_STATUS g := by
  refine ⟨by decide, fun a f w => .inl ?_⟩
  unfold R.SAF_LBIST_STATUS
  cases w with
  | fault w =>
    cases w with
    | pool w => cases w <;> (simp only [R.WELL_POOL, R.WELL_QUAR0, R.WELL_QUAR1, R.WELL_STATUS, R.WELL_IBANK]; omega)
    | bank => unfold R.PUMP_STATE; omega
    | active | pending => unfold R.WELL_IBANK; omega
    | cancelled | quarantine | stopped => unfold R.WELL_STATUS; omega
    | repair => decide
    | region r => have : r.idx.val < 5 := r.idx.isLt; unfold R.CHIP_RERR; omega
    | chip => decide
    | doorbell _ small => unfold R.MBX_DB_TOHOST; omega
  | state => unfold R.PUMP_STATE; omega
  | err => unfold R.PUMP_ERR; omega

theorem fld_b2n {a : Nat} {f : Fld} (fits : f.fits) (one : f.w = 1) (b : Bool) : (s.setFld a f (b2n b)).flag a f = b := by
  rw [State.flag, s.fld_setFld _ _ _ fits, one]
  cases b <;> rfl

theorem busy_endSlice : testBusy (endSlice n s) n = false := fld_b2n s (by unfold Fld.fits; decide) rfl false

/-! ### A slice begins -/

/-- The pump is isolated and under test. -/
theorem startSlice_tests (small : m < 64) : testBusy (startSlice n m s) n = true ∧
    (startSlice n m s).fld (R.WELL_POOL n) F.WELL_POOL_TEST_PUMP = m ∧ pumpRole (startSlice n m s) n m = 3 := by
  obtain ⟨t, ht⟩ : ∃ t : State, t = (((isolatePump n m s).setFld (R.WELL_POOL n) F.WELL_POOL_TEST_PUMP m).setFld (R.WELL_POOL n)
    F.WELL_POOL_TEST_BUSY 1).setFld (R.WELL_STATUS n) F.WELL_STATUS_ROT_STOPPED 0 := ⟨_, rfl⟩
  have after : Sets (PoolBook n) t (startSlice n m s) :=
    ht ▸ (Sets.of_regs .refl : Sets (PoolBook n) _ _).trans (sets_poolFollow n _)
  have status : R.WELL_POOL n ≠ R.WELL_STATUS n := by unfold R.WELL_POOL R.WELL_STATUS; omega
  refine ⟨?_, ?_, ?_⟩
  · refine (after.flag (misses_pool_test n (.inr (by decide)))).trans ?_
    rw [ht, State.flag, State.fld_setFld_ne _ status]
    exact fld_b2n _ (by unfold Fld.fits; decide) rfl true
  · refine (after.fld (misses_pool_test n (.inl (by decide)))).trans ?_
    rw [ht, State.fld_setFld_ne _ status, State.fld_setFld_apart _ _ _ _ _ (by unfold Fld.fits; decide) (by unfold Fld.apart; decide),
      State.fld_setFld _ _ _ _ (by unfold Fld.fits; decide)]
    exact Nat.mod_eq_of_lt small
  · refine (after.fld (misses_pool_state _)).trans ?_
    have window : R.PUMP_STATE n m ≠ R.WELL_STATUS n ∧ R.PUMP_STATE n m ≠ R.WELL_POOL n := by
      unfold R.PUMP_STATE R.WELL_STATUS R.WELL_POOL; omega
    rw [ht, State.fld_setFld_ne _ window.1, State.fld_setFld_ne _ window.2, State.fld_setFld_ne _ window.2]
    exact State.fld_setFld _ _ _ _ (by unfold Fld.fits; decide)

/-- A step that is due tests the pump that waits for its re-test. -/
theorem rotationStep_retest {l : List Nat} (due : s.well[n].rotDue = true) (still : s.well[n].move = none)
    (enabled : s.flag (R.WELL_ROT_CFG n) F.WELL_ROT_CFG_ROT_EN = true) (idle : testBusy s n = false) (working : s.well[n].restarting = false)
    (waits : s.well[n].retest = m :: l) :
    rotationStep n s = startSlice n m { s with well := vmod s.well n fun w => { w with rotDue := false } } := by
  have flags (t : State) (h : t.regs = s.regs) : t.flag (R.WELL_ROT_CFG n) F.WELL_ROT_CFG_ROT_EN = true ∧ testBusy t n = false := by
    simp only [testBusy, State.flag, State.fld, State.reg_of_regs h] at enabled idle ⊢
    exact ⟨enabled, idle⟩
  obtain ⟨en, busy⟩ := flags { s with well := vmod s.well n fun w => { w with rotDue := false } } rfl
  simp only [rotationStep, due, en, busy, vmod_same, working, still, waits, Bool.not_true, Option.isSome_none, Bool.or_self, Bool.false_eq_true,
    if_false]

/-! ### A slice ends -/

theorem sets_pumpToSpare (untested restored : Bool) : Sets (VerdictBook n) s (pumpToSpare n m untested restored s) :=
  Sets.of_regs ((((Sets.refl.setFld (.state m _) _).setFld (.state m _) _).setFld (.state m _) _).setFld (.state m _) _)

theorem Sets.verdictPool {n : Fin 8} {s t : State} (h : Sets (VerdictBook n) s t) : Sets (VerdictBook n) s (poolFollow n t) :=
  h.trans ((sets_poolFollow n t).mono fun _ _ => .fault ∘ .pool)

theorem sets_verdictQuarantine (record : Bool) : Sets (VerdictBook n) s (quarantine n m record s) :=
  (sets_marked s n m (.state m)).trans ((sets_quarantine s n m record).mono fun _ _ => .fault)

theorem Sets.slice {n : Fin 8} {s t : State} (h : Sets (VerdictBook n) s t) : Sets (SliceBook n) s t := h.mono fun _ _ => .verdict

/-- A passed pump: a spare, tested, with no mark of quarantine. -/
def passed (saved : Bool) : State :=
  ((pumpToSpare n m false saved s).setFld (R.PUMP_STATE n m) F.PUMP_STATE_QUAR 0).setFld (R.PUMP_STATE n m) F.PUMP_STATE_TEST_PASS 1

/-- What the end of a slice does to the pool's and the results' registers, and no pump's window. -/
inductive ResultBook (n : Nat) : Nat → Fld → Prop
  | fault {a : Nat} {f : Fld} : FaultBook n a f → ResultBook n a f
  | result (f : Fld) : ResultBook n R.SAF_LBIST_STATUS f

theorem misses_result_window {g : Fld} (h : g.lo + g.w ≤ 4 ∨ 5 ≤ g.lo) : Misses (ResultBook n) (R.PUMP_STATE n m) g := by
  obtain ⟨journal, book⟩ : Misses (FaultBook n) (R.PUMP_STATE n m) g := misses_window (.inl ⟨rfl, h⟩)
  refine ⟨journal, fun a f w => ?_⟩
  cases w with
  | fault w => exact book a f w
  | result => exact .inl (by unfold R.PUMP_STATE R.SAF_LBIST_STATUS; omega)

theorem sets_slicePass (saved : Bool) : Sets (ResultBook n) (passed s n m saved) (slicePass n m saved s) := by
  have counted : Sets (ResultBook n) (passed s n m saved)
      (poolFollow n ((passed s n m saved).addWrap R.SAF_LBIST_STATUS F.SAF_LBIST_STATUS_PASSES 1)) :=
    (Sets.refl.addWrap (.result _) 1).trans ((sets_poolFollow n _).mono fun _ _ => .fault ∘ .pool)
  have recorded (t : State) : Sets (ResultBook n) t (addRepair { typ := 3, unit := n, loc := m } t) :=
    (Sets.refl.repair _).mono fun _ _ => .fault
  unfold slicePass
  dsimp only
  split
  · exact counted.trans (recorded _)
  · exact counted

theorem slicePass_spare (saved : Bool) : pumpRole (slicePass n m saved s) n m = 0 ∧ pumpQuar (slicePass n m saved s) n m = false ∧
    (slicePass n m saved s).flag (R.PUMP_STATE n m) F.PUMP_STATE_TEST_PASS = true := by
  have after := sets_slicePass s n m saved
  have apart (t : State) (f g : Fld) (x : Nat) (fits : f.fits) (away : f.apart g) :
      (t.setFld (R.PUMP_STATE n m) f x).fld (R.PUMP_STATE n m) g = t.fld (R.PUMP_STATE n m) g := t.fld_setFld_apart _ f g x fits away
  have spare : pumpRole (pumpToSpare n m false saved s) n m = 0 := by
    refine (apart _ F.PUMP_STATE_UNTESTED _ _ (by unfold Fld.fits; decide) (by unfold Fld.apart; decide)).trans ?_
    rw [apart _ F.PUMP_STATE_BANK _ _ (by unfold Fld.fits; decide) (by unfold Fld.apart; decide),
      apart _ F.PUMP_STATE_SLOT _ _ (by unfold Fld.fits; decide) (by unfold Fld.apart; decide)]
    exact State.fld_setFld _ _ _ _ (by unfold Fld.fits; decide)
  refine ⟨?_, ?_, ?_⟩
  · refine (after.fld (misses_result_window n m (by decide))).trans ?_
    rw [passed, apart _ F.PUMP_STATE_TEST_PASS _ _ (by unfold Fld.fits; decide) (by unfold Fld.apart; decide),
      apart _ F.PUMP_STATE_QUAR _ _ (by unfold Fld.fits; decide) (by unfold Fld.apart; decide)]
    exact spare
  · refine (after.flag (misses_result_window n m (by decide))).trans ?_
    rw [passed, State.flag, apart _ F.PUMP_STATE_TEST_PASS _ _ (by unfold Fld.fits; decide) (by unfold Fld.apart; decide)]
    exact fld_b2n _ (by unfold Fld.fits; decide) rfl false
  · exact (after.flag (misses_result_window n m (by decide))).trans (fld_b2n _ (by unfold Fld.fits; decide) rfl true)

/-- The slice counts as failed, before the quarantine. -/
def failed : State :=
  ((s.setFld (R.PUMP_STATE n m) F.PUMP_STATE_TEST_PASS 0).raise1 R.SAF_LBIST_STATUS F.SAF_LBIST_STATUS_SLICE_FAIL 400).addSat
    R.SAF_LBIST_STATUS F.SAF_LBIST_STATUS_FAILS 1

theorem flag_failed : (failed s n m).flag R.SAF_LBIST_STATUS F.SAF_LBIST_STATUS_SLICE_FAIL = true := by
  rw [failed, State.addSat, State.flag, State.fld_setFld_apart _ _ _ _ _ (by unfold Fld.fits; decide) (by unfold Fld.apart; decide)]
  exact State.flag_raise1 _ (by decide) _ _ (by unfold Fld.fits; decide) rfl

theorem sliceFail_marks (record : Bool) : pumpRole (sliceFail n m record s) n m = 3 ∧ pumpQuar (sliceFail n m record s) n m = true ∧
    (sliceFail n m record s).flag R.SAF_LBIST_STATUS F.SAF_LBIST_STATUS_SLICE_FAIL = true := by
  have after := sets_quarantine (failed s n m) n m record
  exact ⟨(after.fld misses_role).trans (role_marked _ n m), (after.flag misses_quar).trans (quar_marked _ n m),
    ((sets_verdictQuarantine (failed s n m) n m record).flag (misses_result n _)).trans (flag_failed s n m)⟩

theorem sets_failed : Sets (SliceBook n) s (failed s n m) :=
  ((Sets.refl.setFld (.verdict (.state m _)) _).raise1 (.result _) _).addSat (.result _) 1

/-- The end of a slice, with what the well kept for the pump gone. -/
def sliceEnded (g : WellSt → WellSt) : State := { endSlice n s with well := vmod s.well n g }

theorem busy_after {g : WellSt → WellSt} {u : State} (h : Sets (SliceBook n) (sliceEnded s n g) u) : testBusy u n = false :=
  (h.flag (misses_busy n)).trans (busy_endSlice s n)

theorem testSliceDone_pass (busy : testBusy s n = true) : let m := s.fld (R.WELL_POOL n) F.WELL_POOL_TEST_PUMP
    testBusy (testSliceDone n .pass s) n = false ∧ pumpRole (testSliceDone n .pass s) n m = 0 ∧ pumpQuar (testSliceDone n .pass s) n m = false ∧
      (testSliceDone n .pass s).flag (R.PUMP_STATE n m) F.PUMP_STATE_TEST_PASS = true := by
  intro m
  obtain ⟨g, saved, run⟩ : ∃ g saved, testSliceDone n .pass s = slicePass n m saved (sliceEnded s n g) := by
    rw [testSliceDone, busy]
    exact ⟨_, _, rfl⟩
  have spare : Sets (SliceBook n) (sliceEnded s n g) (passed (sliceEnded s n g) n m saved) :=
    (((sets_pumpToSpare _ n m false saved).setFld (.state m _) _).setFld (.state m _) _).slice
  have after : Sets (SliceBook n) (passed (sliceEnded s n g) n m saved) (slicePass n m saved (sliceEnded s n g)) :=
    (sets_slicePass _ n m saved).mono fun a f w => by
      cases w with
      | fault w => exact .verdict (.fault w)
      | result => exact .result _
  rw [run]
  exact ⟨busy_after s n (spare.trans after), slicePass_spare _ n m saved⟩

theorem testSliceDone_fail (busy : testBusy s n = true) : let m := s.fld (R.WELL_POOL n) F.WELL_POOL_TEST_PUMP
    testBusy (testSliceDone n .sigFail s) n = false ∧ pumpRole (testSliceDone n .sigFail s) n m = 3 ∧
      pumpQuar (testSliceDone n .sigFail s) n m = true ∧
      (testSliceDone n .sigFail s).flag R.SAF_LBIST_STATUS F.SAF_LBIST_STATUS_SLICE_FAIL = true := by
  intro m
  obtain ⟨g, run⟩ : ∃ g, testSliceDone n .sigFail s =
      sliceFail n m true ((sliceEnded s n g).raise1 (R.PUMP_ERR n m) F.PUMP_ERR_SIG (32 + 16 * n + 8)) := by
    rw [testSliceDone, busy]
    exact ⟨_, rfl⟩
  obtain ⟨t, ht⟩ : ∃ t, t = (sliceEnded s n g).raise1 (R.PUMP_ERR n m) F.PUMP_ERR_SIG (32 + 16 * n + 8) := ⟨_, rfl⟩
  have signature : Sets (SliceBook n) (sliceEnded s n g) t := ht ▸ (Sets.refl.raise1 (.err m _) _ : Sets (VerdictBook n) _ _).slice
  rw [run, ← ht]
  exact ⟨busy_after s n (signature.trans ((sets_failed t n m).trans (sets_verdictQuarantine _ n m true).slice)), sliceFail_marks t n m true⟩

/-- The slice counts as late. -/
def lateCounted : State :=
  ((endSlice n s).raise1 R.SAF_LBIST_STATUS F.SAF_LBIST_STATUS_SLICE_LATE 401).addSat R.SAF_LBIST_STATUS F.SAF_LBIST_STATUS_LATES 1

theorem flag_lateCounted : (lateCounted s n).flag R.SAF_LBIST_STATUS F.SAF_LBIST_STATUS_SLICE_LATE = true := by
  rw [lateCounted, State.addSat, State.flag, State.fld_setFld_apart _ _ _ _ _ (by unfold Fld.fits; decide) (by unfold Fld.apart; decide)]
  exact State.flag_raise1 _ (by decide) _ _ (by unfold Fld.fits; decide) rfl

/-- After a late slice the pump is quarantined, untested, or a spare. -/
theorem sets_testSliceTimeout (busy : testBusy s n = true) : Sets (VerdictBook n) (lateCounted s n) (testSliceTimeout n s) := by
  have verdict (t u : State) (h : Sets (VerdictBook n) t u) (m : Nat) (second : Bool) :
      Sets (VerdictBook n) t (if second then
          let s := u.raise1 (R.PUMP_ERR n m) F.PUMP_ERR_LATE2 (32 + 16 * n + 8)
          let s := { s with well := vmod s.well n fun w => { w with retest := w.retest.filter (· != m) } }
          quarantine n m true s
        else if pumpQuar u n m then u.setFld (R.PUMP_STATE n m) F.PUMP_STATE_UNTESTED 1
        else poolFollow n (pumpToSpare n m true false u)) := by
    split
    · exact (h.raise1 (.err m _) _).of_regs.trans (sets_verdictQuarantine _ n m true)
    · split
      · exact h.setFld (.state m _) 1
      · exact (h.trans (sets_pumpToSpare _ n m true false)).verdictPool
  simp only [testSliceTimeout, busy, Bool.not_true, Bool.false_eq_true, if_false]
  exact verdict _ _ (Sets.of_regs .refl) _ _

theorem testSliceTimeout_late (busy : testBusy s n = true) : testBusy (testSliceTimeout n s) n = false ∧
    (testSliceTimeout n s).flag R.SAF_LBIST_STATUS F.SAF_LBIST_STATUS_SLICE_LATE = true := by
  have after := sets_testSliceTimeout s n busy
  have counted : Sets (SliceBook n) (endSlice n s) (lateCounted s n) := (Sets.refl.raise1 (.result _) _).addSat (.result _) 1
  exact ⟨((counted.trans after.slice).flag (misses_busy n)).trans (busy_endSlice s n),
    (after.flag (misses_result n _)).trans (flag_lateCounted s n)⟩

/-! ### SAF_LBIST_CTRL (R373) -/

theorem cmd_withBit {f : Fld} (fits : f.fits) (one : f.w = 1) (w : Word) : cmd f (withBit f w) = true := by
  rw [cmd, withBit, get_put_same f w 1 fits, one]
  rfl

/-- GO names the pump of the register. -/
theorem accepted_lbist (o : Origin) (v : Word) :
    accepted o R.SAF_LBIST_CTRL (withBit F.SAF_LBIST_CTRL_GO v) s = lbistGo (stored o R.SAF_LBIST_CTRL (withBit F.SAF_LBIST_CTRL_GO v) s) := by
  have go := cmd_withBit (f := F.SAF_LBIST_CTRL_GO) (by unfold Fld.fits; decide) rfl v
  have none : arrIdx R.SAF_LBIST_CTRL (R.CHIP_SEM 0) 4 16 = none := by decide
  simp only [accepted, effects, none, show ¬ R.SAF_LBIST_CTRL < 0x10000 by decide, show ¬ R.SAF_LBIST_CTRL < 0x20000 by decide,
    show ¬ R.SAF_LBIST_CTRL < 0x30000 by decide, show ¬ R.SAF_LBIST_CTRL < 0x40000 by decide, show ¬ R.SAF_LBIST_CTRL < 0x50000 by decide,
    show R.SAF_LBIST_CTRL < 0x60000 by decide, if_true, if_false, effSaf, show R.SAF_LBIST_CTRL ≠ R.SAF_SG_REL by decide,
    show R.SAF_LBIST_CTRL ≠ R.SAF_SG3_CTRL by decide, show R.SAF_LBIST_CTRL ≠ R.SAF_WD_KICK by decide, when, go]

theorem flag_nak (h : pumpQuar s (s.fld R.SAF_LBIST_CTRL F.SAF_LBIST_CTRL_WELL % 8) (s.fld R.SAF_LBIST_CTRL F.SAF_LBIST_CTRL_PUMP) = true) :
    (lbistGo s).flag R.SAF_LBIST_CTRL F.SAF_LBIST_CTRL_NAK = true := by
  have quar : pumpQuar s (lane (s.fld R.SAF_LBIST_CTRL F.SAF_LBIST_CTRL_WELL)) (s.fld R.SAF_LBIST_CTRL F.SAF_LBIST_CTRL_PUMP) = true := h
  simp only [lbistGo, quar, if_true]
  exact fld_b2n s (by unfold Fld.fits; decide) rfl true

theorem named_lbistGo (h : pumpQuar s (s.fld R.SAF_LBIST_CTRL F.SAF_LBIST_CTRL_WELL % 8) (s.fld R.SAF_LBIST_CTRL F.SAF_LBIST_CTRL_PUMP) = false) :
    (lbistGo s).well[lane (s.fld R.SAF_LBIST_CTRL F.SAF_LBIST_CTRL_WELL)].named = some (s.fld R.SAF_LBIST_CTRL F.SAF_LBIST_CTRL_PUMP) := by
  have quar : pumpQuar s (lane (s.fld R.SAF_LBIST_CTRL F.SAF_LBIST_CTRL_WELL)) (s.fld R.SAF_LBIST_CTRL F.SAF_LBIST_CTRL_PUMP) = false := h
  simp only [lbistGo, quar, Bool.false_eq_true, if_false, vmod_same]

/-- Settles O15: each verdict sets its pump's window and the results, and what follows leaves them. -/
theorem testSlicesComplete : Obligations.TestSlicesComplete := by
  intro s n running
  refine ⟨fun notDue => ?_, fun m l due still enabled idle working waits small => ?_, fun busy => ⟨?_, ?_, ?_⟩, fun o v ok => ?_⟩
  · have run := completes_of_outcome s (c := .rotationStep n) (g := rotationStep n) rfl running
    rwa [rotationStep, notDue, Bool.not_false, if_pos rfl] at run
  · refine ⟨_, completes_of_outcome s (g := rotationStep n) rfl running, ?_⟩
    rw [rotationStep_retest s n m due still enabled idle working waits]
    exact startSlice_tests _ n m small
  · exact ⟨_, completes_of_outcome s (g := testSliceDone n .pass) rfl running, testSliceDone_pass s n busy⟩
  · exact ⟨_, completes_of_outcome s (g := testSliceDone n .sigFail) rfl running, testSliceDone_fail s n busy⟩
  · exact ⟨_, completes_of_outcome s (g := testSliceTimeout n) rfl running, testSliceTimeout_late s n busy⟩
  · refine ⟨completesWrite_of_ok s rfl ok, fun quar => ?_, fun free => ?_⟩
    · rw [accepted_lbist]
      exact flag_nak _ quar
    · rw [accepted_lbist]
      exact named_lbistGo _ free

end Sys2Proof.Machine
end

section
/-!
PROOF. Steps that leave the lane counters, the light and the blocks' records alone: what a failure does to the host side, the receive chain,
the atlas and the framing, with the fields of the registers that it sets.
-/
namespace Sys2Proof.Machine

variable {s t u : State}

/-! ### Calm steps -/

/-- The counters of a lane. -/
def LineSt.counts (l : LineSt) : Bool × Nat × Nat × Bool × Nat × Nat := (l.txRun, l.txCnt, l.txEpochs, l.rxRun, l.rxCnt, l.rxEpochs)

/-- From `s` to `t` only the fields `T` are set, and the blocks' records, the light and the lane counters stay. -/
structure Calm (T : Nat → Fld → Prop) (s t : State) : Prop where
  sets : Sets T s t
  blocks : t.blocks = s.blocks
  light : t.light = s.light
  counts : ∀ k : Fin 8, (t.line[k]).counts = (s.line[k]).counts

namespace Calm

variable {T : Nat → Fld → Prop}

theorem refl : Calm T s s := ⟨.refl, rfl, rfl, fun _ => rfl⟩

theorem trans (h : Calm T s t) (g : Calm T t u) : Calm T s u :=
  ⟨h.sets.trans g.sets, g.blocks.trans h.blocks, g.light.trans h.light, fun k => (g.counts k).trans (h.counts k)⟩

theorem mono {T' : Nat → Fld → Prop} (h : Calm T s t) (sub : ∀ a f, T a f → T' a f) : Calm T' s t :=
  ⟨h.sets.mono sub, h.blocks, h.light, h.counts⟩

/-- A change of another unit. -/
theorem unit (h : Calm T s t) (regs : u.regs = t.regs := by rfl) (blocks : u.blocks = t.blocks := by rfl) (light : u.light = t.light := by rfl)
    (line : u.line = t.line := by rfl) : Calm T s u :=
  ⟨h.sets.of_regs regs, blocks.trans h.blocks, light.trans h.light, fun k => by rw [line]; exact h.counts k⟩

theorem setFld (h : Calm T s t) {a : Nat} {f : Fld} (w : T a f) (x : Nat) : Calm T s (t.setFld a f x) :=
  ⟨h.sets.setFld w x, h.blocks, h.light, h.counts⟩

theorem setReg (h : Calm T s t) {a : Nat} (w : ∀ f, T a f) (x : Word) : Calm T s (t.setReg a x) :=
  ⟨h.sets.setReg w x, h.blocks, h.light, h.counts⟩

theorem addSat (h : Calm T s t) {a : Nat} {f : Fld} (w : T a f) (x : Nat) : Calm T s (t.addSat a f x) := h.setFld w _

theorem journalAt (h : Calm T s t) (src c p : Nat) : Calm T s (t.journalAt src c p) := by
  have same : (t.journalAt src c p).blocks = t.blocks ∧ (t.journalAt src c p).light = t.light ∧ (t.journalAt src c p).line = t.line := by
    unfold State.journalAt
    split
    · exact ⟨rfl, rfl, rfl⟩
    · dsimp only
      split
      · exact ⟨rfl, rfl, rfl⟩
      · split <;> exact ⟨rfl, rfl, rfl⟩
  obtain ⟨blocks, light, line⟩ := same
  exact ⟨h.sets.journalAt _ _ _, blocks.trans h.blocks, light.trans h.light, fun k => by rw [line]; exact h.counts k⟩

theorem raise (h : Calm T s t) {a : Nat} {f : Fld} (w : T a f) (bits id : Nat) : Calm T s (t.raise a f bits id) := by
  unfold State.raise
  dsimp only
  split
  · exact h.setFld w _
  · exact (h.setFld w _).journalAt _ _ _

theorem raise1 (h : Calm T s t) {a : Nat} {f : Fld} (w : T a f) (id : Nat) : Calm T s (t.raise1 a f id) := h.raise w 1 id

theorem ite (h : Calm T s t) (g : Calm T s u) (c : Prop) [Decidable c] : Calm T s (if c then t else u) := by
  split
  · exact h
  · exact g

theorem foldl {α : Type} {g : State → α → State} (h : Calm T s t) (l : List α) (step : ∀ x ∈ l, ∀ u, Calm T u (g u x)) :
    Calm T s (l.foldl g t) := by
  induction l generalizing t with
  | nil => exact h
  | cons x l ih =>
    exact ih (h.trans (step x List.mem_cons_self t)) fun y hy => step y (List.mem_cons_of_mem _ hy)

theorem forLanes {g : Fin 8 → State → State} (h : Calm T s t) (step : ∀ n u, Calm T u (g n u)) : Calm T s (forLanes g t) :=
  h.foldl _ fun n _ u => step n u

/-- A change of a lane that keeps its counters. -/
theorem modLine (h : Calm T s t) (n : Fin 8) {g : LineSt → LineSt} (keeps : ∀ l, (g l).counts = l.counts) : Calm T s (modLine n g t) :=
  h.trans ⟨.of_regs .refl, rfl, rfl, fun k => by
    by_cases e : k = n
    · subst e
      rw [modLine_line, vmod_same, keeps]
    · rw [modLine_line, vmod_ne _ e]⟩

end Calm

/-! ### The host side (R176, R184) -/

/-- Registers of the host lanes and above, of FEC, seep, atlas and cistern, and the steering's flag. -/
inductive OuterBook : Nat → Fld → Prop
  | host {a : Nat} {f : Fld} : 0x200000 ≤ a → a < 0x400000 → OuterBook a f
  | steer (k : Fin 8) : OuterBook (R.LINE_PLL_STATUS k) F.LINE_PLL_STATUS_STEER_HOLD
  | high {a : Nat} {f : Fld} : 0x1000000 ≤ a → OuterBook a f

theorem outer_lane {n : Nat} (small : n < 8) (f : Fld) : OuterBook (R.HOST_LN_STATUS n) f := .host (by unfold R.HOST_LN_STATUS; omega) (by unfold R.HOST_LN_STATUS; omega)

theorem freshList_length (w k : Nat) (s : State) : (freshList w k s).1.length = k := by
  induction k generalizing s with
  | zero => rfl
  | succ k ih => simp [freshList, ih]

theorem calm_freshList {T : Nat → Fld → Prop} (w k : Nat) (s : State) : Calm T s (freshList w k s).2 := by
  induction k generalizing s with
  | zero => exact .refl
  | succ k ih => exact Calm.unit .refl |>.trans (ih (s.fresh w).2)

theorem calm_steerFollow (s : State) : Calm OuterBook s (steerFollow s) :=
  Calm.refl.forLanes fun n u => by
    refine Calm.setFld (t := modLine n _ u) ?_ (OuterBook.steer n) _
    exact Calm.refl.modLine n fun _ => rfl

theorem calm_hostTxFollow (s : State) : Calm OuterBook s (hostTxFollow s) :=
  Calm.refl.forLanes fun i u => by
    dsimp only
    split <;> exact .unit .refl

theorem calm_monRestart (p : Fin 8) (d : Fin 2) (s : State) : Calm OuterBook s (monRestart p d s) := .unit .refl

theorem calm_monLose (p : Fin 8) (d : Fin 2) (s : State) : Calm OuterBook s (monLose p d s) := by
  have mon (f : Fld) : OuterBook (R.HOST_MON_STATUS p d) f := .host (by unfold R.HOST_MON_STATUS; omega) (by unfold R.HOST_MON_STATUS; omega)
  have lost : Calm OuterBook s (((s.setFld (R.HOST_MON_STATUS p d) F.HOST_MON_STATUS_LOCK 0).raise1 (R.HOST_MON_STATUS p d)
      F.HOST_MON_STATUS_LOCK_LOSS (344 + 2 * p + d)).addSat (R.HOST_MON_STATUS p d) F.HOST_MON_STATUS_LOSS_COUNT 1) :=
    ((Calm.refl.setFld (mon _) 0).raise1 (mon _) _).addSat (mon _) 1
  have emptied (t : State) : Calm OuterBook t (monEmpty p d t) :=
    (Calm.unit .refl).foldl _ fun _ _ _ => .unit .refl
  unfold monLose
  split
  · exact .refl
  · exact (lost.trans (calm_monRestart p d _)).trans (emptied _)

theorem calm_hostFollow (s : State) : Calm OuterBook s (hostFollow s) := by
  have failures : Calm OuterBook s (forLanes (fun i u => { u with host := { u.host with
      fill := u.host.fill.set i (!hostDelivers u i || (decide (profileEff s = .deep) && u.host.fill[i])),
      fail := u.host.fail.set i (lineLost u i || u.host.fail[i]) } }) s) := Calm.refl.forLanes fun _ _ => .unit .refl
  have monitors (t : State) : Calm OuterBook t ((List.finRange 8).foldl (fun s (p : Fin 8) => (List.finRange 2).foldl (fun s (d : Fin 2) =>
      if !portExists s p || portFails s p d then (if monLocked s p d then monLose p d s else monRestart p d s) else s) s) t) :=
    Calm.refl.foldl _ fun p _ u => Calm.refl.foldl _ fun d _ w => by
      split
      · exact (calm_monLose p d w).ite (calm_monRestart p d w) _
      · exact .refl
  exact ((failures.trans (monitors _)).trans (calm_steerFollow _)).trans (calm_hostTxFollow _)

/-! ### A host lane's receiver -/

theorem outer_of_lane {a : Nat} (h : 0x200000 ≤ a ∧ a < 0x300000) (f : Fld) : OuterBook a f := .host h.1 (by omega)

theorem calm_hostFom (n : Fin 8) (c : Bool) (s : State) : Calm OuterBook s (if c then
    let (v, s) := s.fresh 8
    s.setFld (R.HOST_LN_FOM n) F.HOST_LN_FOM_FOM v else s) := by
  have fresh : Calm OuterBook s (s.fresh 8).2 := .unit .refl
  split
  · exact fresh.setFld (outer_of_lane (by unfold R.HOST_LN_FOM; omega) _) _
  · exact .refl

theorem calm_hostTaps (n : Fin 8) (c : Bool) (s : State) : Calm OuterBook s (if c then
    let (l, s) := freshList 32 6 s
    l.zipIdx.foldl (fun s p => s.setReg (R.HOST_LN_FFE n p.2) (word p.1)) s else s) := by
  have fresh : Calm OuterBook s (freshList 32 6 s).2 := calm_freshList 32 6 s
  have length := freshList_length 32 6 s
  generalize freshList 32 6 s = values at fresh length ⊢
  obtain ⟨l, t⟩ := values
  split
  · refine fresh.foldl _ fun p hp u => Calm.refl.setReg (fun f => outer_of_lane ?_ f) _
    have small := List.snd_lt_of_mem_zipIdx hp
    unfold R.HOST_LN_FFE
    dsimp only at length
    omega
  · exact .refl

theorem calm_hostPrbs (n : Fin 8) (c : Prop) [Decidable c] (s : State) : Calm OuterBook s (if c then
    let (v, s) := s.fresh 32
    s.setReg (R.HOST_LN_PRBS n) (word ((s.reg (R.HOST_LN_PRBS n)).toNat + v)) else s) := by
  have fresh : Calm OuterBook s (s.fresh 32).2 := .unit .refl
  split
  · exact fresh.setReg (outer_of_lane (by unfold R.HOST_LN_PRBS; omega)) _
  · exact .refl

theorem calm_hostMeasure (n : Fin 8) (s : State) : Calm OuterBook s (hostMeasure n s) := by
  have begun : Calm OuterBook s (modHost n (fun l => { l with measAt := s.now }) s) := .unit .refl
  exact Calm.ite .refl (((begun.trans (calm_hostFom n _ _)).trans (calm_hostTaps n _ _)).trans (calm_hostPrbs n _ _)) _

theorem calm_hostTo (n : Fin 8) (v : Nat) (s : State) : Calm OuterBook s (hostTo n v s) := by
  have fom (f : Fld) : OuterBook (R.HOST_LN_FOM n) f := .host (by unfold R.HOST_LN_FOM; omega) (by unfold R.HOST_LN_FOM; omega)
  have left : Calm OuterBook s (leaveActive n s) := by
    unfold leaveActive
    split
    · exact Calm.refl.addSat (fom _) 1
    · exact .refl
  exact ((Calm.unit left).setFld (outer_lane n.isLt _) v).trans (calm_hostFollow _)

theorem calm_groupReinit (lanes : Nat) (s : State) : Calm OuterBook s (groupReinit lanes s) := by
  have dropped (n : Fin 8) (t : State) : Calm OuterBook t (cdrDrop n t) :=
    ((calm_hostMeasure n t).setFld (outer_lane n.isLt _) 0).trans (calm_steerFollow _)
  refine Calm.trans (Calm.refl.forLanes fun n u => ?_) (calm_hostFollow _)
  split
  · exact ((Calm.unit .refl).trans (dropped n _)).trans (calm_hostTo n 1 _)
  · exact .refl

end Sys2Proof.Machine
end

section
/-!
PROOF. The receive chain, the framing, the atlas and the pumps: what their steps set.
-/
namespace Sys2Proof.Machine

variable {s t : State}

/-! ### The fields -/

/-- Registers of a lane's receive chain and framing, of its pumps' windows and its bank switch, and of the image switch-over. -/
inductive ChainBook : Nat → Fld → Prop
  | outer {a : Nat} {f : Fld} : OuterBook a f → ChainBook a f
  | chain (n : Fin 8) {a : Nat} {f : Fld} : 0x800100 + n * 0x100000 ≤ a → a < 0x800300 + n * 0x100000 → ChainBook a f
  | window (n : Fin 8) (m : Nat) {f : Fld} : ChainBook (R.PUMP_ERR n m) f
  | bank (n : Fin 8) {f : Fld} : ChainBook (R.WELL_IBANK n) f
  | stage {f : Fld} : ChainBook R.BOOT_STAGE_STATUS f

theorem Calm.outer (h : Calm OuterBook s t) : Calm ChainBook s t := h.mono fun _ _ => .outer

theorem chain_rx (n : Fin 8) (f : Fld) : ChainBook (R.WELL_RX_STATUS n) f :=
  .chain n (by unfold R.WELL_RX_STATUS; omega) (by unfold R.WELL_RX_STATUS; omega)

theorem chain_frm (n : Fin 8) (f : Fld) : ChainBook (R.WELL_FRM_STATUS n) f :=
  .chain n (by unfold R.WELL_FRM_STATUS; omega) (by unfold R.WELL_FRM_STATUS; omega)

theorem outer_atlas (n : Fin 8) (f : Fld) : OuterBook (R.ATL_STATUS n) f := .high (by unfold R.ATL_STATUS; omega)

/-! ### The receive chain (R93 to R118) -/

theorem calm_rxPumpsLoad {T : Nat → Fld → Prop} (n : Fin 8) (s : State) : Calm T s (rxPumpsLoad n s) :=
  Calm.refl.foldl _ fun _ _ _ => .unit .refl

theorem calm_txPumpsLoad {T : Nat → Fld → Prop} (n : Fin 8) (s : State) : Calm T s (txPumpsLoad n s) :=
  Calm.refl.foldl _ fun _ _ _ => .unit .refl

theorem calm_showTaps (n : Fin 8) (l : List Int) (s : State) : Calm ChainBook s (showTaps n l s) :=
  Calm.refl.foldl _ fun k hk _ => Calm.refl.setReg (fun f => by
    have small := List.mem_range.mp hk
    exact .chain n (by unfold R.WELL_FFE_TAP; omega) (by unfold R.WELL_FFE_TAP; omega)) _

theorem calm_tapsInForce {T : Nat → Fld → Prop} (n : Fin 8) (s : State) : Calm T s (tapsInForce n s) :=
  Calm.refl.foldl _ fun _ _ _ => .unit .refl

theorem calm_round8 {T : Nat → Fld → Prop} (c : Int) (s : State) : Calm T s (round8 c s).2 := by
  unfold round8
  dsimp only
  split
  · exact .refl
  · split
    · exact .refl
    · exact .unit .refl

theorem calm_roundSet {T : Nat → Fld → Prop} (l : List Int) (s : State) : Calm T s (roundSet l s).2 := by
  unfold roundSet
  suffices ∀ p : List Int × State, Calm T s p.2 →
      Calm T s (l.foldl (fun p c => let (v, s) := round8 c p.2; (p.1 ++ [v], s)) p).2 from this _ .refl
  induction l with
  | nil => exact fun _ h => h
  | cons c l ih => exact fun p h => ih _ (h.trans (calm_round8 c p.2))

theorem calm_installSet (n : Fin 8) (l : List Int) (s : State) : Calm ChainBook s (installSet n l s) := by
  have rounded : Calm ChainBook s (roundSet l s).2 := calm_roundSet l s
  unfold installSet
  dsimp only
  exact (((Calm.unit rounded).trans (calm_showTaps n _ _)).trans (calm_tapsInForce n _)).trans (calm_rxPumpsLoad n _)

theorem calm_startAttempt (n : Fin 8) (s : State) : Calm ChainBook s (startAttempt n s) :=
  ((Calm.unit .refl).trans (calm_installSet n _ _)).setFld (chain_rx n _) _

theorem calm_rxResume (n : Fin 8) (s : State) : Calm ChainBook s (rxResume n s) := by
  unfold rxResume
  split
  · split
    · exact (Calm.unit .refl).trans (calm_startAttempt n _)
    · exact (calm_startAttempt n s).ite .refl _
  · exact .refl

theorem calm_enterHold (n : Fin 8) (s : State) : Calm ChainBook s (enterHold n s) := by
  unfold enterHold
  dsimp only
  split
  · exact .unit .refl
  · exact (Calm.unit .refl).setFld (chain_rx n _) _

theorem calm_atlasUnlocked (n : Fin 8) (s : State) : Calm OuterBook s (atlasUnlocked n s) := by
  have ended : Calm OuterBook s (trainEnd n false s) := by
    have training (x : Nat) : Calm OuterBook s ((setTrain n none s).setFld (R.ATL_TRAIN n) F.ATL_TRAIN_TRAIN_STATE x) :=
      (Calm.unit .refl).setFld (.high (by unfold R.ATL_TRAIN; omega)) _
    have settled (t : State) : Calm OuterBook t (settleRestart n t) := .unit .refl
    simp only [trainEnd, Bool.false_eq_true, if_false]
    exact ((training _).raise1 (outer_atlas n _) _).trans (settled _)
  exact ended.ite .refl _

theorem chain_frmCnt (n : Fin 8) (f : Fld) : ChainBook (R.WELL_FRM_CNT n) f :=
  .chain n (by unfold R.WELL_FRM_CNT; omega) (by unfold R.WELL_FRM_CNT; omega)

theorem calm_lossOfFrame (n : Fin 8) (s : State) : Calm ChainBook s (lossOfFrame n s) := by
  have dropped (t : State) (h : Calm ChainBook s t) :
      Calm ChainBook s (modFrm n (fun f => { f with confirm := 0, misses := 0, fcnt := none, tmf := false }) t) := .unit h
  exact dropped _ (((Calm.refl.raise1 (chain_frm n F.WELL_FRM_STATUS_LOF) _).addSat (chain_frmCnt n F.WELL_FRM_CNT_LOF_COUNT) 1).setFld
    (chain_frm n F.WELL_FRM_STATUS_STATE) 0)

theorem calm_trackerDrop (n : Fin 8) (s : State) : Calm ChainBook s (trackerDrop n s) := by
  unfold trackerDrop
  split
  · exact calm_lossOfFrame n s
  · exact Calm.refl.setFld (chain_frm n _) _
  · exact .refl

theorem calm_receiveStop (n : Fin 8) (s : State) : Calm ChainBook s (receiveStop n s) :=
  (((calm_enterHold n s).trans (calm_atlasUnlocked n _).outer).trans (calm_trackerDrop n _)).trans (calm_hostFollow _).outer

theorem calm_streamsEnd (n : Fin 8) (s : State) : Calm ChainBook s (streamsEnd n s) := by
  have emptied : Calm ChainBook s (if (txLanes s n).isEmpty then (spreadLanes s n).foldl (fun s k => justEmpty k s) s else s) :=
    (Calm.refl.foldl _ fun _ _ _ => .unit .refl).ite .refl _
  exact .unit emptied

theorem calm_biasClip (n : Fin 8) (s : State) : Calm ChainBook s (biasClip n s) := by
  refine Calm.ite ?_ .refl _
  exact Calm.refl.raise1 (.outer (.high (by unfold R.SEEP_LN_STATUS; omega))) _

/-! ### Kernel parameters and reports (R47, R49) -/

theorem calm_kernelReport (n : Fin 8) (m code kid : Nat) (s : State) : Calm ChainBook s (kernelReport n m code kid s) :=
  ((Calm.refl.setFld (.window n m) _).setFld (.window n m) _).setFld (.window n m) _

theorem calm_leaderReport (n : Fin 8) (code kid : Nat) (s : State) : Calm ChainBook s (leaderReport n code kid s) := by
  unfold leaderReport
  split
  · exact calm_kernelReport n _ code kid s
  · exact .refl

theorem calm_slotReport (n : Fin 8) (k : Nat) (s : State) : Calm ChainBook s (slotReport n k s) := by
  unfold slotReport
  split
  · exact .refl
  · split
    · exact .refl
    · split
      · exact calm_leaderReport n _ _ s
      · exact Calm.refl.foldl _ fun m _ u => calm_kernelReport n m _ _ u

theorem calm_tapsResize (n : Fin 8) (taps : Nat) (s : State) : Calm ChainBook s (tapsResize n taps s) :=
  (((Calm.unit .refl).trans (calm_showTaps n _ _)).trans (calm_tapsInForce n _)).trans (calm_showTaps n _ _)

theorem calm_reacquire (n : Fin 8) (s : State) : Calm ChainBook s (reacquire n s) :=
  Calm.ite (.unit .refl) ((Calm.unit .refl).trans (calm_startAttempt n _)) _

theorem calm_rxParamsFollow (n : Fin 8) (old s : State) : Calm ChainBook s (rxParamsFollow n old s) := by
  have sized (t : State) (taps : Nat) : Calm ChainBook t (if taps = t.rx[n].taps then t else tapsResize n taps t) :=
    Calm.refl.ite (calm_tapsResize n taps t) _
  have widened (v : Nat) : Calm ChainBook s
      (let (b, t) := if v % 2 = 1 then (0, s) else s.fresh 1
       let taps := if v % 2 = 1 then v else v - 1 + 2 * b
       if taps = t.rx[n].taps then t else tapsResize n taps t) := by
    have chosen : Calm ChainBook s (if v % 2 = 1 then (0, s) else s.fresh 1).2 := by
      split
      · exact .refl
      · exact .unit .refl
    generalize (if v % 2 = 1 then (0, s) else s.fresh 1) = choice at chosen ⊢
    exact chosen.trans (sized _ _)
  have reported (t : State) (l : List Nat) : Calm ChainBook t (l.foldl (fun s k => slotReport n k s) t) :=
    Calm.refl.foldl _ fun k _ u => calm_slotReport n k u
  unfold rxParamsFollow
  exact Calm.ite ((Calm.ite (widened _) .refl _).trans (reported _ _))
    (((Calm.ite (widened _) .refl _).trans (reported _ _)).trans (calm_reacquire n _)) _

theorem calm_txParamsFollow (n : Fin 8) (old s : State) : Calm ChainBook s (txParamsFollow n old s) :=
  Calm.refl.foldl _ fun k _ u => calm_slotReport n k u

theorem calm_sideParamsFollow (n : Fin 8) (rx : Bool) (old s : State) : Calm ChainBook s (sideParamsFollow n rx old s) :=
  Calm.refl.ite (((calm_rxParamsFollow n old s).trans (calm_rxPumpsLoad n _)).ite ((calm_txParamsFollow n old s).trans (calm_txPumpsLoad n _)) _) _

/-! ### The atlas -/

theorem calm_atlasWellRestart (n : Fin 8) (s : State) : Calm ChainBook s (atlasWellRestart n s) := by
  have cnt (f : Fld) : OuterBook (R.ATL_CNT2 n) f := .high (by unfold R.ATL_CNT2; omega)
  have late : Calm ChainBook s ((s.raise1 (R.ATL_STATUS n) F.ATL_STATUS_DIST_LATE (224 + 8 * n)).addSat (R.ATL_CNT2 n) F.ATL_CNT2_DIST_LATES 1) :=
    (Calm.refl.raise1 (.outer (outer_atlas n _)) _).addSat (.outer (cnt _)) 1
  have dropped (t : State) : Calm ChainBook t (modAtl n (fun a => { a with run := none }) t) := .unit .refl
  exact ((late.trans (dropped _)).trans (calm_leaderReport n 6 10 _)).ite .refl _

theorem calm_atlasClear (n : Fin 8) (s : State) : Calm OuterBook s (atlasClear n s) := by
  have clear (f : Fld) : OuterBook R.ATL_CLEAR f := .high (by decide)
  have aborted (t : State) (c : Bool) : Calm OuterBook t (if c then t.setFld (R.ATL_STATUS n) F.ATL_STATUS_DIST_ABORT 1 else t) :=
    (Calm.refl.setFld (outer_atlas n _) 1).ite .refl _
  have emptied (t : State) : Calm OuterBook t (modAtl n (fun a => { a with cache := [], misses := [], held := [], run := none }) t) := .unit .refl
  exact Calm.refl.ite ((((Calm.refl.setFld (clear _) _).setFld (outer_atlas n _) 1).trans (aborted _ _)).trans (emptied _)) _

theorem calm_bankFollows (n : Fin 8) (old s : State) : Calm ChainBook s (bankFollows n old s) := by
  have retarget : Calm ChainBook s (atlasRetarget n old s) := Calm.refl.ite ((calm_atlasClear n s).outer.ite .refl _) _
  exact retarget.setFld (chain_rx n _) _

/-! ### The switch-over -/

theorem calm_switchRequest (n : Fin 8) (update : Bool) (s : State) : Calm ChainBook s (switchRequest n update s) := by
  unfold switchRequest
  split
  · exact .unit .refl
  · exact .unit (Calm.refl.setFld (.bank n) 1)

theorem calm_updWellCheck (restarted : Bool) (n : Fin 8) (s : State) : Calm ChainBook s (updWellCheck restarted n s) := by
  have drop (t : State) : Calm ChainBook t (modUpd (fun u => { u with wells := u.wells - 2 ^ n.val }) t) := .unit .refl
  have again (t : State) : Calm ChainBook t (modUpd (fun u => { u with reqd := u.reqd + 2 ^ n.val }) t) := .unit .refl
  have pend (x : Nat) : Calm ChainBook s (setSt F.BOOT_STAGE_STATUS_WELL_PEND x s) := Calm.refl.setFld .stage x
  exact Calm.refl.ite ((drop s).ite (((again s).trans (calm_switchRequest n true _)).ite ((pend _).trans (drop _)) _) _) _

/-! ### Poison, and the reactions of the blocks (R35) -/

theorem calm_poisonMark (tx : Bool) (n : Fin 8) (l : List PMark) (s : State) : Calm OuterBook s (poisonMark tx n l s) := by
  have poison (k : Nat) (f : Fld) : OuterBook (R.FEC_LN_POISON k) f := .high (by unfold R.FEC_LN_POISON; omega)
  have marked (l : List (Fin 8)) (g : Fin 8 → List PMark) : Calm OuterBook s (l.foldl (fun t k => addMarks tx (g k) k t) s) :=
    Calm.refl.foldl _ fun _ _ _ => .unit .refl
  exact (marked _ _).addSat (poison _ _) _

theorem calm_pipeFault (tx : Bool) (poison : Nat) (n : Fin 8) (s : State) : Calm OuterBook s (pipeFault tx poison n s) := by
  have emptied : Calm OuterBook s { s with cores := s.cores.filter fun c => c.lane != n.val } := .unit .refl
  exact Calm.ite (.unit .refl) ((calm_poisonMark true _ _ s).ite (emptied.trans (calm_poisonMark false _ _ _)) _) _

theorem calm_requeueFrame (once : Bool) (n : Fin 8) (s : State) : Calm OuterBook s (requeueFrame once n s) := by
  have seep (g : SeepLane → SeepLane) (t : State) : Calm OuterBook t (modSeep n g t) := .unit .refl
  have closed : Calm OuterBook s (frameClose false n s) := by
    simp only [frameClose]
    exact Calm.refl.ite (seep _ s) _
  unfold requeueFrame
  dsimp only
  split
  · exact (closed.trans (seep _ _)).setFld (.high (by unfold R.SEEP_LN_STATUS; omega)) _
  · exact closed.trans (seep _ _)

theorem calm_seepFault (n : Fin 8) (s : State) : Calm OuterBook s (seepFault n s) :=
  Calm.ite (.unit (calm_requeueFrame true n s)) .refl _

theorem calm_onLanes {T : Nat → Fld → Prop} (lanes : Nat) {g : Fin 8 → State → State} (h : ∀ n u, Calm T u (g n u)) (s : State) :
    Calm T s (onLanes lanes g s) :=
  Calm.refl.forLanes fun n u => (h n u).ite .refl _

theorem calm_localReaction (b : Block) (lanes : Nat) (tx : Bool) (poison : Nat) (s : State) :
    Calm OuterBook s (localReaction b lanes tx poison s) := by
  cases b with
  | fec => exact calm_onLanes lanes (calm_pipeFault tx poison) s
  | atlas => exact calm_onLanes lanes (fun _ _ => .unit .refl) s
  | hostGroup g => exact calm_groupReinit _ s
  | timeTransfer => exact .unit .refl
  | seep => exact calm_onLanes lanes calm_seepFault s
  | well | keeper | kic | fabric | journal | cistern => exact .refl

end Sys2Proof.Machine
end

section
/-!
PROOF. Lane PLL and signal events (R28, R29, R71, R75, R112).
-/
namespace Sys2Proof.Machine

variable (s : State) (n : Fin 8)

/-! ### Registers that the chain leaves -/

/-- The chain sets no field of a PLL's status but STEER_HOLD, and neither a front end's status nor a well's. -/
theorem misses_chain {b : Nat} {g : Fld} (hb : b = R.LINE_PLL_STATUS n ∧ (g.lo + g.w ≤ 2 ∨ 3 ≤ g.lo) ∨ b = R.LINE_FE_STATUS n ∨ b = R.WELL_STATUS n) :
    Misses ChainBook b g := by
  have at' : b = R.LINE_PLL_STATUS n ∨ b = 0x410014 + n * 0x1000 ∨ b = 0x800008 + n * 0x100000 := by
    unfold R.LINE_FE_STATUS R.WELL_STATUS at hb; omega
  have pll : R.LINE_PLL_STATUS n = 0x410004 + n * 0x1000 := rfl
  refine ⟨by unfold R.SAF_JNL_STATUS; omega, fun a f w => ?_⟩
  cases w with
  | outer w =>
    cases w with
    | host low high => exact .inl (by omega)
    | steer k =>
      by_cases same : b = R.LINE_PLL_STATUS k
      · have away : g.lo + g.w ≤ 2 ∨ 3 ≤ g.lo := by
          unfold R.LINE_PLL_STATUS R.LINE_FE_STATUS R.WELL_STATUS at hb
          unfold R.LINE_PLL_STATUS at same
          omega
        refine .inr ⟨by unfold Fld.fits; decide, ?_⟩
        have lo : F.LINE_PLL_STATUS_STEER_HOLD.lo = 2 := rfl
        have one : F.LINE_PLL_STATUS_STEER_HOLD.w = 1 := rfl
        unfold Fld.apart
        omega
      · exact .inl same
    | high up => exact .inl (by omega)
  | chain k low high => exact .inl (by omega)
  | window => exact .inl (by unfold R.PUMP_ERR; omega)
  | bank => exact .inl (by unfold R.WELL_IBANK; omega)
  | stage => exact .inl (by unfold R.BOOT_STAGE_STATUS; omega)

theorem misses_lock : Misses ChainBook (R.LINE_PLL_STATUS n) F.LINE_PLL_STATUS_LOCK := misses_chain n (.inl ⟨rfl, by decide⟩)
theorem misses_fe (g : Fld) : Misses ChainBook (R.LINE_FE_STATUS n) g := misses_chain n (.inr (.inl rfl))

/-- The outer registers are no lane's receive state. -/
theorem misses_rxState : Misses OuterBook (R.WELL_RX_STATUS n) F.WELL_RX_STATUS_STATE := by
  refine ⟨by unfold R.WELL_RX_STATUS R.SAF_JNL_STATUS; omega, fun a f w => .inl ?_⟩
  unfold R.WELL_RX_STATUS
  cases w with
  | host low high => omega
  | steer k => unfold R.LINE_PLL_STATUS; omega
  | high up => omega

/-! ### Lock -/

/-- The lanes of a transmit frame start it again. -/
def txRestart (l : List (Fin 8)) (s : State) : State := l.foldl (fun s k => modLine k (fun l => { l with txCnt := 0, txEpochs := 0 }) s) s

theorem txRestart_regs (l : List (Fin 8)) : (txRestart l s).regs = s.regs := by
  unfold txRestart
  exact foldl_keeps s State.regs (by intros; rfl) l

/-- The runs and the receive counts stay. -/
theorem txRestart_rest (l : List (Fin 8)) (k : Fin 8) :
    let v := fun t : State => (t.line[k].txRun, t.line[k].rxRun, t.line[k].rxCnt, t.line[k].rxEpochs)
    v (txRestart l s) = v s := by
  refine foldl_keeps s (fun t : State => (t.line[k].txRun, t.line[k].rxRun, t.line[k].rxCnt, t.line[k].rxEpochs)) (fun t m => ?_) l
  by_cases e : k = m
  · subst e
    simp only [modLine_line, vmod_same]
  · simp only [modLine_line, vmod_ne _ e]

/-- Every lane of the list has its transmit counts 0. -/
theorem txRestart_zero {l : List (Fin 8)} {k : Fin 8} (h : k ∈ l) :
    (txRestart l s).line[k].txCnt = 0 ∧ (txRestart l s).line[k].txEpochs = 0 := by
  induction l generalizing s with
  | nil => cases h
  | cons m l ih =>
    by_cases later : k ∈ l
    · exact ih _ later
    · obtain rfl : k = m := by simpa [later] using h
      have rest (t : State) : (txRestart l t).line[k] = t.line[k] := by
        unfold txRestart
        have others : ∀ m ∈ l, k ≠ m := fun m hm e => later (e ▸ hm)
        clear ih h later
        induction l generalizing t with
        | nil => rfl
        | cons m l ih =>
          obtain ⟨away, tail⟩ := List.forall_mem_cons.mp others
          rw [List.foldl_cons, ih _ tail, modLine_line, vmod_ne _ away]
      show (txRestart l (modLine k _ s)).line[k].txCnt = 0 ∧ (txRestart l (modLine k _ s)).line[k].txEpochs = 0
      rw [rest, modLine_line, vmod_same]
      exact ⟨rfl, rfl⟩

theorem mem_spreadLanes : n ∈ spreadLanes s n := by
  unfold spreadLanes
  split
  · simp [lanesOfPort]
  · exact List.mem_singleton_self n

theorem spreadLanes_congr {s t : State} (h : t.reg R.FEC_PROFILE = s.reg R.FEC_PROFILE) : spreadLanes t n = spreadLanes s n := by
  have ports : portCfg t = portCfg s := by simp only [portCfg, State.fld, h]
  have profile : profileEff t = profileEff s := by unfold profileEff State.fld; rw [h]
  simp only [spreadLanes, laneSpread, lanesOfPort, portOfLane, ports, profile]
  rfl

/-- The PLL has locked and its lane's counters run from 0. -/
def lockedLane : State :=
  modLine n (fun l => { l with pllEver := true, txRun := true, txHeld := true, rxRun := true, rxHeld := true,
                               rxCnt := 0, rxEpochs := 0, realign := false }) (s.setFld (R.LINE_PLL_STATUS n) F.LINE_PLL_STATUS_LOCK 1)

/-- Locked, with the transmit frames of all its lanes started again. -/
def startedLane : State := txRestart (spreadLanes (lockedLane s n) n) { lockedLane s n with tod := { (lockedLane s n).tod with tmfDue := none } }

theorem spreadLanes_lockedLane : spreadLanes (lockedLane s n) n = spreadLanes s n := by
  have other : R.FEC_PROFILE ≠ R.LINE_PLL_STATUS n := by unfold R.FEC_PROFILE R.LINE_PLL_STATUS; omega
  exact spreadLanes_congr n (s.reg_setFld_ne other _ _)

theorem calm_distStart {T : Nat → Fld → Prop} (idx : Nat) : Calm T s (distStart n idx s) := .unit .refl

theorem calm_lanePllLock (on : s.line[n].pllOn = true) (free : s.flag (R.LINE_PLL_STATUS n) F.LINE_PLL_STATUS_LOCK = false) :
    Calm ChainBook (startedLane s n) (lanePllLock n s) := by
  have searching (t : State) (c : Prop) [Decidable c] :
      Calm ChainBook t (if c then t else t.setFld (R.WELL_FRM_STATUS n) F.WELL_FRM_STATUS_STATE 3) :=
    Calm.refl.ite (Calm.refl.setFld (chain_frm n _) 3) c
  have resumed (t : State) : Calm ChainBook t (hostFollow (rxResume n (distStart n 0 t))) :=
    ((calm_distStart t n 0).trans (calm_rxResume n _)).trans (calm_hostFollow _).outer
  have goes : ¬ ((!s.line[n].pllOn) = true ∨ s.flag (R.LINE_PLL_STATUS n) F.LINE_PLL_STATUS_LOCK = true) := by
    rw [on, free]
    simp
  rw [lanePllLock, if_neg goes]
  exact (searching _ _).trans (resumed _)

theorem lanePllLock_counts (on : s.line[n].pllOn = true) (free : s.flag (R.LINE_PLL_STATUS n) F.LINE_PLL_STATUS_LOCK = false) :
    let u := lanePllLock n s
    u.flag (R.LINE_PLL_STATUS n) F.LINE_PLL_STATUS_LOCK = true ∧ u.line[n].txRun = true ∧ u.line[n].rxRun = true ∧ u.line[n].rxCnt = 0 ∧
      u.line[n].rxEpochs = 0 ∧ (∀ k ∈ spreadLanes s n, u.line[k].txCnt = 0 ∧ u.line[k].txEpochs = 0) ∧ n ∈ spreadLanes s n := by
  intro u
  have calm := calm_lanePllLock s n on free
  have counts (k : Fin 8) : u.line[k].counts = (startedLane s n).line[k].counts := calm.counts k
  simp only [LineSt.counts, Prod.mk.injEq] at counts
  have rest := txRestart_rest { lockedLane s n with tod := { (lockedLane s n).tod with tmfDue := none } } (spreadLanes (lockedLane s n) n) n
  have own : (lockedLane s n).line[n].txRun = true ∧ (lockedLane s n).line[n].rxRun = true ∧ (lockedLane s n).line[n].rxCnt = 0 ∧
      (lockedLane s n).line[n].rxEpochs = 0 := by
    simp only [lockedLane, modLine_line, vmod_same, and_self]
  simp only [Prod.mk.injEq] at rest
  obtain ⟨txRun, rxRun, rxCnt, rxEpochs⟩ := rest
  obtain ⟨ownTx, ownRx, ownCnt, ownEpochs⟩ := own
  obtain ⟨uTx, -, -, uRx, uCnt, uEpochs⟩ := counts n
  refine ⟨?_, uTx.trans (txRun.trans ownTx), uRx.trans (rxRun.trans ownRx), uCnt.trans (rxCnt.trans ownCnt), uEpochs.trans (rxEpochs.trans ownEpochs),
    fun k hk => ?_, mem_spreadLanes s n⟩
  · refine (calm.sets.flag (misses_lock n)).trans ?_
    have regs : (startedLane s n).regs = (s.setFld (R.LINE_PLL_STATUS n) F.LINE_PLL_STATUS_LOCK 1).regs := txRestart_regs _ _
    simp only [State.flag, State.fld, State.reg_of_regs regs]
    exact fld_b2n s (by unfold Fld.fits; decide) rfl true
  · obtain ⟨-, cnt, epochs, -⟩ := counts k
    obtain ⟨zero, zero'⟩ := txRestart_zero { lockedLane s n with tod := { (lockedLane s n).tod with tmfDue := none } }
      (spreadLanes_lockedLane s n ▸ hk : k ∈ spreadLanes (lockedLane s n) n)
    exact ⟨cnt.trans zero, epochs.trans zero'⟩

/-! ### Loss of lock -/

/-- The lane's clocks have stopped and its DAC is muted. -/
def stoppedLane : State :=
  muteUpdate n (modLine n (fun l => { l with txRun := false, rxRun := false }) (s.setFld (R.LINE_PLL_STATUS n) F.LINE_PLL_STATUS_LOCK 0))

theorem muteUpdate_regs (t : State) : (muteUpdate n t).regs = t.regs ∧ (muteUpdate n t).line = t.line := by
  unfold muteUpdate
  split <;> exact ⟨rfl, rfl⟩

/-- A lane whose PLL is not locked is muted. -/
theorem muted_muteUpdate {t : State} (free : t.flag (R.LINE_PLL_STATUS n) F.LINE_PLL_STATUS_LOCK = false) : (muteUpdate n t).light[n].muted = true := by
  have mutes : muteCond t n = true := by simp [muteCond, free]
  simp only [muteUpdate, mutes, if_true, vmod_same]

theorem flag_lock_cleared : (s.setFld (R.LINE_PLL_STATUS n) F.LINE_PLL_STATUS_LOCK 0).flag (R.LINE_PLL_STATUS n) F.LINE_PLL_STATUS_LOCK = false :=
  fld_b2n s (by unfold Fld.fits; decide) rfl false

theorem calm_laneClockStop : Calm ChainBook (stoppedLane s n) (laneClockStop n s) :=
  ((calm_streamsEnd n _).trans (calm_receiveStop n _)).trans (calm_biasClip n _)

/-- A lane without its clocks: no lock, no frames, no light. -/
theorem laneClockStop_stops : (laneClockStop n s).flag (R.LINE_PLL_STATUS n) F.LINE_PLL_STATUS_LOCK = false ∧
    (laneClockStop n s).line[n].txRun = false ∧ (laneClockStop n s).line[n].rxRun = false ∧ (laneClockStop n s).light[n].muted = true := by
  have calm := calm_laneClockStop s n
  obtain ⟨regs, line⟩ := muteUpdate_regs n (modLine n (fun l => { l with txRun := false, rxRun := false })
    (s.setFld (R.LINE_PLL_STATUS n) F.LINE_PLL_STATUS_LOCK 0))
  have counts := calm.counts n
  simp only [LineSt.counts, Prod.mk.injEq] at counts
  obtain ⟨tx, -, -, rx, -, -⟩ := counts
  have still : (stoppedLane s n).line[n].txRun = false ∧ (stoppedLane s n).line[n].rxRun = false := by
    simp only [stoppedLane, line, modLine_line, vmod_same, and_self]
  refine ⟨(calm.sets.flag (misses_lock n)).trans ?_, tx.trans still.1, rx.trans still.2, ?_⟩
  · simp only [stoppedLane, State.flag, State.fld, State.reg_of_regs regs]
    exact flag_lock_cleared s n
  · rw [calm.light]
    exact muted_muteUpdate n (flag_lock_cleared s n)

/-- Of the PLL's status the clocks' stop sets LOCK and STEER_HOLD only. -/
theorem laneClockStop_status {g : Fld} (away : g.lo = 1 ∧ g.w = 1 ∨ 8 ≤ g.lo) :
    (laneClockStop n s).fld (R.LINE_PLL_STATUS n) g = s.fld (R.LINE_PLL_STATUS n) g := by
  have lo : F.LINE_PLL_STATUS_LOCK.lo = 0 := rfl
  have one : F.LINE_PLL_STATUS_LOCK.w = 1 := rfl
  refine ((calm_laneClockStop s n).sets.fld (misses_chain n (.inl ⟨rfl, by omega⟩))).trans ?_
  have regs := (muteUpdate_regs n (modLine n (fun l => { l with txRun := false, rxRun := false })
    (s.setFld (R.LINE_PLL_STATUS n) F.LINE_PLL_STATUS_LOCK 0))).1
  simp only [stoppedLane, State.fld, State.reg_of_regs regs]
  exact s.fld_setFld_apart _ _ _ _ (by unfold Fld.fits; decide) (by unfold Fld.apart; omega)

theorem lanePllLol_stops (held : s.flag (R.LINE_PLL_STATUS n) F.LINE_PLL_STATUS_LOCK = true) :
    let u := lanePllLol n s
    u.flag (R.LINE_PLL_STATUS n) F.LINE_PLL_STATUS_LOCK = false ∧ u.flag (R.LINE_PLL_STATUS n) F.LINE_PLL_STATUS_LOL = true ∧
      u.fld (R.LINE_PLL_STATUS n) F.LINE_PLL_STATUS_LOL_COUNT = min 255 (s.fld (R.LINE_PLL_STATUS n) F.LINE_PLL_STATUS_LOL_COUNT + 1) ∧
      u.line[n].txRun = false ∧ u.line[n].rxRun = false ∧ u.light[n].muted = true := by
  intro u
  have journal : R.LINE_PLL_STATUS n ≠ R.SAF_JNL_STATUS := (misses_lock n).1
  obtain ⟨t, ht⟩ : ∃ t, t = s.raise1 (R.LINE_PLL_STATUS n) F.LINE_PLL_STATUS_LOL (160 + 8 * n) := ⟨_, rfl⟩
  have run : u = laneClockStop n (t.addSat (R.LINE_PLL_STATUS n) F.LINE_PLL_STATUS_LOL_COUNT 1) := by
    simp only [u, lanePllLol, held, ht, Bool.not_true, Bool.false_eq_true, if_false]
  obtain ⟨free, tx, rx, muted⟩ := laneClockStop_stops (t.addSat (R.LINE_PLL_STATUS n) F.LINE_PLL_STATUS_LOL_COUNT 1) n
  rw [run]
  refine ⟨free, ?_, ?_, tx, rx, muted⟩
  · rw [State.flag, laneClockStop_status _ n (by decide), State.addSat,
      State.fld_setFld_apart _ _ _ _ _ (by unfold Fld.fits; decide) (by unfold Fld.apart; decide), ht]
    exact s.flag_raise1 journal _ _ (by unfold Fld.fits; decide) rfl
  · have kept : t.fld (R.LINE_PLL_STATUS n) F.LINE_PLL_STATUS_LOL_COUNT = s.fld (R.LINE_PLL_STATUS n) F.LINE_PLL_STATUS_LOL_COUNT :=
      ht ▸ fld_raise_apart s journal (by unfold Fld.fits; decide) (by unfold Fld.apart; decide) 1 _
    have max : F.LINE_PLL_STATUS_LOL_COUNT.max = 255 := rfl
    rw [laneClockStop_status _ n (by decide), State.addSat, State.fld_setFld _ _ _ _ (by unfold Fld.fits; decide), kept, max]
    exact Nat.mod_eq_of_lt (lt_of_le_of_lt (Nat.min_le_left _ _) (by decide))

/-! ### Signal detection -/

theorem signalDetect_detects (ever : s.line[n].pllEver = true) (adc : s.flag (R.LINE_FE_CFG n) F.LINE_FE_CFG_ADC_EN = true)
    (dark : s.flag (R.LINE_FE_STATUS n) F.LINE_FE_STATUS_SIG_DET = false) :
    (signalDetect n s).flag (R.LINE_FE_STATUS n) F.LINE_FE_STATUS_SIG_DET = true := by
  have goes : s.line[n].pllEver = true ∧ s.flag (R.LINE_FE_CFG n) F.LINE_FE_CFG_ADC_EN = true ∧
      (!s.flag (R.LINE_FE_STATUS n) F.LINE_FE_STATUS_SIG_DET) = true := ⟨ever, adc, by rw [dark]; rfl⟩
  have after (t : State) : Calm ChainBook t (hostFollow (rxResume n t)) := (calm_rxResume n t).trans (calm_hostFollow _).outer
  rw [signalDetect, if_pos goes]
  exact ((after _).sets.flag (misses_fe n _)).trans (fld_b2n s (by unfold Fld.fits; decide) rfl true)

/-- A chain that is not idle holds. -/
theorem rxState_enterHold (busy : rxState s n ≠ 0) : rxState (enterHold n s) n = 4 := by
  have same : rxState (modRx n (fun r => { r with skip := true }) s) n = rxState s n := rfl
  unfold enterHold
  dsimp only
  split
  next rests => exact rests.resolve_left (same ▸ busy)
  next => exact State.fld_setFld _ _ _ _ (by unfold Fld.fits; decide)

theorem signalLoss_holds (light : s.flag (R.LINE_FE_STATUS n) F.LINE_FE_STATUS_SIG_DET = true) :
    let u := signalLoss n s
    u.flag (R.LINE_FE_STATUS n) F.LINE_FE_STATUS_SIG_DET = false ∧ u.flag (R.LINE_FE_STATUS n) F.LINE_FE_STATUS_SIG_LOSS = true ∧
      (rxState s n ≠ 0 → rxState u n = 4) := by
  intro u
  have journal : R.LINE_FE_STATUS n ≠ R.SAF_JNL_STATUS := (misses_fe n F.LINE_FE_STATUS_SIG_DET).1
  obtain ⟨t, ht⟩ : ∃ t, t = (s.setFld (R.LINE_FE_STATUS n) F.LINE_FE_STATUS_SIG_DET 0).raise1 (R.LINE_FE_STATUS n)
    F.LINE_FE_STATUS_SIG_LOSS (160 + 8 * n + 1) := ⟨_, rfl⟩
  have run : u = hostFollow (atlasUnlocked n (enterHold n t)) := by simp only [u, signalLoss, light, if_true, ht]
  have outer (w : State) : Calm OuterBook w (hostFollow (atlasUnlocked n w)) := (calm_atlasUnlocked n w).trans (calm_hostFollow _)
  have all : Calm ChainBook t u := run ▸ (calm_enterHold n t).trans (outer _).outer
  refine ⟨?_, ?_, fun busy => ?_⟩
  · refine (all.sets.flag (misses_fe n _)).trans ?_
    rw [State.flag, ht, State.raise1, fld_raise_apart _ journal (by unfold Fld.fits; decide) (by unfold Fld.apart; decide)]
    exact fld_b2n s (by unfold Fld.fits; decide) rfl false
  · refine (all.sets.flag (misses_fe n _)).trans ?_
    rw [ht]
    exact State.flag_raise1 _ journal _ _ (by unfold Fld.fits; decide) rfl
  · have same : rxState t n = rxState s n := by
      have other : R.WELL_RX_STATUS n ≠ R.LINE_FE_STATUS n ∧ R.WELL_RX_STATUS n ≠ R.SAF_JNL_STATUS := by
        unfold R.WELL_RX_STATUS R.LINE_FE_STATUS R.SAF_JNL_STATUS; omega
      rw [ht, rxState, fld_raise1_ne _ other.1 other.2]
      exact s.fld_setFld_ne other.1 _ _ _
    rw [run]
    exact ((outer _).sets.fld (misses_rxState n)).trans (rxState_enterHold t n (same ▸ busy))

/-- Settles O9: what follows a lock, its loss and the signal's detection and loss leaves the lane counters, the light and their flags. -/
theorem lanePllAndSignalEventsComplete : Obligations.LanePllAndSignalEventsComplete := by
  intro s n running
  refine ⟨fun on free => ?_, fun held => ?_, fun ever adc dark => ?_, fun light => ?_⟩
  · exact ⟨_, completes_of_outcome s (g := lanePllLock n) rfl running, lanePllLock_counts s n on free⟩
  · exact ⟨_, completes_of_outcome s (g := lanePllLol n) rfl running, lanePllLol_stops s n held⟩
  · exact ⟨_, completes_of_outcome s (g := signalDetect n) rfl running, signalDetect_detects s n ever adc dark⟩
  · exact ⟨_, completes_of_outcome s (g := signalLoss n) rfl running, signalLoss_holds s n light⟩

end Sys2Proof.Machine
end

section
/-!
PROOF. Faults of wells, keepers and blocks, and the well restart (R20, R33, R34, R37, R60).
-/
namespace Sys2Proof.Machine

variable (s : State) (n : Fin 8)

/-! ### A region fault leaves the wells and the blocks -/

/-- Views that read nothing but a part of the state beside the registers, the journal and the regions. -/
theorem Inert.regionFault {β : Type} {v : State → β} (h : Inert (fun _ _ => True) v) (region : ∀ (s : State) g, v { s with region := g } = v s)
    (r : Region) (block cause lanes : Nat) (safety : Bool) (s : State) : v (regionFault r block cause lanes safety s) = v s := by
  have fault (t : State) (a b : Nat) : v (t.journalFault a b) = v t := (h.journalAt _ _ _ _).trans (h.free t _)
  have set (t : State) (a : Nat) (f : Fld) (x : Nat) : v (t.setFld a f x) = v t := h.fld t a f x trivial
  have event (t : State) (a : Nat) (f : Fld) (id : Nat) : v (t.raise1 a f id) = v t := h.raise1 t trivial id
  have repeated (t : State) (c : Bool) (a b : Nat) : v (if c then t.journalFault a b else t) = v t := by
    split
    · exact fault t a b
    · rfl
  have escalated (t : State) : v (chipEscalate r t) = v t := by
    refine (foldl_keeps _ v (fun u p => set u _ _ _) _).trans ((event _ _ _ _).trans ((set _ _ _ _).trans (repeated t _ _ _)))
  have begins (t : State) (g : Vector RegionSt 5) (c : Bool) :
      v (if c then chipEscalate r { t with region := g } else { t with region := g }) = v t := by
    split
    · exact (escalated _).trans (region t g)
    · exact region t g
  refine (begins _ _ _).trans ((set _ _ _ _).trans ((event _ _ _ _).trans ((repeated _ _ _ _).trans ?_)))
  exact (set _ _ _ _).trans ((set _ _ _ _).trans (set s _ _ _))

theorem regionFault_well (r : Region) (block cause lanes : Nat) (safety : Bool) :
    (regionFault r block cause lanes safety s).well = s.well := inert_well.regionFault (fun _ _ => rfl) r block cause lanes safety s

theorem inert_blocks : Inert (fun _ _ => True) State.blocks :=
  ⟨fun _ _ _ _ _ => rfl, fun _ _ _ _ => rfl, fun _ => trivial, fun _ => trivial,
    fun _ _ _ => rfl, fun _ _ => rfl, fun _ _ => rfl, fun _ _ _ => rfl, fun _ _ _ => rfl⟩

theorem regionFault_blocks (r : Region) (block cause lanes : Nat) (safety : Bool) :
    (regionFault r block cause lanes safety s).blocks = s.blocks := inert_blocks.regionFault (fun _ _ => rfl) r block cause lanes safety s

/-! ### A well fault (R33, R37) -/

theorem recordWellFault_well (mech : WellMech) :
    (recordWellFault n mech s).well[n] = { s.well[n] with mech := some mech, faultCount := s.well[n].faultCount + 1 } := by
  obtain ⟨t, ht⟩ : ∃ t : State, t = { s with well := vmod s.well n fun w => { w with mech := some mech, faultCount := w.faultCount + 1 } } :=
    ⟨_, rfl⟩
  have same : (recordWellFault n mech s).well = t.well :=
    ht ▸ (inert_well.journalAt _ _ _ _).trans (inert_well.free _ _)
  rw [same, ht, vmod_same]

theorem countWellFault_well : ∃ fs, (countWellFault n s).well[n] = { s.well[n] with faults := fs } := by
  obtain ⟨t, ht⟩ : ∃ t : State, t = { s with well := vmod s.well n fun w => { w with faults := s.now :: recent s.now cycSecond s.well[n].faults } } :=
    ⟨_, rfl⟩
  have counted (c : Prop) [Decidable c] : (if c then regionFault .line n 2 (2 ^ n.val) false t else t).well = t.well := by
    split
    · exact regionFault_well t _ _ _ _ _
    · rfl
  have same : (countWellFault n s).well = t.well := by
    rw [ht] at counted ⊢
    exact counted _
  exact ⟨s.now :: recent s.now cycSecond s.well[n].faults, by rw [same, ht, vmod_same]⟩

theorem cancelSwitch_well : ∃ b, (cancelSwitch n s).well[n] = { s.well[n] with switch := none, txBank := b } := by
  cases pending : s.well[n].switch with
  | none =>
    refine ⟨s.well[n].txBank, ?_⟩
    rw [cancelSwitch, pending]
    dsimp only
    rw [← pending]
  | some w =>
    refine ⟨w.before, ?_⟩
    rw [cancelSwitch, pending]
    dsimp only
    have banks := foldl_keeps s State.well (g := fun s m => s.setFld (R.PUMP_STATE n m) F.PUMP_STATE_BANK w.before) (fun _ _ => rfl)
      (pumpsIn s n 1 ++ pumpsIn s n 2)
    rw [wellEvent, inert_well.raise1 _ trivial, vmod_same]
    simp only [State.setFld_well, banks]

/-- The fault is recorded, and a working well of a region that does not react is to restart. -/
theorem wellFault_records (mech : WellMech) : let u := wellFault n mech s
    u.well[n].mech = some mech ∧ u.well[n].faultCount = s.well[n].faultCount + 1 ∧
      (reacting s .line = false → s.well[n].restarting = false →
        u.well[n].restarting = true ∧ u.well[n].switch = none ∧ u.well[n].vacant = []) := by
  intro u
  obtain ⟨t, ht⟩ : ∃ t, t = recordWellFault n mech s := ⟨_, rfl⟩
  have recorded := recordWellFault_well s n mech
  rw [← ht] at recorded
  have region : reacting t .line = reacting s .line := by
    have same : t.region = s.region := by
      rw [ht]
      have inert : Inert (fun _ _ => True) State.region :=
        ⟨fun _ _ _ _ _ => rfl, fun _ _ _ _ => rfl, fun _ => trivial, fun _ => trivial,
          fun _ _ _ => rfl, fun _ _ => rfl, fun _ _ => rfl, fun _ _ _ => rfl, fun _ _ _ => rfl⟩
      exact (inert.journalAt _ _ _ _).trans (inert.free _ _)
    rw [reacting, same, reacting]
  have unfolded : u = if reacting t .line then t
      else if t.well[n].restarting then (if mech = .pumpNoReserve then t else countWellFault n t)
      else countWellFault n { cancelSwitch n t with
        well := vmod (cancelSwitch n t).well n fun w => { w with restarting := true, hwMap := true, vacant := [], move := none } } := by
    rw [ht]; rfl
  have restarting : t.well[n].restarting = s.well[n].restarting := by rw [recorded]
  have own : t.well[n].mech = some mech ∧ t.well[n].faultCount = s.well[n].faultCount + 1 := by rw [recorded]; exact ⟨rfl, rfl⟩
  rw [unfolded, region, restarting]
  split
  next reacts => exact ⟨own.1, own.2, fun idle => absurd (reacts.symm.trans idle) (by decide)⟩
  next =>
    split
    next restarts =>
      have both (c : Prop) [Decidable c] : (if c then t else countWellFault n t).well[n].mech = some mech ∧
          (if c then t else countWellFault n t).well[n].faultCount = s.well[n].faultCount + 1 := by
        split
        · exact own
        · obtain ⟨fs, counted⟩ := countWellFault_well t n
          rw [counted]
          exact own
      exact ⟨(both _).1, (both _).2, fun _ working => absurd (restarts.symm.trans working) (by decide)⟩
    next =>
      obtain ⟨b, cancelled⟩ := cancelSwitch_well t n
      obtain ⟨fs, counted⟩ := countWellFault_well { cancelSwitch n t with
        well := vmod (cancelSwitch n t).well n fun w => { w with restarting := true, hwMap := true, vacant := [], move := none } } n
      rw [counted, vmod_same, cancelled]
      exact ⟨own.1, own.2, fun _ _ => ⟨rfl, rfl, rfl⟩⟩

/-! ### A block's fault (R33, R37) -/

theorem blockSt_of_blocks {s t : State} (h : t.blocks = s.blocks) (b : Block) : blockSt t b = blockSt s b := by
  simp only [blockSt, h]

theorem blockSt_block (b : Block) : (blockSt s b).block = b := by
  unfold blockSt
  cases found : s.blocks.find? fun x => x.block == b with
  | none => rfl
  | some x => simpa using List.find?_some found

/-- A block's entry after a change that keeps its name. -/
theorem blockSt_modBlock (b : Block) {g : BlockSt → BlockSt} (keeps : (g (blockSt s b)).block = (blockSt s b).block) :
    blockSt (modBlock b g s) b = g (blockSt s b) := by
  have name : (g (blockSt s b)).block = b := keeps.trans (blockSt_block s b)
  show ((g (blockSt s b) :: _).find? fun x => x.block == b).getD _ = _
  rw [List.find?_cons_of_pos (by simp [name])]
  rfl

theorem blockSt_recordBlockFault (b : Block) (mech : BlockMech) :
    blockSt (recordBlockFault b mech s) b = { blockSt s b with mech := some mech, count := (blockSt s b).count + 1 } := by
  obtain ⟨t, ht⟩ : ∃ t, t = modBlock b (fun x => { x with mech := some mech, count := x.count + 1 }) s := ⟨_, rfl⟩
  have same : (recordBlockFault b mech s).blocks = t.blocks := ht ▸ (inert_blocks.journalAt _ _ _ _).trans (inert_blocks.free _ _)
  have entry : blockSt t b = { blockSt s b with mech := some mech, count := (blockSt s b).count + 1 } := ht ▸ blockSt_modBlock s b rfl
  rw [blockSt_of_blocks same, entry]

/-- The mechanism and the count of a block's faults. -/
def faultRecord (s : State) (b : Block) : Option BlockMech × Nat := ((blockSt s b).mech, (blockSt s b).count)

theorem faultRecord_modBlock (b : Block) {g : BlockSt → BlockSt} (name : ∀ x, (g x).block = x.block) (mech : ∀ x, (g x).mech = x.mech)
    (count : ∀ x, (g x).count = x.count) : faultRecord (modBlock b g s) b = faultRecord s b := by
  rw [faultRecord, blockSt_modBlock s b (name _), mech, count]
  rfl

theorem faultRecord_of_blocks {s t : State} (h : t.blocks = s.blocks) (b : Block) : faultRecord t b = faultRecord s b := by
  simp only [faultRecord, blockSt_of_blocks h]

/-- A hit records its mechanism, and counts. -/
theorem faultRecord_blockHit (b : Block) (mech : BlockMech) (lanes : Nat) :
    faultRecord (blockHit b mech lanes s).2 b = (some mech, (blockSt s b).count + 1) := by
  obtain ⟨t, ht⟩ : ∃ t, t = recordBlockFault b mech s := ⟨_, rfl⟩
  have recorded : faultRecord t b = (some mech, (blockSt s b).count + 1) := by rw [faultRecord, ht, blockSt_recordBlockFault]
  obtain ⟨u, hu⟩ : ∃ u, u = modBlock b (fun x => { x with faults := (t.now, lanes) :: blockRecent t b }) t := ⟨_, rfl⟩
  have counted : faultRecord u b = faultRecord t b := hu ▸ faultRecord_modBlock t b (fun _ => rfl) (fun _ => rfl) fun _ => rfl
  have unfolded : blockHit b mech lanes s = if t.region[b.region.idx].reacting then (false, t)
      else if (blockRecent t b).isEmpty then (true, u)
      else (false, regionFault b.region b.idx 2
        (escalationLanes u b ((blockRecent t b).foldl (fun v x => Nat.lor v x.2) lanes)) false u) := by
    rw [hu, ht]; rfl
  rw [unfolded]
  split
  · exact recorded
  · split
    · exact counted.trans recorded
    · exact (faultRecord_of_blocks (regionFault_blocks u _ _ _ _ _) b).trans (counted.trans recorded)

/-- A crossing fault of a block that is neither a well nor a keeper is recorded there. -/
theorem faultRecord_crossingFault {b : Block} (notWell : ∀ j, b ≠ .well j) (notKeeper : ∀ j, b ≠ .keeper j) (k : Nat) (tx : Bool) (p : Nat) :
    faultRecord (crossingFaultAs b k tx p s) b = (some .crossing, (blockSt s b).count + 1) := by
  have hit := faultRecord_blockHit s b .crossing k
  have unfolded : crossingFaultAs b k tx p s =
      if (blockHit b .crossing k s).1 then
        modBlock b (fun x => { x with lanes := k }) (localReaction b k tx p (blockHit b .crossing k s).2)
      else (blockHit b .crossing k s).2 := by
    cases b with
    | well j => exact absurd rfl (notWell j)
    | keeper j => exact absurd rfl (notKeeper j)
    | _ => rfl
  rw [unfolded]
  generalize blockHit b .crossing k s = result at hit ⊢
  split
  · exact (faultRecord_modBlock _ b (g := fun x => { x with lanes := k }) (fun _ => rfl) (fun _ => rfl) fun _ => rfl).trans
      ((faultRecord_of_blocks (calm_localReaction b k tx p result.2).blocks b).trans hit)
  · exact hit

/-! ### A keeper's fault (R332) -/

theorem updTimeout_blocks : (updTimeout s).blocks = s.blocks := by
  have wells (t : State) : (forLanes (fun n s =>
      if bitOf s.boot.upd.wells n then
        let b := b2n (bitOf s.boot.upd.banks n)
        let s := s.clrBits (R.WELL_IBANK n) F.WELL_IBANK_BANK_VALID (2 ^ b)
        { s with well := vmod s.well n fun w => if b = 0 then { w with bank0 := none } else { w with bank1 := none } }
      else s) t).blocks = t.blocks := foldl_keeps t State.blocks (fun u n => by dsimp only; split <;> rfl) _
  have pair (k : Fin 3) (g : KeeperSt → KeeperSt) (t : State) : (modK k g (pairReset k t)).blocks = t.blocks := rfl
  unfold updTimeout updRollback
  split
  · rfl
  · split
    · rfl
    · exact (pair _ _ _).trans (wells _)

/-- A powered pair's fault is recorded with its mechanism. -/
theorem mech_keeperFault (j : Fin 3) (powered : pairPowered s j = true) :
    (blockSt (keeperFault j .crossing s) (.keeper j)).mech = some .crossing := by
  have hit : keeperFaulted j .crossing s = (blockHit (.keeper j) .crossing 0 (keeperReset j s)).2 := by
    simp only [keeperFaulted, powered, Bool.not_true, Bool.false_eq_true, if_false, reduceCtorEq, false_and]
  have recorded : faultRecord (keeperFaulted j .crossing s) (.keeper j) = _ := hit ▸ faultRecord_blockHit (keeperReset j s) (.keeper j) .crossing 0
  have kept (c : Bool) (t : State) : (if c then updTimeout (modK j (fun x => { x with down := false }) t) else t).blocks = t.blocks := by
    split
    · exact (updTimeout_blocks _).trans rfl
    · rfl
  exact (congrArg Prod.fst ((faultRecord_of_blocks (kept _ _) _).trans recorded))

/-! ### The well restart: what comes before it is announced (R34, R60) -/

/-- The well's mark of a restart that is not announced. -/
def quietOf (n : Fin 8) (s : State) : Bool := s.well[n].quiet

theorem quietOf_of_well {s t : State} (h : t.well = s.well) : quietOf n t = quietOf n s := by simp only [quietOf, h]

theorem quietOf_poolFollow : quietOf n (poolFollow n s) = quietOf n s := quietOf_of_well n (poolFollow_well s n)

theorem quietOf_abandonSlice : quietOf n (abandonSlice n s) = quietOf n s := by
  have spare (m : Nat) (t : State) : quietOf n (pumpToSpare n m true false t) = quietOf n t := by
    simp only [quietOf, pumpToSpare, modPump, vmod_same, State.setFld_well]
  unfold abandonSlice
  split
  · dsimp only
    split
    · rfl
    · exact (quietOf_poolFollow _ n).trans (spare _ _)
  · rfl

theorem quietOf_paramsInForce (rx : Bool) : quietOf n (paramsInForce n rx s) = quietOf n s := by
  have params (l : List Nat) : (l.foldl (fun s k => s.setActReg (R.WELL_PARAM n k) (s.reg (R.WELL_PARAM n k))) s).well = s.well :=
    foldl_keeps s State.well (by intros; rfl) l
  simp only [quietOf, paramsInForce, vmod_same, params]

theorem quietOf_setBank (role bank : Nat) : quietOf n (setBank n role bank s) = quietOf n s :=
  foldl_keeps s (quietOf n) (by intros; rfl) _

theorem quietOf_sideToBank (rx : Bool) (bank : Nat) : quietOf n (sideToBank n rx bank s) = quietOf n s := by
  cases rx with
  | true =>
    have forced : quietOf n (paramsInForce n true ((setBank n 1 bank s).setFld (R.WELL_IBANK n) F.WELL_IBANK_ACTIVE bank)) = quietOf n s :=
      (quietOf_paramsInForce _ n true).trans (quietOf_setBank s n 1 bank)
    simp only [sideToBank, if_true]
    split
    · exact forced
    · split <;> exact forced
  | false =>
    have sent (t : State) : quietOf n { t with well := vmod t.well n fun w => { w with txBank := bank } } = quietOf n t := by
      simp only [quietOf, vmod_same]
    exact (quietOf_paramsInForce _ n false).trans ((sent _).trans (quietOf_setBank s n 2 bank))

theorem quietOf_switchDone : quietOf n (switchDone n s) = quietOf n s := by
  obtain ⟨t, ht⟩ : ∃ t : State, t = { (s.setActFld (R.WELL_IBANK n) F.WELL_IBANK_ACTIVE (s.fld (R.WELL_IBANK n) F.WELL_IBANK_ACTIVE)).setFld
    (R.WELL_IBANK n) F.WELL_IBANK_SWITCH_PEND 0 with well := vmod s.well n fun w => { w with switch := none } } := ⟨_, rfl⟩
  have ended : quietOf n t = quietOf n s := by simp only [quietOf, ht, vmod_same]
  have event : (switchDone n s).well = t.well := ht ▸ inert_well.raise1 _ trivial _
  exact (quietOf_of_well n event).trans ended

theorem quietOf_fillSlots : quietOf n (fillSlots n s) = quietOf n s := by
  have bound (m : Nat) (v : Vacancy) (t : State) : quietOf n (bindPump n m v t) = quietOf n t := by
    simp only [quietOf, bindPump, preload, modPump, vmod_same, State.setFld_well]
  refine (quietOf_poolFollow _ n).trans (foldl_keeps s (quietOf n) (fun t v => ?_) _)
  split
  · rfl
  · split
    · rfl
    · exact bound _ _ _

/-- The well with its slice abandoned, its forced switch done and its slots filled. -/
def refilled : State :=
  let t := abandonSlice n s
  let t := if t.well[n].forced then
      match t.well[n].switch with
      | some w => switchDone n (sideToBank n false w.target (sideToBank n true w.target t))
      | none => t
    else t
  fillSlots n { t with well := vmod t.well n fun w => { w with vacant := [], move := none } }

theorem quietOf_refilled : quietOf n (refilled s n) = quietOf n s := by
  have switched (t : State) : quietOf n (if t.well[n].forced then
      match t.well[n].switch with
      | some w => switchDone n (sideToBank n false w.target (sideToBank n true w.target t))
      | none => t
    else t) = quietOf n t := by
    split
    · split
      · exact (quietOf_switchDone _ n).trans ((quietOf_sideToBank _ n false _).trans (quietOf_sideToBank t n true _))
      · rfl
    · rfl
  have dropped (t : State) : quietOf n { t with well := vmod t.well n fun w => { w with vacant := [], move := none } } = quietOf n t := by
    simp only [quietOf, vmod_same]
  exact (quietOf_fillSlots _ n).trans ((dropped _).trans ((switched _).trans (quietOf_abandonSlice s n)))

/-! ### The well restart: what comes after -/

/-- What a restart sets after it is announced. -/
inductive RestartBook (n : Nat) : Nat → Fld → Prop
  | chain {a : Nat} {f : Fld} : ChainBook a f → RestartBook n a f
  | pump {a : Nat} {f : Fld} : WindowBook n a f → RestartBook n a f
  | count (f : Fld) : RestartBook n (R.WELL_CNT n) f

theorem misses_announced {g : Fld} (at' : g.lo = 2 ∧ g.w = 1 ∨ g.lo = 3 ∧ g.w = 1) : Misses (RestartBook n) (R.WELL_STATUS n) g := by
  obtain ⟨journal, chain⟩ : Misses ChainBook (R.WELL_STATUS n) g := misses_chain n (.inr (.inr rfl))
  have apart {f : Fld} (h : f.lo + f.w ≤ 2 ∨ 4 ≤ f.lo) : f.apart g := by unfold Fld.apart; omega
  refine ⟨journal, fun a f w => ?_⟩
  cases w with
  | chain w => exact chain a f w
  | count => exact .inl (by unfold R.WELL_STATUS R.WELL_CNT; omega)
  | pump w =>
    cases w with
    | state => exact .inl (by unfold R.WELL_STATUS R.PUMP_STATE; omega)
    | busy => exact .inl (by unfold R.WELL_STATUS R.WELL_POOL; omega)
    | fault w =>
      cases w with
      | pool w =>
        cases w with
        | reduced => exact .inr ⟨by unfold Fld.fits; decide, apart (by decide)⟩
        | rx | tx | spares | quarantined => exact .inl (by unfold R.WELL_STATUS R.WELL_POOL; omega)
        | quar0 => exact .inl (by unfold R.WELL_STATUS R.WELL_QUAR0; omega)
        | quar1 => exact .inl (by unfold R.WELL_STATUS R.WELL_QUAR1; omega)
        | valid => exact .inl (by unfold R.WELL_STATUS R.WELL_IBANK; omega)
      | bank => exact .inl (by unfold R.WELL_STATUS R.PUMP_STATE; omega)
      | active | pending => exact .inl (by unfold R.WELL_STATUS R.WELL_IBANK; omega)
      | cancelled | quarantine | stopped => exact .inr ⟨by unfold Fld.fits; decide, apart (by decide)⟩
      | repair => exact .inl (by unfold R.WELL_STATUS R.BOOT_RPR_COUNT; omega)
      | region r => exact .inl (by have : r.idx.val < 5 := r.idx.isLt; unfold R.WELL_STATUS R.CHIP_RERR; omega)
      | chip => exact .inl (by unfold R.WELL_STATUS R.CHIP_FAULT_STATUS; omega)
      | doorbell _ small => exact .inl (by unfold R.WELL_STATUS R.MBX_DB_TOHOST; omega)

theorem sets_pumpFault (m : Fin 64) (c : PumpCause) (blk : Nat) : Sets (RestartBook n) s (pumpFault n m c blk s) := by
  have raised : Sets (RestartBook n) s (s.raise1 (R.PUMP_ERR n m) c.fld (32 + 16 * n + 8)) := Sets.refl.raise1 (.chain (.window n m)) _
  rcases pumpFault_cases s n m c blk with ⟨-, same⟩ | after
  · exact raised.of_regs same
  · have quarantined := (sets_quarantine (withdrawn s n c m) n m true).trans after
    exact raised.trans (((sets_withdrawn s n c m).trans ((sets_marked _ n m (.state m)).trans
      (quarantined.mono fun _ _ => .fault))).mono fun _ _ => .pump)

/-- The restart's two events. -/
def announced : State := wellEvent n F.WELL_STATUS_BURST 3 (wellEvent n F.WELL_STATUS_RESTART 2 s)

/-- The restart announced and counted, with the codewords in the pipe poisoned. -/
def burst (cw frames : Nat) : State :=
  poisonRx n cw (((announced s n).addSat (R.WELL_CNT n) F.WELL_CNT_RESTARTS 1).addSat (R.WELL_CNT n) F.WELL_CNT_BURST_FRAMES frames)

/-- A recipe that the well's pumps cannot run any more is a fault of the Line region. -/
def demandsChecked : State :=
  match recipeInForce s n with
  | some r =>
    if (pumpsIn s n 1).length < r.rxMin ∨ (pumpsIn s n 2).length < r.txMin then regionFault .line n 1 (2 ^ n.val) false s else s
  | none => s

/-- The end of a restart: the pumps reload, the marks go, and the faults that waited for it are handled. -/
def restartEnd : State :=
  let t := (pumpsIn s n 1 ++ pumpsIn s n 2).foldl (fun s m => preload n m (pumpRole s n m) s) s
  let u := demandsChecked { t with well := vmod t.well n fun w =>
    { w with restarting := false, forced := false, quiet := false, hwMap := false, deferred := [] } } n
  t.well[n].deferred.foldl (fun s p => pumpFault n ⟨p.1 % 64, Nat.mod_lt _ (by decide)⟩ p.2 0 s) u

theorem wellRestart_eq (cw frames : Nat) : wellRestart n cw frames s = if !s.well[n].restarting then s
    else restartEnd (if (refilled s n).well[n].quiet then refilled s n else burst (refilled s n) n cw frames) n := rfl

theorem wellRestart_announced (cw frames : Nat) (restarts : s.well[n].restarting = true) (loud : s.well[n].quiet = false) :
    wellRestart n cw frames s = restartEnd (burst (refilled s n) n cw frames) n := by
  have quiet : (refilled s n).well[n].quiet = false := (quietOf_refilled s n).trans loud
  rw [wellRestart_eq, restarts, quiet]
  rfl

theorem sets_burst (cw frames : Nat) : Sets (RestartBook n) (announced s n) (burst s n cw frames) :=
  ((Sets.refl.addSat (.count _) 1).addSat (.count _) frames).trans ((calm_poisonMark false _ _ _).outer.sets.mono fun _ _ => .chain)

theorem sets_demandsChecked : Sets (RestartBook n) s (demandsChecked s n) := by
  unfold demandsChecked
  split
  · split
    · exact (sets_regionFault n .line _ _ _ _ s).mono fun _ _ => .pump ∘ .fault
    · exact .refl
  · exact .refl

theorem sets_restartEnd : Sets (RestartBook n) s (restartEnd s n) := by
  have loaded (l : List Nat) : Sets (RestartBook n) s (l.foldl (fun s m => preload n m (pumpRole s n m) s) s) :=
    Sets.refl.foldl l fun m _ u => Sets.of_regs .refl
  have cleared (t : State) (g : WellSt → WellSt) : Sets (RestartBook n) t { t with well := vmod t.well n g } := Sets.of_regs .refl
  exact Sets.foldl (((loaded _).trans (cleared _ _)).trans (sets_demandsChecked _ n)) _ fun p _ u => sets_pumpFault u n _ p.2 0

/-- What else follows a restart leaves its events. -/
theorem sets_wellRestarted (cw frames : Nat) (restarts : s.well[n].restarting = true) (loud : s.well[n].quiet = false) :
    Sets (RestartBook n) (announced (refilled s n) n) (wellRestarted n cw frames s) := by
  obtain ⟨t, ht⟩ : ∃ t, t = wellRestart n cw frames s := ⟨_, rfl⟩
  have restarted : Sets (RestartBook n) (announced (refilled s n) n) t := by
    rw [ht, wellRestart_announced s n cw frames restarts loud]
    exact (sets_burst _ n cw frames).trans (sets_restartEnd _ n)
  have followed : Calm ChainBook t (updWellCheck true n (bankFollows n s
      (sideParamsFollow n false s (sideParamsFollow n true s (atlasWellRestart n t))))) :=
    ((((calm_atlasWellRestart n t).trans (calm_sideParamsFollow n true s _)).trans (calm_sideParamsFollow n false s _)).trans
      (calm_bankFollows n s _)).trans (calm_updWellCheck true n _)
  have unfolded : wellRestarted n cw frames s = if !s.well[n].restarting then s else updWellCheck true n (bankFollows n s
      (sideParamsFollow n false s (sideParamsFollow n true s (atlasWellRestart n t)))) := ht ▸ rfl
  rw [unfolded, restarts]
  exact restarted.trans (followed.sets.mono fun _ _ => .chain)

theorem flags_announced : (announced s n).flag (R.WELL_STATUS n) F.WELL_STATUS_RESTART = true ∧
    (announced s n).flag (R.WELL_STATUS n) F.WELL_STATUS_BURST = true := by
  have journal : R.WELL_STATUS n ≠ R.SAF_JNL_STATUS := (misses_announced n (g := F.WELL_STATUS_BURST) (.inr (by decide))).1
  refine ⟨?_, State.flag_raise1 _ journal _ _ (by unfold Fld.fits; decide) rfl⟩
  rw [announced, State.flag, wellEvent, State.raise1, fld_raise_apart _ journal (by unfold Fld.fits; decide) (by unfold Fld.apart; decide)]
  exact State.flag_raise1 _ journal _ _ (by unfold Fld.fits; decide) rfl

/-- Settles O11: the faults' records and the restart's events stay through the reactions that follow them. -/
theorem wellFaultsAndRestartsComplete : Obligations.WellFaultsAndRestartsComplete := by
  intro s n running
  refine ⟨fun mech => ?_, fun k tx p => rfl, fun j k tx p => ⟨?_, mech_keeperFault s j⟩, fun b k tx p notWell notKeeper => ?_,
    fun cw fr restarts loud _ => ?_, fun cw fr working => ?_⟩
  · exact ⟨_, completes_of_outcome s (g := wellFault n mech) rfl running, wellFault_records s n mech⟩
  · exact completes_of_outcome s (g := keeperFault j .crossing) rfl running
  · have record := faultRecord_crossingFault s notWell notKeeper k tx p
    exact ⟨_, completes_of_outcome s (g := crossingFaultAs b k tx p) rfl running, congrArg Prod.fst record, congrArg Prod.snd record⟩
  · obtain ⟨restart, bursts⟩ := flags_announced (refilled s n) n
    have after := sets_wellRestarted s n cw fr restarts loud
    exact ⟨_, completes_of_outcome s (g := wellRestarted n cw fr) rfl running,
      (after.flag (misses_announced n (.inl (by decide)))).trans restart, (after.flag (misses_announced n (.inr (by decide)))).trans bursts⟩
  · have run := completes_of_outcome s (c := .wellRestart n cw fr) (g := wellRestarted n cw fr) rfl running
    rwa [wellRestarted, working, Bool.not_false, if_pos rfl] at run

end Sys2Proof.Machine
end

section
/-!
PROOF. The state of the ports (write queues, fabric, Port I) in the functions that a bus access runs. Only the fabric, the ports' own
commands and the in-band interrupt set it, so every other function leaves it as it is; the reset state empties it, which `coldState` alone
brings about. One lemma per function, in the order of the model's files.
-/
namespace Sys2Proof.Machine

variable (s : State)

/-! ### Lists, choices and the cistern's views -/

theorem foldl_port {α : Type} {g : State → α → State} (h : ∀ s x, (g s x).port = s.port) (l : List α) (s : State) :
    (l.foldl g s).port = s.port := foldl_keeps s State.port h l
theorem port_inert : InertAll CisTouch State.port :=
  ⟨⟨fun _ _ _ _ _ => rfl, fun _ _ _ _ => rfl, fun _ => by simp [CisTouch], fun _ => by simp [CisTouch],
    fun _ _ _ => rfl, fun _ _ => rfl, fun _ _ => rfl, fun _ _ _ => rfl, fun _ _ _ => rfl⟩, fun _ _ => rfl⟩
@[simp] theorem ite_port (c : Prop) [Decidable c] (t : State) : (if c then s else t).port = if c then s.port else t.port :=
  apply_ite ..

/-! ### Registers, events and the journal -/

@[simp] theorem State.journalAt_port (source code payload : Nat) : (State.journalAt s source code payload).port = s.port := by
  simp [State.journalAt, State.jLose]
@[simp] theorem State.journal_port (code payload : Nat) : (State.journal s code payload).port = s.port := by simp [State.journal]
@[simp] theorem State.raise_port (a : Nat) (f : Fld) (bits id : Nat) : (State.raise s a f bits id).port = s.port := by simp [State.raise]
@[simp] theorem State.raise1_port (a : Nat) (f : Fld) (id : Nat) : (State.raise1 s a f id).port = s.port := by simp [State.raise1]
@[simp] theorem fresh_port (w : Nat) : (s.fresh w).2.port = s.port := rfl
@[simp] theorem State.journalFault_port (source mech : Nat) : (State.journalFault s source mech).port = s.port := by
  simp [State.journalFault]
theorem forLanes_port {g : Fin 8 → State → State} (h : ∀ n s, (g n s).port = s.port) (s : State) :
    (forLanes g s).port = s.port := foldl_port (fun s n => h n s) _ s
@[simp] theorem State.setBytesNat_port (a v k : Nat) : (State.setBytesNat s a v k).port = s.port := by
  induction k generalizing s a v with
  | zero => rfl
  | succ k ih => rw [State.setBytesNat, ih, State.setByte_port]

/-! ### Laser enables -/

@[simp] theorem muteUpdate_port (n : Fin 8) : (muteUpdate n s).port = s.port := by simp [muteUpdate]
@[simp] theorem lenFall_port (n : Fin 8) : (lenFall n s).port = s.port := by
  simp only [lenFall]
  (repeat' split) <;> simp
@[simp] theorem lenLane_port (n : Fin 8) : (lenLane n s).port = s.port := by simp [lenLane, lenRise]
@[simp] theorem lenUpdate_port : (lenUpdate s).port = s.port :=
  forLanes_port (fun n s => lenLane_port s n) s

/-! ### Chip events and regions -/

@[simp] theorem chipEvent_port : (chipEvent s).port = s.port := rfl
@[simp] theorem assertFault_port : (assertFault s).port = s.port := by simp [assertFault]
@[simp] theorem safeFollow_port : (safeFollow s).port = s.port := rfl
@[simp] theorem pendFollow_port : (pendFollow s).port = s.port := rfl
@[simp] theorem regionFault_port (r : Region) (block cause lanes : Nat) (safety : Bool) : (regionFault r block cause lanes safety s).port = s.port := by
  simp [regionFault, chipEscalate]
@[simp] theorem sgRelease_port (k : Nat) : (sgRelease k s).port = s.port := by simp [sgRelease]

/-! ### Ports of the data path -/

@[simp] theorem addMarks_port (tx : Bool) (l : List PMark) (k : Fin 8) : (addMarks tx l k s).port = s.port := rfl
@[simp] theorem poisonMark_port (tx : Bool) (n : Fin 8) (l : List PMark) : (poisonMark tx n l s).port = s.port := by
  unfold poisonMark
  exact foldl_port (fun s x => by simp) _ _
@[simp] theorem poisonBits_port (tx : Bool) (n : Fin 8) (pos len : Nat) : (poisonBits tx n pos len s).port = s.port := by simp [poisonBits]
@[simp] theorem poisonRx_port (n k : Nat) : (poisonRx n k s).port = s.port := by simp [poisonRx]
@[simp] theorem passPoison_port (tx : Bool) (n : Fin 8) (k : Nat) : (passPoison tx n k s).port = s.port := rfl
@[simp] theorem toHost_port (n : Fin 8) (l : List (Option Bool)) : (toHost n l s).port = s.port := by simp [toHost, sg1Poison]

/-! ### Errors of memories -/

@[simp] theorem cisEvent_port (f : Fld) : (cisEvent f s).port = s.port := by simp [cisEvent]
@[simp] theorem remapCreate_port (line cause : Nat) : (remapCreate line cause s).port = s.port := port_inert.remap.remapCreate s line cause
@[simp] theorem poisonWord_port (w : Nat) : (poisonWord w s).port = s.port := port_inert.poisonWord s w
@[simp] theorem readWord_port (word src : Nat) (f : CisFault) : (readWord word src f s).2.port = s.port := port_inert.readWord s word src f
@[simp] theorem cisWritten_port (a k : Nat) : (cisWritten a k s).port = s.port := port_inert.cisWritten s a k
@[simp] theorem cisStore_port (a k v : Nat) : (cisStore a k v s).port = s.port := by simp [cisStore]

/-! ### Lane parameters -/

@[simp] theorem setRxState_port (n v : Nat) : (setRxState n v s).port = s.port := rfl
@[simp] theorem rxPumpsLoad_port (n : Fin 8) : (rxPumpsLoad n s).port = s.port := by
  unfold rxPumpsLoad
  exact foldl_port (fun s x => by simp) _ _

/-! ### Line lanes -/

@[simp] theorem calGoMarks_port (lanes : Nat) : (calGoMarks lanes s).port = s.port :=
  forLanes_port (fun n s => by simp) s
@[simp] theorem piFollow_port (n : Fin 8) : (piFollow n s).port = s.port := by simp [piFollow]

/-! ### Wells -/

@[simp] theorem poolFollow_port (n : Fin 8) : (poolFollow n s).port = s.port := by simp [poolFollow, bankFollow]
@[simp] theorem wellEvent_port (n : Fin 8) (f : Fld) (j : Nat) : (wellEvent n f j s).port = s.port := by simp [wellEvent]
@[simp] theorem cancelSwitch_port (n : Fin 8) : (cancelSwitch n s).port = s.port := by
  unfold cancelSwitch
  split
  · rfl
  · simp [foldl_port fun s m => State.setFld_port ..]
@[simp] theorem switchRequest_port (n : Fin 8) (update : Bool) : (switchRequest n update s).port = s.port := by
  unfold switchRequest
  split <;> simp
@[simp] theorem loadErr_port (n : Fin 8) : (loadErr n s).port = s.port := by simp [loadErr]
@[simp] theorem beginLoad_port (n : Fin 8) (l : Load) : (beginLoad n l s).port = s.port := rfl
@[simp] theorem startLoad_port (n : Fin 8) (p : PumpSection) (sel : Nat) (auto : Bool) (reach : Option Nat) :
    (startLoad n p sel auto reach s).port = s.port := by
  unfold startLoad
  split <;> simp
@[simp] theorem recipeLoad_port (n : Fin 8) (verified : Bool) : (recipeLoad n verified s).port = s.port := by simp [recipeLoad]
@[simp] theorem lbistGo_port : (lbistGo s).port = s.port := by simp [lbistGo]

/-! ### Receive chains -/

@[simp] theorem round8_port (c : ℤ) : (round8 c s).2.port = s.port := by
  simp only [round8]
  (repeat' split) <;> simp
@[simp] theorem roundSet_port (l : List ℤ) : (roundSet l s).2.port = s.port := by
  suffices ∀ out : List Int × State, (l.foldl (fun p c => let (v, s) := round8 c p.2; (p.1 ++ [v], s)) out).2.port = out.2.port from this _
  induction l with
  | nil => exact fun _ => rfl
  | cons c l ih => exact fun _ => (ih _).trans (round8_port ..)
@[simp] theorem showTaps_port (n : Nat) (l : List ℤ) : (showTaps n l s).port = s.port := rfl
@[simp] theorem tapsInForce_port (n : Nat) : (tapsInForce n s).port = s.port := rfl
@[simp] theorem installSet_port (n : Fin 8) (l : List ℤ) : (installSet n l s).port = s.port := by simp [installSet]
@[simp] theorem startAttempt_port (n : Fin 8) : (startAttempt n s).port = s.port := by simp [startAttempt]
@[simp] theorem rxResume_port (n : Fin 8) : (rxResume n s).port = s.port := by simp [rxResume]
@[simp] theorem rxRestartWritten_port (n : Fin 8) : (rxRestartWritten n s).port = s.port := rfl
@[simp] theorem reachSelect_port (n : Fin 8) : (reachSelect n s).port = s.port := by
  simp only [reachSelect]
  (repeat' split) <;> simp

/-! ### Signals -/

@[simp] theorem freshList_port (w k : Nat) : (freshList w k s).2.port = s.port := by
  induction k generalizing s with
  | zero => rfl
  | succ k ih => exact ih (s.fresh w).2

/-! ### Frames -/

@[simp] theorem octFollow_port : (octFollow s).port = s.port := rfl
@[simp] theorem octPass_port (n : Fin 8) (k : Nat) : (octPass n k s).port = s.port := by simp [octPass]
@[simp] theorem lossOfFrame_port (n : Fin 8) : (lossOfFrame n s).port = s.port := by simp [lossOfFrame]
@[simp] theorem trackerDrop_port (n : Fin 8) : (trackerDrop n s).port = s.port := by
  unfold trackerDrop
  split <;> simp
@[simp] theorem deliver_port (n : Fin 8) (bad : Bool) (l : List PayBit) : (deliver n bad l s).port = s.port := by simp [deliver, monSees]
@[simp] theorem deframe_port (n : Fin 8) (i carried : Nat) (bad : Bool) (info : List PayBit) : (deframe n i carried bad info s).port = s.port := by
  unfold deframe
  exact foldl_port (fun s x => by simp) _ _

/-! ### Seep -/

@[simp] theorem seepUnsettle_port (n : Fin 8) (st : Option FiltStage) : (seepUnsettle n st s).port = s.port := by simp [seepUnsettle]
@[simp] theorem seepApply_port (n : Fin 8) : (seepApply n s).port = s.port := by
  simp only [seepApply]
  (repeat' split) <;> simp
@[simp] theorem txqFollow_port (n : Fin 8) : (txqFollow n s).port = s.port := rfl
@[simp] theorem countDrops_port (n : Fin 8) (k : Nat) : (countDrops n k s).port = s.port := rfl
@[simp] theorem txqDrop_port (n : Fin 8) : (txqDrop n s).port = s.port := by simp [txqDrop]
@[simp] theorem seepQueue_port (n : Fin 8) (cls : Nat) (m : SMsg) (due : Option Nat) : (seepQueue n cls m due s).port = s.port := by
  unfold seepQueue
  split
  · simp
  · split
    · rw [txqFollow_port, modSeep_port]
    · split
      · exact txqDrop_port ..
      · split
        · rw [txqFollow_port, txqDrop_port, modSeep_port]
        · exact txqDrop_port ..
@[simp] theorem noRoute_port : (noRoute s).port = s.port := by simp [noRoute]
@[simp] theorem sendRouted_port (cls : Nat) (m : SMsg) : (sendRouted cls m s).port = s.port := by
  unfold sendRouted
  split <;> simp
@[simp] theorem sendMsg_port (n : Fin 8) (cls : Nat) (m : SMsg) : (sendMsg n cls m s).port = s.port := by simp [sendMsg]
@[simp] theorem gwFollow_port : (gwFollow s).port = s.port := by simp [gwFollow]
@[simp] theorem gwGo_port : (gwGo s).port = s.port := by
  unfold gwGo
  split <;> simp
@[simp] theorem gwPop_port : (gwPop s).port = s.port := by
  unfold gwPop
  split <;> simp
@[simp] theorem gwTxNext_port : (gwTxNext s).port = s.port := rfl
@[simp] theorem gwRxNext_port : (gwRxNext s).port = s.port := rfl

/-! ### Atlas -/

@[simp] theorem atlasClear_port (n : Fin 8) : (atlasClear n s).port = s.port := by
  simp only [atlasClear]
  (repeat' split) <;> simp
@[simp] theorem atlasClearLanes_port (lanes : Nat) : (atlasClearLanes lanes s).port = s.port :=
  forLanes_port (fun n s => by simp) s
@[simp] theorem atlasFreeze_port (n : Fin 8) (on : Bool) : (atlasFreeze n on s).port = s.port := by simp [atlasFreeze]
@[simp] theorem atlasReadStart_port (n : Fin 8) : (atlasReadStart n s).port = s.port := rfl
@[simp] theorem detFollow_port (n : Fin 8) : (detFollow n s).port = s.port := rfl
@[simp] theorem detNext_port (n : Fin 8) : (detNext n s).port = s.port := rfl
@[simp] theorem pdApplyWritten_port (n : Fin 8) : (pdApplyWritten n s).port = s.port := by simp [pdApplyWritten]
@[simp] theorem pdNext_port (n : Fin 8) : (pdNext n s).port = s.port := rfl
@[simp] theorem pdWrite_port (n : Fin 8) (v : Nat) : (pdWrite n v s).port = s.port := rfl
@[simp] theorem setTrain_port (n : Fin 8) (t : Option TrainRun) : (setTrain n t s).port = s.port := rfl
@[simp] theorem trainStart_port (n : Fin 8) : (trainStart n s).port = s.port := by simp [trainStart, sendTapReq]
@[simp] theorem atlasUnlocked_port (n : Fin 8) : (atlasUnlocked n s).port = s.port := by simp [atlasUnlocked, trainEnd, settleRestart]

/-! ### Host side -/

@[simp] theorem monRestart_port (p : Fin 8) (d : Fin 2) : (monRestart p d s).port = s.port := rfl
@[simp] theorem monEmpty_port (p : Fin 8) (d : Fin 2) : (monEmpty p d s).port = s.port := by
  unfold monEmpty
  exact foldl_port (fun s x => by simp) _ _
@[simp] theorem monLose_port (p : Fin 8) (d : Fin 2) : (monLose p d s).port = s.port := by simp [monLose]
@[simp] theorem steerFollow_port : (steerFollow s).port = s.port := rfl
@[simp] theorem hostTxFollow_port : (hostTxFollow s).port = s.port :=
  forLanes_port (fun n s => by simp) s
@[simp] theorem hostMeasure_port (n : Fin 8) : (hostMeasure n s).port = s.port := by
  unfold hostMeasure
  extract_lets at0 measured lock found swept
  have met : found.port = s.port := by
    unfold found
    split
    · exact State.setFld_port ..
    · rfl
  have taps : swept.port = found.port := by
    unfold swept
    split
    · have drawn := freshList_port found 32 6
      generalize freshList 32 6 found = r at drawn
      exact (foldl_port (fun s p => State.setReg_port ..) _ r.2).trans drawn
    · rfl
  split
  · rfl
  · split
    · exact taps.trans met
    · exact taps.trans met
@[simp] theorem hostFollow_port : (hostFollow s).port = s.port := by
  rw [hostFollow, hostTxFollow_port, steerFollow_port, foldl_port fun s p => foldl_port (fun s d => by simp) _ s]
  exact forLanes_port (fun i s => rfl) s
@[simp] theorem hostTo_port (n : Fin 8) (v : Nat) : (hostTo n v s).port = s.port := by simp [hostTo, setHostState, leaveActive]
@[simp] theorem cdrDrop_port (n : Fin 8) : (cdrDrop n s).port = s.port := by simp [cdrDrop]
@[simp] theorem firFromRegs_port (n : Nat) : (firFromRegs n s).port = s.port := rfl
@[simp] theorem hostActive_port (n : Fin 8) : (hostActive n s).port = s.port := by simp [hostActive]
@[simp] theorem hostLocked_port (n : Fin 8) : (hostLocked n s).port = s.port := by simp [hostLocked, hostNoPeer]
@[simp] theorem hostTrainBegin_port (n : Fin 8) : (hostTrainBegin n s).port = s.port := by simp [hostTrainBegin]
@[simp] theorem hostRetrain_port (n : Fin 8) : (hostRetrain n s).port = s.port := by
  simp only [hostRetrain]
  (repeat' split) <;> simp
@[simp] theorem rateFollow_port : (rateFollow s).port = s.port := rfl
@[simp] theorem hostTestChange_port : (hostTestChange s).port = s.port := by
  rw [hostTestChange, rateFollow_port, forLanes_port fun n s => by simp]
@[simp] theorem monSnap_port (p : Fin 8) (d : Fin 2) : (monSnap p d s).port = s.port := by
  unfold monSnap
  exact foldl_port (fun s x => by simp) _ _
@[simp] theorem monClear_port (p : Fin 8) (d : Fin 2) : (monClear p d s).port = s.port := rfl
theorem forMons_port {mask : Nat} {g : Fin 8 → Fin 2 → State → State} (h : ∀ p d s, (g p d s).port = s.port) (s : State) :
    (forMons mask g s).port = s.port := forLanes_port (fun p s => by split <;> simp [h]) s
@[simp] theorem monSnapWrite_port (snap clear : Nat) : (monSnapWrite snap clear s).port = s.port := by
  rw [monSnapWrite, forMons_port fun p d s => monClear_port s p d, forMons_port fun p d s => monSnap_port s p d]

/-! ### Profiles and rates -/

@[simp] theorem retrainLane_port (n : Fin 8) : (retrainLane n s).port = s.port := by simp [retrainLane, reacquire]
@[simp] theorem calGoLane_port (n : Fin 8) (steps : Nat) (force : Bool) : (calGoLane n steps force s).port = s.port := by
  simp [calGoLane, receiveStop, enterHold]
@[simp] theorem calGo_port : (calGo s).port = s.port :=
  forLanes_port (fun n s => by simp) s
@[simp] theorem justEmpty_port (n : Fin 8) : (justEmpty n s).port = s.port := rfl
@[simp] theorem adcEnabled_port (n : Fin 8) : (adcEnabled n s).port = s.port := by simp [adcEnabled]
@[simp] theorem profileLoad_port (n : Fin 8) (p : Profile) (kbd : Nat) : (profileLoad n p kbd s).port = s.port := by
  simp only [profileLoad]
  (repeat' split) <;> simp
@[simp] theorem rateChange_port (n : Fin 8) (rate : Nat) : (rateChange n rate s).port = s.port := by
  rw [rateChange, forLanes_port fun k s => by simp, State.setFld_port]
@[simp] theorem flightPoisoned_port (poison : Nat) : (flightPoisoned poison s).port = s.port := by
  rw [flightPoisoned, forLanes_port fun n s => by simp, foldl_port fun s w => by simp]
  exact forLanes_port (fun n s => by simp) s
@[simp] theorem profileLane_port (n : Fin 8) (p : Profile) (rate : Nat) : (profileLane n p rate s).port = s.port := by
  simp [profileLane, streamsEnd, foldl_port fun s k => justEmpty_port s k, biasClip, tablesReset]
@[simp] theorem profileStart_port (prof leg cfg poison : Nat) : (profileStart prof leg cfg poison s).port = s.port := by
  unfold profileStart
  extract_lets a p steered poisoned lost named legged ported cleared moved unsteered
  calc (hostFollow (octFollow (rateFollow unsteered))).port
      = unsteered.port := by simp
    _ = moved.port := forLanes_port (fun n s => modLine_port s n _) _
    _ = cleared.port := forLanes_port (fun n s => profileLane_port s n _ _) _
    _ = ported.port := atlasClearLanes_port ported 255
    _ = legged.port := State.setFld_port ..
    _ = named.port := State.setFld_port ..
    _ = lost.port := State.setFld_port ..
    _ = poisoned.port := by
      unfold lost
      split
      · rfl
      · exact forLanes_port (fun q s => by simp) _
    _ = (steered.setFld a F.FEC_PROFILE_BUSY 1).port := flightPoisoned_port ..
    _ = steered.port := State.setFld_port ..
    _ = s.port := forLanes_port (fun n s => State.setFld_port ..) _

/-! ### Time -/

@[simp] theorem modTod_port (g : TodSt → TodSt) : (modTod g s).port = s.port := rfl
@[simp] theorem diffFollow_port : (diffFollow s).port = s.port := rfl
@[simp] theorem setFreq_port (f : ℤ) : (setFreq f s).port = s.port := rfl
@[simp] theorem validFollow_port : (validFollow s).port = s.port := by simp [validFollow]
@[simp] theorem manWritten_port : (manWritten s).port = s.port := by
  unfold manWritten
  extract_lets v w t
  rw [ite_port, setFreq_port, ite_self]
  exact modTod_port ..
@[simp] theorem freqLatch_port : (freqLatch s).port = s.port := rfl

/-! ### Cistern -/

@[simp] theorem cisLoad_port (src : Nat) (host : Bool) (a k : Nat) (f : CisFault) : (cisLoad src host a k f s).2.2.port = s.port := by
  simp only [cisLoad]
  (repeat' split) <;> simp
@[simp] theorem cisSave_port (host : Bool) (a k v : Nat) : (cisSave host a k v s).2.port = s.port := by
  unfold cisSave
  split <;> simp
@[simp] theorem engineFollow_port : (engineFollow s).port = s.port := by simp [engineFollow]
@[simp] theorem captureEnd_port : (captureEnd s).port = s.port := by simp [captureEnd]
@[simp] theorem storeList_port (a : Nat) (l : List Nat) : (storeList a l s).port = s.port := by
  unfold storeList
  exact foldl_port (fun s x => by simp) _ _
@[simp] theorem drainOne_port : (drainOne s).port = s.port := by
  unfold drainOne
  split <;> simp
@[simp] theorem captureAbort_port : (captureAbort s).port = s.port := by
  unfold captureAbort
  split <;> simp
@[simp] theorem zeroStart_port (mirror : Bool) : (zeroStart mirror s).port = s.port := by simp [zeroStart, captureClose]

/-! ### Mailboxes -/

@[simp] theorem mbxGo_port (p : Fin 3) : (mbxGo p s).port = s.port := by simp [mbxGo]
@[simp] theorem mbxInClear_port (p : Nat) : (mbxInClear p s).port = s.port := rfl
@[simp] theorem answerMbxIn_port (rc : Nat) : (answerMbxIn rc s).port = s.port := by
  simp only [answerMbxIn]
  (repeat' split) <;> simp
@[simp] theorem mbxAck_port (p : Fin 3) (rc : Nat) : (mbxAck p rc s).port = s.port := by simp [mbxAck]
@[simp] theorem mbxOutClear_port (p : Fin 3) : (mbxOutClear p s).port = s.port := by simp [mbxOutClear]
@[simp] theorem mbxHostRead_port (p : Fin 3) (k : Nat) : (mbxHostRead p k s).port = s.port := by simp [mbxHostRead]
@[simp] theorem mbxKeeperRead_port (p : Fin 3) (k : Nat) : (mbxKeeperRead p k s).port = s.port := by simp [mbxKeeperRead]
@[simp] theorem mbxOutAck_port (p : Fin 3) : (mbxOutAck p s).port = s.port := by simp [mbxOutAck]
@[simp] theorem dbSetDev_port (p : Fin 3) (bits : Nat) : (dbSetDev p bits s).port = s.port := by simp [dbSetDev]
@[simp] theorem dbAckDev_port (p : Fin 3) (bits : Nat) : (dbAckDev p bits s).port = s.port := rfl
@[simp] theorem dbSetHost_port (p : Fin 3) (bits : Nat) : (dbSetHost p bits s).port = s.port := rfl
@[simp] theorem dbClearHost_port (p : Fin 3) (bits : Nat) : (dbClearHost p bits s).port = s.port := by simp [dbClearHost]

/-! ### Keepers -/

@[simp] theorem kicClaim_port (k : Fin 3) : (kicClaim k s).2.port = s.port := by
  unfold kicClaim
  split <;> simp
@[simp] theorem eoiErr_port (k : Fin 3) : (eoiErr k s).port = s.port := by simp [eoiErr]
@[simp] theorem kicEoi_port (k : Fin 3) (id : Nat) : (kicEoi k id s).port = s.port := by
  simp only [kicEoi]
  (repeat' split) <;> simp
@[simp] theorem pairReset_port (k : Fin 3) : (pairReset k s).port = s.port := rfl

/-! ### Faults -/

@[simp] theorem recordBlockFault_port (b : Block) (mech : BlockMech) : (recordBlockFault b mech s).port = s.port := by
  simp [recordBlockFault]
@[simp] theorem blockHit_port (b : Block) (mech : BlockMech) (lanes : Nat) : (blockHit b mech lanes s).2.port = s.port := by
  simp only [blockHit]
  (repeat' split) <;> simp

/-! ### Updates -/

@[simp] theorem modBoot_port (g : BootSt → BootSt) : (modBoot g s).port = s.port := rfl
@[simp] theorem setSt_port (f : Fld) (v : Nat) : (setSt f v s).port = s.port := rfl
@[simp] theorem updErr_port (reason : Nat) : (updErr reason s).port = s.port := by simp [updErr]
@[simp] theorem stageWritten_port : (stageWritten s).port = s.port := port_inert.stageWritten s
@[simp] theorem modUpd_port (g : UpdSt → UpdSt) : (modUpd g s).port = s.port := rfl
@[simp] theorem updFail_port (reason : Nat) : (updFail reason s).port = s.port := by simp [updFail]
@[simp] theorem copyBytes_port (src dst k : Nat) : (copyBytes src dst k s).port = s.port := by
  unfold copyBytes
  exact foldl_port (fun s x => by simp) _ _
@[simp] theorem firmwareCopy_port (slot : Nat) (i : Image) : (firmwareCopy slot i s).port = s.port := by
  unfold firmwareCopy
  split <;> simp
@[simp] theorem pairSwitch_port (k : Fin 3) (slot : Nat) : (pairSwitch k slot s).port = s.port := rfl
@[simp] theorem updLoaded_port : (updLoaded s).port = s.port := by
  simp only [updLoaded]
  (repeat' split) <;> simp
@[simp] theorem updNext_port : (updNext s).port = s.port := by
  simp only [updNext]
  (repeat' split) <;> simp
@[simp] theorem updSwitch_port : (updSwitch s).port = s.port := by
  unfold updSwitch
  split
  · simp
  · simp [foldl_port]
@[simp] theorem updRollback_port : (updRollback s).port = s.port := by
  unfold updRollback
  split
  · rfl
  · simp [forLanes_port]
@[simp] theorem rprNext_port : (rprNext s).port = s.port := rfl

/-! ### Power -/

@[simp] theorem levelMove_port (f : Fld) (need : Nat) : (levelMove f need s).port = s.port := by simp [levelMove]
@[simp] theorem clocksMove_port : (clocksMove s).port = s.port := by
  unfold clocksMove
  simp [foldl_port]
@[simp] theorem heldStart_port : (heldStart s).port = s.port := by
  unfold heldStart
  split <;> simp
@[simp] theorem perfLevelChange_port : (perfLevelChange s).port = s.port := by simp [perfLevelChange, levelsTo, avsRequest]
@[simp] theorem setDpIdle_port (v : Nat) : (setDpIdle v s).port = s.port := rfl
@[simp] theorem wakeCause_port (bits : Nat) : (wakeCause bits s).port = s.port := rfl
@[simp] theorem entryAbandon_port : (entryAbandon s).port = s.port := rfl
@[simp] theorem exitStart_port (causes : Nat) : (exitStart causes s).port = s.port := by simp [exitStart]
@[simp] theorem doorbellWake_port (p : Nat) : (doorbellWake p s).port = s.port := by simp [doorbellWake, edgeWake]

/-! ### Safety goals -/

@[simp] theorem sg1Release_port : (sg1Release s).port = s.port := by simp [sg1Release]
@[simp] theorem sg3Follow_port (old : State) : (sg3Follow old s).port = s.port := by simp [sg3Follow, sg3Request, sgTrip, raiseTrip]
@[simp] theorem sg3Release_port : (sg3Release s).port = s.port := by simp [sg3Release]
@[simp] theorem sg4Release_port : (sg4Release s).port = s.port := by simp [sg4Release]
@[simp] theorem wdKick_port (k : Fin 3) : (wdKick k s).port = s.port := by
  simp [wdKick, keeperFault, keeperFaulted, keeperReset, updTimeout]
@[simp] theorem frepGo_port : (frepGo s).port = s.port := rfl
@[simp] theorem jnlZeroise_port : (jnlZeroise s).port = s.port := by
  unfold jnlZeroise
  simp [foldl_port]

/-! ### Thermal control and monitor -/

@[simp] theorem bandStep_port (f : Fld) (t : ℤ) : (bandStep f t s).port = s.port := by simp [bandStep]
@[simp] theorem bandsFollow_port : (bandsFollow s).port = s.port := by
  unfold bandsFollow
  (repeat' split) <;> simp [foldl_port]
@[simp] theorem scanStart_port : (scanStart s).port = s.port := by
  unfold scanStart
  simp [foldl_port]

/-! ### Lifecycle and debug -/

@[simp] theorem levelClose_port : (levelClose s).port = s.port := by
  unfold levelClose
  exact foldl_port (fun s x => by split <;> simp) _ _
@[simp] theorem openStart_port (level who : Nat) : (openStart level who s).port = s.port := by simp [openStart]
@[simp] theorem debugOpen_port (level who : Nat) : (debugOpen level who s).port = s.port := by
  simp only [debugOpen]
  (repeat' split) <;> simp

/-! ### Reset -/

@[simp] theorem refKept_port (old : State) : (refKept old s).port = s.port := by simp [refKept]

/-! ### Stored fields -/

@[simp] theorem violate_port (o : Origin) (a : Nat) : (violate o a s).port = s.port := by simp [violate]
@[simp] theorem store_port (o : Origin) (r : RegSpec) (a : Nat) (w : Word) : (store o r a w s).port = s.port := by simp [store, storeKeep]

/-! ### Effects of registers -/

@[simp] theorem when_port (c : Bool) (g : State → State) : (when c g s).port = if c then (g s).port else s.port := by
  cases c <;> rfl
@[simp] theorem semWrite_port (o : Origin) (k : Nat) : (semWrite o k s).port = s.port := by simp [semWrite]
@[simp] theorem effChip_port (a : Nat) (w : Word) : (effChip a w s).port = s.port := by
  unfold effChip
  split <;> simp
@[simp] theorem effPwr_port (a : Nat) (w : Word) (old : State) : (effPwr a w old s).port = s.port := by
  simp [effPwr, dpCancel, dpDeclare, avsModeFollow, avsAck]
@[simp] theorem effKic_port (o : Origin) (a : Nat) (w : Word) (old : State) : (effKic o a w old s).port = s.port := by
  unfold effKic
  (repeat' split) <;> simp [foldl_port]
@[simp] theorem outCtrlWrite_port (p : Fin 3) (w : Word) : (outCtrlWrite p w s).port = s.port := by simp [outCtrlWrite]
@[simp] theorem mbxDataStore_port (o : Origin) (p : Fin 3) (k : Fin 16) (w : Word) : (mbxDataStore o p k w s).port = s.port := by
  simp [mbxDataStore, mbxFill]
@[simp] theorem effMailbox_port (o : Origin) (p : Fin 3) (a : Nat) (w : Word) : (effMailbox o p a w s).port = s.port := by
  unfold effMailbox
  split <;> simp
@[simp] theorem effMbx_port (o : Origin) (a : Nat) (w : Word) : (effMbx o a w s).port = s.port := by
  unfold effMbx
  split <;> simp
@[simp] theorem switchWritten_port : (switchWritten s).port = s.port := by simp [switchWritten]
@[simp] theorem effSaf_port (o : Origin) (a : Nat) (w : Word) (old : State) : (effSaf o a w old s).port = s.port := by
  unfold effSaf
  (repeat' split) <;> simp
@[simp] theorem effThm_port (a : Nat) (w : Word) : (effThm a w s).port = s.port := by simp [effThm, effortFollow, throttleTime, monCalStart]
@[simp] theorem effSec_port (a : Nat) (w : Word) : (effSec a w s).port = s.port := by
  simp [effSec, lifecycleGo, lcErr, debugWakeFollow, debugClose]
@[simp] theorem effTod_port (a : Nat) (w : Word) (old : State) : (effTod a w old s).port = s.port := by
  simp [effTod, sourceChange, servoTo, todCapture, setSecondsGo, phaseAdjust, todStep, todSlew]
@[simp] theorem effHost_port (a : Nat) (w : Word) (old : State) : (effHost a w old s).port = s.port := by
  simp [effHost, effHostLane, hostEnable, hostPolarity, trainModeChange, forLanes_port fun n s => firFromRegs_port s n]
@[simp] theorem effLine_port (a : Nat) (w : Word) (old : State) : (effLine a w old s).port = s.port := by
  simp [effLine, forLanes_port fun n s => muteUpdate_port s n]
@[simp] theorem pendClear_port (n : Fin 8) : (pendClear n s).port = s.port := rfl
@[simp] theorem effWell_port (a : Nat) (w : Word) : (effWell a w s).port = s.port := by
  simp only [effWell]
  (repeat' split) <;> simp
@[simp] theorem effFec_port (a : Nat) (w : Word) : (effFec a w s).port = s.port := by simp [effFec, profileApply]
@[simp] theorem effSeep_port (a : Nat) (w : Word) (old : State) : (effSeep a w old s).port = s.port := by
  simp [effSeep, seepEnable, frameClose, gwTxWrite]
@[simp] theorem effAtl_port (a : Nat) (w : Word) (old : State) : (effAtl a w old s).port = s.port := by
  unfold effAtl
  split
  · simp
  · split
    · exact forLanes_port (fun n s => by simp) s
    · simp
@[simp] theorem effCis_port (a : Nat) (w : Word) : (effCis a w s).port = s.port := by
  simp [effCis, engineStart, remapGo, remapCopy, foldl_port, captureGo, zeroGo]
@[simp] theorem before_port (a : Nat) : (before a s).port = s.port := by simp [before, forLanes_port fun n s => hostMeasure_port s n]
@[simp] theorem refused_port (a : Nat) (w : Word) : (refused a w s).port = s.port := by simp [refused]

/-! ### Reads -/

@[simp] theorem measured_port (a : Nat) : (measured a s).port = s.port := by simp [measured, ceMeasure]
@[simp] theorem semRead_port (o : Origin) (k : Nat) : (semRead o k s).2.port = s.port := by
  simp only [semRead]
  (repeat' split) <;> simp
@[simp] theorem readEffect_port (o : Origin) (a : Nat) : (readEffect o a s).port = s.port := by
  simp only [readEffect]
  (repeat' split) <;> simp
@[simp] theorem regRead_port (o : Origin) (a : Nat) (al : Bool) : (regRead o a al s).2.2.port = s.port := by
  unfold regRead
  (repeat' split) <;> simp

/-! ### Fabric -/

@[simp] theorem busRead_port (o : Origin) (a size : Nat) : (busRead o a size s).2.2.port = s.port := by
  simp only [busRead]
  (repeat' split) <;> simp
@[simp] theorem aperturePut_port (host : Bool) (a k v : Nat) : (aperturePut host a k v s).2.port = s.port := by simp [aperturePut]
@[simp] theorem recordErr_port (p : Fin 3) (c : Code) (a : Nat) : (recordErr p c a s).port = s.port := by simp [recordErr]

end Sys2Proof.Machine
end

section
/-!
PROOF. The write queues: no access puts a word into a queue, so the words that wait are fewer after every grant, and a read of Port S
comes behind all of Port S.
-/
namespace Sys2Proof.Machine

variable (s : State)

/-! ### Accesses leave the ports, and a restart empties them -/

/-- The ports stand as before, or a restart has put them into their reset state. -/
def PortKept (s t : State) : Prop := t.port = s.port ∨ t.port = {}

theorem coldState_port (hard : Bool) : (coldState hard s).port = {} := by
  simp [coldState]

theorem PortKept.ite {c : Prop} [Decidable c] {s t u : State} (ht : PortKept s t) (hu : PortKept s u) : PortKept s (if c then t else u) := by
  split
  · exact ht
  · exact hu

theorem effBoot_portKept (a : Nat) (w : Word) : PortKept s (effBoot a w s) := by
  have before : (if cmd F.BOOT_STAGE_CTRL_VERIFY w then stageVerify s else when (cmd F.BOOT_STAGE_CTRL_SWITCH w) switchWritten s).port = s.port := by
    have verify : (stageVerify s).port = s.port := rfl
    simp [verify]
  unfold effBoot
  refine .ite ?_ (.inl rfl)
  unfold when
  exact .ite (.inr (coldState_port ..)) (.inl before)

theorem effects_portKept (o : Origin) (a : Nat) (w : Word) (old : State) : PortKept s (effects o a w old s) := by
  unfold effects
  split
  · exact .inl (semWrite_port ..)
  · exact .ite (.inl (effChip_port ..)) <| .ite (.inl (effPwr_port ..)) <| .ite (.inl (effKic_port ..)) <| .ite (.inl (effMbx_port ..)) <|
      .ite (effBoot_portKept ..) <| .ite (.inl (effSaf_port ..)) <| .ite (.inl (effThm_port ..)) <| .ite (.inl (effSec_port ..)) <|
      .ite (.inl (effTod_port ..)) <| .ite (.inl (effHost_port ..)) <| .ite (.inl (effLine_port ..)) <| .ite (.inl (effWell_port ..)) <|
      .ite (.inl (effFec_port ..)) <| .ite (.inl (effSeep_port ..)) <| .ite (.inl (effAtl_port ..)) <| .inl (effCis_port ..)

theorem regWrite_portKept (o : Origin) (a : Nat) (w : Word) : PortKept s (regWrite o a w s).2 := by
  unfold regWrite
  split
  · exact .inl rfl
  · next r _ =>
    split
    · exact .inl (refused_port ..)
    · have acts : PortKept s (effects o a w (before a s) (store o r a w (before a s))) := by
        simpa [PortKept] using effects_portKept (store o r a w (before a s)) o a w (before a s)
      dsimp only
      split
      · simpa [PortKept] using acts
      · exact acts

theorem busWrite_portKept (o : Origin) (a size : Nat) (w : Word) (group : Bool) : PortKept s (busWrite o a size w group s).2 := by
  unfold busWrite
  split
  · exact .inl rfl
  · split
    · exact .inl (aperturePut_port ..)
    · exact regWrite_portKept ..

@[simp] theorem recordFor_port (o : Origin) (c : Code) (a : Nat) : (recordFor o c a s).port = s.port := by
  cases o <;> simp [recordFor]

/-! ### A grant takes a word off its queue -/

/-- The words that wait for the fabric. -/
def waiting (s : State) : Nat := s.port.qS.length + s.port.qI.length

theorem PortKept.waiting_le {t : State} (h : PortKept s t) : waiting t ≤ waiting s := by
  rcases h with h | h <;> simp [waiting, h]

theorem postedOne_waiting (i3c others : Bool) (some' : portQueue i3c s ≠ []) : waiting (postedOne i3c others s) < waiting s := by
  obtain ⟨w, rest, queue⟩ := List.exists_cons_of_ne_nil some'
  have took : waiting (fabricGrant (queueOrigin i3c) others (setQueue i3c rest s)) < waiting s := by
    cases i3c <;> simp_all [waiting, fabricGrant, setQueue, portQueue]
  simp only [postedOne, queue]
  refine lt_of_le_of_lt ?_ took
  simpa [waiting] using (busWrite_portKept _ (queueOrigin i3c) w.addr 4 (word w.data) w.group).waiting_le

/-! ### The fabric's choice -/

/-- The fabric grants one of those that wait. -/
theorem fabricNext_mem {wait : List Origin} {o : Origin} (h : fabricNext s wait = some o) : o ∈ wait := by
  have among : o ∈ [Origin.portS, .portI, .portF, .k0, .k1, .k2].filter (wait.contains ·) := by
    unfold fabricNext at h
    dsimp only at h
    split at h
    next free => exact (List.mem_filter.mp (Option.some.inj h ▸ free ▸ List.mem_cons_self)).1
    next => exact List.mem_of_mem_head? h
  simpa using (List.mem_filter.mp among).2

/-- While Port S waits, the fabric grants an access. -/
theorem fabricNext_portS (l : List Origin) : fabricNext s (.portS :: l) ≠ none := by
  unfold fabricNext
  dsimp only
  split
  · exact Option.some_ne_none _
  · simp

theorem mem_queued {o : Origin} : o ∈ queued s ↔ o = .portS ∧ s.port.qS ≠ [] ∨ o = .portI ∧ s.port.qI ≠ [] := by
  unfold queued
  by_cases hS : s.port.qS = [] <;> by_cases hI : s.port.qI = [] <;> simp [hS, hI]

/-- An access of Port S has its turn once every earlier word of Port S has been performed. -/
theorem fabricWait_portS (k : Nat) (enough : waiting s ≤ k) : (fabricWait .portS k s).port.qS = [] := by
  induction k generalizing s with
  | zero =>
    have none : s.port.qS.length = 0 := by unfold waiting at enough; omega
    exact List.length_eq_zero_iff.mp none
  | succ k ih =>
    unfold fabricWait
    split
    next =>
      split
      next empty => exact List.isEmpty_iff.mp empty
      next some' =>
        have fewer := postedOne_waiting s false (fabricAs .portS != .portS || !s.port.qI.isEmpty) (by simpa [portQueue] using some')
        exact ih _ (by omega)
    next next' =>
      have some' : s.port.qI ≠ [] := by
        have := fabricNext_mem s next'
        simpa [fabricAs, mem_queued] using this
      rw [if_neg (by simpa using some')]
      have fewer := postedOne_waiting s true (fabricAs .portS != .portI || !s.port.qS.isEmpty) some'
      exact ih _ (by omega)
    next notS notI =>
      obtain ⟨o, grant⟩ := Option.ne_none_iff_exists'.mp (fabricNext_portS s (queued s))
      have among := fabricNext_mem s grant
      simp only [List.mem_cons, mem_queued] at among
      rcases among with rfl | ⟨rfl, -⟩ | ⟨rfl, -⟩
      · exact absurd grant notS
      · exact absurd grant notS
      · exact absurd grant notI

theorem fabricTurn_portS : (fabricTurn .portS s).port.qS = [] := fabricWait_portS s _ le_rfl

end Sys2Proof.Machine
end

section
/-!
PROOF. The frames of Port S: what a frame's status and its words record, how many answers it gives, and which waiting word the fabric
takes next.
-/
namespace Sys2Proof.Machine

variable (s : State)

/-! ### Answers -/

@[simp] theorem respond_regs (o : Origin) (l : List Resp) : (respond o l s).regs = s.regs := rfl
@[simp] theorem respond_port (o : Origin) (l : List Resp) : (respond o l s).port = s.port := rfl
@[simp] theorem respond_flag (o : Origin) (l : List Resp) (a : Nat) (f : Fld) : (respond o l s).flag a f = s.flag a f := rfl
@[simp] theorem respond_portS (l : List Resp) : (respond .portS l s).resp[(0 : Fin 7)] = l := by simp [respond, Origin.idx]

/-! ### Errors -/

theorem portErr_ne_journal (p : Fin 3) : R.CHIP_PORT_ERR p ≠ R.SAF_JNL_STATUS := by revert p; decide

theorem recordErr_err (p : Fin 3) {c : Code} (bad : c ≠ .ok) (a : Nat) :
    (recordErr p c a s).flag (R.CHIP_PORT_ERR p) F.CHIP_PORT_ERR_ERR = true := by
  unfold recordErr
  rw [if_neg bad]
  exact State.flag_raise1 _ (portErr_ne_journal p) _ _ (by unfold Fld.fits; decide) rfl

theorem recordErr_last (p : Fin 3) {c : Code} (bad : c ≠ .ok) (a : Nat) :
    (recordErr p c a s).fld (R.CHIP_PORT_ERR p) F.CHIP_PORT_ERR_LAST_CODE = c.num := by
  have small : c.num % 2 ^ F.CHIP_PORT_ERR_LAST_CODE.w = c.num := by cases c <;> rfl
  unfold recordErr
  rw [if_neg bad]
  dsimp only
  rw [State.raise1, fld_raise_apart _ (portErr_ne_journal p) (by unfold Fld.fits; decide) (by unfold Fld.apart; decide), State.addSat,
    State.fld_setFld_apart _ _ F.CHIP_PORT_ERR_COUNT _ _ (by unfold Fld.fits; decide) (by unfold Fld.apart; decide),
    State.fld_setFld _ _ _ _ (by unfold Fld.fits; decide), small]

theorem recordErr_partial (p : Fin 3) (c : Code) (a : Nat) :
    (recordErr p c a s).fld (R.CHIP_PORT_ERR p) F.CHIP_PORT_ERR_PARTIAL = s.fld (R.CHIP_PORT_ERR p) F.CHIP_PORT_ERR_PARTIAL := by
  have addr : R.CHIP_PORT_ERR p ≠ R.CHIP_PORT_ADDR p := by revert p; decide
  unfold recordErr
  split
  · rfl
  · dsimp only
    rw [State.raise1, fld_raise_apart _ (portErr_ne_journal p) (by unfold Fld.fits; decide) (by unfold Fld.apart; decide), State.addSat,
      State.fld_setFld_apart _ _ F.CHIP_PORT_ERR_COUNT _ _ (by unfold Fld.fits; decide) (by unfold Fld.apart; decide),
      State.fld_setFld_apart _ _ F.CHIP_PORT_ERR_LAST_CODE _ _ (by unfold Fld.fits; decide) (by unfold Fld.apart; decide)]
    split
    · rfl
    · rw [State.fld_setFld_ne _ addr,
        State.fld_setFld_apart _ _ F.CHIP_PORT_ERR_FIRST_CODE _ _ (by unfold Fld.fits; decide) (by unfold Fld.apart; decide)]

theorem recordPartial_partial (p : Fin 3) (a : Nat) :
    (recordPartial p a s).flag (R.CHIP_PORT_ERR p) F.CHIP_PORT_ERR_PARTIAL = true := by
  have set : (recordPartial p a s).fld (R.CHIP_PORT_ERR p) F.CHIP_PORT_ERR_PARTIAL = 1 :=
    (recordErr_partial ..).trans (State.fld_setFld _ _ F.CHIP_PORT_ERR_PARTIAL _ (by unfold Fld.fits; decide))
  simp [State.flag, set]

/-! ### Frames -/

theorem frameStatus_width {a : Nat} (h : a % 4 ≠ 0) (wr : Bool) : frameStatus s a wr = .width := if_pos h

/-- An accepted frame sets its status alone. -/
theorem frameGiven_ok (a : Nat) : frameGiven .ok a s = modPort (fun x => { x with frame := .ok }) s := by
  simp [frameGiven, recordErr]

theorem frameGiven_frame (c : Code) (a : Nat) : (frameGiven c a s).port = { s.port with frame := c } := recordErr_port ..

theorem portSRead_refused {a : Nat} (n : Nat) (h : frameStatus s a false ≠ .ok) :
    portSRead a n s = respond .portS [] (frameGiven (frameStatus s a false) a s) := if_pos h

theorem portSWrite_refused {a : Nat} (l : List Word) (h : frameStatus s a true ≠ .ok) :
    portSWrite a l s = respond .portS [] (frameGiven (frameStatus s a true) a s) := if_pos h

theorem portSRead_ok {a : Nat} (n : Nat) (h : frameStatus s a false = .ok) :
    portSRead a n s = respond .portS (readWords a n n (frameGiven .ok a s)).1 (readWords a n n (frameGiven .ok a s)).2 := by
  simp [portSRead, frameBegin, h]

theorem portSWrite_ok {a : Nat} (l : List Word) (h : frameStatus s a true = .ok) :
    portSWrite a l s = respond .portS (writeWords a (l.take 256) (frameGiven .ok a s)).1 (writeWords a (l.take 256) (frameGiven .ok a s)).2 := by
  simp [portSWrite, frameBegin, h]

theorem readWords_length (a keep k : Nat) : (readWords a keep k s).1.length = min keep k := by
  induction k generalizing a keep s with
  | zero => simp [readWords]
  | succ k ih =>
    unfold readWords
    dsimp only
    split
    · next none => simp [ih, none]
    · rw [List.length_cons, ih]; omega

theorem writeWords_length (a : Nat) (l : List Word) : (writeWords a l s).1.length = l.length := by
  induction l generalizing a s with
  | nil => rfl
  | cons w l ih => simp [writeWords, ih]

/-! ### The next word of the queues -/

/-- A port that has had 8 grants in a row while another waited gives way. -/
def servedOut (s : State) (o : Origin) : Bool := decide (8 ≤ s.port.grantRun) && s.port.grantTo == some o

theorem fabricNext_portS_alone : fabricNext s [.portS] = some .portS := by
  change (match [Origin.portS].filter (fun o => !servedOut s o) with | o :: _ => some o | [] => some .portS) = _
  cases h : servedOut s .portS <;> simp [h]

theorem fabricNext_portI_alone : fabricNext s [.portI] = some .portI := by
  change (match [Origin.portI].filter (fun o => !servedOut s o) with | o :: _ => some o | [] => some .portI) = _
  cases h : servedOut s .portI <;> simp [h]

theorem fabricNext_both : fabricNext s [.portS, .portI] = some (queueOrigin (servedOut s .portS)) := by
  change (match [Origin.portS, .portI].filter (fun o => !servedOut s o) with | o :: _ => some o | [] => some .portS) = _
  cases hS : servedOut s .portS
  · simp [hS, queueOrigin]
  · have other : servedOut s .portI = false := by
      simp only [servedOut, Bool.and_eq_true, beq_iff_eq] at hS
      simp [servedOut, hS.2]
    simp [hS, other, queueOrigin]

/-- Which queue the fabric's next grant serves. -/
def portITurn (s : State) : Bool := decide (s.port.qI ≠ []) && decide (s.port.grantTo = some .portS) && decide (8 ≤ s.port.grantRun)

theorem queuedGrant_eq {i3c : Bool} (turn : if s.port.qS = [] then i3c = true else i3c = portITurn s) (some' : portQueue i3c s ≠ []) :
    queuedGrant s = postedOne i3c (!(portQueue (!i3c) s).isEmpty) s := by
  have next' : fabricNext s (queued s) = some (queueOrigin i3c) := by
    by_cases hS : s.port.qS = []
    · obtain rfl : i3c = true := by simpa [hS] using turn
      have hI : s.port.qI ≠ [] := some'
      rw [show queued s = [.portI] by simp [queued, hS, hI], fabricNext_portI_alone]
      rfl
    · obtain rfl : i3c = portITurn s := by simpa [hS] using turn
      by_cases hI : s.port.qI = []
      · rw [show queued s = [.portS] by simp [queued, hS, hI], fabricNext_portS_alone]
        simp [portITurn, hI, queueOrigin]
      · rw [show queued s = [.portS, .portI] by simp [queued, hS, hI], fabricNext_both]
        simp [portITurn, hI, servedOut, Bool.and_comm, Bool.beq_eq_decide_eq]
  unfold queuedGrant
  rw [next']
  cases i3c <;> rfl

/-- A waiting word that no check stops is performed at its grant. -/
theorem postedOne_fits {i3c others : Bool} {w : Posted} {rest : List Posted} (queue : portQueue i3c s = w :: rest) (single : w.group = false)
    (fits : WriteFits (queueOrigin i3c) w.addr (word w.data) (fabricGrant (queueOrigin i3c) others (setQueue i3c rest s)) = true) :
    postedOne i3c others s =
      accepted (queueOrigin i3c) w.addr (word w.data) (fabricGrant (queueOrigin i3c) others (setQueue i3c rest s)) := by
  simp only [postedOne, queue, single, busWrite_fits _ fits, recordFor_ok]

theorem queuedGrant_idle (hS : s.port.qS = []) (hI : s.port.qI = []) : queuedGrant s = s := by
  simp [queuedGrant, queued, hS, hI, fabricNext]

/-! ### One word -/

/-- A read of one word takes its turn, is recorded, and is the frame's only answer. -/
theorem portSRead_one {a : Nat} (h : frameStatus s a false = .ok) :
    let t := fabricTurn .portS (frameGiven .ok a s)
    let x := busRead .portS a 4 t
    portSRead a 1 s = respond .portS [{ code := x.1, data := x.2.1 }] (recordErr 0 x.1 a (fabricGrant .portS (wordsWait t) x.2.2)) := by
  simp [portSRead_ok s 1 h, readWords, turnRead, unanswered]

theorem writeWord_ok {a : Nat} {w : Word} (passes : writeCheck s a w = .ok) (room : s.port.qS.length < 8) :
    writeWord a w s = (.ok, setQueue false (s.port.qS ++ [{ addr := a, data := w.toNat }]) s) := by
  simp [writeWord, passes, queueRoom, enqueue, portQueue, room]

theorem writeWord_stopped {a : Nat} {w : Word} (stops : writeCheck s a w ≠ .ok) :
    writeWord a w s = (writeCheck s a w, recordErr 0 (writeCheck s a w) a s) := by
  unfold writeWord
  split
  · contradiction
  · rfl

theorem portSWrite_queued {a : Nat} {w : Word} (ok : frameStatus s a true = .ok) (passes : writeCheck s a w = .ok) (room : s.port.qS.length < 8) :
    portSWrite a [w] s =
      respond .portS [{ code := .ok }] (setQueue false (s.port.qS ++ [{ addr := a, data := w.toNat }]) (frameGiven .ok a s)) := by
  have queued : writeWord a w (frameGiven .ok a s) = _ := writeWord_ok _ (frameGiven_ok s a ▸ passes) (frameGiven_ok s a ▸ room)
  simp [portSWrite_ok s _ ok, writeWords, queued, frameGiven_frame]

theorem portSWrite_stopped {a : Nat} {w : Word} (ok : frameStatus s a true = .ok) (stops : writeCheck s a w ≠ .ok) :
    portSWrite a [w] s =
      respond .portS [{ code := writeCheck s a w }] (recordErr 0 (writeCheck s a w) a (frameGiven .ok a s)) := by
  have check : writeCheck (frameGiven .ok a s) a w = writeCheck s a w := frameGiven_ok s a ▸ rfl
  have stopped := writeWord_stopped (frameGiven .ok a s) (a := a) (w := w) (by rwa [check])
  simp [portSWrite_ok s _ ok, writeWords, stopped, check]

theorem portSReadTimeout_ok {a : Nat} (ok : frameStatus s a false = .ok) :
    portSReadTimeout a s =
      respond .portS [{ code := .busy }] (recordErr 0 .busy a (turnRead [] .portS .portS a (frameGiven .ok a s)).2.2) := by
  simp [portSReadTimeout, frameBegin, ok]

/-! ### Aborted frames -/

/-- The complete words of an aborted frame; in a READ the words whose reads have been issued are read as well. -/
def abortWords (wr : Bool) (a n issued : Nat) (l : List Word) (s : State) : List Resp × State :=
  if wr then writeWords a l s else readWords a l.length (min n issued) s

theorem abortWords_length {n issued : Nat} {l : List Word} (hn : l.length ≤ n) (hi : l.length ≤ issued) (wr : Bool) (a : Nat) :
    (abortWords wr a n issued l s).1.length = l.length := by
  unfold abortWords
  split
  · exact writeWords_length ..
  · rw [readWords_length]
    omega

theorem portSAbort_word {wr : Bool} {a n : Nat} {l : List Word} (ok : frameStatus s a wr = .ok) (left : l.length < n) :
    ∃ r : List Resp × State, r.1.length = l.length ∧
      portSAbort .word wr a n l s = respond .portS r.1 (recordPartial 0 (a + 4 * l.length) r.2) := by
  refine ⟨abortWords wr a n (l.length + 2) l (frameGiven .ok a s), abortWords_length _ left.le (by omega) wr a, ?_⟩
  simp [portSAbort, frameBegin, ok, left.not_ge, abortWords]

theorem portSAbort_gap {wr : Bool} {a n : Nat} {l : List Word} (ok : frameStatus s a wr = .ok) (left : l.length < n) :
    ∃ r : List Resp × State, r.1.length = l.length ∧ (l = [] → wr = true → r.2.regs = s.regs) ∧
      portSAbort .gap wr a n l s = respond .portS r.1 r.2 := by
  refine ⟨abortWords wr a n (l.length + 1) l (frameGiven .ok a s), abortWords_length _ left.le (by omega) wr a, ?_, ?_⟩
  · rintro rfl rfl
    simp [abortWords, writeWords, frameGiven_ok]
  · simp [portSAbort, frameBegin, ok, left.not_ge, abortWords]

/-! ### The clauses -/

/-- A frame with another status than OK answers no word, leaves the queue and is recorded. -/
theorem frameRefused {c : Code} (bad : c ≠ .ok) (a : Nat) :
    (respond .portS [] (frameGiven c a s)).resp[(0 : Fin 7)] = [] ∧ (respond .portS [] (frameGiven c a s)).port.frame = c ∧
      (respond .portS [] (frameGiven c a s)).port.qS = s.port.qS ∧
      (respond .portS [] (frameGiven c a s)).flag (R.CHIP_PORT_ERR 0) F.CHIP_PORT_ERR_ERR = true ∧
      (respond .portS [] (frameGiven c a s)).fld (R.CHIP_PORT_ERR 0) F.CHIP_PORT_ERR_LAST_CODE = c.num := by
  refine ⟨respond_portS .., ?_, ?_, recordErr_err _ 0 bad a, recordErr_last _ 0 bad a⟩ <;>
    rw [respond_port, frameGiven_frame]

section
variable {s} (run : Running s)
include run

theorem completes_portSRead (a : Nat) (c : Fin 256) : Completes (.portSRead a c) s (portSRead a (c.val + 1) s) :=
  completes_of_outcome s (g := portSRead a (c.val + 1)) rfl run

theorem completes_portSWrite (a : Nat) (l : List Word) : Completes (.portSWrite a l) s (portSWrite a l s) :=
  completes_of_outcome s (g := portSWrite a l) rfl run

theorem completes_portSStatus (op : Fin 16) (a : Nat) : Completes (.portSStatus op a) s (portSStatus op a s) :=
  completes_of_outcome s (g := portSStatus op a) rfl run

theorem completes_portSAbort (place : AbortAt) (wr : Bool) (a : Nat) (c : Fin 256) (l : List Word) :
    Completes (.portSFrameAbort place wr a c l) s (portSAbort place wr a (c.val + 1) l s) :=
  completes_of_outcome s (g := portSAbort place wr a (c.val + 1) l) rfl run

theorem completes_postedWrite : Completes .postedWritePerform s (queuedGrant s) :=
  completes_of_outcome s (g := postedPerform) rfl run

theorem misaligned_completes {a : Nat} (odd : a % 4 ≠ 0) (c : Fin 256) (l : List Word) :
    (∃ u, Completes (.portSRead a c) s u ∧ u.resp[(0 : Fin 7)] = [] ∧ u.port.frame = .width ∧ u.port.qS = s.port.qS ∧
      u.flag (R.CHIP_PORT_ERR 0) F.CHIP_PORT_ERR_ERR = true ∧ u.fld (R.CHIP_PORT_ERR 0) F.CHIP_PORT_ERR_LAST_CODE = 6) ∧
    (∃ u, Completes (.portSWrite a l) s u ∧ u.resp[(0 : Fin 7)] = [] ∧ u.port.frame = .width ∧ u.port.qS = s.port.qS ∧
      u.flag (R.CHIP_PORT_ERR 0) F.CHIP_PORT_ERR_ERR = true) := by
  have status := frameStatus_width s odd
  have bad (wr : Bool) : frameStatus s a wr ≠ .ok := by simp [status]
  have read := completes_portSRead run a c
  have write := completes_portSWrite run a l
  rw [portSRead_refused s _ (bad false), status] at read
  rw [portSWrite_refused s l (bad true), status] at write
  obtain ⟨answers, frame, queue, err, last⟩ := frameRefused s (show Code.width ≠ .ok by decide) a
  exact ⟨⟨_, read, answers, frame, queue, err, last⟩, ⟨_, write, answers, frame, queue, err⟩⟩

theorem portSRead_completes {a : Nat} (c : Fin 256) (ok : frameStatus s a false = .ok) :
    ∃ u, Completes (.portSRead a c) s u ∧ u.resp[(0 : Fin 7)].length = c.val + 1 :=
  ⟨_, completes_portSRead run a c, by rw [portSRead_ok s _ ok, respond_portS, readWords_length, min_self]⟩

theorem portSRead_one_completes {a : Nat} (ok : frameStatus s a false = .ok) :
    let x := busRead .portS a 4 (fabricTurn .portS { s with port := { s.port with frame := .ok } })
    ∃ u, Completes (.portSRead a 0) s u ∧ u.resp[(0 : Fin 7)] = [{ code := x.1, data := x.2.1 }] ∧ u.port.qS = [] := by
  have read := portSRead_one s ok
  rw [frameGiven_ok] at read
  refine ⟨_, completes_portSRead run a 0, ?_, ?_⟩
  · exact (congrArg (fun t => t.resp[(0 : Fin 7)]) read).trans (respond_portS ..)
  · refine (congrArg (fun t => t.port.qS) read).trans ?_
    simp [fabricGrant, fabricTurn_portS]

theorem portSWrite_word_completes {a : Nat} (w : Word) (ok : frameStatus s a true = .ok) :
    (writeCheck s a w = .ok → s.port.qS.length < 8 → ∃ u, Completes (.portSWrite a [w]) s u ∧
      u.resp[(0 : Fin 7)] = [{ code := .ok }] ∧ u.port.qS = s.port.qS ++ [{ addr := a, data := w.toNat }] ∧ u.regs = s.regs) ∧
    (writeCheck s a w ≠ .ok → ∃ u, Completes (.portSWrite a [w]) s u ∧ u.resp[(0 : Fin 7)] = [{ code := writeCheck s a w }] ∧
      u.port.qS = s.port.qS ∧ u.fld (R.CHIP_PORT_ERR 0) F.CHIP_PORT_ERR_LAST_CODE = (writeCheck s a w).num) := by
  have write := completes_portSWrite run a [w]
  constructor
  · intro passes room
    rw [portSWrite_queued s ok passes room] at write
    exact ⟨_, write, respond_portS .., rfl, rfl⟩
  · intro stops
    rw [portSWrite_stopped s ok stops] at write
    exact ⟨_, write, respond_portS .., by rw [respond_port, recordErr_port, frameGiven_frame], recordErr_last _ 0 stops a⟩

theorem portSStatus_completes (a : Nat) : ∃ u, Completes (.portSStatus 3 a) s u ∧ u.resp[(0 : Fin 7)] = [{ data := statusWord s }] ∧
    u.regs = s.regs ∧ u.port.qS = s.port.qS := by
  refine ⟨_, completes_portSStatus run 3 a, respond_portS .., ?_, ?_⟩
  · simp [portSStatus, frameGiven_ok]
  · simp [portSStatus, frameGiven_ok]

theorem portSReserved_completes {op : Fin 16} (a : Nat) (h1 : op ≠ 1) (h2 : op ≠ 2) (h3 : op ≠ 3) :
    ∃ u, Completes (.portSStatus op a) s u ∧ u.resp[(0 : Fin 7)] = [] ∧ u.port.frame = .unmapped ∧ u.port.qS = s.port.qS ∧
      u.flag (R.CHIP_PORT_ERR 0) F.CHIP_PORT_ERR_ERR = true ∧
      u.fld (R.CHIP_PORT_ERR 0) F.CHIP_PORT_ERR_LAST_CODE = Code.unmapped.num := by
  have reserved : portSStatus op a s = respond .portS [] (frameGiven .unmapped a s) := by
    unfold portSStatus
    split
    · contradiction
    · contradiction
    · contradiction
    · rfl
  exact ⟨_, reserved ▸ completes_portSStatus run op a, frameRefused s (by decide) a⟩

theorem portSAbort_head_completes (wr : Bool) (a : Nat) (c : Fin 256) (l : List Word) :
    Completes (.portSFrameAbort .head wr a c l) s (respond .portS [] s) := completes_portSAbort run .head wr a c l

theorem portSAbort_completes {wr : Bool} {a : Nat} {c : Fin 256} {l : List Word} (ok : frameStatus s a wr = .ok) (left : l.length ≤ c.val) :
    (∃ u, Completes (.portSFrameAbort .word wr a c l) s u ∧ u.resp[(0 : Fin 7)].length = l.length ∧
      u.flag (R.CHIP_PORT_ERR 0) F.CHIP_PORT_ERR_PARTIAL = true) ∧
    (∃ u, Completes (.portSFrameAbort .gap wr a c l) s u ∧ u.resp[(0 : Fin 7)].length = l.length ∧
      (l = [] → wr = true → u.regs = s.regs)) := by
  constructor
  · obtain ⟨r, answers, aborted⟩ := portSAbort_word s ok (Nat.lt_succ_of_le left)
    have done := completes_portSAbort run .word wr a c l
    rw [aborted] at done
    exact ⟨_, done, (congrArg List.length (respond_portS ..)).trans answers, (respond_flag ..).trans (recordPartial_partial r.2 0 _)⟩
  · obtain ⟨r, answers, quiet, aborted⟩ := portSAbort_gap s ok (Nat.lt_succ_of_le left)
    have done := completes_portSAbort run .gap wr a c l
    rw [aborted] at done
    exact ⟨_, done, (congrArg List.length (respond_portS ..)).trans answers, quiet⟩

theorem portSReadTimeout_completes {a : Nat} (ok : frameStatus s a false = .ok) :
    ∃ u, Completes (.portSReadTimeout a) s u ∧ u.resp[(0 : Fin 7)] = [{ code := .busy }] ∧
      u.fld (R.CHIP_PORT_ERR 0) F.CHIP_PORT_ERR_LAST_CODE = 7 := by
  have done := completes_of_outcome s (c := .portSReadTimeout a) (g := portSReadTimeout a) rfl run
  rw [portSReadTimeout_ok s ok] at done
  exact ⟨_, done, respond_portS .., recordErr_last _ 0 (by decide) a⟩

theorem postedWritePerform_completes {i3c : Bool} {w : Posted} {rest : List Posted}
    (turn : if s.port.qS = [] then i3c = true else i3c = portITurn s) (queue : portQueue i3c s = w :: rest) (single : w.group = false)
    (fits : WriteFits (queueOrigin i3c) w.addr (word w.data)
      (fabricGrant (queueOrigin i3c) (!(portQueue (!i3c) s).isEmpty) (setQueue i3c rest s)) = true) :
    Completes .postedWritePerform s (accepted (queueOrigin i3c) w.addr (word w.data)
      (fabricGrant (queueOrigin i3c) (!(portQueue (!i3c) s).isEmpty) (setQueue i3c rest s))) := by
  rw [← postedOne_fits s queue single fits, ← queuedGrant_eq s turn (by simp [queue])]
  exact completes_postedWrite run

end

/-- Settles O45: a refused frame is recorded and leaves the queue; a read takes its turn behind all words of Port S (`fabricTurn_portS`),
since no access puts a word into a queue; a grant serves the queue that `fabricNext` names. -/
theorem portSFramesComplete : Obligations.PortSFramesComplete := by
  intro s run
  refine ⟨fun a c l odd => misaligned_completes run odd c l, fun a c ok => portSRead_completes run c ok,
    fun a ok => portSRead_one_completes run ok, fun a w ok => portSWrite_word_completes run w ok, portSStatus_completes run,
    fun op a h1 h2 h3 => portSReserved_completes run a h1 h2 h3, portSAbort_head_completes run,
    fun wr a c l ok left => portSAbort_completes run ok left, fun a ok => portSReadTimeout_completes run ok,
    fun i3c w rest turn queue single => postedWritePerform_completes run turn queue single, fun hS hI => ?_⟩
  have done := completes_postedWrite run
  rwa [queuedGrant_idle s hS hI] at done

end Sys2Proof.Machine
end

section
/-!
PROOF. Recipe loads: what a LOAD of WELL_RECIPE begins, and what its completion leaves (R51, R53, R66).
-/
namespace Sys2Proof.Machine

variable (s : State) (n : Fin 8)

/-! ### WELL_RECIPE (R53) -/

theorem effects_well {a : Nat} (low : 0x800000 ≤ a) (high : a < 0x1000000) (o : Origin) (w : Word) (old : State) :
    effects o a w old s = effWell a w s := by
  have noSem : arrIdx a (R.CHIP_SEM 0) 4 16 = none := by
    unfold arrIdx R.CHIP_SEM
    rw [if_neg]
    omega
  simp only [effects, noSem, show ¬ a < 0x10000 by omega, show ¬ a < 0x20000 by omega, show ¬ a < 0x30000 by omega, show ¬ a < 0x40000 by omega,
    show ¬ a < 0x50000 by omega, show ¬ a < 0x60000 by omega, show ¬ a < 0x80000 by omega, show ¬ a < 0x100000 by omega,
    show ¬ a < 0x200000 by omega, show ¬ a < 0x400000 by omega, show ¬ a < 0x800000 by omega, high, if_true, if_false]

theorem lane_recipe : lane ((R.WELL_RECIPE n - 0x800000) / 0x100000) = n := by
  revert n
  decide

/-- LOAD begins a load with the settings just stored. -/
theorem accepted_recipe (o : Origin) (v : Word) : let x := stored o (R.WELL_RECIPE n) (withBit F.WELL_RECIPE_LOAD v) s
    accepted o (R.WELL_RECIPE n) (withBit F.WELL_RECIPE_LOAD v) s = recipeLoad n (stFlag x F.BOOT_STAGE_STATUS_VERIFIED) x := by
  have go := cmd_withBit (f := F.WELL_RECIPE_LOAD) (by unfold Fld.fits; decide) rfl v
  intro x
  rw [accepted, effects_well _ (by unfold R.WELL_RECIPE; omega) (by unfold R.WELL_RECIPE; omega)]
  simp only [effWell, lane_recipe, if_true, when, go]
  rfl

theorem recipeLoad_inForce (verified : Bool) (inForce : s.flag (R.WELL_RECIPE n) F.WELL_RECIPE_SRC = false) :
    recipeLoad n verified s = startLoad n s.pumps (s.fld (R.WELL_RECIPE n) F.WELL_RECIPE_SEL)
      (s.flag (R.WELL_RECIPE n) F.WELL_RECIPE_AUTO_SWITCH) none s := by
  simp only [recipeLoad, inForce, Bool.false_eq_true, if_false]

/-! ### A load begins, or is refused -/

theorem flag_loadErr : (loadErr n s).flag (R.WELL_STATUS n) F.WELL_STATUS_LOAD_ERR = true :=
  State.flag_raise1 s (by unfold R.WELL_STATUS R.SAF_JNL_STATUS; omega) _ _ (by unfold Fld.fits; decide) rfl

theorem startLoad_none {p : PumpSection} {sel : Nat} (missing : findRecipe p sel = none) (auto : Bool) (reach : Option Nat) :
    startLoad n p sel auto reach s = loadErr n s := by
  simp only [startLoad, missing]

theorem startLoad_some {p : PumpSection} {sel : Nat} {r : Recipe} (found : findRecipe p sel = some r) (intact : p.intact = true)
    (matching : recipeMatches s n r = true) (fit : recipeFits s n r = true) (auto : Bool) (reach : Option Nat) :
    startLoad n p sel auto reach s =
      beginLoad n { sel := sel, bank := otherBank s n, auto := auto, recipe := r, reach := reach } s := by
  simp only [startLoad, found, intact, matching, fit, Bool.and_self, if_true]

theorem load_beginLoad (l : Load) : (beginLoad n l s).well[n].load = some l := by
  simp only [beginLoad, vmod_same]

theorem loading_beginLoad (l : Load) : (beginLoad n l s).flag (R.WELL_IBANK n) F.WELL_IBANK_LOADING = true := by
  have kept : (beginLoad n l s).flag (R.WELL_IBANK n) F.WELL_IBANK_LOADING =
      (s.setFld (R.WELL_IBANK n) F.WELL_IBANK_LOADING 1).flag (R.WELL_IBANK n) F.WELL_IBANK_LOADING :=
    congrArg (· != 0) (State.fld_setFld_apart _ _ F.WELL_IBANK_BANK_VALID F.WELL_IBANK_LOADING _ (by unfold Fld.fits; decide)
      (by unfold Fld.apart; decide))
  rw [kept]
  exact fld_b2n s (by unfold Fld.fits; decide) rfl true

/-! ### A load completes -/

/-- What a completed load sets once LOADING is cleared. -/
inductive LoadBook (n : Nat) : Nat → Fld → Prop
  | pool {a : Nat} {f : Fld} : PoolBook n a f → LoadBook n a f
  | sel0 : LoadBook n (R.WELL_IBANK n) F.WELL_IBANK_SEL_BANK0
  | sel1 : LoadBook n (R.WELL_IBANK n) F.WELL_IBANK_SEL_BANK1
  | param (k : Nat) (f : Fld) : LoadBook n (R.WELL_PARAM n k) f
  | pending : LoadBook n (R.WELL_IBANK n) F.WELL_IBANK_SWITCH_PEND

theorem misses_loading : Misses (LoadBook n) (R.WELL_IBANK n) F.WELL_IBANK_LOADING := by
  refine ⟨by unfold R.WELL_IBANK R.SAF_JNL_STATUS; omega, fun a f w => ?_⟩
  cases w with
  | pool w =>
    cases w with
    | valid => exact .inr ⟨by unfold Fld.fits; decide, by unfold Fld.apart; decide⟩
    | _ => exact .inl (by simp only [R.WELL_POOL, R.WELL_QUAR0, R.WELL_QUAR1, R.WELL_STATUS, R.WELL_IBANK]; omega)
  | param k => exact .inl (by unfold R.WELL_PARAM R.WELL_IBANK; omega)
  | sel0 | sel1 | pending => exact .inr ⟨by unfold Fld.fits; decide, by unfold Fld.apart; decide⟩

/-- What the well's recipe store holds, and the load in progress. -/
def WellSt.recipes (w : WellSt) : Option Load × Option Recipe × Option Recipe := (w.load, w.bank0, w.bank1)

theorem load_bankRecipe_of_recipes {s t : State} {n : Fin 8} (h : t.well[n].recipes = s.well[n].recipes) (bank : Nat) :
    t.well[n].load = s.well[n].load ∧ bankRecipe t n bank = bankRecipe s n bank := by
  simp only [WellSt.recipes, Prod.mk.injEq] at h
  obtain ⟨load, bank0, bank1⟩ := h
  simp only [load, bankRecipe, bank0, bank1, and_self]

theorem recipes_switchRequest (update : Bool) : (switchRequest n update s).well[n].recipes = s.well[n].recipes := by
  unfold switchRequest
  split <;> simp only [WellSt.recipes, vmod_same, State.setFld_well]

theorem sets_switchRequest (update : Bool) : Sets (LoadBook n) s (switchRequest n update s) := by
  unfold switchRequest
  split
  · exact Sets.of_regs .refl
  · exact (Sets.refl.setFld .pending 1).of_regs

/-- The load is no longer in progress. -/
def loadEnded (bad : List (Fin 64)) : State :=
  (bad.foldl (fun s m => s.setFld (R.PUMP_ERR n m) F.PUMP_ERR_IPAR_INACTIVE 1) s).setFld (R.WELL_IBANK n) F.WELL_IBANK_LOADING 0

/-- The recipe is in the well's store, and its default values are pending. -/
def inStore (l : Load) : State :=
  let s := if l.bank = 0 then s.setFld (R.WELL_IBANK n) F.WELL_IBANK_SEL_BANK0 l.sel
           else s.setFld (R.WELL_IBANK n) F.WELL_IBANK_SEL_BANK1 l.sel
  let s := l.recipe.slots.foldl (fun s p => s.setReg (R.WELL_PARAM n (p.slot % 64)) (word p.dflt)) s
  { s with well := vmod s.well n fun w =>
    { w with load := none, held := l.recipe.slots.map (·.slot % 64),
             bank0 := if l.bank = 0 then some l.recipe else w.bank0,
             bank1 := if l.bank = 0 then w.bank1 else some l.recipe } }

/-- The pumps hold the recipe, but for the bad ones. -/
def inPumps (l : Load) (bad : List (Fin 64)) : State :=
  bankFollow n ((List.range 64).foldl (fun s m =>
    if pumpRole s n m = 3 then s
    else modPump n m (PumpMem.setCode l.bank (if bad.any fun x => x.val == m then none else some l.recipe)) s) s)

/-- The switch that a load asks for: a profile change forces it, AUTO_SWITCH requests it. -/
def switchAfter (l : Load) : State :=
  if l.prof then
    { s with well := vmod s.well n fun w =>
      { w with switch := some { target := l.bank, before := s.fld (R.WELL_IBANK n) F.WELL_IBANK_ACTIVE },
               restarting := true, forced := true, quiet := true } }
  else if l.auto then switchRequest n false s else s

theorem recipeLoadDone_some {l : Load} (runs : s.well[n].load = some l) (bad : List (Fin 64)) :
    recipeLoadDone n bad s = switchAfter (inPumps (inStore (loadEnded s n bad) n l) n l bad) n l := by
  rw [recipeLoadDone, runs]
  rfl

theorem loading_loadEnded (bad : List (Fin 64)) : (loadEnded s n bad).flag (R.WELL_IBANK n) F.WELL_IBANK_LOADING = false :=
  fld_b2n _ (by unfold Fld.fits; decide) rfl false

theorem sets_inStore (l : Load) : Sets (LoadBook n) s (inStore s n l) := by
  refine Sets.of_regs (Sets.foldl ?_ _ fun p _ u => Sets.refl.setReg (.param _) _)
  exact (Sets.refl.setFld .sel0 _).ite (Sets.refl.setFld .sel1 _) _

theorem sets_inPumps (l : Load) (bad : List (Fin 64)) : Sets (LoadBook n) s (inPumps s n l bad) := by
  refine Sets.trans (Sets.refl.foldl _ fun m _ u => ?_) ((sets_bankFollow n _).mono fun _ _ => .pool)
  split
  · exact .refl
  · exact Sets.of_regs .refl

theorem sets_switchAfter (l : Load) : Sets (LoadBook n) s (switchAfter s n l) := by
  unfold switchAfter
  split
  · exact Sets.of_regs .refl
  · exact (sets_switchRequest s n false).ite .refl _

theorem recipes_inStore (l : Load) : (inStore s n l).well[n].load = none ∧ bankRecipe (inStore s n l) n l.bank = some l.recipe := by
  simp only [inStore, bankRecipe, vmod_same]
  split <;> simp

theorem recipes_inPumps (l : Load) (bad : List (Fin 64)) : (inPumps s n l bad).well[n].recipes = s.well[n].recipes := by
  rw [inPumps, bankFollow_well]
  refine foldl_keeps s (fun t => t.well[n].recipes) (fun t m => ?_) _
  split
  · rfl
  · simp only [modPump, WellSt.recipes, vmod_same]

theorem recipes_switchAfter (l : Load) : (switchAfter s n l).well[n].recipes = s.well[n].recipes := by
  unfold switchAfter
  split
  · simp only [WellSt.recipes, vmod_same]
  · split
    · exact recipes_switchRequest s n false
    · rfl

theorem recipeLoadDone_installs {l : Load} (runs : s.well[n].load = some l) (bad : List (Fin 64)) :
    (recipeLoadDone n bad s).well[n].load = none ∧ bankRecipe (recipeLoadDone n bad s) n l.bank = some l.recipe ∧
      (recipeLoadDone n bad s).flag (R.WELL_IBANK n) F.WELL_IBANK_LOADING = false := by
  rw [recipeLoadDone_some s n runs]
  obtain ⟨ended, installed⟩ := recipes_inStore (loadEnded s n bad) n l
  have kept := (recipes_switchAfter _ n l).trans (recipes_inPumps (inStore (loadEnded s n bad) n l) n l bad)
  obtain ⟨load, bank⟩ := load_bankRecipe_of_recipes kept l.bank
  have after := ((sets_inStore (loadEnded s n bad) n l).trans (sets_inPumps _ n l bad)).trans (sets_switchAfter _ n l)
  exact ⟨load.trans ended, bank.trans installed, (after.flag (misses_loading n)).trans (loading_loadEnded s n bad)⟩

/-- Settles O13: a LOAD begins the load or refuses it with the settings stored, and what follows the end of a load touches neither LOADING
nor the well's recipe store. -/
theorem recipeLoadsComplete : Obligations.RecipeLoadsComplete := by
  intro s n running
  refine ⟨fun o v ok => ⟨completesWrite_of_ok s rfl ok, accepted_recipe s n o v, fun inForce missing => ?_,
    fun r inForce found intact matching fit => ?_⟩, fun l bad runs _ => ⟨?_, recipeLoadDone_installs s n runs bad⟩⟩
  · rw [accepted_recipe, recipeLoad_inForce _ n _ inForce, startLoad_none _ n missing]
    exact flag_loadErr _ n
  · rw [accepted_recipe, recipeLoad_inForce _ n _ inForce, startLoad_some _ n found intact matching fit]
    exact ⟨congrArg (Option.map Load.bank) (load_beginLoad _ n _), loading_beginLoad _ n _⟩
  · exact completes_of_outcome s (g := loadFinished n bad) rfl running

end Sys2Proof.Machine
end

section
/-!
PROOF. A counterexample to BANK_SWITCH_SIDE with no switch pending: the command brings DET_ACTIVE up to date (R101), which a cancelled switch
has left behind.
-/
namespace Sys2Proof.Machine

theorem sameParams_refl (n : Fin 8) (rx : Bool) (s : State) : sameParams n rx s s = true := by
  simp [sameParams, parChanged]

/-- With no switch pending and no update in progress, no more is left of BANK_SWITCH_SIDE than that DET_ACTIVE follows. -/
theorem sideSwitched_idle (s : State) (n : Fin 8) (rx : Bool) (idle : updStep s = 0) (none : s.well[n].switch = none) :
    sideSwitched n rx s = detFollow n s := by
  have step : bankSwitchStep n rx s = s := by
    simp only [bankSwitchStep, bankSwitchSide, none, sideParamsFollow, sameParams_refl, if_true]
  have retarget : atlasRetarget n s s = s := if_pos ⟨rfl, rfl, rfl⟩
  have other : R.BOOT_STAGE_STATUS ≠ R.WELL_RX_STATUS n := by unfold R.BOOT_STAGE_STATUS R.WELL_RX_STATUS; omega
  have still : updStep (detFollow n s) ≠ 5 := by
    rw [updStep, detFollow, State.fld_setFld_ne _ other, ← updStep, idle]
    decide
  rw [sideSwitched, step, bankFollows, retarget]
  exact if_pos (.inl still)

theorem regs_of_queued {t t' : State} {l : List Instr} (h : { t with pending := l } = { t' with pending := l }) : t.regs = t'.regs := by
  injection h

/-- A command has one next state: whatever effects it completes with, the same flags stand after what follows it. -/
theorem flag_of_completes {c : Instr} {s u v : State} (h : Completes c s u) (g : Completes c s v) (a : Nat) (f : Fld) :
    (follow s u).flag a f = (follow s v).flag a f := by
  have regs := regs_of_queued (Host.Outcome.next.inj (Eq.trans (Eq.symm h) g))
  simp only [State.flag, State.fld, State.reg_of_regs regs]

/-- A recipe whose map has DET_USE, with the default 0. -/
def noTableRecipe : Recipe := { plainRecipe with slots := [{ slot := 8, par := 8, dflt := 0 }] }

/-- The receive side of well 0 has switched from bank 0, whose recipe leaves DET_USE at the shipped default of 1, to bank 1, whose recipe
turns it off. A distilled table is installed, which the detector thus no longer uses: DET_ACTIVE is 0. -/
def halfSwitched : State :=
  let s : State := { State.reset with
    now := 1
    atlas := vmod State.reset.atlas 0 fun a => { a with det := some [] }
    well := vmod State.reset.well 0 fun w => { w with
      bank0 := some plainRecipe, bank1 := some noTableRecipe, switch := some { target := 1, before := 0, rxDone := true } } }
  let s := s.setActReg (R.WELL_PARAM 0 8) 0
  (s.setFld (R.WELL_IBANK 0) F.WELL_IBANK_ACTIVE 1).setFld (R.WELL_IBANK 0) F.WELL_IBANK_SWITCH_PEND 1

/-- The state after WELL_FAULT, which cancels the switch: the well runs bank 0 again. -/
def switchCancelled : State :=
  { follow halfSwitched (wellFault 0 .memory halfSwitched) with pending := halfSwitched.pending }

theorem idle_switchCancelled : Running switchCancelled ∧ updStep switchCancelled = 0 ∧ switchCancelled.well[(0 : Fin 8)].switch = none := by
  unfold Running
  decide +kernel

/-- The fault has left DET_ACTIVE at 0, and with DET_USE of bank 0 it follows to 1. -/
theorem detActive_switchCancelled :
    (follow switchCancelled switchCancelled).flag (R.WELL_RX_STATUS 0) F.WELL_RX_STATUS_DET_ACTIVE = false ∧
    (follow switchCancelled (detFollow 0 switchCancelled)).flag (R.WELL_RX_STATUS 0) F.WELL_RX_STATUS_DET_ACTIVE = true := by
  decide +kernel

/-- Refutes O14: a well fault between the two sides of a switch cancels it (R55), so no switch is pending, and the DET_USE of the old bank
is in force again. The next BANK_SWITCH_SIDE sets DET_ACTIVE accordingly (R101), where the statement's last clause has the state stay as it
was. -/
theorem not_bankSwitchesComplete : ¬ Obligations.BankSwitchesComplete := by
  unfold Obligations.BankSwitchesComplete
  intro h
  obtain ⟨running, idle, none⟩ := idle_switchCancelled
  obtain ⟨-, -, -, unchanged⟩ := h switchCancelled 0 running
  have stays := unchanged true idle none
  have follows : Completes (.bankSwitchSide 0 true) switchCancelled (detFollow 0 switchCancelled) :=
    sideSwitched_idle switchCancelled 0 true idle none ▸ completes_of_outcome switchCancelled (g := sideSwitched 0 true) rfl running
  obtain ⟨off, on⟩ := detActive_switchCancelled
  have both : false = true := off.symm.trans ((flag_of_completes stays follows _ _).trans on)
  exact absurd both (by decide)

end Sys2Proof.Machine
end

section
/-!
PROOF. The laser enables and the DAC mutes: what `lenUpdate` brings about in every lane and what it leaves, so that R87 and R88 hold after
every step.
-/
namespace Sys2Proof.Machine

variable (s : State)

/-! ### Bits -/

theorem bitOf_two_pow (n k : Nat) : bitOf (2 ^ n) k = decide (n = k) := by rw [bitOf_eq_testBit, Nat.testBit_two_pow]

theorem bitOf_lor (x y k : Nat) : bitOf (Nat.lor x y) k = (bitOf x k || bitOf y k) := by
  simp only [bitOf_eq_testBit]
  exact Nat.testBit_or x y k

theorem bitOf_mod_two_pow {k w : Nat} (h : k < w) (x : Nat) : bitOf (x % 2 ^ w) k = bitOf x k := by
  simp only [bitOf_eq_testBit, Nat.testBit_mod_two_pow, h, decide_true, Bool.true_and]

/-! ### What settles after a command -/

/-- The state but for what follows a command when nothing is due: the registers, the lights, the journal's queue, the requests that a keeper has
seen, Port I's in-band state, the remembered level sources, and the queue of commands. -/
def fixedPart (s : State) : State :=
  { s with regs := [], light := Vector.replicate 8 {}, jq := [], jLostPend := 0, kic := {}, port := {},
           pwr := { s.pwr with levels := 0 }, pending := [] }

theorem fixedPart_journal (c p : Nat) : fixedPart (s.journal c p) = fixedPart s := by
  unfold State.journal State.journalAt
  split
  · rfl
  · dsimp only
    split
    · rfl
    · split <;> rfl

theorem fixedPart_lenLane (n : Fin 8) : fixedPart (lenLane n s) = fixedPart s :=
  lenLane_keeps s (fun _ _ _ => rfl) fixedPart_journal (fun _ _ => rfl) n

theorem fixedPart_lenUpdate : fixedPart (lenUpdate s) = fixedPart s :=
  lenUpdate_keeps s (fun _ _ _ => rfl) fixedPart_journal fun _ _ => rfl

/-- A register that LEN's update does not write. -/
abbrev NotLen (a : Nat) : Prop := a ≠ R.LINE_LEN_STATUS ∧ a ≠ R.SAF_JNL_STATUS

theorem reg_lenLane {a : Nat} (h : NotLen a) (n : Fin 8) : (lenLane n s).reg a = s.reg a :=
  lenLane_keeps s (v := fun s => s.reg a) (fun t f x => t.reg_setFld_ne h.1 f x) (fun t c p => t.reg_journal h.2 c p) (fun _ _ => rfl) n

theorem reg_lenUpdate {a : Nat} (h : NotLen a) : (lenUpdate s).reg a = s.reg a :=
  lenUpdate_keeps s (v := fun s => s.reg a) (fun t f x => t.reg_setFld_ne h.1 f x) (fun t c p => t.reg_journal h.2 c p) fun _ _ => rfl

/-! ### What the conditions of R87 and R88 read -/

section
variable {s} {t : State}

/-- Each monitor channel's result is outside what LEN's update writes. -/
theorem monRequest_congr (regs : ∀ a, NotLen a → t.reg a = s.reg a) : monRequest t = monRequest s := by
  have control : t.reg R.SAF_SG3_CTRL = s.reg R.SAF_SG3_CTRL := regs _ (by decide)
  have result (c : Nat) (small : c < 16) : t.reg (R.MON_RES c) = s.reg (R.MON_RES c) :=
    regs _ (by unfold NotLen R.MON_RES R.LINE_LEN_STATUS R.SAF_JNL_STATUS; omega)
  rw [monRequest, monRequest, Bool.eq_iff_iff]
  simp only [List.any_eq_true, List.mem_range, State.flag, State.fld, control]
  exact exists_congr fun c => and_congr_right fun small => by rw [result c small]

theorem lenAllowed_congr (fixed : fixedPart t = fixedPart s) (regs : ∀ a, NotLen a → t.reg a = s.reg a) : lenAllowed t = lenAllowed s := by
  have monitor := monRequest_congr regs
  have tripped : t.reg R.CHIP_FAULT_STATUS = s.reg R.CHIP_FAULT_STATUS := regs _ (by decide)
  have request : t.reg R.SAF_SG3_CTRL = s.reg R.SAF_SG3_CTRL := regs _ (by decide)
  have reset : t.inReset = s.inReset := (congrArg State.inReset fixed :)
  have high : t.txdisHigh = s.txdisHigh := (congrArg State.txdisHigh fixed :)
  have passed : t.txdisOk = s.txdisOk := (congrArg State.txdisOk fixed :)
  have rails : t.rails = s.rails := (congrArg State.rails fixed :)
  have vent : t.vent = s.vent := (congrArg State.vent fixed :)
  simp only [lenAllowed, sgTripped, smRequest, State.flag, State.fld, monitor, tripped, request, reset, high, passed, rails, vent]

theorem lenEn_congr (regs : ∀ a, NotLen a → t.reg a = s.reg a) (n : Nat) : lenEn t n = lenEn s n := by
  simp only [lenEn, State.fld, regs R.LINE_LEN_CTRL (by decide)]

theorem muteCond_congr (fixed : fixedPart t = fixedPart s) (regs : ∀ a, NotLen a → t.reg a = s.reg a) {n : Fin 8}
    (out : lenOut t n = lenOut s n) (light : t.light[n] = s.light[n]) : muteCond t n = muteCond s n := by
  have pll : t.reg (R.LINE_PLL_STATUS n) = s.reg (R.LINE_PLL_STATUS n) :=
    regs _ (by unfold NotLen R.LINE_PLL_STATUS R.LINE_LEN_STATUS R.SAF_JNL_STATUS; omega)
  have fe : t.reg (R.LINE_FE_CFG n) = s.reg (R.LINE_FE_CFG n) :=
    regs _ (by unfold NotLen R.LINE_FE_CFG R.LINE_LEN_STATUS R.SAF_JNL_STATUS; omega)
  have cal : t.reg (R.LINE_CAL_STATUS n) = s.reg (R.LINE_CAL_STATUS n) :=
    regs _ (by unfold NotLen R.LINE_CAL_STATUS R.LINE_LEN_STATUS R.SAF_JNL_STATUS; omega)
  have power : pwrState t = pwrState s := by rw [pwrState, State.fld, regs _ (by decide), pwrState, State.fld]
  have profile : t.reg R.FEC_PROFILE = s.reg R.FEC_PROFILE := regs _ (by decide)
  have act : t.act = s.act := (congrArg State.act fixed :)
  have held : t.pwr.held = s.pwr.held := (congrArg (fun u => u.pwr.held) fixed :)
  simp only [muteCond, muteInForce, State.actFld, State.actReg, State.flag, State.fld, out, light, pll, fe, cal, power, profile, act,
    held]

end

/-! ### One lane -/

/-- LEN[n] is high exactly while R87 allows it, and its DAC is muted whenever a condition of R88 holds. -/
def LaneSafe (s : State) (n : Fin 8) : Prop :=
  lenOut s n = (lenAllowed s && lenEn s n) ∧ (muteCond s n = true → s.light[n].muted = true)

theorem LaneSafe.congr {s t : State} {n : Fin 8} (h : LaneSafe s n) (fixed : fixedPart t = fixedPart s)
    (regs : ∀ a, NotLen a → t.reg a = s.reg a) (out : lenOut t n = lenOut s n) (light : t.light[n] = s.light[n]) : LaneSafe t n := by
  rw [LaneSafe, out, lenAllowed_congr fixed regs, lenEn_congr regs, muteCond_congr fixed regs out light, light]
  exact h

theorem lenOut_setLenOut (v : Nat) (n : Fin 8) : lenOut (s.setFld R.LINE_LEN_STATUS F.LINE_LEN_STATUS_LEN_OUT v) n = bitOf v n := by
  rw [lenOut, s.fld_setFld _ _ _ (by unfold Fld.fits; decide)]
  exact bitOf_mod_two_pow n.isLt v

theorem lenOut_lenRise (n k : Fin 8) : lenOut (lenRise n s) k = (lenOut s k || decide (n = k)) := by
  have set : lenOut (lenRise n s) k = bitOf (Nat.lor (s.fld R.LINE_LEN_STATUS F.LINE_LEN_STATUS_LEN_OUT) (2 ^ n.val)) k := lenOut_setLenOut s _ k
  rw [set, bitOf_lor, bitOf_two_pow, lenOut]
  simp only [Fin.ext_iff]

theorem lenOut_dropped (t : State) (bits id : Nat) (k : Fin 8) :
    lenOut (t.raise R.LINE_LEN_STATUS F.LINE_LEN_STATUS_LEN_DROP bits id) k = lenOut t k := by
  rw [lenOut, fld_raise_apart t (by decide) (by unfold Fld.fits; decide) (by unfold Fld.apart; decide), lenOut]

theorem lenOut_lenFall (n k : Fin 8) : lenOut (lenFall n s) k = (lenOut s k && !decide (n = k)) := by
  have set : lenOut (s.clrBits R.LINE_LEN_STATUS F.LINE_LEN_STATUS_LEN_OUT (2 ^ n.val)) k = (lenOut s k && !decide (n = k)) := by
    rw [State.clrBits, lenOut_setLenOut, bitOf_sub_land, bitOf_two_pow, lenOut]
    simp only [Fin.ext_iff]
  unfold lenFall
  dsimp only
  split
  · exact (lenOut_dropped _ _ _ k).trans set
  · exact set

theorem lenOut_muteUpdate (n k : Fin 8) : lenOut (muteUpdate n s) k = lenOut s k := by
  rw [lenOut, State.fld, State.reg_of_regs (muteUpdate_regs n s).1, lenOut, State.fld]

theorem lenOut_lenLane (n k : Fin 8) : lenOut (lenLane n s) k = if n = k then lenAllowed s && lenEn s n else lenOut s k := by
  unfold lenLane
  rw [lenOut_muteUpdate]
  by_cases same : n = k
  · subst same
    cases want : lenAllowed s && lenEn s n <;> cases out : lenOut s n <;> simp [lenOut_lenRise, lenOut_lenFall, out]
  · rw [if_neg same]
    split
    · simp [lenOut_lenRise, same]
    · split
      · simp [lenOut_lenFall, same]
      · rfl

theorem light_raise (a : Nat) (f : Fld) (bits id : Nat) : (s.raise a f bits id).light = s.light :=
  ((Calm.refl (T := fun _ _ => True)).raise trivial bits id).light

theorem light_lenLane_ne {n k : Fin 8} (h : k ≠ n) : (lenLane n s).light[k] = s.light[k] := by
  have mute (t : State) : (muteUpdate n t).light[k] = t.light[k] := by
    unfold muteUpdate
    split
    · exact vmod_ne _ h _
    · rfl
  have fell : (lenFall n s).light[k] = s.light[k] := by
    unfold lenFall
    dsimp only
    split
    · exact (congrArg (·[k]) (light_raise _ _ _ _ _)).trans (vmod_ne _ h _)
    · exact vmod_ne _ h _
  unfold lenLane
  rw [mute]
  split
  · exact vmod_ne _ h _
  · split
    · exact fell
    · rfl

/-- A DAC that a condition of R88 mutes after `muteUpdate` has been muted by it. -/
theorem muted_muteUpdate_of_cond {n : Fin 8} (h : muteCond (muteUpdate n s) n = true) : (muteUpdate n s).light[n].muted = true := by
  unfold muteUpdate at h ⊢
  split at h
  next cond => rw [if_pos cond, vmod_same]
  next free => exact absurd h free

theorem laneSafe_lenLane (n : Fin 8) : LaneSafe (lenLane n s) n := by
  refine ⟨?_, muted_muteUpdate_of_cond _⟩
  rw [lenOut_lenLane, if_pos rfl, lenAllowed_congr (fixedPart_lenLane s n) fun a h => reg_lenLane s h n, lenEn_congr fun a h => reg_lenLane s h n]

theorem LaneSafe.lenLane {s : State} {k : Fin 8} (h : LaneSafe s k) (n : Fin 8) : LaneSafe (lenLane n s) k := by
  by_cases same : n = k
  · exact same ▸ laneSafe_lenLane s n
  · exact h.congr (fixedPart_lenLane s n) (fun a out => reg_lenLane s out n) (by rw [lenOut_lenLane, if_neg same])
      (light_lenLane_ne s fun e => same e.symm)

/-! ### All lanes -/

/-- What each lane's update brings about in its lane, and the others keep, holds in every lane after the updates of all. -/
theorem forLanes_each (P : State → Fin 8 → Prop) {g : Fin 8 → State → State} (own : ∀ n t, P (g n t) n)
    (keeps : ∀ n k t, P t k → P (g n t) k) (n : Fin 8) : P (forLanes g s) n := by
  have done (l : List (Fin 8)) : ∀ t, n ∈ l ∨ P t n → P (l.foldl (fun s n => g n s) t) n := by
    induction l with
    | nil => exact fun t h => h.resolve_left List.not_mem_nil
    | cons x l ih =>
      intro t h
      refine ih (g x t) ?_
      rcases h with mem | holds
      · rcases List.mem_cons.mp mem with rfl | later
        · exact .inr (own n t)
        · exact .inl later
      · exact .inr (keeps x n t holds)
  exact done _ s (.inl (List.mem_finRange n))

/-- The fields of LINE_LEN_STATUS apart from LEN_OUT. -/
theorem LaneSafe.setFld {s : State} {n : Fin 8} (h : LaneSafe s n) {f : Fld} (fits : f.fits) (apart : f.apart F.LINE_LEN_STATUS_LEN_OUT)
    (v : Nat) : LaneSafe (s.setFld R.LINE_LEN_STATUS f v) n :=
  h.congr rfl (fun _ out => s.reg_setFld_ne out.1 f v) (by rw [lenOut, s.fld_setFld_apart _ f _ v fits apart, lenOut]) rfl

/-- LEN's update brings every lane to what R87 and R88 ask for. -/
theorem laserSafe_lenUpdate : LaserSafe (lenUpdate s) := fun n => by
  have lanes : LaneSafe (forLanes lenLane s) n := forLanes_each s LaneSafe (fun n t => laneSafe_lenLane t n) (fun n _ _ h => h.lenLane n) n
  have level := lanes.setFld (f := F.LINE_LEN_STATUS_TXDIS_LVL) (by unfold Fld.fits; decide) (by unfold Fld.apart; decide)
  have hold := fun v => (level v).setFld (f := F.LINE_LEN_STATUS_SG3_HOLD) (by unfold Fld.fits; decide) (by unfold Fld.apart; decide)
  exact (hold _ _).setFld (by unfold Fld.fits; decide) (by unfold Fld.apart; decide) _

/-! ### Every step -/

theorem laserSafe_follow (old : State) : LaserSafe (follow old s) := laserSafe_lenUpdate _

theorem LaserSafe.queued {s : State} (h : LaserSafe s) (l : List Instr) : LaserSafe { s with pending := l } := fun n =>
  LaneSafe.congr (h n) rfl (fun _ _ => rfl) rfl rfl

theorem laserSafe_after (g : State → State) : LaserSafe (after g s) := (laserSafe_follow _ s).queued _

theorem outcome_is_after (g : State → State) : ∃ k, outcome s g = .next (after k s) := ⟨_, rfl⟩
theorem outcomePin_is_after (g : State → State) : ∃ k, outcomePin s g = .next (after k s) := ⟨_, rfl⟩

/-- What follows every command follows, whatever the command does. -/
theorem exec_is_after (c : Instr) : ∃ g, exec c s = .next (after g s) := by
  cases c
  case txdisAssert | txdisDeassert | wakeEvent | trstAssert | resetAssert | coldStart => exact outcomePin_is_after s _
  all_goals exact outcome_is_after s _

theorem step_is_after : ∃ g u, step s = .next (after g u) := by
  unfold step
  split
  · obtain ⟨g, run⟩ := outcome_is_after s (todRun 1)
    exact ⟨g, s, run⟩
  next c rest _ =>
    obtain ⟨g, run⟩ := exec_is_after { s with pending := rest } c
    exact ⟨g, _, run⟩

/-- Settles O5: every step ends in `follow`, which ends in LEN's update. -/
theorem laserEnablesStaySafe : Obligations.LaserEnablesStaySafe := by
  intro s t comes
  obtain ⟨g, u, run⟩ := step_is_after s
  obtain rfl : t = after g u := Host.Outcome.next.inj (comes.symm.trans run)
  exact laserSafe_after u g

/-! ### Reset -/

theorem dark_reset (n : Fin 8) : lenOut State.reset n = false ∧ lenEn State.reset n = false ∧ State.reset.light[n].muted = true := by
  revert n
  decide +kernel

/-- Settles O6: at reset no enable is set, so LEN is low as R87 asks for, and every DAC is muted. -/
theorem laserEnablesSafeAtReset : Obligations.LaserEnablesSafeAtReset := by
  refine ⟨fun n => ?_, fun n => ?_, by decide +kernel⟩
  · obtain ⟨low, disabled, muted⟩ := dark_reset n
    exact ⟨by rw [low, disabled, Bool.and_false], fun _ => muted⟩
  · obtain ⟨low, -, muted⟩ := dark_reset n
    exact ⟨low, muted⟩

end Sys2Proof.Machine
end

section
/-!
PROOF. What follows a command when nothing is due: each of its steps leaves the fixed part of the state, and writes the registers that it
shows its outcome in.
-/
namespace Sys2Proof.Machine

variable {s : State}

/-! ### Steps with nothing to do -/

theorem updTail_noImage (none : s.boot.upd.img = none) : updTail s = s := by simp only [updTail, none]

theorem repliesPost_none (none : ∀ p : Fin 3, s.mbx[p].queue = [] ∨ mbxOutFull s p = true ∨ mbxServed s p = false) : repliesPost s = s := by
  have still (p : Fin 3) : when (mbxServed s p) (mbxPostNext p) s = s := by
    rcases none p with empty | full | unserved
    · simp only [when, mbxPostNext, empty, ite_self]
    · simp only [when, mbxPostNext, full, if_true, ite_self]
    · simp only [when, unserved, Bool.false_eq_true, if_false]
  exact List.foldl_fixed' still _

theorem regionsBegin_none (none : ∀ r : Fin 5, s.region[r].fresh = false) : regionsBegin s = s := by
  have still (r : Region) : regionBegin r s = s := by simp only [regionBegin, none, Bool.not_false, if_true]
  simp only [regionsBegin, still]

/-! ### Requests and Port I -/

variable (s)

theorem requestsFollow_keeps : fixedPart (requestsFollow s) = fixedPart s ∧ (requestsFollow s).regs = s.regs ∧ (requestsFollow s).pwr = s.pwr :=
  ⟨foldl_keeps s fixedPart (fun t k => by split <;> rfl) _, foldl_keeps s State.regs (fun t k => by split <;> rfl) _,
    foldl_keeps s State.pwr (fun t k => by split <;> rfl) _⟩

theorem ibiFollow_keeps (old : State) : fixedPart (ibiFollow old s) = fixedPart s ∧ (ibiFollow old s).regs = s.regs := by
  unfold ibiFollow
  dsimp only
  split
  · exact ⟨rfl, rfl⟩
  · split
    · exact ⟨rfl, rfl⟩
    · split <;> exact ⟨rfl, rfl⟩

/-! ### Power -/

/-- The tolerance, the target and WAKE_HELD as the registers show them. -/
def powerShown (s : State) : State :=
  let s := s.setFld R.PWR_LTR_EFF F.PWR_LTR_EFF_EFF (ltrEff s)
  let s := s.setFld R.PWR_STATUS F.PWR_STATUS_TARGET (sleepTarget s)
  s.setFld R.PWR_STATUS F.PWR_STATUS_WAKE_HELD (b2n (levelWakes s != 0))

theorem pwrState_powerShown : pwrState (powerShown s) = pwrState s := by
  have held (t : State) (v : Nat) : pwrState (t.setFld R.PWR_STATUS F.PWR_STATUS_WAKE_HELD v) = pwrState t :=
    t.fld_setFld_apart _ _ _ v (by unfold Fld.fits; decide) (by unfold Fld.apart; decide)
  have target (t : State) (v : Nat) : pwrState (t.setFld R.PWR_STATUS F.PWR_STATUS_TARGET v) = pwrState t :=
    t.fld_setFld_apart _ _ _ v (by unfold Fld.fits; decide) (by unfold Fld.apart; decide)
  have tolerance (v : Nat) : pwrState (s.setFld R.PWR_LTR_EFF F.PWR_LTR_EFF_EFF v) = pwrState s := s.fld_setFld_ne (by decide) _ _ v
  rw [powerShown, held, target, tolerance]

/-- With no exit in progress the level sources are only remembered. -/
theorem wakesNote_rests (rests : s.pwr.exiting = false) (lv : Nat) : wakesNote lv s = modPwr (fun p => { p with levels := lv }) s := by
  simp only [wakesNote, rests, Bool.false_and, Bool.false_eq_true, if_false]

/-- Awake, with no exit in progress, the power controller only shows its conditions and remembers the level sources. -/
theorem powerFollow_awake (active : pwrState s = 0) (rests : s.pwr.exiting = false) :
    ∃ lv, powerFollow s = modPwr (fun p => { p with levels := lv }) (powerShown s) := by
  have awake (lv : Nat) : ¬ pwrState (wakesNote lv (powerShown s)) ≠ 0 := by
    rw [wakesNote_rests (powerShown s) rests, not_not, pwrState, modPwr_fld]
    exact (pwrState_powerShown s).trans active
  refine ⟨levelWakes ((s.setFld R.PWR_LTR_EFF F.PWR_LTR_EFF_EFF (ltrEff s)).setFld R.PWR_STATUS F.PWR_STATUS_TARGET
    (sleepTarget (s.setFld R.PWR_LTR_EFF F.PWR_LTR_EFF_EFF (ltrEff s)))), ?_⟩
  rw [← wakesNote_rests (powerShown s) rests]
  exact if_neg fun all => awake _ all.1

theorem ltrEff_lt : ltrEff s < 2 ^ 32 := by
  simp only [ltrEff, show List.range 3 = [0, 1, 2] from rfl, List.foldl_cons, List.foldl_nil]
  omega

theorem fld_powerShown : (powerShown s).fld R.PWR_LTR_EFF F.PWR_LTR_EFF_EFF = ltrEff s := by
  rw [powerShown, State.fld_setFld_ne _ (by decide), State.fld_setFld_ne _ (by decide), s.fld_setFld _ _ _ (by unfold Fld.fits; decide)]
  exact Nat.mod_eq_of_lt (ltrEff_lt s)

theorem reg_powerShown {a : Nat} (eff : a ≠ R.PWR_LTR_EFF) (status : a ≠ R.PWR_STATUS) : (powerShown s).reg a = s.reg a := by
  rw [powerShown, State.reg_setFld_ne _ status, State.reg_setFld_ne _ status, s.reg_setFld_ne eff]

theorem ltrEff_of_regs {s t : State} (h : t.regs = s.regs) : ltrEff t = ltrEff s := by
  simp only [ltrEff, State.fld, State.reg_of_regs h]

/-! ### All of it -/

/-- The parts of `Quiet`. -/
theorem quiet_parts (quiet : Quiet s = true) : s.inReset = false ∧ (∀ r : Fin 5, s.region[r].fresh = false) ∧
    (∀ p : Fin 3, s.mbx[p].queue = [] ∨ mbxOutFull s p = true ∨ mbxServed s p = false) ∧ pwrState s = 0 ∧ s.pwr.exiting = false ∧
    s.boot.upd.img = none := by
  simpa only [Quiet, Bool.and_eq_true, Bool.or_eq_true, Bool.not_eq_true', List.all_eq_true, List.mem_finRange, true_implies, beq_iff_eq,
    List.isEmpty_iff, Option.isNone_iff_eq_none, and_assoc, or_assoc] using quiet

/-- What follows a command in a quiet state is the power controller's show and LEN's update, but for the requests seen and Port I. -/
theorem follow_quiet (old : State) (quiet : Quiet s = true) : ∃ t, follow old s = lenUpdate t ∧ fixedPart t = fixedPart s ∧
    (∀ a, a ≠ R.PWR_LTR_EFF → a ≠ R.PWR_STATUS → t.reg a = s.reg a) ∧ t.fld R.PWR_LTR_EFF F.PWR_LTR_EFF_EFF = ltrEff s := by
  obtain ⟨running, regions, replies, active, rests, image⟩ := quiet_parts s quiet
  obtain ⟨seen, seenRegs, seenPwr⟩ := requestsFollow_keeps s
  obtain ⟨lv, power⟩ := powerFollow_awake (requestsFollow s) (by rw [← active, pwrState, pwrState, State.fld, State.reg_of_regs seenRegs, State.fld])
    (by rw [seenPwr, rests])
  obtain ⟨told, toldRegs⟩ := ibiFollow_keeps (powerFollow (requestsFollow s)) old
  have shown : (powerFollow (requestsFollow s)).regs = (powerShown (requestsFollow s)).regs := by rw [power]; rfl
  have reg (a : Nat) : (ibiFollow old (powerFollow (requestsFollow s))).reg a = (powerShown (requestsFollow s)).reg a :=
    State.reg_of_regs (toldRegs.trans shown) a
  refine ⟨ibiFollow old (powerFollow (requestsFollow s)), ?_, ?_, fun a eff status => ?_, ?_⟩
  · simp only [follow, running, Bool.false_eq_true, if_false, updTail_noImage image, repliesPost_none replies, regionsBegin_none regions]
  · rw [told, power, ← seen]
    rfl
  · rw [reg, reg_powerShown _ eff status, State.reg_of_regs seenRegs]
  · rw [State.fld, reg, ← ltrEff_of_regs seenRegs]
    exact fld_powerShown _

/-- Settles O7: of the steps of `follow` only the power controller's show, the requests seen, Port I and LEN's update do anything. -/
theorem quietCommandsSettle : Obligations.QuietCommandsSettle := by
  intro old u quiet
  obtain ⟨t, run, fixed, regs, tolerance⟩ := follow_quiet u old quiet
  have same : fixedPart (follow old u) = fixedPart u := by rw [run, fixedPart_lenUpdate, fixed]
  have reg {a : Nat} (h : NotLen a) : (follow old u).reg a = t.reg a := by rw [run, reg_lenUpdate t h]
  have power : ({ (follow old u).pwr with levels := u.pwr.levels } : PwrSt) = u.pwr :=
    (congrArg (fun s => { s.pwr with levels := u.pwr.levels }) same :)
  have effective : (follow old u).fld R.PWR_LTR_EFF F.PWR_LTR_EFF_EFF = ltrEff u := by rw [State.fld, reg (by decide)]; exact tolerance
  have registers (a : Nat) (eff : a ≠ R.PWR_LTR_EFF) (status : a ≠ R.PWR_STATUS) (len : a ≠ R.LINE_LEN_STATUS) (jnl : a ≠ R.SAF_JNL_STATUS) :
      (follow old u).reg a = u.reg a := (reg ⟨len, jnl⟩).trans (regs a eff status)
  generalize follow old u = v at same power effective registers
  have kept {α : Type} (g : State → α) : g (fixedPart v) = g (fixedPart u) := congrArg g same
  exact ⟨kept State.mem, kept State.act, kept State.now, kept State.tod, kept State.region, kept State.blocks, kept State.well, kept State.line,
    kept State.rx, kept State.sig, kept State.frm, kept State.cores, kept State.atlas, kept State.seepLn, kept State.seep, kept State.host,
    kept State.cis, kept State.fuse, kept State.boot, kept State.mbx, power, kept State.saf, kept State.thm, kept State.mon, kept State.sec,
    kept State.resp, registers, effective⟩

end Sys2Proof.Machine
end

section
/-!
PROOF. The laser commands: what a write of LINE_LEN_CTRL stores and brings about, TXDIS_N and the settle time (R87, R89).
-/
namespace Sys2Proof.Machine

variable (s : State)

/-! ### Writes of LINE registers -/

/-- The registers of the LINE block. -/
abbrev InLine (a : Nat) : Prop := 0x400000 ≤ a ∧ a < 0x800000

theorem effects_line {a : Nat} (h : InLine a) (o : Origin) (w : Word) (old : State) : effects o a w old s = effLine a w old s := by
  obtain ⟨low, high⟩ := h
  have noSem : arrIdx a (R.CHIP_SEM 0) 4 16 = none := by
    unfold arrIdx R.CHIP_SEM
    rw [if_neg]
    omega
  simp only [effects, noSem, show ¬ a < 0x10000 by omega, show ¬ a < 0x20000 by omega, show ¬ a < 0x30000 by omega, show ¬ a < 0x40000 by omega,
    show ¬ a < 0x50000 by omega, show ¬ a < 0x60000 by omega, show ¬ a < 0x80000 by omega, show ¬ a < 0x100000 by omega,
    show ¬ a < 0x200000 by omega, show ¬ a < 0x400000 by omega, high, if_true, if_false]

/-- Only the host side's clocks come up to date before a write of a LINE register. -/
theorem calm_before {a : Nat} (h : InLine a) : Calm OuterBook s (before a s) := by
  obtain ⟨low, high⟩ := h
  have notLane : ¬ (0x200000 ≤ a ∧ a < 0x208000) := by omega
  have notCtrl : a ≠ R.HOST_CTRL := by unfold R.HOST_CTRL; omega
  have clocks : a = R.HOST_RX_MAP ∨ a = R.HOST_TX_MAP ∨ (0x400000 ≤ a ∧ a < 0x800000) := .inr (.inr ⟨low, high⟩)
  rw [before, if_neg notLane, if_neg notCtrl, if_pos clocks]
  exact (calm_steerFollow s).trans (calm_hostTxFollow _)

/-- Of the LINE block the host side and a lane's receive chain set STEER_HOLD alone. -/
theorem misses_line {b : Nat} (h : InLine b) (notPll : ∀ k : Fin 8, b ≠ R.LINE_PLL_STATUS k) (g : Fld) : Misses ChainBook b g := by
  obtain ⟨low, high⟩ := h
  refine ⟨by unfold R.SAF_JNL_STATUS; omega, fun a f w => .inl ?_⟩
  cases w with
  | outer w =>
    cases w with
    | host _ below => omega
    | steer k => exact notPll k
    | high up => omega
  | chain k up => omega
  | window => unfold R.PUMP_ERR; omega
  | bank => unfold R.WELL_IBANK; omega
  | stage => unfold R.BOOT_STAGE_STATUS; omega

/-- A register of the LINE block holds the fields that the write reaches. -/
theorem stored_line {a : Nat} (h : InLine a) {r : RegSpec} (spec : specAt a = some r) (o : Origin) (w : Word) :
    stored o a w s = (before a s).setReg a (storeWord (before a s) r a w) := by
  obtain ⟨low, high⟩ := h
  have stores : storesNothing a = false := by
    have noSem : arrIdx a (R.CHIP_SEM 0) 4 16 = none := by unfold arrIdx R.CHIP_SEM; rw [if_neg]; omega
    have noData : arrIdx a (R.ATL_PD_DATA 0) 0x1000 8 = none := by unfold arrIdx R.ATL_PD_DATA; rw [if_neg]; omega
    have notGateway : a ≠ R.SEEP_GW_TXDATA := by unfold R.SEEP_GW_TXDATA; omega
    simp [storesNothing, noSem, noData, notGateway, show ¬ a < 0x21000 by omega, show ¬ a < 0x33000 by omega]
  have present : monAbsent (before a s) a = false := by simp [monAbsent, show ¬ a < 0x208900 by omega]
  have notLo : a ≠ R.THM_BAND_LO := by unfold R.THM_BAND_LO; omega
  have notHi : a ≠ R.THM_BAND_HI := by unfold R.THM_BAND_HI; omega
  have notRx : a ≠ R.HOST_RX_MAP := by unfold R.HOST_RX_MAP; omega
  have notTx : a ≠ R.HOST_TX_MAP := by unfold R.HOST_TX_MAP; omega
  have notWd : a ≠ R.SAF_WD_CFG := by unfold R.SAF_WD_CFG; omega
  have notCh : a ≠ R.MON_CH 16 := by unfold R.MON_CH; omega
  have notStage : a ≠ R.BOOT_STAGE_CTRL := by unfold R.BOOT_STAGE_CTRL; omega
  simp [stored, spec, store, storeKeep, stores, present, notLo, notHi, notRx, notTx, notWd, notCh, notStage, show ¬ 0x800000 ≤ a by omega]

/-! ### Fields of a write -/

theorem putFld_unreached {r : RegSpec} {w : Word} {f : Fld} (h : fldBits r w f = 0) (a : Nat) (x : Word) : putFld s r a w x f = x :=
  if_pos (.inl h)

/-- Of a read-write field the written bits are the data's, the others stay. -/
theorem bitOf_putFld {f : Fld} (plain : f.ty = .rw) (unbounded : f.lim = none) (fits : f.fits) {k : Nat} (inside : k < f.w) (r : RegSpec) (a : Nat)
    (w x : Word) : bitOf (f.get (putFld s r a w x f)) k =
      if bitOf (fldBits r w f) k then bitOf (dataWord r w / 2 ^ f.lo % 2 ^ f.w) k else bitOf (f.get x) k := by
  have unlocked : fldLocked s r a f = false := by simp only [fldLocked, plain]
  unfold putFld
  dsimp only
  split
  next stays =>
    have none : fldBits r w f = 0 := stays.resolve_right (by rw [unlocked]; decide)
    simp [none, bitOf]
  next =>
    have land (x y : Nat) : bitOf (Nat.land x y) k = (bitOf x k && bitOf y k) := by
      simp only [bitOf_eq_testBit]
      exact Nat.testBit_and x y k
    rw [get_put_same f x _ fits, bitOf_mod_two_pow inside]
    simp only [fldNext, plain, unbounded, bitOf_lor, bitOf_sub_land, land]
    cases bitOf (fldBits r w f) k <;> simp

/-! ### LINE_LEN_CTRL -/

/-- The row of LINE_LEN_CTRL. -/
def lenCtrlSpec : RegSpec := { base := 0x400000, dims := [], flds := [F.LINE_LEN_CTRL_LEN_EN, F.LINE_LEN_CTRL_MUTE], masked := true, aon := true }

theorem specAt_lenCtrl : specAt R.LINE_LEN_CTRL = some lenCtrlSpec := by decide +kernel

/-- A masked write of one enable reaches that bit of LEN_EN and no bit of MUTE. -/
theorem reach_maskedBits (n : Fin 8) (on : Bool) : let w := maskedBits (2 ^ n.val) on
    fldBits lenCtrlSpec w F.LINE_LEN_CTRL_LEN_EN = 2 ^ n.val ∧ fldBits lenCtrlSpec w F.LINE_LEN_CTRL_MUTE = 0 ∧
    dataWord lenCtrlSpec w / 2 ^ F.LINE_LEN_CTRL_LEN_EN.lo % 2 ^ F.LINE_LEN_CTRL_LEN_EN.w = if on then 2 ^ n.val else 0 := by
  revert n on
  decide

/-- A masked write of an enable sets that enable only. -/
theorem lenEn_stored (o : Origin) (n : Fin 8) (on : Bool) (k : Fin 8) :
    lenEn (stored o R.LINE_LEN_CTRL (maskedBits (2 ^ n.val) on) s) k = if n = k then on else lenEn s k := by
  obtain ⟨enable, mute, data⟩ := reach_maskedBits n on
  have line : InLine R.LINE_LEN_CTRL := by decide
  have notPll (j : Fin 8) : R.LINE_LEN_CTRL ≠ R.LINE_PLL_STATUS j := by unfold R.LINE_LEN_CTRL R.LINE_PLL_STATUS; omega
  have old := (calm_before s line).outer.sets.fld (misses_line line notPll F.LINE_LEN_CTRL_LEN_EN)
  have word (t : State) : storeWord t lenCtrlSpec R.LINE_LEN_CTRL (maskedBits (2 ^ n.val) on) =
      putFld t lenCtrlSpec R.LINE_LEN_CTRL (maskedBits (2 ^ n.val) on) (t.reg R.LINE_LEN_CTRL) F.LINE_LEN_CTRL_LEN_EN :=
    putFld_unreached t mute _ _
  rw [lenEn, stored_line s line specAt_lenCtrl, State.fld, State.reg_setReg, word, bitOf_putFld _ rfl rfl (by unfold Fld.fits; decide) k.isLt,
    enable, data, bitOf_two_pow]
  by_cases same : n = k
  · subst same
    cases on <;> simp [bitOf]
  · have apart : ¬ n.val = k.val := fun e => same (Fin.ext e)
    rw [if_neg (by simpa using apart), if_neg same]
    exact congrArg (bitOf · k) old

/-! ### What the write brings about -/

theorem LaserSafe.muteUpdate {s : State} (h : LaserSafe s) (n : Fin 8) : LaserSafe (muteUpdate n s) := fun k => by
  have regs (a : Nat) : (Machine.muteUpdate n s).reg a = s.reg a := State.reg_of_regs (muteUpdate_regs n s).1 a
  have fixed : fixedPart (Machine.muteUpdate n s) = fixedPart s := by unfold Machine.muteUpdate; split <;> rfl
  by_cases same : k = n
  · subst same
    refine ⟨?_, muted_muteUpdate_of_cond s⟩
    rw [lenOut_muteUpdate, lenAllowed_congr fixed fun a _ => regs a, lenEn_congr fun a _ => regs a]
    exact (h k).1
  · refine LaneSafe.congr (h k) fixed (fun a _ => regs a) (lenOut_muteUpdate s n k) ?_
    unfold Machine.muteUpdate
    split
    · exact vmod_ne _ same _
    · rfl

theorem accepted_lenCtrl (o : Origin) (w : Word) :
    accepted o R.LINE_LEN_CTRL w s = forLanes muteUpdate (lenUpdate (stored o R.LINE_LEN_CTRL w s)) := by
  rw [accepted, effects_line _ (by decide), effLine, if_pos rfl]

theorem laserSafe_accepted (o : Origin) (w : Word) : LaserSafe (accepted o R.LINE_LEN_CTRL w s) := by
  rw [accepted_lenCtrl]
  exact forLanes_keeps LaserSafe (fun n _ h => h.muteUpdate n) (laserSafe_lenUpdate _)

theorem lenEn_accepted (o : Origin) (n : Fin 8) (on : Bool) (k : Fin 8) :
    lenEn (accepted o R.LINE_LEN_CTRL (maskedBits (2 ^ n.val) on) s) k = if n = k then on else lenEn s k := by
  have mutes (t : State) : (forLanes muteUpdate t).regs = t.regs := foldl_keeps t State.regs (fun u n => (muteUpdate_regs n u).1) _
  rw [← lenEn_stored s o n on k, accepted_lenCtrl, lenEn, State.fld, State.reg_of_regs (mutes _), reg_lenUpdate _ (by decide)]
  rfl

/-- A lane that is not enabled is dark. -/
theorem LaneSafe.dark {s : State} {n : Fin 8} (h : LaneSafe s n) (no : (lenAllowed s && lenEn s n) = false) :
    lenOut s n = false ∧ s.light[n].muted = true := by
  obtain ⟨out, mute⟩ := h
  have low : lenOut s n = false := out.trans no
  exact ⟨low, mute (by simp only [muteCond, low, Bool.not_false, Bool.true_or])⟩

/-! ### TXDIS_N and the settle time -/

theorem txdis_lenUpdate : (lenUpdate s).txdisHigh = s.txdisHigh ∧ (lenUpdate s).txdisOk = s.txdisOk := by
  have fixed := fixedPart_lenUpdate s
  generalize lenUpdate s = t at fixed
  exact ⟨(congrArg State.txdisHigh fixed :), (congrArg State.txdisOk fixed :)⟩

/-- TXDIS_N low: no lane may light. -/
theorem txdisAssert_darkens (k : Fin 8) : lenOut (txdisAssert s) k = false ∧ (txdisAssert s).light[k].muted = true := by
  have low : (txdisAssert s).txdisHigh = false := (txdis_lenUpdate _).1
  refine LaneSafe.dark (laserSafe_lenUpdate _ k) ?_
  show (lenAllowed (txdisAssert s) && lenEn (txdisAssert s) k) = false
  simp only [lenAllowed, low, Bool.and_false, Bool.false_and]

/-- Settles O17: a write of an enable stores that bit alone, and the lasers are safe after it and after a change of TXDIS_N. -/
theorem laserCommandsComplete : Obligations.LaserCommandsComplete := by
  intro s n
  refine ⟨?set, ?clear, ?low, ?high, fun running => ?filter, fun running lit => ?settled, fun running dark => ?rest⟩
  case set =>
    intro o a w u ok
    have enable (k : Fin 8) : lenEn u k = if n = k then true else lenEn s k := lenEn_accepted s o n true k
    have own : lenEn u n = true := (enable n).trans (if_pos rfl)
    have out : lenOut u n = (lenAllowed u && lenEn u n) := (laserSafe_accepted s o w n).1
    exact ⟨completesWrite_of_ok s rfl ok, own, by rw [out, own, Bool.and_true], fun k other => (enable k).trans (if_neg fun e => other e.symm)⟩
  case clear =>
    intro o a w u ok
    have enable (k : Fin 8) : lenEn u k = if n = k then false else lenEn s k := lenEn_accepted s o n false k
    have own : lenEn u n = false := (enable n).trans (if_pos rfl)
    obtain ⟨low, muted⟩ := LaneSafe.dark (laserSafe_accepted s o w n) (by rw [own, Bool.and_false])
    exact ⟨completesWrite_of_ok s rfl ok, own, low, muted, fun k other => (enable k).trans (if_neg fun e => other e.symm)⟩
  case low =>
    obtain ⟨high, passed⟩ := txdis_lenUpdate { s with txdisHigh := false, txdisOk := false }
    exact ⟨txdisAssert s, rfl, high, passed, txdisAssert_darkens s⟩
  case high => exact ⟨txdisDeassert s, rfl, txdis_lenUpdate _⟩
  case filter =>
    obtain ⟨high, passed⟩ := txdis_lenUpdate { s with txdisOk := s.txdisHigh }
    exact ⟨_, completes_of_outcome s (g := txdisFiltExpiry) rfl running, passed, high⟩
  case settled =>
    refine ⟨_, completes_of_outcome s (g := lenSettleExpiry n) rfl running, ?_⟩
    rw [lenSettleExpiry, if_pos lit]
    exact ⟨by simp only [vmod_same], rfl⟩
  case rest =>
    have run := completes_of_outcome s (c := .lenSettleExpiry n) (g := lenSettleExpiry n) rfl running
    rwa [lenSettleExpiry, dark, if_neg Bool.false_ne_true] at run

end Sys2Proof.Machine
end

section
/-!
PROOF. The converters: the end and the start of a foreground calibration, and the interpolator's manual code (R77 to R80, R84).
-/
namespace Sys2Proof.Machine

variable (s : State) (n : Fin 8)

/-! ### Calibration (R84) -/

/-- The receive chain and the host side leave a lane's calibration status. -/
theorem misses_cal (g : Fld) : Misses ChainBook (R.LINE_CAL_STATUS n) g :=
  misses_line (by unfold InLine R.LINE_CAL_STATUS; omega) (fun k => by unfold R.LINE_CAL_STATUS R.LINE_PLL_STATUS; omega) g

/-- A run ends with RUNNING = 0 and DONE = 1. -/
theorem calEnd_done (steps : Nat) (c : CalResult) : (calEnd n false steps c s).flag (R.LINE_CAL_STATUS n) F.LINE_CAL_STATUS_RUNNING = false ∧
    (calEnd n false steps c s).flag (R.LINE_CAL_STATUS n) F.LINE_CAL_STATUS_DONE = true := by
  have ended (t : State) :
      let u := (t.setFld (R.LINE_CAL_STATUS n) F.LINE_CAL_STATUS_RUNNING 0).setFld (R.LINE_CAL_STATUS n) F.LINE_CAL_STATUS_DONE 1
      u.flag (R.LINE_CAL_STATUS n) F.LINE_CAL_STATUS_RUNNING = false ∧ u.flag (R.LINE_CAL_STATUS n) F.LINE_CAL_STATUS_DONE = true := by
    refine ⟨?_, fld_b2n _ (by unfold Fld.fits; decide) rfl true⟩
    rw [State.flag, State.fld_setFld_apart _ _ _ _ _ (by unfold Fld.fits; decide) (by unfold Fld.apart; decide)]
    exact fld_b2n t (by unfold Fld.fits; decide) rfl false
  unfold calEnd
  simp only [Bool.false_eq_true, if_false, State.flag, modLine_fld]
  exact ended _

theorem calDone_running (runs : s.flag (R.LINE_CAL_STATUS n) F.LINE_CAL_STATUS_RUNNING = true) (c : CalResult) :
    (calDone n c s).flag (R.LINE_CAL_STATUS n) F.LINE_CAL_STATUS_RUNNING = false ∧
    (calDone n c s).flag (R.LINE_CAL_STATUS n) F.LINE_CAL_STATUS_DONE = true := by
  have relocks (t : State) : Calm ChainBook t (hostFollow (rxResume n t)) := (calm_rxResume n t).trans (calm_hostFollow _).outer
  obtain ⟨ended, done⟩ := calEnd_done s n s.line[n].calSteps c
  rw [calDone, if_pos runs]
  exact ⟨((relocks _).sets.flag (misses_cal n _)).trans ended, ((relocks _).sets.flag (misses_cal n _)).trans done⟩

/-- GO starts the run of the register as stored. -/
theorem accepted_cal (o : Origin) (v : Word) : accepted o R.LINE_CAL_CMD (withBit F.LINE_CAL_CMD_GO v) s =
    calGo (stored o R.LINE_CAL_CMD (withBit F.LINE_CAL_CMD_GO v) s) := by
  have go := cmd_withBit (f := F.LINE_CAL_CMD_GO) (by unfold Fld.fits; decide) rfl v
  rw [accepted, effects_line _ (by decide), effLine, if_neg (by decide), if_pos rfl, when, if_pos go]

/-- A lane without traffic or light begins its run. -/
theorem calGoLane_starts (idle : s.flag (R.LINE_CAL_STATUS n) F.LINE_CAL_STATUS_RUNNING = false) (silent : carriesTraffic s n = false)
    (dark : lenOut s n = false) (steps : Nat) (force : Bool) :
    (calGoLane n steps force s).flag (R.LINE_CAL_STATUS n) F.LINE_CAL_STATUS_RUNNING = true := by
  obtain ⟨t, ht⟩ : ∃ t, t = modLine n (fun l => { l with calSteps := steps, bgPend := none, bgBadCnt := 0 })
    (s.setFld (R.LINE_CAL_STATUS n) F.LINE_CAL_STATUS_RUNNING 1) := ⟨_, rfl⟩
  have run : calGoLane n steps force s = if force then modRx n (fun r => { r with useInit := true }) (receiveStop n (muteUpdate n t))
      else receiveStop n (muteUpdate n t) := by
    rw [calGoLane]
    simp only [idle, silent, dark, Bool.or_self, Bool.false_and, Bool.false_eq_true, if_false, ht]
  have running : (muteUpdate n t).flag (R.LINE_CAL_STATUS n) F.LINE_CAL_STATUS_RUNNING = true := by
    rw [State.flag, State.fld, State.reg_of_regs (muteUpdate_regs n t).1, ht]
    exact fld_b2n s (by unfold Fld.fits; decide) rfl true
  have stopped := ((calm_receiveStop n (muteUpdate n t)).sets.flag (misses_cal n _)).trans running
  rw [run]
  split
  · rw [State.flag, modRx_fld]
    exact stopped
  · exact stopped

/-- A lane with traffic or light is refused without FORCE. -/
theorem calGoLane_refuses (idle : s.flag (R.LINE_CAL_STATUS n) F.LINE_CAL_STATUS_RUNNING = false)
    (busy : carriesTraffic s n = true ∨ lenOut s n = true) (steps : Nat) :
    (calGoLane n steps false s).flag (R.LINE_CAL_STATUS n) F.LINE_CAL_STATUS_REFUSED = true := by
  have carries : (carriesTraffic s n || lenOut s n) = true := Bool.or_eq_true_iff.mpr busy
  simp only [calGoLane, idle, carries, Bool.not_false, Bool.and_self, Bool.false_eq_true, if_true, if_false]
  exact fld_b2n s (by unfold Fld.fits; decide) rfl true

/-! ### The interpolator (R77, R78) -/

/-- The row of the lanes' interpolators. -/
def piSpec : RegSpec := { base := 0x410018, dims := [(0x1000, 8)], flds := [F.LINE_PI_PHASE, F.LINE_PI_WRAPS, F.LINE_PI_MANUAL] }

theorem specAt_pi : specAt (R.LINE_PI n) = some piSpec := by
  revert n
  decide +kernel

theorem inLine_pi : InLine (R.LINE_PI n) := by unfold InLine R.LINE_PI; omega

theorem misses_pi (g : Fld) : Misses ChainBook (R.LINE_PI n) g :=
  misses_line (inLine_pi n) (fun k => by unfold R.LINE_PI R.LINE_PLL_STATUS; omega) g

theorem misses_piMan (g : Fld) : Misses ChainBook (R.LINE_PI_MAN n) g :=
  misses_line (by unfold InLine R.LINE_PI_MAN; omega) (fun k => by unfold R.LINE_PI_MAN R.LINE_PLL_STATUS; omega) g

/-- The word that the write of MANUAL = 1 stores has MANUAL = 1. -/
theorem manual_stored (o : Origin) (w : Word) (on : F.LINE_PI_MANUAL.get w = 1) :
    (stored o (R.LINE_PI n) w s).flag (R.LINE_PI n) F.LINE_PI_MANUAL = true := by
  obtain ⟨t, ht⟩ : ∃ t, t = before (R.LINE_PI n) s := ⟨_, rfl⟩
  obtain ⟨x, hx⟩ : ∃ x, storeWord t piSpec (R.LINE_PI n) w = putFld t piSpec (R.LINE_PI n) w x F.LINE_PI_MANUAL := ⟨_, rfl⟩
  have data : dataWord piSpec w / 2 ^ F.LINE_PI_MANUAL.lo % 2 ^ F.LINE_PI_MANUAL.w = 1 := on
  have reached : fldBits piSpec w F.LINE_PI_MANUAL = 1 := by simp [fldBits, writeMaskOf, piSpec, F.LINE_PI_MANUAL]
  have bit : bitOf (F.LINE_PI_MANUAL.get (storeWord t piSpec (R.LINE_PI n) w)) 0 = true := by
    rw [hx, bitOf_putFld t rfl rfl (by unfold Fld.fits; decide) (by decide), reached, data]
    rfl
  rw [stored_line s (inLine_pi n) (specAt_pi n), State.flag, State.fld, State.reg_setReg, ← ht, bne_iff_ne]
  intro zero
  rw [zero] at bit
  exact absurd bit (by decide)

/-- A command that writes one field of a register completes with the register's effect when the write passes. -/
theorem completesWrite_of_field {c : Instr} {o : Origin} {a : Nat} {f : Fld} {v : Nat} (cmd : exec c s = outcome s (writeFld o a f v))
    (ok : WriteOk o a (f.put (keepWord s a) v) s = true) : CompletesWrite c o a (f.put (keepWord s a) v) s := by
  have run := completes_of_outcome s cmd (running_of_writeFits s (writeFits_of_ok s ok))
  rwa [writeFld, writeAs_ok s ok] at run

theorem code_stored (o : Origin) (w : Word) :
    (stored o (R.LINE_PI n) w s).fld (R.LINE_PI_MAN n) F.LINE_PI_MAN_CODE = s.fld (R.LINE_PI_MAN n) F.LINE_PI_MAN_CODE := by
  have apart : R.LINE_PI_MAN n ≠ R.LINE_PI n := by unfold R.LINE_PI_MAN R.LINE_PI; omega
  rw [stored_line s (inLine_pi n) (specAt_pi n), State.fld, State.reg_setReg_ne _ apart]
  exact (calm_before s (inLine_pi n)).outer.sets.fld (misses_piMan n _)

/-- While MANUAL = 1 the phase is the manual code. -/
theorem phase_piFollow (manual : s.flag (R.LINE_PI n) F.LINE_PI_MANUAL = true) :
    (piFollow n s).fld (R.LINE_PI n) F.LINE_PI_PHASE = s.fld (R.LINE_PI_MAN n) F.LINE_PI_MAN_CODE := by
  have small : s.fld (R.LINE_PI_MAN n) F.LINE_PI_MAN_CODE < 2 ^ 7 := fld_lt s _ _
  rw [piFollow, if_pos manual]
  exact (s.fld_setFld _ _ _ (by unfold Fld.fits; decide)).trans (Nat.mod_eq_of_lt small)

theorem lane_pi : lane ((R.LINE_PI n - 0x410000) / 0x1000) = n := by
  revert n
  decide

/-- What a write of LINE_PI does: a lane that goes over to the manual code retrains, and the phase follows. -/
theorem accepted_pi (o : Origin) (w : Word) : ∃ t, Calm ChainBook (stored o (R.LINE_PI n) w s) t ∧ accepted o (R.LINE_PI n) w s = piFollow n t := by
  have retrains (t : State) : Calm ChainBook t (hostFollow (retrainLane n t)) :=
    ((((calm_reacquire n t).trans (calm_atlasUnlocked n _).outer).trans (calm_trackerDrop n _)).trans (calm_hostFollow _).outer).trans
      (calm_hostFollow _).outer
  have notLen : R.LINE_PI n ≠ R.LINE_LEN_CTRL := by unfold R.LINE_PI R.LINE_LEN_CTRL; omega
  have notCal : R.LINE_PI n ≠ R.LINE_CAL_CMD := by unfold R.LINE_PI R.LINE_CAL_CMD; omega
  have notFe : R.LINE_PI n ≠ R.LINE_FE_CFG n := by unfold R.LINE_PI R.LINE_FE_CFG; omega
  rw [accepted, effects_line _ (inLine_pi n)]
  simp only [effLine, notLen, notCal, if_false, lane_pi, notFe, if_true]
  exact ⟨_, (retrains _).ite .refl _, rfl⟩

theorem phase_accepted (o : Origin) (w : Word) (on : F.LINE_PI_MANUAL.get w = 1) :
    (accepted o (R.LINE_PI n) w s).fld (R.LINE_PI n) F.LINE_PI_PHASE = s.fld (R.LINE_PI_MAN n) F.LINE_PI_MAN_CODE := by
  obtain ⟨t, calm, run⟩ := accepted_pi s n o w
  have manual := (calm.sets.flag (misses_pi n F.LINE_PI_MANUAL)).trans (manual_stored s n o w on)
  rw [run, phase_piFollow t n manual, calm.sets.fld (misses_piMan n _)]
  exact code_stored s n o w

/-- Settles O18: what follows the start and the end of a run, and a write of MANUAL, leaves the lane's calibration status and codes. -/
theorem converterCommandsComplete : Obligations.ConverterCommandsComplete := by
  intro s n running
  refine ⟨fun c runs => ?done, fun c idle => ?nothing, fun o v => ?go, fun steps force idle => ⟨fun silent dark => ?starts, fun busy => ?refuses⟩,
    fun o on => ?manual⟩
  case done => exact ⟨_, completes_of_outcome s (g := calDone n c) rfl running, calDone_running s n runs c⟩
  case nothing =>
    have run := completes_of_outcome s (c := .converterCalDone n c) (g := calDone n c) rfl running
    rwa [calDone, idle, if_neg Bool.false_ne_true] at run
  case go => exact fun ok => ⟨completesWrite_of_ok s rfl ok, accepted_cal s o v⟩
  case starts => exact calGoLane_starts s n idle silent dark steps force
  case refuses => exact calGoLane_refuses s n idle busy steps
  case manual =>
    intro w ok
    refine ⟨completesWrite_of_field s rfl ok, fun set => phase_accepted s n o w ?_⟩
    rw [get_put_same _ _ _ (by unfold Fld.fits; decide), set]
    rfl

end Sys2Proof.Machine
end

section
/-!
PROOF. Acquisition, hold and loss of lock: what an attempt's start leaves of the chain's status, and the chain's own state through what the
host side, the atlas and a recipe load do (R106, R111 to R115, R117).
-/
namespace Sys2Proof.Machine

variable (s : State) (n : Fin 8)

/-! ### The start of an attempt (R111) -/

/-- The registers of a lane's coefficients. -/
inductive TapBook (n : Nat) : Nat → Fld → Prop
  | tap (k : Nat) (f : Fld) : TapBook n (R.WELL_FFE_TAP n k) f

theorem misses_taps (g : Fld) : Misses (TapBook n) (R.WELL_RX_STATUS n) g := by
  refine ⟨by unfold R.WELL_RX_STATUS R.SAF_JNL_STATUS; omega, fun a f w => .inl ?_⟩
  cases w with
  | tap k => unfold R.WELL_RX_STATUS R.WELL_FFE_TAP; omega

theorem sets_installSet (l : List Int) : Sets (TapBook n) s (installSet n l s) := by
  have shown (l8 : List Int) (t : State) : Sets (TapBook n) t (showTaps n l8 t) := Sets.refl.foldl _ fun k _ _ => Sets.refl.setReg (.tap k) _
  have rounded : Sets (TapBook n) s (roundSet l s).2 := (calm_roundSet l s).sets
  exact (rounded.of_regs.trans (shown _ _)).trans ((calm_tapsInForce n _).trans (calm_rxPumpsLoad n _)).sets

theorem rxState_setRxState {v : Nat} (small : v < 8) : rxState (setRxState n v s) n = v := by
  rw [rxState, setRxState, State.fld_setFld _ _ _ _ (by unfold Fld.fits; decide)]
  exact Nat.mod_eq_of_lt small

/-- An attempt begins in TIMING. -/
theorem rxState_startAttempt : rxState (startAttempt n s) n = 1 := rxState_setRxState _ n (by decide)

/-- The start of an attempt sets no field of the chain's status beside STATE. -/
theorem startAttempt_status {g : Fld} (away : F.WELL_RX_STATUS_STATE.apart g) :
    (startAttempt n s).fld (R.WELL_RX_STATUS n) g = s.fld (R.WELL_RX_STATUS n) g := by
  rw [startAttempt, setRxState, State.fld_setFld_apart _ _ _ _ _ (by unfold Fld.fits; decide) away]
  exact (sets_installSet _ n _).fld (misses_taps n g)

/-- An event of the chain stays set when the event is counted. -/
theorem status_counted {f : Fld} (fits : f.fits) (one : f.w = 1) (id : Nat) (c : Fld) :
    ((s.raise1 (R.WELL_RX_STATUS n) f id).addSat (R.WELL_RX_CNT n) c 1).flag (R.WELL_RX_STATUS n) f = true := by
  have counter : R.WELL_RX_STATUS n ≠ R.WELL_RX_CNT n := by unfold R.WELL_RX_STATUS R.WELL_RX_CNT; omega
  have journal : R.WELL_RX_STATUS n ≠ R.SAF_JNL_STATUS := by unfold R.WELL_RX_STATUS R.SAF_JNL_STATUS; omega
  rw [State.flag, State.addSat, State.fld_setFld_ne _ counter]
  exact s.flag_raise1 journal f id fits one

/-- A failed attempt sets ACQ_FAIL and starts the next one. -/
theorem acqFail_restarts : rxState (acqFail n s) n = 1 ∧ (acqFail n s).flag (R.WELL_RX_STATUS n) F.WELL_RX_STATUS_ACQ_FAIL = true := by
  refine ⟨rxState_startAttempt _ n, ?_⟩
  rw [acqFail, State.flag, startAttempt_status _ n (by unfold Fld.apart; decide)]
  exact status_counted s n (by unfold Fld.fits; decide) rfl _ _

/-! ### The chain's own state -/

/-- The chain's own state is in no register and in nothing that bookkeeping sets. -/
theorem rx_inert : Inert (fun _ _ => True) State.rx :=
  ⟨fun _ _ _ _ _ => rfl, fun _ _ _ _ => rfl, fun _ => trivial, fun _ => trivial, fun _ _ _ => rfl, fun _ _ => rfl, fun _ _ => rfl,
    fun _ _ _ => rfl, fun _ _ _ => rfl⟩

@[simp] theorem State.raise1_rx (a : Nat) (f : Fld) (id : Nat) : (s.raise1 a f id).rx = s.rx := rx_inert.raise1 s trivial id

theorem atlasUnlocked_rx : (atlasUnlocked n s).rx = s.rx := by
  rw [atlasUnlocked, trainEnd]
  split
  · exact State.raise1_rx _ _ _ _
  · rfl

theorem monLose_rx (p : Fin 8) (d : Fin 2) : (monLose p d s).rx = s.rx := by
  have emptied (t : State) : (monEmpty p d t).rx = t.rx := foldl_keeps (modMon p d _ t) State.rx (by intros; rfl) _
  rw [monLose]
  split
  · rfl
  · exact (emptied _).trans (State.raise1_rx _ _ _ _)

theorem hostTxFollow_rx : (hostTxFollow s).rx = s.rx := by
  refine foldl_keeps s State.rx (fun t i => ?_) _
  dsimp only
  split <;> rfl

theorem hostFollow_rx : (hostFollow s).rx = s.rx := by
  have failures (g : Fin 8 → State → HostSt) : (forLanes (fun i t => { t with host := g i t }) s).rx = s.rx :=
    foldl_keeps s State.rx (by intros; rfl) _
  have steered (t : State) : (steerFollow t).rx = t.rx := foldl_keeps t State.rx (by intros; rfl) _
  rw [hostFollow, hostTxFollow_rx, steered]
  refine (foldl_keeps _ State.rx (fun t p => foldl_keeps t State.rx (fun u d => ?_) _) _).trans (failures _)
  split
  · split
    · exact monLose_rx u p d
    · rfl
  · rfl

theorem startLoad_rx (p : PumpSection) (sel : Nat) (auto : Bool) (reach : Option Nat) : (startLoad n p sel auto reach s).rx = s.rx := by
  have refused : (loadErr n s).rx = s.rx := State.raise1_rx _ _ _ _
  unfold startLoad
  split
  · exact refused
  · split
    · rfl
    · exact refused

theorem reachSelect_rx : (reachSelect n s).rx = s.rx := by
  rw [reachSelect]
  split
  · exact startLoad_rx _ n _ _ _ _
  · exact State.raise1_rx _ _ _ _

/-! ### Loss of lock (R113) -/

/-- A loss of lock sets LOL and leaves a new start due. -/
theorem rxLossOfLock_starts (locked : rxState s n = 3) (lost : lossOfLockCond s n = true) (idle : s.rx[n].startPend = false)
    (free : s.rx[n].restartPend = false) (light : s.pending.contains (.signalLoss n) = false) :
    (rxLossOfLock n s).rx[n].startPend = true ∧ (rxLossOfLock n s).flag (R.WELL_RX_STATUS n) F.WELL_RX_STATUS_LOL = true := by
  have goes : rxState s n = 3 ∧ lossOfLockCond s n = true ∧ (!s.rx[n].startPend) = true ∧ (!s.pending.contains (.signalLoss n)) = true :=
    ⟨locked, lost, by rw [idle]; rfl, by rw [light]; rfl⟩
  rw [rxLossOfLock, if_pos goes, free, if_neg Bool.false_ne_true]
  exact ⟨by simp only [modRx_rx, vmod_same], status_counted s n (by unfold Fld.fits; decide) rfl _ _⟩

/-- The outer registers are no lane's receive status. -/
theorem misses_rxStatus (g : Fld) : Misses OuterBook (R.WELL_RX_STATUS n) g := by
  refine ⟨by unfold R.WELL_RX_STATUS R.SAF_JNL_STATUS; omega, fun a f w => .inl ?_⟩
  unfold R.WELL_RX_STATUS
  cases w with
  | host low high => omega
  | steer k => unfold R.LINE_PLL_STATUS; omega
  | high up => omega

/-- What follows a loss of lock outside the chain leaves the chain. -/
theorem rxLossOfLockStep_keeps : (rxLossOfLockStep n s).rx = (rxLossOfLock n s).rx ∧
    ∀ g, (rxLossOfLockStep n s).flag (R.WELL_RX_STATUS n) g = (rxLossOfLock n s).flag (R.WELL_RX_STATUS n) g := by
  have outer (t : State) : Calm OuterBook t (hostFollow (atlasUnlocked n t)) := (calm_atlasUnlocked n t).trans (calm_hostFollow _)
  rw [rxLossOfLockStep]
  split
  · exact ⟨(hostFollow_rx _).trans (atlasUnlocked_rx _ n), fun g => (outer _).sets.flag (misses_rxStatus n g)⟩
  · exact ⟨rfl, fun _ => rfl⟩

/-! ### The end of an update (R105, R106) -/

theorem round8_rx (c : Int) : (round8 c s).2.rx = s.rx := by
  simp only [round8]
  split
  · rfl
  · split <;> rfl

theorem roundSet_rx (l : List Int) : (roundSet l s).2.rx = s.rx := by
  suffices ∀ p : List Int × State, (l.foldl (fun p c => let (v, s) := round8 c p.2; (p.1 ++ [v], s)) p).2.rx = p.2.rx from this ([], s)
  induction l with
  | nil => exact fun _ => rfl
  | cons c l ih => exact fun p => (ih _).trans (round8_rx p.2 c)

theorem showTaps_rx (l : List Int) : (showTaps n l s).rx = s.rx := foldl_keeps s State.rx (by intros; rfl) _

theorem midThr_rx (a : AdaptSums) (j : Nat) (old : Int) : (midThr a j old s).2.rx = s.rx := by
  simp only [midThr]
  split
  · rfl
  · split <;> rfl

theorem leaderReport_rx (code kid : Nat) : (leaderReport n code kid s).rx = s.rx := by
  rw [leaderReport]
  split <;> rfl

/-- The thresholds that an update leaves pending do not start it again. -/
theorem adaptThr_run (a : AdaptSums) : (adaptThr n a s).rx[n].adaptRun = s.rx[n].adaptRun := by
  simp only [adaptThr]
  split
  case isTrue => rfl
  case isFalse =>
    split
    case isTrue => simp only [modRx_rx, vmod_same]
    case isFalse =>
      split
      case isTrue => simp only [modRx_rx, vmod_same, midThr_rx]
      case isFalse => rfl

/-- Nor does its coefficient set, pending or rejected. -/
theorem adaptCoeffs_run (a : AdaptSums) : (adaptCoeffs n a s).rx[n].adaptRun = s.rx[n].adaptRun := by
  simp only [adaptCoeffs]
  split
  case isTrue => rfl
  case isFalse =>
    split
    case isTrue => simp only [showTaps_rx, modRx_rx, vmod_same, roundSet_rx]
    case isFalse => simp only [leaderReport_rx, State.addSat_rx, State.raise1_rx]

theorem adaptUpdateDone_ends (runs : s.rx[n].adaptRun = true) : (adaptUpdateDone n s).rx[n].adaptRun = false := by
  rw [adaptUpdateDone, runs, Bool.not_true, if_neg Bool.false_ne_true]
  cases s.rx[n].sums with
  | none => simp only [modRx_rx, vmod_same]
  | some a => simp only [adaptCoeffs_run, adaptThr_run, modRx_rx, vmod_same]

/-! ### WELL_RX_CTRL (R115, R117) -/

theorem lane_rxCtrl : lane ((R.WELL_RX_CTRL n - 0x800000) / 0x100000) = n := by
  revert n
  decide

/-- A write marks the restart where RESTART is 1, and its class selects a recipe. -/
theorem accepted_rxCtrl (o : Origin) (w : Word) : accepted o (R.WELL_RX_CTRL n) w s =
    reachSelect n (when (cmd F.WELL_RX_CTRL_RESTART w) (rxRestartWritten n) (stored o (R.WELL_RX_CTRL n) w s)) := by
  have notRecipe : R.WELL_RX_CTRL n ≠ R.WELL_RECIPE n := by unfold R.WELL_RX_CTRL R.WELL_RECIPE; omega
  have notBank : R.WELL_RX_CTRL n ≠ R.WELL_IBANK n := by unfold R.WELL_RX_CTRL R.WELL_IBANK; omega
  rw [accepted, effects_well _ (by unfold R.WELL_RX_CTRL; omega) (by unfold R.WELL_RX_CTRL; omega)]
  simp only [effWell, lane_rxCtrl, notRecipe, notBank, if_true, if_false]

theorem restart_accepted (o : Origin) (v : Word) :
    (accepted o (R.WELL_RX_CTRL n) (withBit F.WELL_RX_CTRL_RESTART v) s).rx[n].restartPend = true := by
  have restart := cmd_withBit (f := F.WELL_RX_CTRL_RESTART) (by unfold Fld.fits; decide) rfl v
  rw [accepted_rxCtrl, when, if_pos restart]
  simp only [reachSelect_rx, rxRestartWritten, modRx_rx, vmod_same]

theorem reach_accepted (o : Origin) {v : Word} (plain : F.WELL_RX_CTRL_RESTART.get v = 0) :
    accepted o (R.WELL_RX_CTRL n) v s = reachSelect n (stored o (R.WELL_RX_CTRL n) v s) := by
  have stays : cmd F.WELL_RX_CTRL_RESTART v = false := by rw [cmd, plain]; rfl
  rw [accepted_rxCtrl, when, stays, if_neg Bool.false_ne_true]

/-- A class without a recipe sets REACH_ERR. -/
theorem reachSelect_refuses (missing : reachRecipe s n (s.fld (R.WELL_RX_CTRL n) F.WELL_RX_CTRL_REACH) = none) :
    (reachSelect n s).flag (R.WELL_RX_STATUS n) F.WELL_RX_STATUS_REACH_ERR = true := by
  simp only [reachSelect, missing]
  exact s.flag_raise1 (misses_rxStatus n F.WELL_RX_STATUS_REACH_ERR).1 _ _ (by unfold Fld.fits; decide) rfl

/-- Settles O19: the start of an attempt leaves the chain's flags, and what follows outside the chain leaves its state and its flags. -/
theorem acquisitionCommandsComplete : Obligations.AcquisitionCommandsComplete := by
  intro s n running
  refine ⟨fun timing unlocked => ?timing, fun adapting late => ?adapt, fun holding => ?hold, fun locked lost idle free light => ?lol,
    fun runs => ?update, fun o v => ?restart, fun o v => ?reach⟩
  case timing =>
    refine ⟨_, completes_of_outcome s (g := acqTimingTimeout n) rfl running, ?_⟩
    rw [acqTimingTimeout, if_pos ⟨timing, by rw [unlocked]; rfl⟩]
    exact acqFail_restarts s n
  case adapt =>
    refine ⟨_, completes_of_outcome s (g := acqAdaptTimeout n) rfl running, ?_⟩
    rw [acqAdaptTimeout, if_pos ⟨adapting, late⟩]
    exact acqFail_restarts s n
  case hold =>
    refine ⟨_, completes_of_outcome s (g := holdTimeout n) rfl running, ?_⟩
    rw [holdTimeout, if_pos holding]
    exact ⟨rxState_setRxState _ n (by decide), by simp only [setRxState, State.setFld_rx, modRx_rx, vmod_same]⟩
  case lol =>
    refine ⟨_, completes_of_outcome s (g := rxLossOfLockStep n) rfl running, ?_⟩
    obtain ⟨chain, flags⟩ := rxLossOfLockStep_keeps s n
    rw [chain, flags]
    exact rxLossOfLock_starts s n locked lost idle free light
  case update => exact ⟨_, completes_of_outcome s (g := adaptUpdateDone n) rfl running, adaptUpdateDone_ends s n runs⟩
  case restart => exact fun ok => ⟨completesWrite_of_ok s rfl ok, restart_accepted s n o v⟩
  case reach =>
    intro a ok plain
    have selects := reach_accepted s n o plain
    refine ⟨completesWrite_of_ok s rfl ok, selects, fun missing => ?_⟩
    rw [selects]
    exact reachSelect_refuses _ n missing

end Sys2Proof.Machine
end

section
/-!
PROOF. The engine of the pattern atlas: what its operations on a lane's cache, misses and held samples bring about and leave, and the
statement about learning (R122 to R128, R142).
-/
namespace Sys2Proof.Machine

variable (s : State)

/-! ### Commands and fields -/

/-- A command whose effect leaves the state as it is completes with the state. -/
theorem completes_unchanged {c : Instr} {g : State → State} (cmd : exec c s = outcome s g) (running : Running s) (same : g s = s) :
    Completes c s s := by
  have run := completes_of_outcome s cmd running
  rwa [same] at run

theorem fld_addWrap {a : Nat} {f : Fld} (fits : f.fits) (k : Nat) : (s.addWrap a f k).fld a f = (s.fld a f + k) % 2 ^ f.w :=
  s.fld_setFld a f _ fits

theorem fld_addSat {a : Nat} {f : Fld} (fits : f.fits) (k : Nat) : (s.addSat a f k).fld a f = min f.max (s.fld a f + k) := by
  have pos : 0 < 2 ^ f.w := by positivity
  exact (s.fld_setFld a f _ fits).trans (Nat.mod_eq_of_lt (by unfold Fld.max; omega))

/-- A set flag of one bit reads 1. -/
theorem flag_setFld_one {a : Nat} {f : Fld} (fits : f.fits) (one : f.w = 1) : (s.setFld a f 1).flag a f = true := fld_b2n s fits one true

theorem flag_setFld_zero {a : Nat} {f : Fld} (fits : f.fits) (one : f.w = 1) : (s.setFld a f 0).flag a f = false := fld_b2n s fits one false

/-- The atlas engine's state is none of a register's, of the journal's or of the cistern's. -/
theorem atlas_inert {T : Nat → Fld → Prop} (journal : ∀ f, T R.SAF_JNL_STATUS f) (repair : ∀ f, T R.BOOT_RPR_COUNT f) : InertAll T State.atlas :=
  ⟨⟨fun _ _ _ _ _ => rfl, fun _ _ _ _ => rfl, journal, repair, fun _ _ _ => rfl, fun _ _ => rfl, fun _ _ => rfl, fun _ _ _ => rfl,
    fun _ _ _ => rfl⟩, fun _ _ => rfl⟩

theorem raise1_atlas (a : Nat) (f : Fld) (id : Nat) : (s.raise1 a f id).atlas = s.atlas :=
  (atlas_inert (T := fun _ _ => True) (fun _ => trivial) fun _ => trivial).raise1 s trivial id

variable (n : Fin 8)

@[simp] theorem modAtl_same (g : AtlasSt → AtlasSt) : (modAtl n g s).atlas[n] = g s.atlas[n] := vmod_same _ _ _

/-! ### Entries in the cistern (R120, R121) -/

theorem setBytesNat_atlas : ∀ (k a v : Nat) (s : State), (s.setBytesNat a v k).atlas = s.atlas
  | 0, _, _, _ => rfl
  | k + 1, a, v, s => setBytesNat_atlas k (a + 1) (v / 256) (s.setByte a _)

theorem cis_atlas : InertAll CisTouch State.atlas := atlas_inert (fun _ => by simp [CisTouch]) fun _ => by simp [CisTouch]

@[simp] theorem atlasWrite_atlas (i : Nat) (e : AEntry) : (atlasWrite n i e s).atlas = s.atlas :=
  (cis_atlas.cisWritten _ _ _).trans (setBytesNat_atlas _ _ _ s)

@[simp] theorem entryFetch_atlas (i : Nat) (f : CisFault) : (entryFetch n i f s).atlas = s.atlas := by
  have fetched : (fetchWord (atlasAddr n i / 8) 5 f s).2.atlas = s.atlas := by
    unfold fetchWord
    split
    · rfl
    · exact cis_atlas.readWord s _ _ f
  unfold entryFetch
  dsimp only
  split
  · rw [invalidate, atlasWrite_atlas, State.addSat_atlas, raise1_atlas, fetched]
  · exact fetched

/-! ### The cache (R124, R125) -/

/-- Making room changes of the engine's state the lane's cache alone. -/
theorem cacheEvict_atlas (i : Nat) : ∃ c, (cacheEvict n i s).atlas[n] = { s.atlas[n] with cache := c } := by
  unfold cacheEvict
  dsimp only
  split
  · exact ⟨_, rfl⟩
  · split
    · exact ⟨_, rfl⟩
    next c _ =>
      have written : (if c.dirty then atlasWrite n c.idx c.e s else s).atlas = s.atlas := by
        split
        · exact atlasWrite_atlas s n _ _
        · rfl
      refine ⟨s.atlas[n].cache.filter fun x => x.idx != c.idx, (modAtl_same _ n _).trans ?_⟩
      simp only [written]

/-- An update of an entry that the cache holds makes it the most recently used, and counts. -/
theorem cacheHit_applies {i : Nat} (cached : (s.atlas[n].cache.any fun c => c.idx == i) = true) (y : Int) : let u := cacheHit n i y s
    (u.atlas[n].cache.head?.map (·.idx)) = some i ∧ u.mem = s.mem ∧
    u.fld (R.ATL_CNT0 n) F.ATL_CNT0_UPDATES = (s.fld (R.ATL_CNT0 n) F.ATL_CNT0_UPDATES + 1) % 2 ^ 32 := by
  obtain ⟨c, member, idx⟩ := List.any_eq_true.mp cached
  have own : c ∈ s.atlas[n].cache.filter fun c => c.idx == i := List.mem_filter.mpr ⟨member, idx⟩
  refine ⟨?_, rfl, fld_addWrap s (by unfold Fld.fits; decide) 1⟩
  rw [cacheHit, modAtl_same]
  cases hits : s.atlas[n].cache.filter fun c => c.idx == i with
  | nil => rw [hits] at own; exact absurd own List.not_mem_nil
  | cons d l =>
    have first : d.idx = i := by
      have mem : d ∈ s.atlas[n].cache.filter fun c => c.idx == i := hits ▸ List.mem_cons_self
      exact beq_iff_eq.mp (List.mem_filter.mp mem).2
    simp only [State.addWrap_atlas, hits, List.map_cons, List.cons_append, List.head?_cons, Option.map_some, first]

/-- An update that finds its entry's read outstanding, or room for one more, waits for it. -/
theorem atlasApply_waits {i : Nat} (missing : (s.atlas[n].cache.any fun c => c.idx == i) = false)
    (room : (s.atlas[n].misses.any fun m => m.idx == i) = true ∨ s.atlas[n].misses.length < 16) (y : Int) :
    ((atlasApply n i y s).atlas[n].misses.any fun m => m.idx == i) = true := by
  unfold atlasApply
  dsimp only
  rw [missing, if_neg Bool.false_ne_true]
  split
  next outstanding =>
    obtain ⟨m, member, idx⟩ := List.any_eq_true.mp outstanding
    rw [modAtl_same]
    refine List.any_eq_true.mpr ⟨_, List.mem_map_of_mem member, ?_⟩
    split <;> exact idx
  next free =>
    obtain ⟨c, evicted⟩ := cacheEvict_atlas s n i
    rw [if_neg (Nat.not_le.mpr (room.resolve_left free)), modAtl_same, evicted]
    simp

/-- With 16 other reads outstanding an update is dropped and counted. -/
theorem atlasApply_drops {i : Nat} (missing : (s.atlas[n].cache.any fun c => c.idx == i) = false)
    (free : (s.atlas[n].misses.any fun m => m.idx == i) = false) (full : 16 ≤ s.atlas[n].misses.length) (y : Int) :
    atlasApply n i y s = s.addSat (R.ATL_CNT1 n) F.ATL_CNT1_DROPPED 1 := by
  simp only [atlasApply, missing, free, full, Bool.false_eq_true, if_true, if_false]

/-- Applying an update takes no other held sample. -/
theorem atlasApply_held (i : Nat) (y : Int) : (atlasApply n i y s).atlas[n].held = s.atlas[n].held := by
  unfold atlasApply
  dsimp only
  split
  · rw [cacheHit, modAtl_same, State.addWrap_atlas]
  · split
    · rw [modAtl_same]
    · split
      · rfl
      · obtain ⟨c, evicted⟩ := cacheEvict_atlas s n i
        rw [modAtl_same, evicted]

/-! ### Picks (R122) -/

/-- The next pick is half the mean interval away, up to one and a half times it. -/
theorem pickInterval_bounds : let k := 2 ^ effortShift s.atlas[n].effort
    2048 * k ≤ (pickInterval n s).1 ∧ (pickInterval n s).1 ≤ 6144 * k := by
  intro k
  obtain ⟨v, drawn⟩ : ∃ v, (pickInterval n s).1 = 2048 * k + v % (4096 * k + 1) := ⟨_, rfl⟩
  have below : v % (4096 * k + 1) < 4096 * k + 1 := Nat.mod_lt _ (Nat.succ_pos _)
  omega

/-- The sample held for the pick of value `v`. -/
def pickedSample (v : Int) : Held :=
  { frame := s.frm[n].frameNo, pos := s.atlas[n].pick, y := learnSample v,
    erased := decide ((s.sig[n].dec[s.atlas[n].pick]?).join = none) }

theorem atlasPick_picks {v : Int} (place : (if atlSrc s n then s.sig[n].x else s.sig[n].y)[s.atlas[n].pick]? = some v) :
    atlasPick n s = modAtl n (fun a => { a with
      pick := s.atlas[n].pick + (pickInterval n s).1,
      held := if atlasOn s n then a.held ++ [pickedSample s n v] else a.held }) (s.fresh 32).2 := by
  simp only [atlasPick, place]
  rfl

/-! ### Updates (R123, R124, R142) -/

/-- The oldest held sample is taken; `rest` are the others. -/
def heldTaken (rest : List Held) : State := modAtl n (fun a => { a with held := rest }) s

@[simp] theorem heldTaken_lane (rest : List Held) : (heldTaken s n rest).atlas[n] = { s.atlas[n] with held := rest } := modAtl_same s n _

/-- A sample that learning excludes. -/
def sampleExcluded (h : Held) : Bool :=
  h.erased || (ctxSyms s n h).contains .excluded || atlFrozen s n || s.atlas[n].resume

section
variable {h : Held} {rest : List Held} (oldest : s.atlas[n].held = h :: rest)
include oldest

theorem atlasUpdate_excluded (out : sampleExcluded s n h = true) : atlasUpdate n s = atlExclude n (heldTaken s n rest) := by
  rw [sampleExcluded] at out
  simp only [atlasUpdate, oldest, out, if_true]
  rfl

theorem atlasUpdate_unreleased (taken : sampleExcluded s n h = false) (waits : ctxEntry (ctxSyms s n h) = none) : atlasUpdate n s = s := by
  rw [sampleExcluded] at taken
  simp only [atlasUpdate, oldest, taken, waits, Bool.false_eq_true, if_false]

theorem atlasUpdate_applies {i : Nat} (taken : sampleExcluded s n h = false) (entry : ctxEntry (ctxSyms s n h) = some i) :
    atlasUpdate n s = if atlasOn s n then atlasApply n i h.y (heldTaken s n rest) else heldTaken s n rest := by
  rw [sampleExcluded] at taken
  simp only [atlasUpdate, oldest, taken, entry, Bool.false_eq_true, if_false]
  rfl

theorem atlasUpdate_held {i : Nat} (taken : sampleExcluded s n h = false) (entry : ctxEntry (ctxSyms s n h) = some i) :
    (atlasUpdate n s).atlas[n].held = rest := by
  rw [atlasUpdate_applies s n oldest taken entry]
  split
  · rw [atlasApply_held, heldTaken_lane]
  · rw [heldTaken_lane]

end

/-! ### A miss returns (R121, R125) -/

theorem atlasFill_fills {i : Nat} (miss : (s.atlas[n].misses.any fun m => m.idx == i) = true) (f : CisFault)
    (still : reacting s .cistern = false) (avail : cisFlag s F.CIS_STATUS_UNAVAILABLE = false) :
    ((atlasFill n i f s).atlas[n].misses.any fun m => m.idx == i) = false ∧ ((atlasFill n i f s).atlas[n].cache.head?.map (·.idx)) = some i := by
  have now : (atlasStalls s || cisFlag s F.CIS_STATUS_UNAVAILABLE) = false := by simp only [atlasStalls, still, avail, Bool.false_and, Bool.or_self]
  obtain ⟨m, found⟩ : ∃ m, s.atlas[n].misses.find? (fun m => m.idx == i) = some m := by
    rw [← Option.isSome_iff_exists, List.find?_isSome]
    obtain ⟨m, member, idx⟩ := List.any_eq_true.mp miss
    exact ⟨m, member, idx⟩
  simp only [atlasFill, now, found, Bool.false_eq_true, if_false, modAtl_same, List.head?_cons, Option.map_some, and_true]
  simp

/-- With nothing to fill, and while the cistern reacts or is unavailable, nothing changes. -/
theorem atlasFill_rests {i : Nat} (f : CisFault) (rests : (s.atlas[n].misses.any fun m => m.idx == i) = false ∨ reacting s .cistern = true ∨
    cisFlag s F.CIS_STATUS_UNAVAILABLE = true) : atlasFill n i f s = s := by
  unfold atlasFill
  split
  · rfl
  next now =>
    have ready : reacting s .cistern = false ∧ cisFlag s F.CIS_STATUS_UNAVAILABLE = false := by
      cases avail : cisFlag s F.CIS_STATUS_UNAVAILABLE <;> cases still : reacting s .cistern <;> simp_all [atlasStalls]
    have absent : (s.atlas[n].misses.any fun m => m.idx == i) = false :=
      rests.resolve_right (by rw [ready.1, ready.2]; decide)
    have missing : s.atlas[n].misses.find? (fun m => m.idx == i) = none := List.find?_eq_none.mpr fun m member =>
      List.any_eq_false.mp absent m member
    rw [missing]

/-! ### Distillation (R128, R129) -/

/-- From `s` to `t` only free values are drawn. -/
def Draws (s t : State) : Prop := ∃ k, t = { s with freeCtr := k }

theorem Draws.refl : Draws s s := ⟨_, rfl⟩

theorem Draws.trans {s t u : State} (h : Draws s t) (g : Draws t u) : Draws s u := by
  obtain ⟨_, rfl⟩ := h
  obtain ⟨k, rfl⟩ := g
  exact ⟨k, rfl⟩

theorem Draws.regs {s t : State} (h : Draws s t) : t.regs = s.regs := by
  obtain ⟨_, rfl⟩ := h
  rfl

theorem draws_fresh (w : Nat) : Draws s (s.fresh w).2 := ⟨_, rfl⟩

/-- What each step of a list only draws for, all of them only draw for; `st` is where a step's result keeps the state. -/
theorem draws_foldl {α β : Type} (st : β → State) {g : β → α → β} (step : ∀ b x, Draws (st b) (st (g b x))) (l : List α) (b : β) :
    Draws (st b) (st (l.foldl g b)) := by
  induction l generalizing b with
  | nil => exact .refl _
  | cons x l ih => exact (step b x).trans (ih (g b x))

theorem draws_roundQ (num : Int) (den : Nat) : Draws s (roundQ num den s).2 := by
  unfold roundQ
  split
  · exact .refl s
  · dsimp only
    split
    · exact draws_fresh s 1
    · exact .refl s

theorem draws_wclass (x ref : Nat × Nat) : Draws s (wclass x ref s).2 := by
  unfold wclass
  dsimp only
  split
  · exact draws_fresh s 3
  · exact .refl s

theorem distDetect_draws (cap minc h1 h2 : Nat) (st : List (Nat × AEntry)) :
    ∃ table thin ref t, distDetect cap minc h1 h2 st s = (table, thin, ref, t) ∧ Draws s t := by
  -- 4,096 contexts: a list that the kernel must not compute
  obtain ⟨contexts, all⟩ : ∃ l, l = List.range 4096 := ⟨_, rfl⟩
  unfold distDetect
  simp only [← all]
  split
  · exact ⟨_, _, _, _, rfl, draws_fresh s 16⟩
  · refine ⟨_, _, _, _, rfl, Draws.trans ?_ (draws_roundQ _ _ _)⟩
    refine draws_foldl (β := List Nat × State) Prod.snd (fun b x => ?_) _ ([], s)
    split
    · exact .refl _
    · exact (draws_roundQ b.2 _ _).trans (draws_wclass _ _ _)

theorem draws_distRecord (cap minc gain step h1 h2 p : Nat) (l : List AEntry) : Draws s (distRecord cap minc gain step h1 h2 p l s).2.2 := by
  unfold distRecord
  dsimp only
  split
  · exact (draws_fresh s 16).trans (draws_fresh _ 16)
  · exact ((draws_roundQ s _ _).trans (draws_roundQ _ _ _)).trans (draws_roundQ _ _ _)

theorem draws_residRms (l : List (Int × Nat)) : Draws s (residRms l s).2 := by
  unfold residRms
  dsimp only
  split
  · exact draws_fresh s 16
  · split
    · exact .refl s
    · exact draws_fresh s 1

theorem distCorrect_draws (cap minc gain step h1 h2 : Nat) (st : List (Nat × AEntry)) :
    ∃ recs rms t, distCorrect cap minc gain step h1 h2 st s = (recs, rms, t) ∧ Draws s t := by
  unfold distCorrect
  generalize List.range 1024 = contexts
  refine ⟨_, _, _, rfl, Draws.trans ?_ (draws_residRms _ _)⟩
  exact draws_foldl (β := List PdRec × List (Int × Nat) × State) (fun b => b.2.2) (fun b p => draws_distRecord b.2.2 _ _ _ _ _ _ _ _) _ ([], [], s)

/-- Filling the detection slots of the pumps writes no register. -/
theorem detSlotsFill_regs (t : Option (List Nat)) : (detSlotsFill n t s).regs = s.regs := foldl_keeps s State.regs (by intros; rfl) _

/-- In the epochs in which the sums of a run complete, a run without a result gets one. -/
theorem distilDone_completes {r : DistRun} (runs : s.atlas[n].run = some r) (open' : r.result = none)
    (begun : 1020 ≤ s.line[n].rxEpochs % 1024) (before : s.line[n].rxEpochs % 1024 < 1023) :
    ((distilDone n s).atlas[n].run.map (·.result.isSome)) = some true ∧ (distilDone n s).regs = s.regs := by
  have due : ¬ (s.line[n].rxEpochs % 1024 < 1020 ∨ 1023 ≤ s.line[n].rxEpochs % 1024 ∨ r.result.isSome = true) := by
    rw [open', Option.isSome_none]
    simp only [Bool.false_eq_true, or_false]
    omega
  obtain ⟨table, thin, ref, t, detect, drawn⟩ := distDetect_draws s (2 ^ avgShift s) (minCount s) r.h1 r.h2 r.stream
  obtain ⟨recs, rms, u, correct, sums⟩ := distCorrect_draws t (2 ^ avgShift s) (minCount t) (pdGain t n) (pdStep t n) r.h1 r.h2 r.stream
  simp only [distilDone, runs, due, if_false, detect, correct, modAtl_same, Option.map_some, Option.isSome_some, modAtl_regs, true_and]
  split
  · exact (detSlotsFill_regs _ n _).trans (drawn.trans sums).regs
  · exact (drawn.trans sums).regs

theorem distilDone_rests (rests : s.line[n].rxEpochs % 1024 < 1020 ∨ s.line[n].rxEpochs % 1024 = 1023 ∨ s.atlas[n].run = none) :
    distilDone n s = s := by
  unfold distilDone
  split
  · rfl
  next r runs =>
    have early : s.line[n].rxEpochs % 1024 < 1020 ∨ 1023 ≤ s.line[n].rxEpochs % 1024 ∨ r.result.isSome = true := by
      rcases rests with early | last | idle
      · exact .inl early
      · exact .inr (.inl last.ge)
      · rw [runs] at idle; cases idle
    exact if_pos early

/-! ### Freezing (R142) -/

theorem cacheWriteBack_clean : (cacheWriteBack n s).atlas[n].cache.all (fun c => !c.dirty) = true := by
  rw [cacheWriteBack, modAtl_same]
  exact List.all_eq_true.mpr fun c member => by
    obtain ⟨d, -, rfl⟩ := List.mem_map.mp member
    rfl

theorem atlasFrozen_freezes (frozen : atlFrozen s n = true) (none : s.atlas[n].misses = []) :
    (atlasFrozen n s).flag (R.ATL_STATUS n) F.ATL_STATUS_FROZEN = true ∧ (atlasFrozen n s).atlas[n].cache.all (fun c => !c.dirty) = true := by
  have ready : (atlFrozen s n && s.atlas[n].misses.isEmpty) = true := by rw [frozen, none]; rfl
  rw [atlasFrozen, if_pos ready]
  exact ⟨flag_setFld_one _ (by unfold Fld.fits; decide) rfl, cacheWriteBack_clean s n⟩

theorem atlasFrozen_rests (rests : atlFrozen s n = false ∨ s.atlas[n].misses ≠ []) : atlasFrozen n s = s := by
  have notReady : ¬ (atlFrozen s n && s.atlas[n].misses.isEmpty) = true := by
    simp only [Bool.and_eq_true, List.isEmpty_iff, not_and]
    exact fun frozen => rests.resolve_left (by rw [frozen]; decide)
  rw [atlasFrozen, if_neg notReady]

/-! ### The statement -/

/-- Settles O20: the commands of the engine follow the branches of its operations. -/
theorem atlasLearningComplete : Obligations.AtlasLearningComplete := by
  intro s n running
  refine ⟨⟨fun v place => ?pick, fun beyond => ?beyond⟩, fun h rest oldest => ⟨fun out => ?excluded, fun taken waits => ?unreleased,
    fun i taken entry => ?applied⟩, fun none => ?noneHeld, fun i f => ⟨fun miss still avail => ?fills, fun rests => ?noFill⟩,
    fun r runs open' begun before => ?distils, fun rests => ?noDistil, fun frozen none => ?freezes, fun rests => ?noFreeze⟩
  case pick =>
    obtain ⟨low, high⟩ := pickInterval_bounds s n
    have run := completes_of_outcome s (c := .atlasSamplePick n) (g := atlasPick n) rfl running
    rw [atlasPick_picks s n place] at run
    refine ⟨_, run, rfl, rfl, ?_⟩
    rw [modAtl_same]
    exact ⟨Nat.add_le_add_left low _, Nat.add_le_add_left high _, rfl⟩
  case beyond => exact completes_unchanged s (g := atlasPick n) rfl running (by simp only [atlasPick, beyond])
  case excluded =>
    have run := completes_of_outcome s (c := .atlasUpdate n) (g := atlasUpdate n) rfl running
    rw [atlasUpdate_excluded s n oldest out] at run
    refine ⟨_, run, ?_, rfl, fld_addWrap _ (by unfold Fld.fits; decide) 1⟩
    exact congrArg AtlasSt.held (heldTaken_lane s n rest)
  case unreleased => exact completes_unchanged s (g := atlasUpdate n) rfl running (atlasUpdate_unreleased s n oldest taken waits)
  case applied =>
    have applies := atlasUpdate_applies s n oldest taken entry
    have cache : (heldTaken s n rest).atlas[n].cache = s.atlas[n].cache := by rw [heldTaken_lane]
    have misses : (heldTaken s n rest).atlas[n].misses = s.atlas[n].misses := by rw [heldTaken_lane]
    refine ⟨_, completes_of_outcome s (g := atlasUpdate n) rfl running, atlasUpdate_held s n oldest taken entry, fun off => ?_, fun on => ?_,
      fun on missing => ?_⟩
    · rw [applies, off]
      exact ⟨rfl, rfl⟩
    · rw [applies, if_pos on]
      intro cached
      rw [← cache] at cached
      rw [atlasApply, if_pos cached]
      exact cacheHit_applies _ n cached h.y
    · rw [applies, if_pos on]
      rw [← cache] at missing
      rw [← misses]
      refine ⟨fun room => atlasApply_waits _ n missing room h.y, fun free full => ?_⟩
      rw [atlasApply_drops _ n missing free full]
      exact ⟨fld_addSat _ (by unfold Fld.fits; decide) 1, rfl⟩
  case noneHeld => exact completes_unchanged s (g := atlasUpdate n) rfl running (by simp only [atlasUpdate, none])
  case fills => exact ⟨_, completes_of_outcome s (g := atlasFill n i f) rfl running, atlasFill_fills s n miss f still avail⟩
  case noFill => exact completes_unchanged s (g := atlasFill n i f) rfl running (atlasFill_rests s n f rests)
  case distils => exact ⟨_, completes_of_outcome s (g := distilDone n) rfl running, distilDone_completes s n runs open' begun before⟩
  case noDistil => exact completes_unchanged s (g := distilDone n) rfl running (distilDone_rests s n rests)
  case freezes => exact ⟨_, completes_of_outcome s (g := atlasFrozen n) rfl running, atlasFrozen_freezes s n frozen none⟩
  case noFreeze => exact completes_unchanged s (g := atlasFrozen n) rfl running (atlasFrozen_rests s n rests)

end Sys2Proof.Machine
end

section
/-!
PROOF. Writes and reads of the atlas' registers: what a write stores in each field by its access type, and which effect it then has.
-/
namespace Sys2Proof.Machine

variable (s : State)

/-! ### The fields of a stored word (R10, R11) -/

/-- The fields lie within the word, one above the other. -/
abbrev Laid (l : List Fld) : Prop := (l.Pairwise fun f g => f.lo + f.w ≤ g.lo) ∧ ∀ f ∈ l, f.lo + f.w ≤ 32

theorem get_foldl_putFld (r : RegSpec) (a : Nat) (w : Word) {g : Fld} : ∀ (l : List Fld) (x : Word), (∀ f ∈ l, f.fits ∧ f.apart g) →
    g.get (l.foldl (putFld s r a w) x) = g.get x
  | [], _, _ => rfl
  | f :: l, x, h => by
    obtain ⟨⟨fits, apart⟩, rest⟩ := List.forall_mem_cons.mp h
    have first : g.get (putFld s r a w x f) = g.get x := by
      unfold putFld
      dsimp only
      split
      · rfl
      · exact get_put_apart f g x _ fits apart
    exact (get_foldl_putFld r a w l _ rest).trans first

section
variable {r : RegSpec} {f : Fld} (laid : Laid r.flds) (field : f ∈ r.flds)
include laid field

/-- Of the steps that store a word, that of a field alone reaches it. -/
theorem get_storeWord (a : Nat) (w : Word) : ∃ x, f.get x = s.fld a f ∧ f.get (storeWord s r a w) = f.get (putFld s r a w x f) := by
  obtain ⟨lower, upper, row⟩ := List.append_of_mem field
  obtain ⟨order, inside⟩ := laid
  rw [row] at order inside
  obtain ⟨-, above, between⟩ := List.pairwise_append.mp order
  have below : ∀ g ∈ lower, g.fits ∧ g.apart f := fun g hg =>
    ⟨inside g (List.mem_append_left _ hg), .inl (between g hg f List.mem_cons_self)⟩
  have beyond : ∀ g ∈ upper, g.fits ∧ g.apart f := fun g hg =>
    ⟨inside g (List.mem_append_right _ (List.mem_cons_of_mem _ hg)), .inr ((List.pairwise_cons.mp above).1 g hg)⟩
  refine ⟨lower.foldl (putFld s r a w) (s.reg a), get_foldl_putFld s r a w lower _ below, ?_⟩
  rw [storeWord, row, List.foldl_append, List.foldl_cons, get_foldl_putFld s r a w upper _ beyond]

theorem fits_of_laid : f.fits := laid.2 f field

/-- A write leaves what software only reads, and what acts as a command. -/
theorem get_storeWord_kept (kept : f.ty = .ro ∨ f.ty = .wo) (a : Nat) (w : Word) : f.get (storeWord s r a w) = s.fld a f := by
  obtain ⟨x, old, stored⟩ := get_storeWord s laid field a w
  have small : f.get x < 2 ^ f.w := Nat.mod_lt _ (by positivity)
  have next (v m : Nat) : fldNext f (f.get x) v m = f.get x := by rcases kept with ty | ty <;> simp only [fldNext, ty]
  rw [stored, ← old]
  unfold putFld
  dsimp only
  split
  · rfl
  · rw [next, get_put_same f x _ (fits_of_laid laid field), Nat.mod_eq_of_lt small]

/-- A write of a whole register stores the written value of a read-write field. -/
theorem get_storeWord_plain (plain : f.ty = .rw) (unbounded : f.lim = none) (whole : r.masked = false) (a : Nat) (w : Word) :
    f.get (storeWord s r a w) = f.get w := by
  obtain ⟨x, -, stored⟩ := get_storeWord s laid field a w
  have fits := fits_of_laid laid field
  refine Nat.eq_of_testBit_eq fun k => ?_
  by_cases inside : k < f.w
  · have reached : bitOf (fldBits r w f) k = true := by
      have mask : writeMaskOf r w = 2 ^ 32 - 1 := by rw [writeMaskOf, whole]; rfl
      rw [fldBits, mask, bitOf_mod_two_pow inside, bitOf_eq_testBit, Nat.testBit_div_two_pow, Nat.testBit_two_pow_sub_one]
      exact decide_eq_true (by unfold Fld.fits at fits; omega)
    have data : dataWord r w = w.toNat := by rw [dataWord, whole]; rfl
    rw [← bitOf_eq_testBit, ← bitOf_eq_testBit, stored, bitOf_putFld s plain unbounded fits inside, if_pos reached, data, Fld.get]
  · have high (y : Word) : (f.get y).testBit k = false := by
      rw [Fld.get, Nat.testBit_mod_two_pow, decide_eq_false inside, Bool.false_and]
    rw [high, high]

/-- A masked write stores the selected bits of a read-write field. -/
theorem bitOf_storeWord (plain : f.ty = .rw) (unbounded : f.lim = none) {k : Nat} (inside : k < f.w) (a : Nat) (w : Word) :
    bitOf (f.get (storeWord s r a w)) k =
      if bitOf (fldBits r w f) k then bitOf (dataWord r w / 2 ^ f.lo % 2 ^ f.w) k else bitOf (s.fld a f) k := by
  obtain ⟨x, old, stored⟩ := get_storeWord s laid field a w
  rw [stored, bitOf_putFld s plain unbounded (fits_of_laid laid field) inside, old]

end

/-! ### The atlas' registers -/

/-- The registers of the atlas: the common ones and the lanes'. -/
abbrev InAtlas (a : Nat) : Prop := 0x1200000 ≤ a ∧ a < 0x1200100 ∨ 0x1210000 ≤ a ∧ a < 0x1218000

section
variable {a : Nat} (atlas : InAtlas a)
include atlas

theorem before_atlas : before a s = s := by
  have ctrl : a ≠ R.HOST_CTRL := by unfold R.HOST_CTRL; omega
  have rx : a ≠ R.HOST_RX_MAP := by unfold R.HOST_RX_MAP; omega
  have tx : a ≠ R.HOST_TX_MAP := by unfold R.HOST_TX_MAP; omega
  have scrub : a ≠ R.CIS_SCRUB_CFG := by unfold R.CIS_SCRUB_CFG; omega
  simp only [before, ctrl, rx, tx, scrub, if_false, false_or, show ¬ (0x200000 ≤ a ∧ a < 0x208000) by omega,
    show ¬ (0x400000 ≤ a ∧ a < 0x800000) by omega]

theorem effects_atlas (o : Origin) (w : Word) (old : State) : effects o a w old s = effAtl a w old s := by
  have noSem : arrIdx a (R.CHIP_SEM 0) 4 16 = none := by
    unfold arrIdx R.CHIP_SEM
    rw [if_neg]
    omega
  simp only [effects, noSem, show ¬ a < 0x10000 by omega, show ¬ a < 0x20000 by omega, show ¬ a < 0x30000 by omega, show ¬ a < 0x40000 by omega,
    show ¬ a < 0x50000 by omega, show ¬ a < 0x60000 by omega, show ¬ a < 0x80000 by omega, show ¬ a < 0x100000 by omega,
    show ¬ a < 0x200000 by omega, show ¬ a < 0x400000 by omega, show ¬ a < 0x800000 by omega, show ¬ a < 0x1000000 by omega,
    show ¬ a < 0x1100000 by omega, show ¬ a < 0x1200000 by omega, show a < 0x1300000 by omega, if_true, if_false]

/-- A write acts on what it has stored. -/
theorem accepted_atlas (o : Origin) (w : Word) : accepted o a w s = effAtl a w s (stored o a w s) := by
  rw [accepted, before_atlas s atlas, effects_atlas _ atlas]

/-- All of the atlas' registers but the tables' data windows store the fields that a write reaches. -/
theorem stored_atlas (word : arrIdx a (R.ATL_PD_DATA 0) 0x1000 8 = none) {r : RegSpec} (spec : specAt a = some r) (o : Origin) (w : Word) :
    stored o a w s = s.setReg a (storeWord s r a w) := by
  have stores : storesNothing a = false := by
    have noSem : arrIdx a (R.CHIP_SEM 0) 4 16 = none := by unfold arrIdx R.CHIP_SEM; rw [if_neg]; omega
    have notGateway : a ≠ R.SEEP_GW_TXDATA := by unfold R.SEEP_GW_TXDATA; omega
    simp [storesNothing, noSem, word, notGateway, show ¬ a < 0x21000 by omega, show ¬ a < 0x33000 by omega]
  have present : monAbsent s a = false := by simp [monAbsent, show ¬ a < 0x208900 by omega]
  have notLo : a ≠ R.THM_BAND_LO := by unfold R.THM_BAND_LO; omega
  have notHi : a ≠ R.THM_BAND_HI := by unfold R.THM_BAND_HI; omega
  have notRx : a ≠ R.HOST_RX_MAP := by unfold R.HOST_RX_MAP; omega
  have notTx : a ≠ R.HOST_TX_MAP := by unfold R.HOST_TX_MAP; omega
  have notWd : a ≠ R.SAF_WD_CFG := by unfold R.SAF_WD_CFG; omega
  have notCh : a ≠ R.MON_CH 16 := by unfold R.MON_CH; omega
  have notStage : a ≠ R.BOOT_STAGE_CTRL := by unfold R.BOOT_STAGE_CTRL; omega
  have notTaps : a ≠ R.WELL_FFE_INIT ((a - 0x800000) / 0x100000) 10 := by unfold R.WELL_FFE_INIT; omega
  simp [stored, before_atlas s atlas, spec, store, storeKeep, stores, present, notLo, notHi, notRx, notTx, notWd, notCh, notStage, notTaps]

end

/-! ### Their rows -/

def clearSpec : RegSpec := { base := 0x1200008, dims := [], flds := [F.ATL_CLEAR_LANES, F.ATL_CLEAR_BUSY] }
def freezeSpec : RegSpec := { base := 0x120000c, dims := [], flds := [F.ATL_FREEZE_FREEZE], masked := true }
def laneCfgSpec : RegSpec :=
  { base := 0x1210000, dims := [(0x1000, 8)], lockAt := some 0x1210000,
    flds := [F.ATL_LANE_CFG_SRC, F.ATL_LANE_CFG_PD_SRC, F.ATL_LANE_CFG_TAP_REMOTE_EN, F.ATL_LANE_CFG_PD_SEND_EN, F.ATL_LANE_CFG_LOCK] }
def rdIndexSpec : RegSpec := { base := 0x1210030, dims := [(0x1000, 8)], flds := [F.ATL_RD_INDEX_INDEX, F.ATL_RD_INDEX_BUSY] }
def pdApplySpec : RegSpec := { base := 0x1210050, dims := [(0x1000, 8)], flds := [F.ATL_PD_APPLY_APPLY, F.ATL_PD_APPLY_PEND] }
def trainSpec : RegSpec :=
  { base := 0x1210008, dims := [(0x1000, 8)],
    flds := [F.ATL_TRAIN_TRAIN_MODE, F.ATL_TRAIN_START, F.ATL_TRAIN_TRAIN_STATE, F.ATL_TRAIN_TRAIN_SKIP, F.ATL_TRAIN_TRAIN_EPOCHS,
      F.ATL_TRAIN_TRAIN_MIN_GAIN, F.ATL_TRAIN_TRAIN_MAX_PASSES, F.ATL_TRAIN_TRAIN_INTERVAL] }

theorem specAt_clear : specAt R.ATL_CLEAR = some clearSpec := by decide +kernel
theorem specAt_freeze : specAt R.ATL_FREEZE = some freezeSpec := by decide +kernel

variable (n : Fin 8)

theorem specAt_laneCfg : specAt (R.ATL_LANE_CFG n) = some laneCfgSpec := by revert n; decide +kernel
theorem specAt_rdIndex : specAt (R.ATL_RD_INDEX n) = some rdIndexSpec := by revert n; decide +kernel
theorem specAt_pdApply : specAt (R.ATL_PD_APPLY n) = some pdApplySpec := by revert n; decide +kernel
theorem specAt_train : specAt (R.ATL_TRAIN n) = some trainSpec := by revert n; decide +kernel

end Sys2Proof.Machine
end

section
/-!
PROOF. Clears, freezes, source changes and coherent reads of the atlas: what their registers' writes start, and what their events end
(R142 to R145).
-/
namespace Sys2Proof.Machine

variable (s : State)

/-! ### One lane among all -/

/-- What the updates of the other lanes keep, and what the lane's own update makes of it, holds after the updates of all lanes. -/
theorem forLanes_lane {P Q : State → Prop} {g : Fin 8 → State → State} (n : Fin 8) (before : ∀ k ≠ n, ∀ t, P t → P (g k t))
    (own : ∀ t, P t → Q (g n t)) (after : ∀ k ≠ n, ∀ t, Q t → Q (g k t)) (start : P s) : Q (forLanes g s) := by
  have rest (l : List (Fin 8)) (absent : n ∉ l) (R : State → Prop) (keeps : ∀ k ≠ n, ∀ t, R t → R (g k t)) (t : State) (h : R t) :
      R (l.foldl (fun s k => g k s) t) :=
    List.foldlRecOn l _ h fun u hu k hk => keeps k (fun e => absent (e ▸ hk)) u hu
  obtain ⟨l, r, lanes⟩ := List.append_of_mem (List.mem_finRange n)
  have once := List.nodup_finRange 8
  rw [lanes] at once
  obtain ⟨left, right⟩ : n ∉ l ∧ n ∉ r :=
    ⟨fun h => (List.nodup_append.mp once).2.2 n h n List.mem_cons_self rfl, (List.nodup_cons.mp (List.nodup_append.mp once).2.1).1⟩
  rw [forLanes, lanes, List.foldl_append, List.foldl_cons]
  exact rest r right Q after _ (own _ (rest l left P before s start))

/-! ### Bytes and bits -/

theorem sget_filter_key {α : Type} (d : α) (p : Nat → Bool) (k : Nat) (m : List (Nat × α)) :
    sget d k (m.filter fun c => p c.1) = if p k then sget d k m else d := by
  induction m with
  | nil => simp [sget]
  | cons c m ih =>
    obtain ⟨j, v⟩ := c
    by_cases kept : p j = true
    · by_cases same : k = j
      · subst same
        simp [List.filter, kept, sget]
      · simpa [List.filter, kept, sget, same] using ih
    · by_cases same : k = j
      · subst same
        simpa [List.filter, kept] using ih
      · simpa [List.filter, kept, sget, same] using ih

theorem byte_clearBytes (lo hi a : Nat) : (s.clearBytes lo hi).byte a = if lo ≤ a ∧ a ≤ hi then 0 else s.byte a := by
  have kept := sget_filter_key (0 : Byte) (fun k => decide (k < lo ∨ hi < k)) a s.mem
  refine kept.trans ?_
  by_cases inside : lo ≤ a ∧ a ≤ hi
  · rw [if_pos inside, if_neg (by simp; omega)]
  · rw [if_neg inside, if_pos (by simp; omega)]
    rfl

theorem clearBusy_fits : F.ATL_CLEAR_BUSY.fits := by unfold Fld.fits; decide

variable (n : Fin 8)

/-! ### Clears (R145) -/

theorem atlClearing_of_reg {s t : State} (h : t.reg R.ATL_CLEAR = s.reg R.ATL_CLEAR) (k : Nat) : atlClearing t k = atlClearing s k := by
  simp only [atlClearing, atlBit, State.fld, h]

theorem status_ne_clear (k : Nat) : R.ATL_CLEAR ≠ R.ATL_STATUS k := by unfold R.ATL_CLEAR R.ATL_STATUS; omega

theorem atlasClear_reg : (atlasClear n s).reg R.ATL_CLEAR = if atlClearing s n then s.reg R.ATL_CLEAR else
    (s.setFld R.ATL_CLEAR F.ATL_CLEAR_BUSY (Nat.lor (s.fld R.ATL_CLEAR F.ATL_CLEAR_BUSY) (2 ^ n.val))).reg R.ATL_CLEAR := by
  unfold atlasClear
  split
  · rfl
  · dsimp only
    rw [modAtl_reg]
    split
    · rw [State.reg_setFld_ne _ (status_ne_clear n), State.reg_setFld_ne _ (status_ne_clear n)]
    · rw [State.reg_setFld_ne _ (status_ne_clear n)]

/-- A clear marks its lane as clearing, and no other. -/
theorem atlClearing_atlasClear (k : Fin 8) : atlClearing (atlasClear n s) k = (atlClearing s k || decide (n = k)) := by
  by_cases busy : atlClearing s n = true
  · rw [atlClearing_of_reg (s := s) (by rw [atlasClear_reg, if_pos busy])]
    by_cases same : n = k
    · rw [← same, busy, Bool.true_or]
    · rw [decide_eq_false same, Bool.or_false]
  · have marked : (atlasClear n s).fld R.ATL_CLEAR F.ATL_CLEAR_BUSY = Nat.lor (s.fld R.ATL_CLEAR F.ATL_CLEAR_BUSY) (2 ^ n.val) % 2 ^ 8 := by
      rw [State.fld, atlasClear_reg, if_neg busy]
      exact s.fld_setFld _ _ _ clearBusy_fits
    rw [atlClearing, atlBit, marked, bitOf_mod_two_pow k.isLt, bitOf_lor, bitOf_two_pow]
    simp only [Fin.ext_iff]
    rfl

/-- A clear that begins empties the lane's cache and shows CLEAR_BUSY. -/
theorem atlasClear_begins (idle : atlClearing s n = false) : (atlasClear n s).atlas[n].cache = [] ∧
    (atlasClear n s).flag (R.ATL_STATUS n) F.ATL_STATUS_CLEAR_BUSY = true := by
  have busyFits : F.ATL_STATUS_CLEAR_BUSY.fits := by unfold Fld.fits; decide
  have abort : F.ATL_STATUS_DIST_ABORT.apart F.ATL_STATUS_CLEAR_BUSY := .inr (by decide)
  rw [atlasClear, idle, if_neg Bool.false_ne_true]
  refine ⟨by rw [modAtl_same], ?_⟩
  dsimp only
  rw [State.flag, modAtl_fld]
  split
  · rw [State.fld_setFld_apart _ _ _ _ _ (by unfold Fld.fits; decide) abort]
    exact flag_setFld_one _ busyFits rfl
  · exact flag_setFld_one _ busyFits rfl

/-- A clear leaves the other lanes. -/
theorem atlasClear_other {k : Fin 8} (other : k ≠ n) : (atlasClear k s).atlas[n] = s.atlas[n] ∧
    (atlasClear k s).fld (R.ATL_STATUS n) F.ATL_STATUS_CLEAR_BUSY = s.fld (R.ATL_STATUS n) F.ATL_STATUS_CLEAR_BUSY := by
  have apart : R.ATL_STATUS n ≠ R.ATL_STATUS k := by
    have : k.val ≠ n.val := fun e => other (Fin.ext e)
    unfold R.ATL_STATUS
    omega
  have common : R.ATL_STATUS n ≠ R.ATL_CLEAR := (status_ne_clear n).symm
  unfold atlasClear
  split
  · exact ⟨rfl, rfl⟩
  · dsimp only
    constructor
    · refine (vmod_ne _ other.symm _).trans ?_
      split <;> rfl
    · rw [modAtl_fld]
      split
      · rw [State.fld_setFld_ne _ apart, State.fld_setFld_ne _ apart, State.fld_setFld_ne _ common]
      · rw [State.fld_setFld_ne _ apart, State.fld_setFld_ne _ common]

/-- A clear of several lanes begins in each of them that is idle. -/
theorem atlasClearLanes_begins {lanes : Nat} (selected : bitOf lanes n = true) (idle : atlClearing s n = false) :
    let u := atlasClearLanes lanes s
    atlClearing u n = true ∧ u.atlas[n].cache = [] ∧ u.flag (R.ATL_STATUS n) F.ATL_STATUS_CLEAR_BUSY = true := by
  refine forLanes_lane s (P := fun t => atlClearing t n = false)
    (Q := fun u => atlClearing u n = true ∧ u.atlas[n].cache = [] ∧ u.flag (R.ATL_STATUS n) F.ATL_STATUS_CLEAR_BUSY = true) n
    (fun k other t h => ?_) (fun t h => ?_) (fun k other t h => ?_) idle
  · split
    · rw [atlClearing_atlasClear, h, decide_eq_false other]
      rfl
    · exact h
  · rw [if_pos selected]
    refine ⟨?_, atlasClear_begins t n h⟩
    rw [atlClearing_atlasClear, decide_eq_true rfl, Bool.or_true]
  · split
    · obtain ⟨lane, busy⟩ := atlasClear_other t n other
      rw [atlClearing_atlasClear, lane, State.flag, busy, h.1]
      exact ⟨rfl, h.2⟩
    · exact h

theorem accepted_clear (o : Origin) (w : Word) :
    accepted o R.ATL_CLEAR w s = atlasClearLanes (F.ATL_CLEAR_LANES.get w) (stored o R.ATL_CLEAR w s) := by
  rw [accepted_atlas s (by decide), effAtl, if_pos rfl]

theorem clear_accepted (o : Origin) {lanes : Nat} (selected : bitOf lanes n = true) (idle : atlClearing s n = false) (x : Word) :
    let u := accepted o R.ATL_CLEAR (F.ATL_CLEAR_LANES.put x lanes) s
    atlClearing u n = true ∧ u.atlas[n].cache = [] ∧ u.flag (R.ATL_STATUS n) F.ATL_STATUS_CLEAR_BUSY = true := by
  have named : F.ATL_CLEAR_LANES.get (F.ATL_CLEAR_LANES.put x lanes) = lanes % 2 ^ 8 := get_put_same _ _ _ (by unfold Fld.fits; decide)
  intro u
  have same : u = _ := accepted_clear s o _
  rw [same, named, stored_atlas s (by decide) (by decide) specAt_clear]
  refine atlasClearLanes_begins _ n (by rw [bitOf_mod_two_pow n.isLt, selected]) ?_
  rw [← idle, atlClearing, atlBit, State.fld, State.reg_setReg]
  exact congrArg (bitOf · n) (get_storeWord_kept s (r := clearSpec) (f := F.ATL_CLEAR_BUSY) (by decide) (by decide) (.inl rfl) _ _)

/-- The end of a clear: the lane's entries are empty, and every other byte stays. -/
theorem atlasClearDone_ends (busy : atlClearing s n = true) : let u := atlasClearDone n s
    atlClearing u n = false ∧ u.flag (R.ATL_STATUS n) F.ATL_STATUS_CLEAR_BUSY = false ∧ (Memory.wf s.mem = true → Memory.wf u.mem = true) ∧
      ∀ a, u.byte a = if atlasAddr n 0 ≤ a ∧ a ≤ atlasAddr n 0 + 0x7FFFFF then 0 else s.byte a := by
  obtain ⟨t, cleared⟩ : ∃ t, t = wordsWritten (atlasAddr n 0) (atlasAddr n 0 + 0x7FFFFF) (s.clearBytes (atlasAddr n 0) (atlasAddr n 0 + 0x7FFFFF)) :=
    ⟨_, rfl⟩
  have done : atlasClearDone n s =
      settleRestart n ((t.clrBits R.ATL_CLEAR F.ATL_CLEAR_BUSY (2 ^ n.val)).setFld (R.ATL_STATUS n) F.ATL_STATUS_CLEAR_BUSY 0) := by
    rw [atlasClearDone, busy, cleared]
    rfl
  have memory : t.mem = (s.clearBytes (atlasAddr n 0) (atlasAddr n 0 + 0x7FFFFF)).mem := by rw [cleared]; rfl
  intro u
  have same : u = _ := done
  have bytes : u.mem = (s.clearBytes (atlasAddr n 0) (atlasAddr n 0 + 0x7FFFFF)).mem := by rw [same]; exact memory
  refine ⟨?_, ?_, fun wf => by rw [bytes]; exact State.clearBytes_wf _ _ wf, fun a => (State.byte_of_mem bytes a).trans (byte_clearBytes s _ _ a)⟩
  · have free := bitOf_clrBits t (a := R.ATL_CLEAR) clearBusy_fits (2 ^ n.val) n
    rw [bitOf_two_pow, decide_eq_true rfl, Bool.not_true, Bool.and_false] at free
    rw [same, settleRestart, atlClearing, atlBit, modAtl_fld, State.fld_setFld_ne _ (status_ne_clear n)]
    exact free
  · rw [same, settleRestart]
    exact flag_setFld_zero _ (by unfold Fld.fits; decide) rfl

/-! ### Freezes (R142) -/

/-- A lane's bit follows the write, and of the effects none writes ATL_FREEZE. -/
theorem freeze_keeps (on : Bool) : (atlasFreeze n on s).reg R.ATL_FREEZE = s.reg R.ATL_FREEZE := by
  unfold atlasFreeze
  split
  · rfl
  · exact s.reg_setFld_ne (by unfold R.ATL_FREEZE R.ATL_STATUS; omega) _ _

/-- What a write of ATL_FREEZE does to one lane; `old` is the state before it. -/
def freezeLane (old : State) (k : Fin 8) (t : State) : State :=
  when (atlFrozen t k != atlFrozen old k) (atlasFreeze k (atlFrozen t k)) t

theorem accepted_freeze (o : Origin) (w : Word) : accepted o R.ATL_FREEZE w s = forLanes (freezeLane s) (stored o R.ATL_FREEZE w s) := by
  rw [accepted_atlas s (by decide), effAtl, if_neg (by decide), if_pos rfl]
  rfl

theorem freezeLane_reg (old : State) : (freezeLane old n s).reg R.ATL_FREEZE = s.reg R.ATL_FREEZE := by
  unfold freezeLane when
  split
  · exact freeze_keeps s n _
  · rfl

theorem atlFrozen_of_reg {s t : State} (h : t.reg R.ATL_FREEZE = s.reg R.ATL_FREEZE) (k : Nat) : atlFrozen t k = atlFrozen s k := by
  simp only [atlFrozen, atlBit, State.fld, h]

theorem reach_freeze (on : Bool) : let w := maskedBits (2 ^ n.val) on
    fldBits freezeSpec w F.ATL_FREEZE_FREEZE = 2 ^ n.val ∧
    dataWord freezeSpec w / 2 ^ F.ATL_FREEZE_FREEZE.lo % 2 ^ F.ATL_FREEZE_FREEZE.w = if on then 2 ^ n.val else 0 := by
  revert n on
  decide

/-- A masked write of a lane's bit stores it. -/
theorem frozen_stored (o : Origin) (on : Bool) : atlFrozen (stored o R.ATL_FREEZE (maskedBits (2 ^ n.val) on) s) n = on := by
  obtain ⟨reached, data⟩ := reach_freeze n on
  rw [stored_atlas s (by decide) (by decide) specAt_freeze, atlFrozen, atlBit, State.fld, State.reg_setReg,
    bitOf_storeWord s (r := freezeSpec) (by decide) (by decide) rfl rfl (k := n) n.isLt, reached, data, bitOf_two_pow,
    if_pos (decide_eq_true rfl)]
  cases on
  · simp [bitOf]
  · rw [if_pos rfl, bitOf_two_pow]
    exact decide_eq_true rfl

theorem frozen_accepted (o : Origin) (on : Bool) : atlFrozen (accepted o R.ATL_FREEZE (maskedBits (2 ^ n.val) on) s) n = on := by
  have kept := forLanes_keeps (fun t => t.reg R.ATL_FREEZE = (stored o R.ATL_FREEZE (maskedBits (2 ^ n.val) on) s).reg R.ATL_FREEZE)
    (g := freezeLane s) (fun k t h => (freezeLane_reg t k s).trans h) rfl
  rw [accepted_freeze, atlFrozen_of_reg kept]
  exact frozen_stored s n o on

/-- A lane that is no longer frozen waits to resume. -/
theorem resume_accepted (o : Origin) (frozen : atlFrozen s n = true) :
    (accepted o R.ATL_FREEZE (maskedBits (2 ^ n.val) false) s).atlas[n].resume = true := by
  rw [accepted_freeze]
  refine forLanes_lane _ (P := fun t => atlFrozen t n = false) (Q := fun t => t.atlas[n].resume = true) n (fun k _ t h => ?_) (fun t h => ?_)
    (fun k other t h => ?_) (frozen_stored s n o false)
  · rw [atlFrozen_of_reg (freezeLane_reg t k s), h]
  · have ends : (atlFrozen t n != atlFrozen s n) = true := by rw [h, frozen]; rfl
    rw [freezeLane, when, if_pos ends, h, atlasFreeze, if_neg Bool.false_ne_true, modAtl_same]
  · have lane : (freezeLane s k t).atlas[n] = t.atlas[n] := by
      unfold freezeLane when atlasFreeze
      split
      · split
        · rfl
        · exact vmod_ne _ other.symm _
      · rfl
    rw [lane, h]

/-! ### A lane's registers -/

section
variable {a b : Nat} (offset : b < 0x1000) (place : a = 0x1210000 + b + n * 0x1000)
include offset place

theorem inAtlas_lane : InAtlas a := by unfold InAtlas; omega

/-- What a write of a lane's register does, by the register's offset. -/
theorem accepted_lane (o : Origin) (w : Word) : let t := stored o a w s
    accepted o a w s =
      if b = 0 then when (changed s t a F.ATL_LANE_CFG_SRC) (atlasClear n) t
      else if b = 0x8 then when (cmd F.ATL_TRAIN_START w) (trainStart n) t
      else if b = 0x30 then atlasReadStart n t
      else if b = 0x4C then pdWrite n (F.ATL_PD_DATA_VALUE.get w) t
      else if b = 0x50 then when (cmd F.ATL_PD_APPLY_APPLY w) (pdApplyWritten n) t
      else t := by
  intro t
  have clear : a ≠ R.ATL_CLEAR := by unfold R.ATL_CLEAR; omega
  have freeze : a ≠ R.ATL_FREEZE := by unfold R.ATL_FREEZE; omega
  have own : lane ((a - 0x1210000) / 0x1000) = n := Fin.ext (by unfold lane; dsimp only; omega)
  have cfg : a = R.ATL_LANE_CFG n ↔ b = 0 := by unfold R.ATL_LANE_CFG; omega
  have train : a = R.ATL_TRAIN n ↔ b = 0x8 := by unfold R.ATL_TRAIN; omega
  have index : a = R.ATL_RD_INDEX n ↔ b = 0x30 := by unfold R.ATL_RD_INDEX; omega
  have data : a = R.ATL_PD_DATA n ↔ b = 0x4C := by unfold R.ATL_PD_DATA; omega
  have apply' : a = R.ATL_PD_APPLY n ↔ b = 0x50 := by unfold R.ATL_PD_APPLY; omega
  rw [accepted_atlas s (inAtlas_lane n offset place), effAtl, if_neg clear, if_neg freeze]
  simp only [own, cfg, train, index, data, apply', t]

/-- All of a lane's registers but ATL_PD_DATA store the fields that a write reaches. -/
theorem stored_lane (window : b ≠ 0x4C) {r : RegSpec} (spec : specAt a = some r) (o : Origin) (w : Word) :
    stored o a w s = s.setReg a (storeWord s r a w) := by
  refine stored_atlas s (inAtlas_lane n offset place) ?_ spec o w
  unfold arrIdx R.ATL_PD_DATA
  rw [if_neg]
  omega

end

/-- A change of SRC starts a clear (R144, R145). -/
theorem accepted_laneCfg (o : Origin) (w : Word) : let t := stored o (R.ATL_LANE_CFG n) w s
    accepted o (R.ATL_LANE_CFG n) w s = when (changed s t (R.ATL_LANE_CFG n) F.ATL_LANE_CFG_SRC) (atlasClear n) t :=
  accepted_lane s n (b := 0) (by decide) rfl o w

theorem srcChange_accepted (o : Origin) (src : Bool) (differs : s.flag (R.ATL_LANE_CFG n) F.ATL_LANE_CFG_SRC = !src) :
    let w := F.ATL_LANE_CFG_SRC.put (keepWord s (R.ATL_LANE_CFG n)) (b2n src)
    atlClearing (accepted o (R.ATL_LANE_CFG n) w s) n = true := by
  intro w
  have fits : F.ATL_LANE_CFG_SRC.fits := by unfold Fld.fits; decide
  have written : F.ATL_LANE_CFG_SRC.get w = b2n src := (get_put_same _ _ _ fits).trans (by cases src <;> rfl)
  have new : (stored o (R.ATL_LANE_CFG n) w s).fld (R.ATL_LANE_CFG n) F.ATL_LANE_CFG_SRC = b2n src := by
    rw [stored_lane s n (a := R.ATL_LANE_CFG n) (b := 0) (by decide) rfl (by decide) (specAt_laneCfg n), State.fld, State.reg_setReg,
      get_storeWord_plain s (r := laneCfgSpec) (by decide) (by decide) rfl rfl rfl, written]
  have change : changed s (stored o (R.ATL_LANE_CFG n) w s) (R.ATL_LANE_CFG n) F.ATL_LANE_CFG_SRC = true := by
    rw [changed, new, bne_iff_ne]
    intro same
    rw [State.flag, ← same] at differs
    cases src <;> exact absurd differs (by decide)
  rw [accepted_laneCfg, when, if_pos change, atlClearing_atlasClear, decide_eq_true rfl, Bool.or_true]

/-! ### Coherent reads (R143) -/

theorem accepted_rdIndex (o : Origin) (w : Word) :
    accepted o (R.ATL_RD_INDEX n) w s = atlasReadStart n (stored o (R.ATL_RD_INDEX n) w s) :=
  accepted_lane s n (b := 0x30) (by decide) rfl o w

theorem coherentRead_accepted (o : Origin) {i : Nat} (small : i < 2 ^ 20) : let a := R.ATL_RD_INDEX n
    let w := F.ATL_RD_INDEX_INDEX.put (keepWord s a) i
    (accepted o a w s).atlas[n].rd = some i ∧ (accepted o a w s).flag a F.ATL_RD_INDEX_BUSY = true := by
  intro a w
  have written : F.ATL_RD_INDEX_INDEX.get w = i := (get_put_same _ _ _ (by unfold Fld.fits; decide)).trans (Nat.mod_eq_of_lt small)
  have index : (stored o a w s).fld a F.ATL_RD_INDEX_INDEX = i := by
    rw [stored_lane s n (a := R.ATL_RD_INDEX n) (b := 0x30) (by decide) rfl (by decide) (specAt_rdIndex n), State.fld, State.reg_setReg,
      get_storeWord_plain s (r := rdIndexSpec) (by decide) (by decide) rfl rfl rfl, written]
  rw [accepted_rdIndex]
  refine ⟨?_, flag_setFld_one _ (by unfold Fld.fits; decide) rfl⟩
  rw [atlasReadStart, modAtl_same, index]

/-- A read that is not stalled returns. -/
theorem atlasReadDone_returns {i : Nat} (waits : s.atlas[n].rd = some i) (now : atlasStalls s = false) (f : CisFault) :
    (atlasReadDone n f s).atlas[n].rd = none ∧ (atlasReadDone n f s).flag (R.ATL_RD_INDEX n) F.ATL_RD_INDEX_BUSY = false := by
  obtain ⟨t, done⟩ : ∃ t : State, atlasReadDone n f s = modAtl n (fun a => { a with rd := none }) (t.setFld (R.ATL_RD_INDEX n) F.ATL_RD_INDEX_BUSY 0) := by
    simp only [atlasReadDone, now, waits, Bool.false_eq_true, if_false]
    exact ⟨_, rfl⟩
  rw [done]
  exact ⟨by rw [modAtl_same], flag_setFld_zero t (by unfold Fld.fits; decide) rfl⟩

theorem atlasReadDone_rests (rests : s.atlas[n].rd = none ∨ atlasStalls s = true) (f : CisFault) : atlasReadDone n f s = s := by
  unfold atlasReadDone
  split
  · rfl
  next now =>
    have none : s.atlas[n].rd = none := rests.resolve_right now
    rw [none]

/-- Settles O21: each register command completes as its accepted write, and each event by the branch of its operation. -/
theorem atlasRegisterCommandsComplete : Obligations.AtlasRegisterCommandsComplete := by
  intro s n running
  refine ⟨fun o lanes => ?clear, fun busy => ?cleared, fun o on => ?freeze, fun o src => ?source, fun o i => ?read, fun i f waits now => ?returns,
    fun f rests => ?noRead⟩
  case clear => exact fun ok => ⟨completesWrite_of_field s rfl ok, fun selected idle => clear_accepted s n o selected idle _⟩
  case cleared => exact ⟨_, completes_of_outcome s (g := atlasClearDone n) rfl running, atlasClearDone_ends s n busy⟩
  case freeze =>
    refine fun ok => ⟨completesWrite_of_ok s rfl ok, frozen_accepted s n o on, fun off frozen => ?_⟩
    rw [off]
    exact resume_accepted s n o frozen
  case source => exact fun ok => ⟨completesWrite_of_field s rfl ok, srcChange_accepted s n o src⟩
  case read => exact fun ok small => ⟨completesWrite_of_field s rfl ok, coherentRead_accepted s n o small⟩
  case returns => exact ⟨_, completes_of_outcome s (g := atlasReadDone n f) rfl running, atlasReadDone_returns s n waits now f⟩
  case noRead => exact completes_unchanged s (g := atlasReadDone n f) rfl running (atlasReadDone_rests s n rests f)

end Sys2Proof.Machine
end

section
/-!
PROOF. Pre-distortion: segments that build an update or discard it, the ends of the waits, the tables in force, and the windows of the
tables (R133, R134, R138, R141, R146, R147, R208, R211).
-/
namespace Sys2Proof.Machine

variable (s : State)

/-! ### Views of the state -/

theorem fld_of_regs {s t : State} (h : t.regs = s.regs) (a : Nat) (f : Fld) : t.fld a f = s.fld a f := by
  rw [State.fld, State.reg_of_regs h, State.fld]

theorem flag_of_regs {s t : State} (h : t.regs = s.regs) (a : Nat) (f : Fld) : t.flag a f = s.flag a f := by
  rw [State.flag, fld_of_regs h, State.flag]

/-- The seep lanes' state is none of a register's, of the journal's or of the cistern's. -/
theorem seepLn_inert : Inert (fun _ _ => True) State.seepLn :=
  ⟨fun _ _ _ _ _ => rfl, fun _ _ _ _ => rfl, fun _ => trivial, fun _ => trivial, fun _ _ _ => rfl, fun _ _ => rfl, fun _ _ => rfl,
    fun _ _ _ => rfl, fun _ _ _ => rfl⟩

theorem raise1_seepLn (a : Nat) (f : Fld) (id : Nat) : (s.raise1 a f id).seepLn = s.seepLn := seepLn_inert.raise1 s trivial id

/-- A view of a lane's engine that an update of any lane keeps. -/
theorem modAtl_keeps {β : Type} (v : AtlasSt → β) {g : AtlasSt → AtlasSt} (keeps : ∀ a, v (g a) = v a) (k n : Fin 8) :
    v (modAtl k g s).atlas[n] = v s.atlas[n] := by
  by_cases same : n = k
  · rw [same, modAtl_same, keeps]
  · exact congrArg v (vmod_ne _ same g)

variable (n : Fin 8)

theorem status_ne_journal : R.ATL_STATUS n ≠ R.SAF_JNL_STATUS := by unfold R.ATL_STATUS R.SAF_JNL_STATUS; omega

/-- An event of the lane's status register shows. -/
theorem status_raised {f : Fld} (fits : f.fits) (one : f.w = 1) (id : Nat) : (s.raise1 (R.ATL_STATUS n) f id).flag (R.ATL_STATUS n) f = true :=
  s.flag_raise1 (status_ne_journal n) f id fits one

/-! ### Replies (R133, R210) -/

section
variable (m : SMsg) (frames : Option Nat) (rc : Nat) (payload : List Nat)

/-- A prepared reply touches the list of requests alone. -/
theorem addReq_keeps : ∃ q, addReq n m frames rc payload s = { s with seep := q } := by
  unfold addReq pushReq
  split
  · exact ⟨s.seep, rfl⟩
  · exact ⟨_, rfl⟩

@[simp] theorem addReq_atlas : (addReq n m frames rc payload s).atlas = s.atlas := by
  obtain ⟨q, e⟩ := addReq_keeps s n m frames rc payload
  rw [e]

@[simp] theorem addReq_regs : (addReq n m frames rc payload s).regs = s.regs := by
  obtain ⟨q, e⟩ := addReq_keeps s n m frames rc payload
  rw [e]

@[simp] theorem addReq_seepLn : (addReq n m frames rc payload s).seepLn = s.seepLn := by
  obtain ⟨q, e⟩ := addReq_keeps s n m frames rc payload
  rw [e]

end

/-! ### Updates received (R133, R211) -/

theorem pdDiscard_seepLn (upd far : Nat) (ignore : Bool) (frames : Option Nat) : (pdDiscard n upd far ignore frames s).seepLn = s.seepLn := by
  rw [pdDiscard, pdAck, addReq_seepLn, modAtl_seepLn, raise1_seepLn]

/-- A discarded update is no longer in progress, and its remaining segments are ignored. -/
theorem pdDiscard_discards (upd far : Nat) (frames : Option Nat) : let u := pdDiscard n upd far true frames s
    u.atlas[n].rx = none ∧ u.atlas[n].reject = some upd ∧ u.flag (R.ATL_STATUS n) F.ATL_STATUS_PD_DISCARD = true := by
  have lane : (pdDiscard n upd far true frames s).atlas[n] = { s.atlas[n] with rx := none, reject := some upd } := by
    simp only [pdDiscard, pdAck, addReq_atlas, modAtl_same, raise1_atlas, if_true]
  intro u
  refine ⟨(congrArg AtlasSt.rx lane).trans rfl, (congrArg AtlasSt.reject lane).trans rfl, ?_⟩
  exact (flag_of_regs (addReq_regs _ _ _ _ _ _) _ _).trans (status_raised s n (by unfold Fld.fits; decide) rfl _)

theorem pdRefuseL_refuses (frames : Option Nat) : let u := pdRefuseL n frames s
    u.flag (R.ATL_STATUS n) F.ATL_STATUS_PD_DISCARD = true ∧ u.atlas = s.atlas ∧ u.seepLn = s.seepLn := by
  intro u
  refine ⟨?_, ?_, ?_⟩
  · exact (flag_of_regs (addReq_regs _ _ _ _ _ _) _ _).trans (status_raised _ n (by unfold Fld.fits; decide) rfl _)
  · exact (addReq_atlas _ _ _ _ _ _).trans (raise1_atlas _ _ _ _)
  · exact (addReq_seepLn _ _ _ _ _ _).trans (raise1_seepLn _ _ _ _)

/-- Filling the tables' slots of the pumps leaves the rest. -/
theorem pdSlotsFill_keeps (t : List (Nat × Nat)) :
    (pdSlotsFill n t s).atlas = s.atlas ∧ (pdSlotsFill n t s).regs = s.regs ∧ (pdSlotsFill n t s).seepLn = s.seepLn :=
  ⟨foldl_keeps s State.atlas (by intros; rfl) _, foldl_keeps s State.regs (by intros; rfl) _, foldl_keeps s State.seepLn (by intros; rfl) _⟩

/-- The update of the lane ends, and the far lane's figures of a complete one are kept. -/
def pdReceived (r : PdRx) : State :=
  let t := (modAtl n (fun a => { a with rx := none }) s).setFld (R.ATL_PD_QUAL (lane (r.ext % 8))) F.ATL_PD_QUAL_FAR_FOM (r.ext / 256)
  if !bitOf r.ext 3 then pdKeepViews (lane (r.ext % 8)) r.stream t else t

theorem pdReceived_seepLn (r : PdRx) : (pdReceived s n r).seepLn = s.seepLn := by
  unfold pdReceived
  dsimp only
  split <;> rfl

theorem pdReceived_rx (r : PdRx) : (pdReceived s n r).atlas[n].rx = none := by
  have ended : (modAtl n (fun a => { a with rx := none }) s).atlas[n].rx = none := congrArg AtlasSt.rx (modAtl_same s n _)
  unfold pdReceived
  dsimp only
  split
  · exact (modAtl_keeps _ AtlasSt.rx (by intros; rfl) _ n).trans ended
  · exact ended

theorem pdReceived_reg (r : PdRx) {a : Nat} (other : a ≠ R.ATL_PD_QUAL (lane (r.ext % 8))) : (pdReceived s n r).reg a = s.reg a := by
  unfold pdReceived
  dsimp only
  split
  · exact State.reg_setFld_ne _ other _ _
  · exact State.reg_setFld_ne _ other _ _

/-- The pending table `pend` of lane `k` is to come into force, as update `upd` asks. -/
def pdDueWith (k : Fin 8) (upd : Nat) (pend : List (Nat × Nat)) : State :=
  ((pdSlotsFill k pend (modAtl k (fun a => { a with pdDue := true, pdPend := pend }) s)).setFld (R.ATL_PD_STATE k) F.ATL_PD_STATE_RX_UPD upd).raise1
    (R.ATL_STATUS k) F.ATL_STATUS_PD_APPLIED (224 + 8 * k + 4)

theorem pdDueWith_atlas (k : Fin 8) (upd : Nat) (pend : List (Nat × Nat)) :
    (pdDueWith s k upd pend).atlas = (modAtl k (fun a => { a with pdDue := true, pdPend := pend }) s).atlas := by
  rw [pdDueWith, raise1_atlas, State.setFld_atlas]
  exact (pdSlotsFill_keeps _ k pend).1

theorem pdDueWith_seepLn (k : Fin 8) (upd : Nat) (pend : List (Nat × Nat)) : (pdDueWith s k upd pend).seepLn = s.seepLn := by
  rw [pdDueWith, raise1_seepLn, State.setFld_seepLn]
  exact (pdSlotsFill_keeps _ k pend).2.2

/-- The pending table of lane `k` with the corrections of an update. -/
def pdCorrected (k : Fin 8) (r : PdRx) : List (Nat × Nat) :=
  (List.range 1024).foldl (fun l p => pdAdd l p (recDelta (!bitOf r.ext 3) r.stream p)) s.atlas[k].pdPend

/-- A complete update is refused, known already, or applied (R133). -/
theorem pdComplete_cases (r : PdRx) (frames : Option Nat) : let t := pdReceived s n r
    let k := lane (r.ext % 8)
    pdComplete n r frames s =
      if t.flag (R.ATL_LANE_CFG k) F.ATL_LANE_CFG_PD_SRC ∨ deepSleep t then
        pdAck n r.upd 3 k frames (t.raise1 (R.ATL_STATUS k) F.ATL_STATUS_PD_DISCARD (224 + 8 * k + 5))
      else if r.upd = t.fld (R.ATL_PD_STATE k) F.ATL_PD_STATE_RX_UPD then pdAck n r.upd 1 k frames t
      else pdAck n r.upd 0 k frames (pdDueWith t k r.upd (pdCorrected t k r)) := rfl

theorem pdComplete_ends (r : PdRx) (frames : Option Nat) :
    (pdComplete n r frames s).atlas[n].rx = none ∧ (pdComplete n r frames s).seepLn = s.seepLn := by
  rw [pdComplete_cases]
  split
  · rw [pdAck, addReq_seepLn, raise1_seepLn, pdReceived_seepLn]
    refine ⟨?_, rfl⟩
    simp only [addReq_atlas, raise1_atlas, pdReceived_rx]
  · split
    · rw [pdAck, addReq_seepLn, pdReceived_seepLn]
      refine ⟨?_, rfl⟩
      simp only [addReq_atlas, pdReceived_rx]
    · rw [pdAck, addReq_seepLn, pdDueWith_seepLn, pdReceived_seepLn]
      refine ⟨?_, rfl⟩
      simp only [addReq_atlas, pdDueWith_atlas]
      exact (modAtl_keeps _ AtlasSt.rx (by intros; rfl) _ n).trans (pdReceived_rx s n r)

theorem pdComplete_applies {r : PdRx} (frames : Option Nat) : let k := lane (r.ext % 8)
    s.flag (R.ATL_LANE_CFG k) F.ATL_LANE_CFG_PD_SRC = false → deepSleep s = false → r.upd < 65536 →
    r.upd ≠ s.fld (R.ATL_PD_STATE k) F.ATL_PD_STATE_RX_UPD → let u := pdComplete n r frames s
    u.atlas[k].pdDue = true ∧ u.fld (R.ATL_PD_STATE k) F.ATL_PD_STATE_RX_UPD = r.upd ∧
      u.flag (R.ATL_STATUS k) F.ATL_STATUS_PD_APPLIED = true := by
  intro k remote awake small new
  have cfg : (pdReceived s n r).flag (R.ATL_LANE_CFG k) F.ATL_LANE_CFG_PD_SRC = false := by
    rw [State.flag, State.fld, pdReceived_reg s n r (by unfold R.ATL_LANE_CFG R.ATL_PD_QUAL; omega)]
    exact remote
  have wake : deepSleep (pdReceived s n r) = false := by
    rw [deepSleep, pwrState, State.fld, pdReceived_reg s n r (by unfold R.PWR_STATUS R.ATL_PD_QUAL; omega)]
    exact awake
  have last : r.upd ≠ (pdReceived s n r).fld (R.ATL_PD_STATE k) F.ATL_PD_STATE_RX_UPD := by
    rw [State.fld, pdReceived_reg s n r (by unfold R.ATL_PD_STATE R.ATL_PD_QUAL; omega)]
    exact new
  intro u
  have applied : u = pdAck n r.upd 0 k frames (pdDueWith (pdReceived s n r) k r.upd (pdCorrected (pdReceived s n r) k r)) :=
    (pdComplete_cases s n r frames).trans ((if_neg (by rw [cfg, wake]; decide)).trans (if_neg last))
  rw [applied, pdAck]
  refine ⟨?_, ?_, ?_⟩
  · simp only [addReq_atlas, pdDueWith_atlas, modAtl_same]
  · rw [fld_of_regs (addReq_regs _ _ _ _ _ _), pdDueWith,
      fld_raise1_ne _ (show R.ATL_PD_STATE k ≠ R.ATL_STATUS k by unfold R.ATL_PD_STATE R.ATL_STATUS; omega)
        (by unfold R.ATL_PD_STATE R.SAF_JNL_STATUS; omega)]
    exact (State.fld_setFld _ _ _ _ (by unfold Fld.fits; decide)).trans (Nat.mod_eq_of_lt small)
  · exact (flag_of_regs (addReq_regs _ _ _ _ _ _) _ _).trans (status_raised _ k (by unfold Fld.fits; decide) rfl _)

end Sys2Proof.Machine
end

section
/-!
PROOF. Pre-distortion: the segments of an update in order and out of order, acknowledgements, the windows of the tables, and the statement
(R133, R134, R138, R146, R147, R211).
-/
namespace Sys2Proof.Machine

variable (s : State) (n : Fin 8)

/-! ### Segments (R133, R211) -/

/-- An update in progress with a further segment. -/
def PdRx.add (r : PdRx) (g : Seg) : PdRx :=
  { upd := r.upd, ext := if g.seg ≤ 7 then r.ext + g.frag * 4 ^ g.seg else r.ext, next := g.seg + 1,
    stream := r.stream * 2 ^ 1024 + g.data, idle := 0 }

/-- The segments of a whole update. -/
def PdRx.total (r : PdRx) : Nat := if bitOf r.ext 3 then 16 else 80

theorem pdSegment_eq (g : Seg) (r : PdRx) : pdSegment n g r s =
    if 8 ≤ g.seg + 1 ∧ (r.add g).total ≤ g.seg + 1 then pdComplete n (r.add g) g.frames s
    else modAtl n (fun a => { a with rx := some (r.add g) }) s := rfl

theorem pdSegment_seepLn (g : Seg) (r : PdRx) : (pdSegment n g r s).seepLn = s.seepLn := by
  rw [pdSegment_eq]
  split
  · exact (pdComplete_ends s n _ _).2
  · rfl

theorem pdSegment_waits {g : Seg} {r : PdRx} (more : g.seg + 1 < 8 ∨ g.seg + 1 < (r.add g).total) :
    (pdSegment n g r s).atlas[n].rx = some (r.add g) := by
  rw [pdSegment_eq, if_neg (by omega), modAtl_same]

theorem pdSegment_completes {g : Seg} {r : PdRx} (long : 8 ≤ g.seg + 1) (all : (r.add g).total ≤ g.seg + 1) :
    pdSegment n g r s = pdComplete n (r.add g) g.frames s := by
  rw [pdSegment_eq, if_pos ⟨long, all⟩]

/-- The oldest received segment is taken; `rest` are the others. -/
def segTaken (rest : List Seg) : State := modSeep n (fun l => { l with segs := rest }) s

theorem segTaken_segs (rest : List Seg) : (segTaken s n rest).seepLn[n].segs = rest :=
  congrArg SeepLane.segs (vmod_same s.seepLn n _)

section
variable {g : Seg} {rest : List Seg} (oldest : s.seepLn[n].segs = g :: rest)
include oldest

theorem pdBulkReceive_low (low : g.low = true) : pdBulkReceive n s = pdRefuseL n g.frames (segTaken s n rest) := by
  simp only [pdBulkReceive, oldest, low, if_true]
  rfl

variable (seepA : g.low = false)
include seepA

theorem pdBulkReceive_first (first : g.seg = 0) (idle : s.atlas[n].rx = none) :
    pdBulkReceive n s = pdSegment n g { upd := g.upd } (modAtl n (fun a => { a with reject := none }) (segTaken s n rest)) := by
  simp only [pdBulkReceive, oldest, seepA, modSeep_atlas, idle, first, Bool.false_eq_true, if_true, if_false]
  rfl

variable {r : PdRx} (runs : s.atlas[n].rx = some r) (own : g.upd = r.upd)
include runs own

theorem pdBulkReceive_outOfOrder (order : g.seg ≠ r.next) :
    pdBulkReceive n s = pdDiscard n r.upd (r.ext % 8) true g.frames (segTaken s n rest) := by
  simp only [pdBulkReceive, oldest, seepA, modSeep_atlas, runs, own, order, Bool.false_eq_true, ne_eq, not_true, not_false_eq_true, if_true,
    if_false]
  rfl

theorem pdBulkReceive_next (order : g.seg = r.next) : pdBulkReceive n s = pdSegment n g r (segTaken s n rest) := by
  simp only [pdBulkReceive, oldest, seepA, modSeep_atlas, runs, own, order, Bool.false_eq_true, ne_eq, not_true, if_false]
  rfl

end

/-- Whatever becomes of the segment, it is taken, and no other is. -/
theorem pdBulkReceive_segs {g : Seg} {rest : List Seg} (oldest : s.seepLn[n].segs = g :: rest) : (pdBulkReceive n s).seepLn[n].segs = rest := by
  have taken : (pdBulkReceive n s).seepLn = (segTaken s n rest).seepLn := by
    simp only [pdBulkReceive, oldest]
    split
    · exact (pdRefuseL_refuses _ n _).2.2
    · split
      · split
        · exact pdSegment_seepLn _ n g _
        · split
          · rfl
          · exact pdDiscard_seepLn _ n _ _ _ _
      · split
        · split
          · exact (pdSegment_seepLn _ n g _).trans (pdDiscard_seepLn _ n _ _ _ _)
          · exact pdDiscard_seepLn _ n _ _ _ _
        · split
          · exact pdDiscard_seepLn _ n _ _ _ _
          · exact pdSegment_seepLn _ n g _
  exact (congrArg (fun v : Vector SeepLane 8 => v[n].segs) taken).trans (segTaken_segs s n rest)

/-! ### The ends of the waits (R133, R134) -/

theorem pdStall_discards {r : PdRx} (runs : s.atlas[n].rx = some r) (long : 8 ≤ r.idle) :
    (pdStall n s).atlas[n].rx = none ∧ (pdStall n s).flag (R.ATL_STATUS n) F.ATL_STATUS_PD_DISCARD = true := by
  have stalls : pdStall n s = pdDiscard n r.upd (r.ext % 8) true (some 0) s := by simp only [pdStall, runs, long, if_true]
  obtain ⟨ended, -, shown⟩ := pdDiscard_discards s n r.upd (r.ext % 8) (some 0)
  rw [stalls]
  exact ⟨ended, shown⟩

theorem pdStall_rests (rests : s.atlas[n].rx = none ∨ ∃ r, s.atlas[n].rx = some r ∧ r.idle < 8) : pdStall n s = s := by
  rcases rests with idle | ⟨r, runs, short⟩
  · simp only [pdStall, idle]
  · simp only [pdStall, runs, Nat.not_le.mpr short, if_false]

theorem txPumpsLoad_atlas : (txPumpsLoad n s).atlas = s.atlas := foldl_keeps s State.atlas (by intros; rfl) _

theorem pdTableApply_applies (due : s.atlas[n].pdDue = true) :
    (pdTableApply n s).atlas[n].pd = s.atlas[n].pdPend ∧ (pdTableApply n s).atlas[n].pdDue = false := by
  rw [pdTableApply, if_pos due]
  simp only [txPumpsLoad_atlas, modAtl_same, and_self]

theorem pdNoAck_expires {k : Nat} (waits : s.atlas[n].ackWait = some k) (late : 16 ≤ k) :
    (pdNoAck n s).atlas[n].ackWait = none ∧ (pdNoAck n s).flag (R.ATL_STATUS n) F.ATL_STATUS_PD_NOACK = true := by
  have expires : pdNoAck n s = settleRestart n (modAtl n (fun a => { a with ackWait := none })
      (s.raise1 (R.ATL_STATUS n) F.ATL_STATUS_PD_NOACK (224 + 8 * n + 3))) := by simp only [pdNoAck, waits, late, if_true]
  rw [expires, settleRestart]
  exact ⟨by simp only [modAtl_same], status_raised s n (by unfold Fld.fits; decide) rfl _⟩

theorem pdNoAck_rests (rests : s.atlas[n].ackWait = none ∨ ∃ k, s.atlas[n].ackWait = some k ∧ k < 16) : pdNoAck n s = s := by
  rcases rests with idle | ⟨k, waits, early⟩
  · simp only [pdNoAck, idle]
  · simp only [pdNoAck, waits, Nat.not_le.mpr early, if_false]

/-! ### Acknowledgements (R134, R208) -/

/-- A message taken from a lane's inbox leaves all but the lane's seep state. -/
theorem takeMsg_some {p : SMsg → Bool} {m : SMsg} {fr : Option Nat} {x : State} (taken : takeMsg n p s = some (m, fr, x)) :
    ∃ g, x = modSeep n g s := by
  unfold takeMsg at taken
  dsimp only at taken
  split at taken
  · cases taken
  · split at taken
    · cases taken
    · cases taken
      exact ⟨_, rfl⟩

/-- The number that a PD_ACK is to have. -/
def awaitedUpd : Nat := (s.atlas[n].tx.map (·.upd)).getD (s.fld (R.ATL_PD_STATE n) F.ATL_PD_STATE_TX_UPD)

/-- A PD_ACK of payload `l` answers the update that is sent or awaited. -/
def ackFits (l : List Nat) : Bool :=
  (s.atlas[n].ackWait.isSome || s.atlas[n].tx.isSome) && (l.isEmpty || (l[0]?).getD 0 * 256 + (l[1]?).getD 0 == awaitedUpd s n)

/-- The update is acknowledged. -/
def pdAcked : State :=
  settleRestart n (modAtl n (fun a => { a with ackWait := none }) (s.setFld (R.ATL_STATUS n) F.ATL_STATUS_PD_ACKED 1))

theorem pdAckReceive_taken {m : SMsg} {fr : Option Nat} {x : State} (taken : takeMsg n (fun m => m.mtype == 0x20) s = some (m, fr, x)) :
    pdAckReceive n s = if ackFits s n m.payload then pdAcked x n else badMsg x := by
  obtain ⟨g, rfl⟩ := takeMsg_some s n taken
  unfold ackFits awaitedUpd
  cases sent : s.atlas[n].tx <;> simp only [pdAckReceive, taken, modSeep_atlas, modSeep_fld, sent] <;> rfl

theorem pdAcked_ends : (pdAcked s n).flag (R.ATL_STATUS n) F.ATL_STATUS_PD_ACKED = true ∧ (pdAcked s n).atlas[n].ackWait = none ∧
    (pdAcked s n).atlas[n].settle = some 0 ∧ (pdAcked s n).seepLn = s.seepLn := by
  refine ⟨flag_setFld_one s (by unfold Fld.fits; decide) rfl, ?_, ?_, rfl⟩ <;> simp only [pdAcked, settleRestart, modAtl_same]

/-! ### The windows of the tables (R136, R138, R146, R147) -/

theorem accepted_pdData (o : Origin) (v : Word) : accepted o (R.ATL_PD_DATA n) v s = pdWrite n (F.ATL_PD_DATA_VALUE.get v) s := by
  have own : storesNothing (R.ATL_PD_DATA n) = true := by revert n; decide
  have kept := before_atlas s (inAtlas_lane n (a := R.ATL_PD_DATA n) (b := 0x4C) (by decide) rfl)
  have effect := accepted_lane s n (a := R.ATL_PD_DATA n) (b := 0x4C) (by decide) rfl o v
  rwa [stored_of_storesNothing s own kept] at effect

/-- The word that a write of ATL_PD_DATA puts into the table. -/
def pdEntry (v : Nat) : Nat := v / 2 ^ 15 % 2 * 2 ^ 15 + unsigned 12 (clampInt (-256) 256 (signed 12 v))

theorem pdEntry_value (v : Word) : pdEntry (F.ATL_PD_DATA_VALUE.get v) = pdEntry v.toNat := by
  have value : F.ATL_PD_DATA_VALUE.get v = v.toNat % 2 ^ 16 := by rw [Fld.get, F.ATL_PD_DATA_VALUE, pow_zero, Nat.div_one]
  have top : v.toNat % 2 ^ 16 / 2 ^ 15 % 2 = v.toNat / 2 ^ 15 % 2 := by omega
  have low : v.toNat % 2 ^ 16 % 2 ^ 12 = v.toNat % 2 ^ 12 := by omega
  rw [value, pdEntry, pdEntry, signed, signed, top, low]

theorem pdWrite_writes (v : Nat) : let p := s.fld (R.ATL_PD_INDEX n) F.ATL_PD_INDEX_INDEX
    (∀ k, pdWord (pdWrite n v s).atlas[n].pdPend k = if k = p then pdEntry v else pdWord s.atlas[n].pdPend k) ∧
    (pdWrite n v s).fld (R.ATL_PD_INDEX n) F.ATL_PD_INDEX_INDEX = (p + 1) % 1024 := by
  intro p
  refine ⟨fun k => ?_, fld_addWrap _ (by unfold Fld.fits; decide) 1⟩
  have table : (pdWrite n v s).atlas[n].pdPend = sput 0x8000 p (pdEntry v) s.atlas[n].pdPend := congrArg AtlasSt.pdPend (modAtl_same s n _)
  rw [table, pdWord, pdWord]
  split
  next same => rw [same, sget_sput_same]
  next other => exact sget_sput_ne _ _ other _ _

theorem pdApply_accepted (o : Origin) (x : Word) : let a := R.ATL_PD_APPLY n
    (accepted o a (F.ATL_PD_APPLY_APPLY.put x 1) s).flag a F.ATL_PD_APPLY_PEND =
      (s.flag (R.ATL_LANE_CFG n) F.ATL_LANE_CFG_PD_SRC || s.flag a F.ATL_PD_APPLY_PEND) := by
  intro a
  obtain ⟨t, ht⟩ : ∃ t, t = stored o a (F.ATL_PD_APPLY_APPLY.put x 1) s := ⟨_, rfl⟩
  have word := stored_lane s n (a := a) (b := 0x50) (by decide) rfl (by decide) (specAt_pdApply n) o (F.ATL_PD_APPLY_APPLY.put x 1)
  have pend : t.flag a F.ATL_PD_APPLY_PEND = s.flag a F.ATL_PD_APPLY_PEND := by
    rw [ht, word, State.flag, State.fld, State.reg_setReg, State.flag,
      get_storeWord_kept s (r := pdApplySpec) (f := F.ATL_PD_APPLY_PEND) (by decide) (by decide) (.inl rfl)]
  have source : t.flag (R.ATL_LANE_CFG n) F.ATL_LANE_CFG_PD_SRC = s.flag (R.ATL_LANE_CFG n) F.ATL_LANE_CFG_PD_SRC := by
    rw [ht, word, State.flag, State.fld, State.reg_setReg_ne _ (show R.ATL_LANE_CFG n ≠ a by unfold a R.ATL_LANE_CFG R.ATL_PD_APPLY; omega)]
    rfl
  have effect : accepted o a (F.ATL_PD_APPLY_APPLY.put x 1) s = pdApplyWritten n t := by
    have go : cmd F.ATL_PD_APPLY_APPLY (F.ATL_PD_APPLY_APPLY.put x 1) = true := cmd_withBit (by unfold Fld.fits; decide) rfl x
    have runs := accepted_lane s n (a := a) (b := 0x50) (by decide) rfl o (F.ATL_PD_APPLY_APPLY.put x 1)
    rw [go, ← ht] at runs
    exact runs
  rw [effect, pdApplyWritten, source]
  split
  next on => rw [on, Bool.true_or, flag_setFld_one t (by unfold Fld.fits; decide) rfl]
  next off =>
    have stays : s.flag (R.ATL_LANE_CFG n) F.ATL_LANE_CFG_PD_SRC = false := by simpa using off
    rw [stays, Bool.false_or, pend]

/-! ### Reads -/

section
variable {a b : Nat} (offset : b < 0x1000) (place : a = 0x1210000 + b + n * 0x1000) (aligned : b % 4 = 0)
include offset place aligned

/-- A read of a lane's register that passes answers the register's view and has the register's effect. -/
theorem readAs_lane (open' : b ≠ 0x34 ∧ b ≠ 0x38) {o : Origin} (ok : ReadOk o a s = true) :
    readAs o a 4 s = answer s o { code := .ok, data := (atlView s a).toNat } (readEffect o a s) := by
  simp only [ReadOk, Bool.and_eq_true, Bool.not_eq_true', Option.isNone_iff_eq_none] at ok
  obtain ⟨⟨⟨⟨-, idle⟩, passes⟩, register⟩, -⟩ := ok
  have own : aliased a = a ∧ inAlias a = false := by
    have low : inAlias a = false := by simp [inAlias, show ¬ 0x8000000 ≤ a by omega]
    simp [aliased, low]
  have word : wordAddr a = a := by unfold wordAddr; omega
  have journal : inJournal a = false := by simp [inJournal, show ¬ 0x1400000 ≤ a by omega]
  have claim : arrIdx a (R.KIC_CLAIM 0) 0x100 3 = none := by unfold arrIdx R.KIC_CLAIM; rw [if_neg]; omega
  have sem : arrIdx a (R.CHIP_SEM 0) 4 16 = none := by unfold arrIdx R.CHIP_SEM; rw [if_neg]; omega
  have index : (a - 0x1210000) / 0x1000 = n.val := by omega
  have served : readRefuses s o a false = none := by
    have notData : ¬ (a = R.ATL_RD_DATA0 n ∨ a = R.ATL_RD_DATA1 n) := by unfold R.ATL_RD_DATA0 R.ATL_RD_DATA1; omega
    simp only [readRefuses, claim, index, notData, false_and, if_false]
  have still : measured a s = s := by
    have scrub : a ≠ R.CIS_SCRUB_POS := by unfold R.CIS_SCRUB_POS; omega
    simp only [measured, scrub, show ¬ (0x200000 ≤ a ∧ a < 0x208000) by omega, if_false,
      show ¬ (0x800000 ≤ a ∧ a < 0x1000000 ∧ a = R.PUMP_ERR ((a - 0x800000) / 0x100000) (a / 0x1000 % 64)) by omega]
  have view : regView o s a = atlView s a := by
    have dbg : a ≠ R.SEC_DBG_STATUS := by unfold R.SEC_DBG_STATUS; omega
    have clk : a ≠ R.TOD_CLKOUT := by unfold R.TOD_CLKOUT; omega
    have trace : a ≠ R.LINE_TRACE := by unfold R.LINE_TRACE; omega
    have tx : a ≠ R.SEEP_GW_TXDATA := by unfold R.SEEP_GW_TXDATA; omega
    have rx : a ≠ R.SEEP_GW_RXDATA := by unfold R.SEEP_GW_RXDATA; omega
    simp only [regView, dbg, clk, trace, tx, rx, show ¬ a < 0x20000 by omega, show ¬ a < 0x30000 by omega, show ¬ a < 0x40000 by omega,
      show ¬ a < 0x50000 by omega, show ¬ a < 0x400000 by omega, show ¬ (0x410000 ≤ a ∧ a < 0x418000) by omega,
      show ¬ (0x1010000 ≤ a ∧ a < 0x1018000) by omega, show 0x1210000 ≤ a ∧ a < 0x1218000 by omega, and_self, if_true, if_false]
  have bus : busRead o a 4 s = (.ok, (atlView s a).toNat, readEffect o a s) := by
    have small : (atlView s a).toNat % 2 ^ 32 = (atlView s a).toNat := Nat.mod_eq_of_lt (atlView s a).isLt
    have whole : a % 4 = 0 := by omega
    simpa [busRead, passes, register, own, word, journal, regRead, served, still, sem, claim, view, whole] using small
  simp only [readAs, fabricTurn_idle s idle, readNow, bus, recordFor_ok]

theorem readEffect_lane (o : Origin) : readEffect o a s = if b = 0x44 then detNext n s else if b = 0x4C then pdNext n s else s := by
  have own : lane ((a - 0x1210000) / 0x1000) = n := Fin.ext (by unfold lane; dsimp only; omega)
  have rpr : a ≠ R.BOOT_RPR_DATA 3 := by unfold R.BOOT_RPR_DATA; omega
  have freq : a ≠ R.TOD_FREQ_LO := by unfold R.TOD_FREQ_LO; omega
  have tx : a ≠ R.SEEP_GW_TXDATA := by unfold R.SEEP_GW_TXDATA; omega
  have rx : a ≠ R.SEEP_GW_RXDATA := by unfold R.SEEP_GW_RXDATA; omega
  have det : a = R.ATL_DET_DATA n ↔ b = 0x44 := by unfold R.ATL_DET_DATA; omega
  have data : a = R.ATL_PD_DATA n ↔ b = 0x4C := by unfold R.ATL_PD_DATA; omega
  simp only [readEffect, rpr, freq, tx, rx, own, det, data, show ¬ a < 0x30000 by omega, show ¬ a < 0x33000 by omega,
    show 0x1210000 ≤ a ∧ a < 0x1218000 by omega, and_self, if_true, if_false]

theorem atlView_lane : atlView s a = if b = 0x10 then F.ATL_STATUS_LEARNING.put (s.reg a) (b2n (learning s n))
    else if b = 0x44 then word (detRead s n) else if b = 0x4C then word (pdView s n) else s.reg a := by
  have own : lane ((a - 0x1210000) / 0x1000) = n := Fin.ext (by unfold lane; dsimp only; omega)
  have status : a = R.ATL_STATUS n ↔ b = 0x10 := by unfold R.ATL_STATUS; omega
  have det : a = R.ATL_DET_DATA n ↔ b = 0x44 := by unfold R.ATL_DET_DATA; omega
  have data : a = R.ATL_PD_DATA n ↔ b = 0x4C := by unfold R.ATL_PD_DATA; omega
  simp only [atlView, own, status, det, data]

end

variable {o : Origin}

theorem readAs_pdData (ok : ReadOk o (R.ATL_PD_DATA n) s = true) :
    readAs o (R.ATL_PD_DATA n) 4 s = answer s o { code := .ok, data := (word (pdView s n)).toNat } (pdNext n s) := by
  have read := readAs_lane s n (a := R.ATL_PD_DATA n) (b := 0x4C) (by decide) rfl (by decide) (by decide) ok
  rwa [atlView_lane s n (a := R.ATL_PD_DATA n) (b := 0x4C) (by decide) rfl (by decide),
    readEffect_lane s n (a := R.ATL_PD_DATA n) (b := 0x4C) (by decide) rfl (by decide)] at read

theorem readAs_detData (ok : ReadOk o (R.ATL_DET_DATA n) s = true) :
    readAs o (R.ATL_DET_DATA n) 4 s = answer s o { code := .ok, data := (word (detRead s n)).toNat } (detNext n s) := by
  have read := readAs_lane s n (a := R.ATL_DET_DATA n) (b := 0x44) (by decide) rfl (by decide) (by decide) ok
  rwa [atlView_lane s n (a := R.ATL_DET_DATA n) (b := 0x44) (by decide) rfl (by decide),
    readEffect_lane s n (a := R.ATL_DET_DATA n) (b := 0x44) (by decide) rfl (by decide)] at read

/-- A command that is a register read completes with the read and its single answer. -/
theorem completesRead_of_answer {c : Instr} {a d : Nat} {t : State} (cmd : exec c s = outcome s (readAs o a 4)) (ok : ReadOk o a s = true)
    (read : readAs o a 4 s = answer s o { code := .ok, data := d } t) : CompletesRead c o a d s := by
  refine ⟨completes_of_outcome s cmd (readOk_running s ok), ?_⟩
  rw [read, answer_resp]

end Sys2Proof.Machine
end

section
/-!
PROOF. Pre-distortion: what each received segment does to the update in progress, and the statement (R133, R134, R138, R141, R146, R147, R208,
R211).
-/
namespace Sys2Proof.Machine

variable (s : State) (n : Fin 8)

section
variable {g : Seg} {rest : List Seg} (oldest : s.seepLn[n].segs = g :: rest)
include oldest

/-- A segment on Seep-L is discarded, whatever update is in progress. -/
theorem lowSegment_discards (low : g.low = true) :
    (pdBulkReceive n s).flag (R.ATL_STATUS n) F.ATL_STATUS_PD_DISCARD = true ∧ (pdBulkReceive n s).atlas[n].rx = s.atlas[n].rx := by
  rw [pdBulkReceive_low s n oldest low]
  obtain ⟨shown, kept, -⟩ := pdRefuseL_refuses (segTaken s n rest) n g.frames
  exact ⟨shown, congrArg (fun v : Vector AtlasSt 8 => v[n].rx) kept⟩

variable (seepA : g.low = false)
include seepA

theorem firstSegment_starts (first : g.seg = 0) (idle : s.atlas[n].rx = none) :
    (pdBulkReceive n s).atlas[n].rx = some { upd := g.upd, ext := g.frag, next := 1, stream := g.data } := by
  have added : PdRx.add { upd := g.upd } g = { upd := g.upd, ext := g.frag, next := 1, stream := g.data } := by
    simp only [PdRx.add, first, Nat.zero_le, if_true, Nat.zero_mul, Nat.zero_add, Nat.pow_zero, Nat.mul_one]
  rw [pdBulkReceive_first s n oldest seepA first idle, ← added]
  exact pdSegment_waits _ n (.inl (by omega))

variable {r : PdRx} (runs : s.atlas[n].rx = some r) (own : g.upd = r.upd)
include runs own

theorem strangeSegment_discards (order : g.seg ≠ r.next) : let u := pdBulkReceive n s
    u.atlas[n].rx = none ∧ u.atlas[n].reject = some r.upd ∧ u.flag (R.ATL_STATUS n) F.ATL_STATUS_PD_DISCARD = true := by
  rw [pdBulkReceive_outOfOrder s n oldest seepA runs own order]
  exact pdDiscard_discards _ n _ _ _

variable (order : g.seg = r.next)
include order

theorem awaitedSegment_adds (more : g.seg + 1 < 8 ∨ g.seg + 1 < (r.add g).total) :
    (pdBulkReceive n s).atlas[n].rx = some (r.add g) := by
  rw [pdBulkReceive_next s n oldest seepA runs own order]
  exact pdSegment_waits _ n more

theorem lastSegment_completes (long : 8 ≤ g.seg + 1) (all : (r.add g).total ≤ g.seg + 1) : let k := lane ((r.add g).ext % 8)
    let u := pdBulkReceive n s
    u.atlas[n].rx = none ∧ (s.flag (R.ATL_LANE_CFG k) F.ATL_LANE_CFG_PD_SRC = false → deepSleep s = false → r.upd < 65536 →
      r.upd ≠ s.fld (R.ATL_PD_STATE k) F.ATL_PD_STATE_RX_UPD →
      u.atlas[k].pdDue = true ∧ u.fld (R.ATL_PD_STATE k) F.ATL_PD_STATE_RX_UPD = r.upd ∧
        u.flag (R.ATL_STATUS k) F.ATL_STATUS_PD_APPLIED = true) := by
  intro k u
  have completes : u = pdComplete n (r.add g) g.frames (segTaken s n rest) :=
    (pdBulkReceive_next s n oldest seepA runs own order).trans (pdSegment_completes _ n long all)
  rw [completes]
  exact ⟨(pdComplete_ends _ n _ _).1, pdComplete_applies (segTaken s n rest) n g.frames⟩

end

/-- Settles O22: segments by their place in the update, waits by the branch of their operation, windows by the accepted write or the read. -/
theorem predistortionUpdatesComplete : Obligations.PredistortionUpdatesComplete := by
  intro s n running
  refine ⟨fun none => ?noSegment, fun g rest oldest => ?segment, fun r runs long => ?stalled, fun rests => ?notStalled, fun due => ?table,
    fun notDue => ?noTable, fun m fr x taken => ⟨fun fits => ?acked, fun strange => ?notAcked⟩, fun none => ?noAck,
    fun k waits late => ?late, fun rests => ?notLate, fun o v => ?entryWrite, fun o ok => ?entryRead, fun o => ?apply, fun o ok => ?detRead⟩
  case noSegment => exact completes_unchanged s (g := pdBulkReceive n) rfl running (by simp only [pdBulkReceive, none])
  case segment =>
    exact ⟨_, completes_of_outcome s (g := pdBulkReceive n) rfl running, pdBulkReceive_segs s n oldest, lowSegment_discards s n oldest,
      firstSegment_starts s n oldest, fun r seepA => strangeSegment_discards s n oldest seepA, fun r seepA runs own order =>
        ⟨awaitedSegment_adds s n oldest seepA runs own order, lastSegment_completes s n oldest seepA runs own order⟩⟩
  case stalled => exact ⟨_, completes_of_outcome s (g := pdStall n) rfl running, pdStall_discards s n runs long⟩
  case notStalled => exact completes_unchanged s (g := pdStall n) rfl running (pdStall_rests s n rests)
  case table => exact ⟨_, completes_of_outcome s (g := pdTableApply n) rfl running, pdTableApply_applies s n due⟩
  case noTable =>
    exact completes_unchanged s (g := pdTableApply n) rfl running (by rw [pdTableApply, notDue]; exact if_neg Bool.false_ne_true)
  case acked =>
    have acks : pdAckReceive n s = pdAcked x n := (pdAckReceive_taken s n taken).trans (if_pos fits)
    exact ⟨_, acks ▸ completes_of_outcome s (g := pdAckReceive n) rfl running, pdAcked_ends x n⟩
  case notAcked =>
    have bad : pdAckReceive n s = badMsg x := (pdAckReceive_taken s n taken).trans (if_neg (ne_true_of_eq_false strange))
    exact bad ▸ completes_of_outcome s (g := pdAckReceive n) rfl running
  case noAck => exact completes_unchanged s (g := pdAckReceive n) rfl running (by simp only [pdAckReceive, none])
  case late => exact ⟨_, completes_of_outcome s (g := pdNoAck n) rfl running, pdNoAck_expires s n waits late⟩
  case notLate => exact completes_unchanged s (g := pdNoAck n) rfl running (pdNoAck_rests s n rests)
  case entryWrite =>
    refine fun ok => ⟨completesWrite_of_ok s rfl ok, ?_⟩
    rw [accepted_pdData, ← pdEntry, ← pdEntry_value]
    exact pdWrite_writes s n _
  case entryRead =>
    refine ⟨completesRead_of_answer s rfl ok (readAs_pdData s n ok), ?_⟩
    rw [readAs_pdData s n ok, answer_fld]
    exact fld_addWrap _ (by unfold Fld.fits; decide) 1
  case apply => exact fun ok => ⟨completesWrite_of_field s rfl ok, pdApply_accepted s n o _⟩
  case detRead =>
    refine ⟨completesRead_of_answer s rfl ok (readAs_detData s n ok), ?_⟩
    rw [readAs_detData s n ok, answer_fld]
    exact fld_addWrap _ (by unfold Fld.fits; decide) 1

end Sys2Proof.Machine
end

section
/-!
PROOF. Line-side tap training: how a run starts and requests, how requests are answered, what a run without an answer comes to, and the
statement (R139, R140, R141, R208).
-/
namespace Sys2Proof.Machine

variable (s : State) (n : Fin 8)

/-! ### Requests sent (R139, R209) -/

/-- Queueing a message on a lane changes the lane's seep state, and of the registers only those two that show its queue. -/
theorem seepQueue_keeps {β : Type} {T : Nat → Fld → Prop} {v : State → β} (inert : InertAll T v) (status : ∀ f, T (R.SEEP_LN_STATUS n) f)
    (count : ∀ f, T (R.SEEP_LN_CNT1 n) f) (lane : ∀ (g : SeepLane → SeepLane) (t : State), v (modSeep n g t) = v t) (cls : Nat) (m : SMsg)
    (due : Option Nat) : v (seepQueue n cls m due s) = v s := by
  have follows (t : State) : v (txqFollow n t) = v t := inert.fld _ _ _ _ (status _)
  have drops (t : State) : v (txqDrop n t) = v t := (inert.addSat _ (count _) 1).trans (inert.raise1 t (status _) _)
  unfold seepQueue
  split
  · exact inert.addSat s (count _) 1
  · split
    · exact (follows _).trans (lane _ s)
    · split
      · exact drops s
      · split
        · exact (follows _).trans ((drops _).trans (lane _ s))
        · exact drops s

/-- A request is queued, and its number noted, after free values are drawn for it. -/
theorem sendTapReq_queues (preset code : Nat) : ∃ m tid t, t.atlas = s.atlas ∧ t.regs = s.regs ∧
    sendTapReq n preset code s = seepQueue n 3 m none (modAtl n (fun a => { a with train := a.train.map ({ · with tid := tid }) }) t) :=
  ⟨_, ((s.fresh 4).2.fresh 8).1, ((s.fresh 4).2.fresh 8).2, rfl, rfl, rfl⟩

/-- The run that waits for the answer has the request's number. -/
theorem sendTapReq_train (preset code : Nat) : ∃ tid, (sendTapReq n preset code s).atlas[n].train = s.atlas[n].train.map ({ · with tid := tid }) := by
  obtain ⟨m, tid, t, atlas, -, sends⟩ := sendTapReq_queues s n preset code
  have queued := seepQueue_keeps (modAtl n (fun a => { a with train := a.train.map ({ · with tid := tid }) }) t) n (T := fun _ _ => True)
    (v := State.atlas) (atlas_inert (fun _ => trivial) fun _ => trivial) (fun _ => trivial) (fun _ => trivial) (fun _ _ => rfl) 3 m none
  refine ⟨tid, ?_⟩
  simp only [sends, queued, modAtl_same, atlas]

/-- A request leaves what the lane's training register shows. -/
theorem sendTapReq_fld (preset code : Nat) (f : Fld) : (sendTapReq n preset code s).fld (R.ATL_TRAIN n) f = s.fld (R.ATL_TRAIN n) f := by
  have inert : InertAll (fun a _ => R.ATL_TRAIN n ≠ a) (fun t => t.fld (R.ATL_TRAIN n) f) :=
    inert_fld (fun _ => by unfold R.ATL_TRAIN R.SAF_JNL_STATUS; omega) (fun _ => by unfold R.ATL_TRAIN R.BOOT_RPR_COUNT; omega)
      (fun _ _ other => .inl other) (fun _ other => other f)
  obtain ⟨m, tid, t, -, regs, sends⟩ := sendTapReq_queues s n preset code
  rw [sends]
  refine (seepQueue_keeps _ n inert (fun _ => ?_) (fun _ => ?_) (fun _ _ => rfl) 3 m none).trans (fld_of_regs regs _ f)
  · unfold R.ATL_TRAIN R.SEEP_LN_STATUS
    omega
  · unfold R.ATL_TRAIN R.SEEP_LN_CNT1
    omega

/-- A run that requests a step waits for its answer. -/
theorem trainRequest_waits (t : TrainRun) (up : Bool) (phase : TrainPhase) : ∃ tid,
    (trainRequest n t up phase s).atlas[n].train = some { t with phase := phase, waiting := true, frames := 0, tid := tid } := by
  obtain ⟨tid, sent⟩ := sendTapReq_train (setTrain n (some { t with phase := phase, waiting := true, frames := 0 }) s) n 0
    ((if up then 1 else 2) * 4 ^ (7 - trainOrder t.i))
  refine ⟨tid, sent.trans ?_⟩
  simp only [setTrain, modAtl_same, Option.map_some]

theorem trainStart_starts (idle : s.atlas[n].train = none) : (trainStart n s).fld (R.ATL_TRAIN n) F.ATL_TRAIN_TRAIN_STATE = 1 ∧
    ((trainStart n s).atlas[n].train.map fun t => (t.phase, t.waiting)) = some (.preset, true) := by
  have starts : trainStart n s = sendTapReq n 1 0 (setTrain n (some {}) (s.setFld (R.ATL_TRAIN n) F.ATL_TRAIN_TRAIN_STATE 1)) := by
    simp only [trainStart, idle, Option.isSome_none, Bool.false_eq_true, if_false]
  rw [starts]
  constructor
  · rw [sendTapReq_fld, setTrain, modAtl_fld, State.fld_setFld _ _ _ _ (by unfold Fld.fits; decide)]
    rfl
  · obtain ⟨tid, run⟩ := sendTapReq_train (setTrain n (some {}) (s.setFld (R.ATL_TRAIN n) F.ATL_TRAIN_TRAIN_STATE 1)) n 1 0
    rw [run, setTrain, modAtl_same]
    simp only [Option.map_some]

theorem trainStart_accepted (o : Origin) (v : Word) : let a := R.ATL_TRAIN n
    s.atlas[n].train = none → (accepted o a (withBit F.ATL_TRAIN_START v) s).fld a F.ATL_TRAIN_TRAIN_STATE = 1 ∧
      ((accepted o a (withBit F.ATL_TRAIN_START v) s).atlas[n].train.map fun t => (t.phase, t.waiting)) = some (.preset, true) := by
  intro a idle
  obtain ⟨t, ht⟩ : ∃ t, t = stored o a (withBit F.ATL_TRAIN_START v) s := ⟨_, rfl⟩
  have word := stored_lane s n (a := a) (b := 0x8) (by decide) rfl (by decide) (specAt_train n) o (withBit F.ATL_TRAIN_START v)
  have atlas : t.atlas = s.atlas := by rw [ht, word, State.setReg_atlas]
  have effect : accepted o a (withBit F.ATL_TRAIN_START v) s = trainStart n t := by
    have go : cmd F.ATL_TRAIN_START (withBit F.ATL_TRAIN_START v) = true := cmd_withBit (by unfold Fld.fits; decide) rfl v
    have runs := accepted_lane s n (a := a) (b := 0x8) (by decide) rfl o (withBit F.ATL_TRAIN_START v)
    rw [go, ← ht] at runs
    exact runs
  rw [effect]
  exact trainStart_starts t n (by simp only [atlas, idle])

/-! ### Requests received (R139, R208) -/

/-- A request's effects on lane `k` so far: no reply is prepared, and the lane's quality register is as it was. -/
abbrev TapKept (k : Fin 8) (s t : State) : Prop := t.seep = s.seep ∧ t.reg (R.ATL_PD_QUAL k) = s.reg (R.ATL_PD_QUAL k)

theorem tapKept_setTap {s t : State} (k : Fin 8) (h : TapKept k s t) {j : Nat} (tap : j < 7) (v : Int) : TapKept k s (setTap k j v t) :=
  ⟨h.1, (State.reg_setReg_ne _ (by unfold R.ATL_PD_QUAL R.WELL_PARAM; omega) _).trans h.2⟩

theorem tapKept_tapSteps (k : Fin 8) (codes : Nat) : TapKept k s (tapSteps k codes s).2 := by
  refine List.foldlRecOn (motive := fun p : List Nat × State => TapKept k s p.2) _ _ ⟨rfl, rfl⟩ fun p h j member => ?_
  dsimp only
  unfold tapStep
  split
  · exact h
  · dsimp only
    generalize tapPending p.2 k j + (if codes / 4 ^ (7 - j) % 4 = 1 then 1 else -1) = v
    split
    · exact h
    · exact tapKept_setTap k h (List.mem_range.mp member) v

theorem tapKept_preset (k : Fin 8) (p : Nat) : TapKept k s ((firPreset p).zipIdx.foldl (fun s p => setTap k p.2 p.1 s) s) := by
  refine List.foldlRecOn (motive := TapKept k s) _ _ ⟨rfl, rfl⟩ fun t h q member => tapKept_setTap k h ?_ _
  have inside : q.2 < (firPreset p).length := by
    have := List.snd_lt_of_mem_zipIdx member
    omega
  have seven : (firPreset p).length = 7 := by unfold firPreset; split <;> rfl
  omega

/-- A received request is answered OK after the far figure of merit is kept and its taps are set. -/
theorem tapReqReceive_taken {m : SMsg} {fr : Option Nat} {x : State} (taken : takeMsg n (fun m => m.mtype == 0x21) s = some (m, fr, x)) :
    let k := lane ((m.payload[0]?).getD 0)
    ∃ payload t, tapReqReceive n s = addReq n m fr 0 payload t ∧
      TapKept k (x.setFld (R.ATL_PD_QUAL k) F.ATL_PD_QUAL_FAR_FOM ((m.payload[1]?).getD 0)) t := by
  intro k
  have status (c : Prop) [Decidable c] {t u : State} (h : TapKept k t u) :
      TapKept k t (if c then u.setFld (R.ATL_STATUS k) F.ATL_STATUS_TAP_APPLIED 1 else u) := by
    split
    · exact ⟨h.1, (State.reg_setFld_ne _ (by unfold R.ATL_PD_QUAL R.ATL_STATUS; omega) _ _).trans h.2⟩
    · exact h
  simp only [tapReqReceive, taken]
  refine ⟨_, _, rfl, status _ ?_⟩
  split
  · exact ⟨rfl, rfl⟩
  · split
    · exact tapKept_preset _ k _
    · exact tapKept_tapSteps _ k _

theorem addReq_waits (m : SMsg) (frames rc : Nat) (payload : List Nat) :
    ((addReq n m (some frames) rc payload s).seep.reqs.getLast?.map fun q => (q.dst, q.src, q.tid, q.reply.map (·.1))) =
      some (m.dst, m.src, m.tid, some rc) := by
  simp only [addReq, pushReq, List.getLast?_concat, Option.map_some]

theorem tapReqReceive_answers {m : SMsg} {fr : Option Nat} {x : State} (taken : takeMsg n (fun m => m.mtype == 0x21) s = some (m, fr, x)) :
    let u := tapReqReceive n s
    u.fld (R.ATL_PD_QUAL (lane ((m.payload[0]?).getD 0))) F.ATL_PD_QUAL_FAR_FOM = (m.payload[1]?).getD 0 % 256 ∧
      (fr.isSome = true → (u.seep.reqs.getLast?.map fun q => (q.dst, q.src, q.tid, q.reply.map (·.1))) = some (m.dst, m.src, m.tid, some 0)) ∧
      (fr = none → u.seep.reqs = s.seep.reqs) := by
  obtain ⟨payload, t, answers, seep, quality⟩ := tapReqReceive_taken s n taken
  obtain ⟨g, rfl⟩ := takeMsg_some s n taken
  intro u
  have same : u = _ := answers
  rw [same]
  refine ⟨?_, fun waits => ?_, fun late => ?_⟩
  · rw [fld_of_regs (addReq_regs _ _ _ _ _ _), State.fld, quality]
    exact State.fld_setFld _ _ _ _ (by unfold Fld.fits; decide)
  · obtain ⟨frames, rfl⟩ := Option.isSome_iff_exists.mp waits
    exact addReq_waits t n m frames 0 payload
  · rw [late]
    exact congrArg SeepSt.reqs seep

/-! ### Answers and measurements (R140) -/

/-- A step without an answer ends the run as failed. -/
theorem trainAnswer_fails {t : TrainRun} (step : t.phase = .step) : (trainAnswer n t none s).atlas[n].train = none ∧
    (trainAnswer n t none s).flag (R.ATL_STATUS n) F.ATL_STATUS_TRAIN_FAIL = true := by
  have ends : trainAnswer n t none s = trainEnd n false s := by simp only [trainAnswer, step]
  rw [ends]
  refine ⟨?_, status_raised _ n (by unfold Fld.fits; decide) rfl _⟩
  simp only [trainEnd, settleRestart, modAtl_same, Bool.false_eq_true, if_false, raise1_atlas, State.setFld_atlas, setTrain]

theorem tapStatusReceive_taken {m : SMsg} {fr : Option Nat} {x : State} {t : TrainRun}
    (taken : takeMsg n (fun m => m.mtype == 0x22) s = some (m, fr, x)) (run : x.atlas[n].train = some t) (waits : t.waiting = true) :
    tapStatusReceive n s = if m.tid ≠ t.tid then badMsg x else if m.rc = 8 then x else trainAnswer n t
      (some (((m.payload[1]?).getD 0 * 256 + (m.payload[2]?).getD 0) / 4 ^ (7 - trainOrder t.i) % 4)) x := by
  simp only [tapStatusReceive, taken, run, waits, Bool.not_true, Bool.false_eq_true, false_or]

/-- After the base measurement the first step is requested, and its figures are the base. -/
theorem trainMeasureDone_base {t : TrainRun} (run : s.atlas[n].train = some t) (measures : t.waiting = false) (skipped : t.skip = 0)
    (complete : t.left = 0) (base : t.phase = .base) :
    ((trainMeasureDone n s).atlas[n].train.map fun t => (t.bSum, t.bCnt, t.waiting, t.i)) = some (t.sum, t.cnt, true, 0) := by
  have requests : trainMeasureDone n s = trainRequest n { t with bSum := t.sum, bCnt := t.cnt, i := 0, up := true } true .step s := by
    simp only [trainMeasureDone, run, measures, skipped, complete, base, Bool.false_eq_true, Nat.lt_irrefl, or_self, if_false]
  obtain ⟨tid, waits⟩ := trainRequest_waits s n { t with bSum := t.sum, bCnt := t.cnt, i := 0, up := true } true .step
  rw [requests, waits, Option.map_some]

/-- Settles O23: a run starts by its register or its interval, and each event acts by the branch of its operation. -/
theorem lineTapTrainingComplete : Obligations.LineTapTrainingComplete := by
  intro s n running
  refine ⟨fun o v ok => ⟨completesWrite_of_ok s rfl ok, trainStart_accepted s n o v⟩, fun mode locked idle => ?interval,
    fun m fr x taken => ?request, fun m fr x t taken run waits => ?status, fun t run waits late => ⟨?timeout, fun step => trainAnswer_fails s n step⟩,
    fun t run measures skipped complete base => ?measured⟩
  case interval =>
    have starts : trainInterval n s = trainStart n s := if_pos ⟨mode, locked⟩
    exact ⟨_, starts ▸ completes_of_outcome s (g := trainInterval n) rfl running, trainStart_starts s n idle⟩
  case request => exact ⟨_, completes_of_outcome s (g := tapReqReceive n) rfl running, tapReqReceive_answers s n taken⟩
  case status =>
    have runs : Completes (.tapStatusReceive n) s (tapStatusReceive n s) := completes_of_outcome s rfl running
    rw [tapStatusReceive_taken s n taken run waits] at runs
    refine ⟨fun strange => ?_, fun own timeout => ?_, fun own answer => ?_⟩
    · rwa [if_pos strange] at runs
    · rwa [if_neg (not_not_intro own), if_pos timeout] at runs
    · rwa [if_neg (not_not_intro own), if_neg answer] at runs
  case timeout =>
    have answers : tapReqTimeout n s = trainAnswer n t none s := by simp only [tapReqTimeout, run, waits, late, and_self, if_true]
    exact answers ▸ completes_of_outcome s (g := tapReqTimeout n) rfl running
  case measured =>
    exact ⟨_, completes_of_outcome s (g := trainMeasureDone n) rfl running, trainMeasureDone_base s n run measures skipped complete base⟩

end Sys2Proof.Machine
end

section
/-!
PROOF. The way of payload to the host: poison, the poison point, termination and the deframer set no register but the poison counters, and
leave the decoder pool and the number of each lane's next codeword (R155, R165, R166).
-/
namespace Sys2Proof.Machine

variable {s t u : State}

/-! ### Views of a lane's framing -/

/-- A view of a lane's framing that an update of any lane keeps. -/
theorem modFrm_keeps {β : Type} (v : FrmSt → β) {g : FrmSt → FrmSt} (keeps : ∀ f, v (g f) = v f) (s : State) (k n : Fin 8) :
    v (modFrm k g s).frm[n] = v s.frm[n] := by
  rw [modFrm_frm]
  by_cases same : n = k
  · subst same
    rw [vmod_same, keeps]
  · rw [vmod_ne _ same]

theorem modFrm_same (n : Fin 8) (g : FrmSt → FrmSt) (s : State) : (modFrm n g s).frm[n] = g s.frm[n] := by rw [modFrm_frm, vmod_same]
theorem modFrm_other {k n : Fin 8} (other : n ≠ k) (g : FrmSt → FrmSt) (s : State) : (modFrm k g s).frm[n] = s.frm[n] := by
  rw [modFrm_frm, vmod_ne _ other]

/-! ### Fields that a step sets -/

/-- A register of which no field is set. -/
theorem Sets.reg {T : Nat → Fld → Prop} (h : Sets T s t) {b : Nat} (m : ∀ g, Misses T b g) : t.reg b = s.reg b := by
  have whole : ∀ w : Word, Fld.get { lo := 0, w := 32, ty := .ro, rst := 0 } w = w.toNat := fun w => by
    rw [Fld.get, pow_zero, Nat.div_one, Nat.mod_eq_of_lt w.isLt]
  refine BitVec.eq_of_toNat_eq ?_
  rw [← whole, ← whole]
  exact h.fld (m _)

theorem Sets.forLanes {T : Nat → Fld → Prop} {g : Fin 8 → State → State} (h : Sets T s t) (step : ∀ n u, Sets T u (g n u)) :
    Sets T s (forLanes g t) := h.foldl _ fun n _ u => step n u

/-- The poison counters. -/
inductive PoisonBook : Nat → Fld → Prop
  | count (k : Nat) (f : Fld) : PoisonBook (R.FEC_LN_POISON k) f

theorem misses_poison {b : Nat} (away : b < 0x1010000 ∨ b % 0x1000 ≠ 0x14) (journal : b ≠ R.SAF_JNL_STATUS) (g : Fld) : Misses PoisonBook b g := by
  refine ⟨journal, fun a f w => .inl ?_⟩
  cases w with
  | count k => unfold R.FEC_LN_POISON; omega

/-! ### Payload that passes -/

/-- From `s` to `t` payload goes toward the host: only poison counters are set, and the decoder pool and each lane's next codeword stay. -/
structure Passed (s t : State) : Prop where
  sets : Sets PoisonBook s t
  cores : t.cores = s.cores
  next : ∀ k : Fin 8, t.frm[k].cwNext = s.frm[k].cwNext

namespace Passed

theorem refl : Passed s s := ⟨.refl, rfl, fun _ => rfl⟩

theorem trans (h : Passed s t) (g : Passed t u) : Passed s u :=
  ⟨h.sets.trans g.sets, g.cores.trans h.cores, fun k => (g.next k).trans (h.next k)⟩

/-- A change of another unit. -/
theorem unit (h : Passed s t) (regs : u.regs = t.regs := by rfl) (cores : u.cores = t.cores := by rfl) (frm : u.frm = t.frm := by rfl) :
    Passed s u := ⟨h.sets.of_regs regs, cores.trans h.cores, fun k => by rw [frm]; exact h.next k⟩

theorem modFrm (h : Passed s t) (n : Fin 8) {g : FrmSt → FrmSt} (keeps : ∀ f, (g f).cwNext = f.cwNext) : Passed s (modFrm n g t) :=
  ⟨h.sets.of_regs, h.cores, fun k => (modFrm_keeps FrmSt.cwNext keeps t n k).trans (h.next k)⟩

theorem ite (h : Passed s t) (g : Passed s u) (c : Prop) [Decidable c] : Passed s (if c then t else u) := by
  split
  · exact h
  · exact g

theorem foldl {α : Type} {g : State → α → State} (h : Passed s t) (l : List α) (step : ∀ x u, Passed u (g u x)) : Passed s (l.foldl g t) :=
  List.foldlRecOn l g (motive := Passed s) h fun u hu x _ => hu.trans (step x u)

end Passed

theorem passed_poisonMark (n : Fin 8) (l : List PMark) (s : State) : Passed s (poisonMark false n l s) := by
  have marked (g : Fin 8 → List PMark) (ks : List (Fin 8)) : Passed s (ks.foldl (fun t k => addMarks false (g k) k t) s) :=
    Passed.refl.foldl ks fun k u => Passed.refl.modFrm k fun _ => rfl
  have counted (t : State) (h : Passed s t) (k : Nat) (f : Fld) (x : Nat) : Passed s (t.addSat (R.FEC_LN_POISON k) f x) :=
    ⟨h.sets.addSat (.count k f) x, h.cores, h.next⟩
  exact counted _ (marked _ _) _ _ _

theorem passed_poisonBits (n : Fin 8) (pos len : Nat) (s : State) : Passed s (poisonBits false n pos len s) := passed_poisonMark n _ s

theorem passed_sg1Poison (n : Fin 8) (len : Nat) (s : State) : Passed s (sg1Poison false n len s) :=
  (passed_poisonBits n _ len s).ite .refl _

theorem passed_toHost (n : Fin 8) (l : List (Option Bool)) (s : State) : Passed s (toHost n l s) :=
  ((passed_sg1Poison n l.length s).trans (Passed.unit .refl)).modFrm n fun _ => rfl

theorem passed_monSees (n : Fin 8) (l : List (Option Bool)) (s : State) : Passed s (monSees false n l s) := by
  unfold monSees
  split
  · exact Passed.refl.modFrm n fun _ => rfl
  · exact .refl

theorem passed_deliver (n : Fin 8) (bad : Bool) (l : List PayBit) (s : State) : Passed s (deliver n bad l s) := by
  have seen : Passed s (monSees false n (l.map fun x => some x.bit) (if bad then poisonBits false n (rxEnd s n) l.length s else s)) :=
    ((passed_poisonBits n _ _ s).ite .refl _).trans (passed_monSees n _ _)
  have goes (t : State) (h : Passed s t) : Passed s (if octOn t n then modFrm n (fun f => { f with oct := f.oct ++ l }) t
      else toHost n (l.map fun x => some x.bit) t) := by
    split
    · exact h.modFrm n fun _ => rfl
    · exact h.trans (passed_toHost n _ t)
  exact goes _ seen

theorem passed_deliverPlain (n : Fin 8) (l : List (Option Bool)) (s : State) : Passed s (deliverPlain n l s) :=
  (passed_monSees n l s).trans (passed_toHost n l _)

theorem passed_deframe (n : Fin 8) (i carried : Nat) (bad : Bool) (info : List PayBit) (s : State) : Passed s (deframe n i carried bad info s) :=
  Passed.refl.foldl _ fun q u => passed_deliver q.1 bad _ u

theorem passed_cwKeep (lanes : List (Fin 8)) (frames : List Nat) (idx : Nat) (out : CwOut) (s : State) :
    Passed s (cwKeep lanes frames idx out s) := Passed.refl.foldl _ fun p _ => Passed.refl.modFrm p.1 fun _ => rfl

theorem passed_octPass (n : Fin 8) (k : Nat) (s : State) : Passed s (octPass n k s) :=
  Passed.trans (t := modFrm n (fun f => { f with oct := f.oct.drop k, octNext := 0 }) s) (Passed.refl.modFrm n fun _ => rfl) (passed_toHost n _ _)

theorem passed_octRelease (n : Fin 8) (s : State) : Passed s (octRelease n s) := Passed.refl.foldl _ fun i u => passed_octPass i _ u

end Sys2Proof.Machine
end

section
/-!
PROOF. Codewords that enter and leave the decoders (R159 to R163).
-/
namespace Sys2Proof.Machine

variable (s : State) (n : Fin 8)

/-! ### The counter of codewords -/

theorem misses_codewords (g : Fld) : Misses PoisonBook (R.FEC_LN_CW n) g :=
  misses_poison (.inr (by unfold R.FEC_LN_CW; omega)) (by unfold R.FEC_LN_CW R.SAF_JNL_STATUS; omega) g

/-- The counter counts one codeword, modulo 2^32. -/
theorem codewords_counted : (s.addWrap (R.FEC_LN_CW n) F.FEC_LN_CW_CODEWORDS 1).fld (R.FEC_LN_CW n) F.FEC_LN_CW_CODEWORDS =
    (s.fld (R.FEC_LN_CW n) F.FEC_LN_CW_CODEWORDS + 1) % 2 ^ 32 := s.fld_setFld _ _ _ (by unfold Fld.fits; decide)

/-- What a codeword's end counts beside it: its corrected bits, or that it did not converge. -/
def outcomeCounted (conv : Bool) (corr : Nat) : State :=
  if conv then s.addWrap (R.FEC_LN_BITS n) F.FEC_LN_BITS_CORR_BITS corr else s.addWrap (R.FEC_LN_NC n) F.FEC_LN_NC_NONCONV 1

theorem outcomeCounted_codewords (conv : Bool) (corr : Nat) (g : Fld) :
    (outcomeCounted s n conv corr).fld (R.FEC_LN_CW n) g = s.fld (R.FEC_LN_CW n) g := by
  have bits : R.FEC_LN_CW n ≠ R.FEC_LN_BITS n := by unfold R.FEC_LN_CW R.FEC_LN_BITS; omega
  have failures : R.FEC_LN_CW n ≠ R.FEC_LN_NC n := by unfold R.FEC_LN_CW R.FEC_LN_NC; omega
  unfold outcomeCounted
  split
  · exact s.fld_setFld_ne bits _ g _
  · exact s.fld_setFld_ne failures _ g _

theorem outcomeCounted_rest (conv : Bool) (corr : Nat) : (outcomeCounted s n conv corr).cores = s.cores ∧ (outcomeCounted s n conv corr).frm = s.frm := by
  unfold outcomeCounted
  split <;> exact ⟨rfl, rfl⟩

/-! ### Standard codewords (R163) -/

/-- A Standard codeword has been taken from the lane's frame, and counted. -/
def stdTaken : State :=
  modFrm n (fun f => { f with cwNext := s.frm[n].cwNext + 1, stdLock := true }) (s.addWrap (R.FEC_LN_CW n) F.FEC_LN_CW_CODEWORDS 1)

/-- A Standard codeword is counted, and the next one follows. -/
theorem stdAssembled_counts : (stdAssembled n s).fld (R.FEC_LN_CW n) F.FEC_LN_CW_CODEWORDS =
      (s.fld (R.FEC_LN_CW n) F.FEC_LN_CW_CODEWORDS + 1) % 2 ^ 32 ∧
    (stdAssembled n s).frm[n].cwNext = s.frm[n].cwNext + 1 := by
  obtain ⟨conv, corr, passed⟩ : ∃ conv corr, Passed (outcomeCounted (stdTaken s n) n conv corr) (stdAssembled n s) :=
    ⟨_, _, (passed_cwKeep _ _ _ _ _).trans (passed_deliverPlain n _ _)⟩
  constructor
  · rw [passed.sets.fld (misses_codewords n _), outcomeCounted_codewords, stdTaken, modFrm_fld, codewords_counted]
  · rw [passed.next n, (outcomeCounted_rest _ n conv corr).2, stdTaken, modFrm_same]

/-! ### Deep codewords (R158 to R161) -/

/-- A Deep codeword has been taken from the frame of the lanes that it is spread over. -/
def deepTaken : State := modFrm (spreadLead s n) (fun f => { f with cwNext := s.frm[spreadLead s n].cwNext + 1 }) s

theorem deepTaken_next : (deepTaken s n).frm[spreadLead s n].cwNext = s.frm[spreadLead s n].cwNext + 1 := by rw [deepTaken, modFrm_same]

section
variable {s n} (aligned : framesAligned s n = true) (left : s.frm[spreadLead s n].cwNext < 128 * (spreadLanes s n).length)
include aligned left

theorem not_exhausted : ¬(128 * (spreadLanes s n).length ≤ s.frm[spreadLead s n].cwNext ∨ (!framesAligned s n) = true) :=
  not_or.mpr ⟨Nat.not_le.mpr left, by rw [aligned]; decide⟩

/-- The next codeword of the frame takes a core. -/
theorem deepAssembled_starts (inRange : deskewOk s n = true) (free : s.cores.length < 128) :
    (deepAssembled n s).cores.length = s.cores.length + 1 ∧
    (deepAssembled n s).frm[spreadLead s n].cwNext = s.frm[spreadLead s n].cwNext + 1 ∧ (deepAssembled n s).regs = s.regs := by
  have near : ¬(!deskewOk (deepTaken s n) n) = true := (congrArg (fun b => ¬(!b) = true) inRange).mpr (by decide)
  obtain ⟨w, starts⟩ : ∃ w, deepAssembled n s = { deepTaken s n with cores := s.cores ++ [w] } :=
    ⟨_, (if_neg (not_exhausted aligned left)).trans ((if_neg near).trans (if_pos free))⟩
  rw [starts]
  exact ⟨List.length_append, deepTaken_next s n, rfl⟩

/-- With the port skewed beyond the deskew range the codeword passes by the decoder. -/
theorem deepAssembled_passes (skewed : deskewOk s n = false) : (deepAssembled n s).cores = s.cores ∧
    (deepAssembled n s).frm[spreadLead s n].cwNext = s.frm[spreadLead s n].cwNext + 1 := by
  have far : (!deskewOk (deepTaken s n) n) = true := (congrArg (fun b => (!b) = true) skewed).mpr rfl
  obtain ⟨carried, info, passes⟩ : ∃ carried info, deepAssembled n s =
      deframe (spreadLead s n) s.frm[spreadLead s n].cwNext carried true info (deepTaken s n) :=
    ⟨_, _, (if_neg (not_exhausted aligned left)).trans (if_pos far)⟩
  have passed := passed_deframe (spreadLead s n) s.frm[spreadLead s n].cwNext carried true info (deepTaken s n)
  rw [passes]
  exact ⟨passed.cores, (passed.next _).trans (deepTaken_next s n)⟩

end

/-! ### The end of a window (R160, R161) -/

/-- The free values that a decoder draws. -/
def Drawn (s t : State) : Prop := ∃ k, t = { s with freeCtr := k }

theorem Drawn.refl : Drawn s s := ⟨s.freeCtr, rfl⟩

theorem Drawn.trans {s t u : State} (h : Drawn s t) (g : Drawn t u) : Drawn s u := by
  obtain ⟨k, rfl⟩ := h
  obtain ⟨j, rfl⟩ := g
  exact ⟨j, rfl⟩

theorem drawn_scaleMsg (norm m : Nat) : Drawn s (scaleMsg norm m s).2 := by
  unfold scaleMsg
  split
  · exact .refl s
  · exact ⟨_, rfl⟩

theorem drawn_checkRow (c : InnerCode) (norm k : Nat) (d : DecState) : Drawn d.s (checkRow c norm k d).s :=
  (drawn_scaleMsg d.s norm _).trans (drawn_scaleMsg _ norm _)

theorem drawn_iteration (c : InnerCode) (norm : Nat) (d : DecState) : Drawn d.s (iteration c norm d).s :=
  List.foldlRecOn (motive := fun e : DecState => Drawn d.s e.s) _ _ (.refl _) fun e h k _ => h.trans (drawn_checkRow c norm k e)

theorem drawn_iterate (c : InnerCode) (w : DecWin) (k it : Nat) (d : DecState) : Drawn d.s (iterate c w k it d).2.s := by
  induction k generalizing it d with
  | zero => exact .refl _
  | succ k ih =>
    rw [iterate]
    split
    · exact drawn_iteration c w.norm d
    · exact (drawn_iteration c w.norm d).trans (ih _ _)

theorem drawn_ldpcDecode (c : InnerCode) (w : DecWin) : Drawn s (ldpcDecode c w s).2.2.2 := drawn_iterate c w w.cap 0 _

/-- The lane's oldest window has left the decoder pool. -/
def coreFreed : State := { s with cores := s.cores.eraseP fun w => w.lane == n.val }

theorem coreFreed_length {w : DecWin} (oldest : s.cores.find? (fun w => w.lane == n.val) = some w) :
    (coreFreed s n).cores.length + 1 = s.cores.length := by
  have held : 0 < s.cores.length := List.length_pos_of_mem (List.mem_of_find?_eq_some oldest)
  have erased : (coreFreed s n).cores.length = s.cores.length - 1 :=
    List.length_eraseP_of_mem (List.mem_of_find?_eq_some oldest) (List.find?_some (p := fun w : DecWin => w.lane == n.val) oldest)
  omega

/-- The decoder's figures of the epoch take in the iterations of a window. -/
theorem passed_iterations (it : Nat) : Passed s (modFrm n (fun f => { f with
    iterSum := f.iterSum + it, iterCnt := f.iterCnt + 1, iterMax := max f.iterMax it }) s) := Passed.refl.modFrm n fun _ => rfl

/-- A window's end frees its core, and its codeword is counted. -/
theorem decodeWindowEnd_leaves {w : DecWin} (oldest : s.cores.find? (fun w => w.lane == n.val) = some w) :
    (decodeWindowEnd n s).cores.length + 1 = s.cores.length ∧ (decodeWindowEnd n s).fld (R.FEC_LN_CW n) F.FEC_LN_CW_CODEWORDS =
      (s.fld (R.FEC_LN_CW n) F.FEC_LN_CW_CODEWORDS + 1) % 2 ^ 32 := by
  obtain ⟨t, drawn, conv, corr, passed⟩ : ∃ t, Drawn (coreFreed s n) t ∧ ∃ conv corr,
      Passed (outcomeCounted (t.addWrap (R.FEC_LN_CW n) F.FEC_LN_CW_CODEWORDS 1) n conv corr) (decodeWindowEnd n s) := by
    refine ⟨_, drawn_ldpcDecode (coreFreed s n) .deep w, ?_⟩
    unfold decodeWindowEnd
    rw [oldest]
    exact ⟨_, _, ((passed_iterations _ n _).trans (passed_cwKeep _ _ _ _ _)).trans (passed_deframe n _ _ false _ _)⟩
  obtain ⟨k, rfl⟩ := drawn
  constructor
  · rw [passed.cores, (outcomeCounted_rest _ n conv corr).1]
    exact coreFreed_length s n oldest
  · rw [passed.sets.fld (misses_codewords n _), outcomeCounted_codewords, codewords_counted]
    rfl

end Sys2Proof.Machine
end

section
/-!
PROOF. Outer-code termination: the bits that pass undecoded, the codeword that is decoded, and the group that goes on (R165, R166).
-/
namespace Sys2Proof.Machine

variable (s : State) (n : Fin 8)

/-! ### What the way to the host leaves of a lane -/

section
variable {β : Type} (v : FrmSt → β) (marks : ∀ f l, v { f with rxMarks := l } = v f) (i k : Fin 8)
include marks

theorem poisonMark_keeps (l : List PMark) : v (poisonMark false i l s).frm[k] = v s.frm[k] :=
  foldl_keeps s (fun t => v t.frm[k]) (fun t j => modFrm_keeps v (fun f => marks f _) t j k) _

theorem sg1Poison_keeps (len : Nat) : v (sg1Poison false i len s).frm[k] = v s.frm[k] := by
  have either : sg1Poison false i len s = poisonBits false i (posOf s false i) len s ∨ sg1Poison false i len s = s := ite_eq_or_eq _ _ _
  rcases either with poisoned | clean
  · rw [poisoned]
    exact poisonMark_keeps s v marks i k _
  · rw [clean]

/-- Another lane's place in its stream stays as well. -/
theorem toHost_keeps (l : List (Option Bool)) (own : k = i → ∀ f p m, v { f with rxPos := p, rxMarks := m } = v f) :
    v (toHost i l s).frm[k] = v s.frm[k] := by
  refine Eq.trans ?_ (sg1Poison_keeps s v marks i k l.length)
  unfold toHost passPoison
  rw [modFrm_frm]
  by_cases same : k = i
  · subst same
    rw [vmod_same]
    exact own rfl _ _ _
  · rw [vmod_ne _ same]

end

/-- What of a lane's framing says which bits wait for termination, and where they lie. -/
def FrmSt.waiting (f : FrmSt) : List PayBit × Nat × Nat × Nat := (f.oct, f.octNext, f.rxPos, f.rxBase)

/-- What termination on a lane goes by, beside the settings. -/
def waitView (t : State) : (List PayBit × Nat × Nat × Nat) × Word := (t.frm[n].waiting, t.reg R.FEC_PROFILE)

theorem profile_of_passed {t : State} (h : Passed s t) : t.reg R.FEC_PROFILE = s.reg R.FEC_PROFILE :=
  h.sets.reg fun g => misses_poison (.inl (by decide)) (by decide) g

theorem octPass_other {i : Fin 8} (other : i ≠ n) (k : Nat) : waitView n (octPass i k s) = waitView n s := by
  have own : n ≠ i := fun e => other e.symm
  refine Prod.ext ?_ (profile_of_passed s (passed_octPass i k s))
  exact (toHost_keeps _ FrmSt.waiting (fun _ _ => rfl) i n _ fun e => absurd e own).trans (congrArg FrmSt.waiting (modFrm_other own _ s))

theorem octPass_own (k : Nat) : (octPass n k s).frm[n].oct = s.frm[n].oct.drop k ∧ (octPass n k s).frm[n].octNext = 0 := by
  have kept := toHost_keeps (modFrm n (fun f => { f with oct := f.oct.drop k, octNext := 0 }) s) (fun f => (f.oct, f.octNext)) (fun _ _ => rfl) n n
    ((s.frm[n].oct.take k).map fun x => some x.bit) fun _ _ _ _ => rfl
  rw [modFrm_same] at kept
  exact ⟨congrArg Prod.fst kept, congrArg Prod.snd kept⟩

/-! ### The lanes of a port in turn -/

theorem mem_lanesOfPort : n ∈ lanesOfPort s (portOfLane s n) := by simp [lanesOfPort]

theorem lanesOfPort_nodup (p : Nat) : (lanesOfPort s p).Nodup := (List.nodup_finRange 8).filter _

/-- Of the lanes of a port that are gone through, lane `n` alone changes what it goes by. -/
theorem foldl_own {β : Type} (v : State → β) {g : State → Fin 8 → State} (others : ∀ t i, i ≠ n → v (g t i) = v t) {l : List (Fin 8)}
    (once : l.Nodup) (mem : n ∈ l) : ∃ t, v t = v s ∧ v (l.foldl g s) = v (g t n) := by
  obtain ⟨before, after, rfl⟩ := List.append_of_mem mem
  obtain ⟨-, tail, apart⟩ := List.nodup_append.mp once
  have rest (l : List (Fin 8)) (away : ∀ i ∈ l, i ≠ n) (t : State) : v (l.foldl g t) = v t :=
    List.foldlRecOn l g (motive := fun u => v u = v t) rfl fun u h i hi => (others u i (away i hi)).trans h
  refine ⟨before.foldl g s, rest before (fun i hi => apart i hi n List.mem_cons_self) s, ?_⟩
  rw [List.foldl_append, List.foldl_cons]
  exact rest after (fun i hi e => (List.nodup_cons.mp tail).1 (e ▸ hi)) _

/-- A group of waiting codewords has left, and the first of the next one follows. -/
theorem octRelease_own : (octRelease n s).frm[n].oct = s.frm[n].oct.drop (groupBits s) ∧ (octRelease n s).frm[n].octNext = 0 := by
  obtain ⟨t, before, after⟩ := foldl_own s n (waitView n) (g := fun t i => octPass i (groupBits s) t) (fun t i other => octPass_other t n other _)
    (lanesOfPort_nodup s _) (mem_lanesOfPort s n)
  obtain ⟨dropped, first⟩ := octPass_own t n (groupBits s)
  have same : t.frm[n].oct = s.frm[n].oct := congrArg (fun x => x.1.1) before
  exact ⟨(congrArg (fun x => x.1.1) after).trans (same ▸ dropped), (congrArg (fun x => x.1.2.1) after).trans first⟩

/-! ### One codeword -/

/-- The bits of codeword `c` of the group that waits. -/
def octBits (c : Nat) : List PayBit :=
  kp4Bits (kp4Places (lanesOfPort s (portOfLane s n)).length c) ((lanesOfPort s (portOfLane s n)).map fun i => s.frm[i].oct.toArray) { bit := false }

theorem octBits_eq (c : Nat) : octBits s n c = (kp4Places (lanesOfPort s (portOfLane s n)).length c).map fun p =>
    (lanesOfPort s (portOfLane s n))[p.1]?.elim { bit := false } fun i => (s.frm[i].oct[p.2]?).getD { bit := false } := by
  refine List.map_congr_left fun p _ => ?_
  rw [List.getElem?_map]
  cases (lanesOfPort s (portOfLane s n))[p.1]? <;> simp [Array.getD_eq_getD_getElem?]

/-- What the decoder makes of bits of the lane's port. -/
def octResult (bits : List PayBit) : Option (List Nat × Nat) :=
  octDecode (rsSymbols 544 (bits.map (·.bit))) (erasures (s.actFld (laneKey R.FEC_OCT_CFG n) F.FEC_OCT_CFG_ERASE_THRESH)
    (min 30 (s.actFld (laneKey R.FEC_OCT_CFG n) F.FEC_OCT_CFG_ERASE_MAX)) (rsWeak 544 0 bits))

theorem octStore_regs (lanes : List (Fin 8)) (places : List (Nat × Nat)) (bits : List Bool) : (octStore lanes places bits s).regs = s.regs :=
  foldl_keeps s State.regs (fun t p => by split <;> rfl) _

theorem octStore_length (lanes : List (Fin 8)) (places : List (Nat × Nat)) (bits : List Bool) :
    (octStore lanes places bits s).frm[n].oct.length = s.frm[n].oct.length :=
  foldl_keeps s (fun t => t.frm[n].oct.length) (fun t p => by
    split
    · rfl
    · exact modFrm_keeps (fun f => f.oct.length) (fun _ => List.length_modify ..) t _ n) _

/-- A codeword that is decoded is stored and counted by its corrections. -/
theorem octOne_decoded {c : Nat} {x : List Nat × Nat} (got : octResult s n (octBits s n c) = some x) : ∃ lanes places bits,
    octOne n c s = octStore lanes places bits (s.addWrap (R.FEC_LN_OCT n) F.FEC_LN_OCT_OCT_CORR_SYM x.2) := by
  unfold octResult octBits at got
  unfold octOne
  dsimp only
  rw [got]
  exact ⟨_, _, _, rfl⟩

/-- One that is not is counted, and poisoned where the settings ask for it. -/
theorem octOne_uncorrectable {c : Nat} (got : octResult s n (octBits s n c) = none) : ∃ marks,
    octOne n c s = s.addSat (R.FEC_LN_OCT n) F.FEC_LN_OCT_OCT_UNCORR 1 ∨
    octOne n c s = poisonMark false n marks (s.addSat (R.FEC_LN_OCT n) F.FEC_LN_OCT_OCT_UNCORR 1) := by
  unfold octResult octBits at got
  unfold octOne
  dsimp only
  rw [got]
  dsimp only
  split
  · exact ⟨_, .inr rfl⟩
  · exact ⟨[], .inl rfl⟩

theorem octOne_length (c : Nat) : (octOne n c s).frm[n].oct.length = s.frm[n].oct.length := by
  cases got : octResult s n (octBits s n c) with
  | some x =>
    obtain ⟨lanes, places, bits, decoded⟩ := octOne_decoded s n got
    rw [decoded, octStore_length]
    rfl
  | none =>
    obtain ⟨marks, counted | poisoned⟩ := octOne_uncorrectable s n got
    · rw [counted]
      rfl
    · rw [poisoned]
      exact poisonMark_keeps _ (fun f => f.oct.length) (fun _ _ => rfl) n n marks

theorem misses_oct (g : Fld) : Misses PoisonBook (R.FEC_LN_OCT n) g :=
  misses_poison (.inr (by unfold R.FEC_LN_OCT; omega)) (by unfold R.FEC_LN_OCT R.SAF_JNL_STATUS; omega) g

theorem octOne_corrects {c : Nat} {x : List Nat × Nat} (got : octResult s n (octBits s n c) = some x) : let a := R.FEC_LN_OCT n
    (octOne n c s).fld a F.FEC_LN_OCT_OCT_CORR_SYM = (s.fld a F.FEC_LN_OCT_OCT_CORR_SYM + x.2) % 2 ^ 24 ∧
    (octOne n c s).fld a F.FEC_LN_OCT_OCT_UNCORR = s.fld a F.FEC_LN_OCT_OCT_UNCORR := by
  intro a
  obtain ⟨lanes, places, bits, decoded⟩ := octOne_decoded s n got
  rw [decoded, fld_of_regs (octStore_regs _ _ _ _), fld_of_regs (octStore_regs _ _ _ _)]
  exact ⟨s.fld_setFld _ _ _ (by unfold Fld.fits; decide), s.fld_setFld_apart _ _ _ _ (by unfold Fld.fits; decide) (by unfold Fld.apart; decide)⟩

theorem octOne_fails {c : Nat} (got : octResult s n (octBits s n c) = none) : let a := R.FEC_LN_OCT n
    (octOne n c s).fld a F.FEC_LN_OCT_OCT_UNCORR = min 127 (s.fld a F.FEC_LN_OCT_OCT_UNCORR + 1) ∧
    (octOne n c s).fld a F.FEC_LN_OCT_OCT_CORR_SYM = s.fld a F.FEC_LN_OCT_OCT_CORR_SYM := by
  intro a
  have counted : Sets PoisonBook (s.addSat a F.FEC_LN_OCT_OCT_UNCORR 1) (octOne n c s) := by
    obtain ⟨marks, counted | poisoned⟩ := octOne_uncorrectable s n got
    · exact counted ▸ .refl
    · exact poisoned ▸ (passed_poisonMark n marks _).sets
  have small : min 127 (s.fld a F.FEC_LN_OCT_OCT_UNCORR + 1) < 2 ^ 7 := by omega
  rw [counted.fld (misses_oct n _), counted.fld (misses_oct n _)]
  exact ⟨(s.fld_setFld _ _ _ (by unfold Fld.fits; decide)).trans (Nat.mod_eq_of_lt small),
    s.fld_setFld_apart _ _ _ _ (by unfold Fld.fits; decide) (by unfold Fld.apart; decide)⟩

/-! ### OCT_CODEWORD -/

/-- One codeword has been terminated, and the group's next one follows. -/
def octStepped : State := modFrm n (fun f => { f with octNext := s.frm[n].octNext + 1 }) (octOne n s.frm[n].octNext s)

/-- The codewords of the group are taken in order, and after the fourth the group goes on. -/
def octTaken : State := if 3 ≤ s.frm[n].octNext then octRelease n (octStepped s n) else octStepped s n

theorem octTaken_next : (octTaken s n).frm[n].octNext = if 3 ≤ s.frm[n].octNext then 0 else s.frm[n].octNext + 1 := by
  unfold octTaken
  split
  · exact (octRelease_own _ n).2
  · rw [octStepped, modFrm_same]

theorem octTaken_fld (g : Fld) : (octTaken s n).fld (R.FEC_LN_OCT n) g = (octOne n s.frm[n].octNext s).fld (R.FEC_LN_OCT n) g := by
  unfold octTaken
  split
  · exact (passed_octRelease n _).sets.fld (misses_oct n g)
  · rfl

/-- The bits that precede a group have passed on every lane of the port. -/
def leadPassed : State :=
  (lanesOfPort s (portOfLane s n)).foldl (fun s i => if octLead s i = 0 then s else octPass i (octLead s i) s) s

theorem leadPassed_of_none (clear : ((lanesOfPort s (portOfLane s n)).all fun i => octLead s i == 0) = true) : leadPassed s n = s := by
  refine List.foldlRecOn _ _ (motive := fun t => t = s) rfl fun t same i member => ?_
  subst same
  exact if_pos (eq_of_beq (List.all_eq_true.mp clear i member))

/-- With bits ahead of the group the lane has none of its codewords begun. -/
theorem leadPassed_own (ahead : octLead s n ≠ 0) : (leadPassed s n).frm[n].oct = s.frm[n].oct.drop (octLead s n) ∧
    (leadPassed s n).frm[n].octNext = 0 := by
  have others (t : State) (i : Fin 8) (other : i ≠ n) : waitView n (if octLead t i = 0 then t else octPass i (octLead t i) t) = waitView n t := by
    split
    · rfl
    · exact octPass_other t n other _
  obtain ⟨t, before, after⟩ := foldl_own s n (waitView n) others (lanesOfPort_nodup s _) (mem_lanesOfPort s n)
  have lead : octLead t n = octLead s n := by
    have profile : t.reg R.FEC_PROFILE = s.reg R.FEC_PROFILE := congrArg (·.2) before
    have place : t.frm[n].rxPos = s.frm[n].rxPos := congrArg (·.1.2.2.1) before
    have base : t.frm[n].rxBase = s.frm[n].rxBase := congrArg (·.1.2.2.2) before
    simp only [octLead, groupBits, portCfg, State.fld, profile, place, base]
  rw [lead, if_neg ahead] at after
  obtain ⟨dropped, first⟩ := octPass_own t n (octLead s n)
  have same : t.frm[n].oct = s.frm[n].oct := congrArg (fun x => x.1.1) before
  exact ⟨(congrArg (fun x => x.1.1) after).trans (same ▸ dropped), (congrArg (fun x => x.1.2.1) after).trans first⟩

section
variable {s n} (on : (octOn s n && isLead s n) = true)
include on

theorem octCodeword_locked (lock : dirLocked s false n = true) :
    octCodeword n s = if octWhole (leadPassed s n) n then octTaken (leadPassed s n) n else leadPassed s n := by
  unfold octCodeword
  rw [on, lock]
  rfl

theorem octCodeword_unlocked (free : dirLocked s false n = false) : octCodeword n s = if octWhole s n then octRelease n s else s := by
  unfold octCodeword
  rw [on, free]
  rfl

/-- Bits that precede the group pass undecoded first. -/
theorem octCodeword_lead (lock : dirLocked s false n = true) (ahead : octLead s n ≠ 0) :
    (octCodeword n s).frm[n].oct.length = s.frm[n].oct.length - octLead s n := by
  obtain ⟨dropped, first⟩ := leadPassed_own s n ahead
  have passed : (leadPassed s n).frm[n].oct.length = s.frm[n].oct.length - octLead s n := by rw [dropped, List.length_drop]
  rw [octCodeword_locked on lock]
  split
  · rw [octTaken, first, if_neg (by decide), octStepped, modFrm_same]
    exact (octOne_length _ n _).trans passed
  · exact passed

end

end Sys2Proof.Machine
end

section
/-!
PROOF. Profile changes: what the steps of a change and what follows them leave of FEC_PROFILE (R149, R168).
-/
namespace Sys2Proof.Machine

variable {s t u : State}

/-! ### The host side -/

/-- What the host side's following sets: the monitors' status, and the lanes that are not steered. -/
inductive HostSideBook : Nat → Fld → Prop
  | mon (p : Fin 8) (d : Fin 2) (f : Fld) : HostSideBook (R.HOST_MON_STATUS p d) f
  | steer (k : Fin 8) : HostSideBook (R.LINE_PLL_STATUS k) F.LINE_PLL_STATUS_STEER_HOLD

theorem sets_monLose (p : Fin 8) (d : Fin 2) (s : State) : Sets HostSideBook s (monLose p d s) := by
  have lost : Sets HostSideBook s (((s.setFld (R.HOST_MON_STATUS p d) F.HOST_MON_STATUS_LOCK 0).raise1 (R.HOST_MON_STATUS p d)
      F.HOST_MON_STATUS_LOCK_LOSS (344 + 2 * p + d)).addSat (R.HOST_MON_STATUS p d) F.HOST_MON_STATUS_LOSS_COUNT 1) :=
    ((Sets.refl.setFld (.mon p d _) 0).raise1 (.mon p d _) _).addSat (.mon p d _) 1
  have emptied (t : State) : Sets HostSideBook t (monEmpty p d t) := (Sets.of_regs .refl).foldl _ fun _ _ _ => .of_regs .refl
  unfold monLose
  split
  · exact .refl
  · exact lost.of_regs.trans (emptied _)

theorem sets_steerFollow (s : State) : Sets HostSideBook s (steerFollow s) :=
  Sets.refl.forLanes fun n _ => (Sets.of_regs .refl).setFld (.steer n) _

theorem hostTxFollow_regs (s : State) : (hostTxFollow s).regs = s.regs :=
  foldl_keeps s State.regs (fun t i => by dsimp only; split <;> rfl) _

theorem sets_hostFollow (s : State) : Sets HostSideBook s (hostFollow s) := by
  have failures (g : Fin 8 → State → HostSt) : Sets HostSideBook s (forLanes (fun i u => { u with host := g i u }) s) :=
    Sets.refl.forLanes fun _ _ => .of_regs .refl
  have monitors (t : State) : Sets HostSideBook t ((List.finRange 8).foldl (fun s (p : Fin 8) => (List.finRange 2).foldl (fun s (d : Fin 2) =>
      if !portExists s p || portFails s p d then (if monLocked s p d then monLose p d s else monRestart p d s) else s) s) t) :=
    Sets.refl.foldl _ fun p _ u => Sets.refl.foldl _ fun d _ w => by
      split
      · exact (sets_monLose p d w).ite (.of_regs .refl) _
      · exact .refl
  exact (((failures _).trans (monitors _)).trans (sets_steerFollow _)).of_regs (hostTxFollow_regs _)

/-! ### FEC_PROFILE -/

/-- Every register but FEC_PROFILE. -/
def BesideProfile (a : Nat) (_ : Fld) : Prop := a ≠ R.FEC_PROFILE

theorem misses_besideProfile (g : Fld) : Misses BesideProfile R.FEC_PROFILE g := ⟨by decide, fun _ _ away => .inl (Ne.symm away)⟩

theorem beside_low {a : Nat} {f : Fld} (low : a < 0x1000000) : BesideProfile a f := by unfold BesideProfile R.FEC_PROFILE; omega
theorem beside_high {a : Nat} {f : Fld} (high : 0x1000000 < a) : BesideProfile a f := by unfold BesideProfile R.FEC_PROFILE; omega

theorem Passed.beside (h : Passed s t) : Sets BesideProfile s t := h.sets.mono fun a f w => by
  cases w with
  | count k => exact beside_high (by unfold R.FEC_LN_POISON; omega)

theorem Sets.besideHost (h : Sets HostSideBook s t) : Sets BesideProfile s t := h.mono fun a f w => by
  cases w with
  | mon p d => exact beside_low (by unfold R.HOST_MON_STATUS; omega)
  | steer k => exact beside_low (by unfold R.LINE_PLL_STATUS; omega)

theorem beside_hostFollow (s : State) : Sets BesideProfile s (hostFollow s) := (sets_hostFollow s).besideHost

theorem beside_atlasClearLanes (lanes : Nat) (s : State) : Sets BesideProfile s (atlasClearLanes lanes s) := by
  have status (n : Fin 8) (f : Fld) : BesideProfile (R.ATL_STATUS n) f := beside_high (by unfold R.ATL_STATUS; omega)
  have cleared (n : Fin 8) (t : State) : Sets BesideProfile t (atlasClear n t) := by
    have begun (x : Nat) : Sets BesideProfile t ((t.setFld R.ATL_CLEAR F.ATL_CLEAR_BUSY x).setFld (R.ATL_STATUS n) F.ATL_STATUS_CLEAR_BUSY 1) :=
      (Sets.refl.setFld (beside_high (by decide)) x).setFld (status n _) 1
    exact Sets.refl.ite (Sets.of_regs (((begun _).setFld (status n F.ATL_STATUS_DIST_ABORT) 1).ite (begun _) _)) _
  exact Sets.refl.forLanes fun n u => (cleared n u).ite .refl _

/-! ### Steps 1 to 3 (R168) -/

theorem beside_flightPoisoned (poison : Nat) (s : State) : Sets BesideProfile s (flightPoisoned poison s) := by
  have marked : Sets BesideProfile s (forLanes (fun n s => poisonBits false n s.frm[n].rxPos s.frm[n].oct.length (poisonRx n poison s)) s) :=
    Sets.refl.forLanes fun n u => ((passed_poisonMark _ _ u).trans (passed_poisonBits n _ _ _)).beside
  have emptied (t : State) : Sets BesideProfile t { t with cores := [] } := .of_regs .refl
  have left (t : State) (l : List DecWin) (info : DecWin → List PayBit) :
      Sets BesideProfile t (l.foldl (fun s w => deframe (lane w.lane) w.idx w.carried true (info w) s) t) :=
    Sets.refl.foldl _ fun w _ u => (passed_deframe _ _ _ true _ u).beside
  exact ((marked.trans (emptied _)).trans (left _ _ _)).forLanes fun n u => (passed_octPass n _ u).beside

theorem beside_seepUnsettle (n : Fin 8) (st : Option FiltStage) (s : State) : Sets BesideProfile s (seepUnsettle n st s) := by
  have status (f : Fld) : BesideProfile (R.SEEP_LN_STATUS n) f := beside_high (by unfold R.SEEP_LN_STATUS; omega)
  have emptied : Sets BesideProfile s (if st.isNone then modSeep n (fun l => { l with tee := {} }) s else s) := Sets.ite (.of_regs .refl) .refl _
  exact (emptied.of_regs.setFld (status _) 1).setFld (status _) _

theorem beside_rateChange (n : Fin 8) (rate : Nat) (s : State) : Sets BesideProfile s (rateChange n rate s) :=
  (Sets.refl.setFld (beside_low (by unfold R.LINE_PLL_CFG; omega)) rate).forLanes fun k u => (beside_seepUnsettle k none u).ite .refl _

theorem beside_atlasUnlocked (n : Fin 8) (s : State) : Sets BesideProfile s (atlasUnlocked n s) := by
  have ended : Sets BesideProfile s (trainEnd n false s) := by
    have training (x : Nat) : Sets BesideProfile s ((setTrain n none s).setFld (R.ATL_TRAIN n) F.ATL_TRAIN_TRAIN_STATE x) :=
      (Sets.of_regs .refl).setFld (beside_high (by unfold R.ATL_TRAIN; omega)) x
    simp only [trainEnd, Bool.false_eq_true, if_false]
    exact ((training _).raise1 (a := R.ATL_STATUS n) (beside_high (by unfold R.ATL_STATUS; omega)) _).of_regs
  exact ended.ite .refl _

theorem justEmpty_regs (n : Fin 8) (s : State) : (justEmpty n s).regs = s.regs := rfl

theorem streamsEnd_regs (n : Fin 8) (s : State) : (streamsEnd n s).regs = s.regs := by
  have emptied (l : List (Fin 8)) : (l.foldl (fun s k => justEmpty k s) s).regs = s.regs := foldl_keeps s State.regs (fun t k => justEmpty_regs k t) l
  unfold streamsEnd
  rw [modFrm_regs, modSig_regs]
  split
  · exact emptied _
  · rfl

theorem beside_profileLoad (n : Fin 8) (p : Profile) (kbd : Nat) (s : State) : Sets BesideProfile s (profileLoad n p kbd s) := by
  have well {a : Nat} (f : Fld) (low : a < 0x1000000 := by simp only [R.WELL_STATUS, R.WELL_IBANK, R.WELL_RX_STATUS]; omega) : BesideProfile a f :=
    beside_low low
  have cancelled : Sets BesideProfile s (cancelSwitch n s) := (sets_cancelSwitch n s).mono fun a f w => by
    refine beside_low ?_
    cases w with
    | pool w => cases w <;> simp only [R.WELL_POOL, R.WELL_QUAR0, R.WELL_QUAR1, R.WELL_STATUS, R.WELL_IBANK] <;> omega
    | region r => unfold R.CHIP_RERR; omega
    | bank small => unfold R.PUMP_STATE; omega
    | doorbell _ small => unfold R.MBX_DB_TOHOST; omega
    | _ => simp only [R.WELL_STATUS, R.WELL_IBANK, R.BOOT_RPR_COUNT, R.CHIP_FAULT_STATUS]; omega
  have begun (t : State) (l : Load) : Sets BesideProfile t (beginLoad n l t) :=
    Sets.of_regs ((Sets.refl.setFld (a := R.WELL_IBANK n) (well _) 1).setFld (a := R.WELL_IBANK n) (f := F.WELL_IBANK_BANK_VALID) (well _) _)
  have refused (t : State) : Sets BesideProfile t (loadErr n t) := Sets.refl.raise1 (well _) _
  have loads (t : State) (h : Sets BesideProfile s t) (l : Load) (c : Prop) [Decidable c] :
      Sets BesideProfile s (if c then beginLoad n l t else loadErr n t) := (h.trans (begun t l)).ite (h.trans (refused t)) c
  have reach (c : Prop) [Decidable c] : Sets BesideProfile s (if c then cancelSwitch n s else
      (cancelSwitch n s).raise1 (R.WELL_RX_STATUS n) F.WELL_RX_STATUS_REACH_ERR (32 + 16 * n + 12)) :=
    cancelled.ite (cancelled.raise1 (well _) _) _
  unfold profileLoad
  dsimp only
  split
  · exact cancelled
  · exact loads _ (reach _) _ _

theorem beside_biasClip (n : Fin 8) (s : State) : Sets BesideProfile s (biasClip n s) :=
  (Sets.refl.raise1 (beside_high (by unfold R.SEEP_LN_STATUS; omega)) _).ite .refl _

theorem beside_tablesReset (n : Fin 8) (s : State) : Sets BesideProfile s (tablesReset n s) :=
  (Sets.of_regs .refl).setFld (beside_low (by unfold R.WELL_RX_STATUS; omega)) _

theorem beside_profileLane (n : Fin 8) (p : Profile) (rate : Nat) (s : State) : Sets BesideProfile s (profileLane n p rate s) := by
  unfold profileLane
  extract_lets muted ended relock relocked hunting reframed restarted held
  have emptied : Sets BesideProfile s ended := ((Sets.of_regs .refl).trans (beside_atlasUnlocked n muted)).of_regs
    ((justEmpty_regs n _).trans (streamsEnd_regs n (atlasUnlocked n muted)))
  have clocked : Sets BesideProfile ended relocked := by
    have unlocked : Sets BesideProfile ended (ended.setFld (R.LINE_PLL_STATUS n) F.LINE_PLL_STATUS_LOCK 0) :=
      Sets.refl.setFld (beside_low (by unfold R.LINE_PLL_STATUS; omega)) 0
    exact (unlocked.of_regs.trans (beside_rateChange n rate _)).ite .refl _
  have hunts : Sets BesideProfile relocked hunting := Sets.refl.setFld (beside_low (by unfold R.WELL_FRM_STATUS; omega)) _
  have chain : Sets BesideProfile hunting held := by
    have again : Sets BesideProfile hunting restarted := .of_regs .refl
    exact again.ite (again.setFld (beside_low (by unfold R.WELL_RX_STATUS; omega)) 4) _
  have loaded : Sets BesideProfile held (profileLoad n p (rateKbd rate) (tablesReset n held)) :=
    (beside_tablesReset n held).trans (beside_profileLoad n p _ _)
  exact (((emptied.trans clocked).trans hunts).trans chain).trans (loaded.trans (beside_biasClip n _))

/-- FEC_PROFILE names the new combination. -/
def profileNamed (prof leg cfg : Nat) (s : State) : State :=
  ((s.setFld R.FEC_PROFILE F.FEC_PROFILE_PROFILE_EFF prof).setFld R.FEC_PROFILE F.FEC_PROFILE_LEGACY_EFF leg).setFld R.FEC_PROFILE
    F.FEC_PROFILE_PORT_EFF cfg

theorem profileNamed_fields (prof leg cfg : Nat) (s : State) : let a := R.FEC_PROFILE
    let u := profileNamed prof leg cfg s
    u.fld a F.FEC_PROFILE_BUSY = s.fld a F.FEC_PROFILE_BUSY ∧ u.fld a F.FEC_PROFILE_PROFILE_EFF = prof % 2 ^ 2 ∧
      u.fld a F.FEC_PROFILE_PORT_EFF = cfg % 2 ^ 3 := by
  intro a u
  have apart {f g : Fld} (t : State) (v : Nat) (fits : f.fits := by unfold Fld.fits; decide) (away : f.apart g := by unfold Fld.apart; decide) :
      (t.setFld a f v).fld a g = t.fld a g := t.fld_setFld_apart a f g v fits away
  refine ⟨?_, ?_, State.fld_setFld _ _ _ _ (by unfold Fld.fits; decide)⟩
  · exact (apart _ _).trans ((apart _ _).trans (apart _ _))
  · exact (apart _ _).trans ((apart _ _).trans (s.fld_setFld _ _ _ (by unfold Fld.fits; decide)))

/-- A change is BUSY before FEC_PROFILE names the new combination, and what is done after that leaves the register. -/
theorem profileStart_names (prof leg cfg poison : Nat) (s : State) : ∃ t, t.fld R.FEC_PROFILE F.FEC_PROFILE_BUSY = 1 ∧
    Sets BesideProfile (profileNamed prof leg cfg t) (profileStart prof leg cfg poison s) := by
  have busy (t : State) : (t.setFld R.FEC_PROFILE F.FEC_PROFILE_BUSY 1).fld R.FEC_PROFILE F.FEC_PROFILE_BUSY = 1 :=
    t.fld_setFld _ _ _ (by unfold Fld.fits; decide)
  have unlocked (t : State) (c : Prop) [Decidable c] : Sets BesideProfile t (if c then t
      else forLanes (fun q s => if portExists s q then monLose q 0 s else s) t) :=
    Sets.refl.ite (Sets.refl.forLanes fun q u => (sets_monLose q 0 u).besideHost.ite .refl _) c
  have lanes (t : State) (rate : Nat) : Sets BesideProfile t (forLanes (fun n s => profileLane n (profOf prof) rate s) t) :=
    Sets.refl.forLanes fun n u => beside_profileLane n _ rate u
  have unsteered (t : State) : Sets BesideProfile t (forLanes (fun n s => modLine n (fun l => { l with steer := 0, steerAt := s.now }) s) t) :=
    Sets.refl.forLanes fun _ _ => .of_regs .refl
  have rate (t : State) : Sets BesideProfile t (rateFollow t) := Sets.refl.setFld (beside_low (by decide)) _
  have terminated (t : State) : Sets BesideProfile t (octFollow t) :=
    Sets.refl.forLanes fun n u => Sets.refl.setFld (beside_high (by unfold R.FEC_LN_OCT; omega)) _
  exact ⟨_, (((beside_flightPoisoned poison _).trans (unlocked _ _)).fld (misses_besideProfile _)).trans (busy _),
    (((((beside_atlasClearLanes 255 _).trans (lanes _ _)).trans (unsteered _)).trans (rate _)).trans (terminated _)).trans (beside_hostFollow _)⟩

/-- An accepted change is in force at once, and BUSY. -/
theorem profileStart_inForce (prof leg cfg poison : Nat) (s : State) : let a := R.FEC_PROFILE
    let u := profileStart prof leg cfg poison s
    u.flag a F.FEC_PROFILE_BUSY = true ∧ u.fld a F.FEC_PROFILE_PROFILE_EFF = prof % 2 ^ 2 ∧ u.fld a F.FEC_PROFILE_PORT_EFF = cfg % 2 ^ 3 := by
  intro a u
  obtain ⟨t, busy, names⟩ := profileStart_names prof leg cfg poison s
  obtain ⟨same, profile, ports⟩ := profileNamed_fields prof leg cfg t
  have kept (g : Fld) : u.fld a g = (profileNamed prof leg cfg t).fld a g := names.fld (misses_besideProfile g)
  refine ⟨?_, (kept _).trans profile, (kept _).trans ports⟩
  rw [State.flag, kept, same, busy]
  rfl

/-! ### APPLY (R149) -/

/-- APPLY acts on what the write has stored, after a free value is drawn. -/
theorem accepted_apply (o : Origin) (v : Word) (s : State) : let w := withBit F.FEC_PROFILE_APPLY v
    ∃ poison t, Drawn (stored o R.FEC_PROFILE w s) t ∧ accepted o R.FEC_PROFILE w s = profileApply poison t := by
  intro w
  have go : cmd F.FEC_PROFILE_APPLY w = true := cmd_withBit (by unfold Fld.fits; decide) rfl v
  have effect : accepted o R.FEC_PROFILE w s = effFec R.FEC_PROFILE w (stored o R.FEC_PROFILE w s) := rfl
  exact ⟨_, _, ⟨_, rfl⟩, effect.trans (if_pos ⟨rfl, go⟩)⟩

/-- A refused combination sets REFUSED; another one that needs no raise and is not in force starts. -/
theorem profileApply_answers (poison : Nat) (drawn : Drawn s t) : let a := R.FEC_PROFILE
    let prof := s.fld a F.FEC_PROFILE_PROFILE
    let leg := s.fld a F.FEC_PROFILE_LEGACY
    let cfg := s.fld a F.FEC_PROFILE_PORT_CFG
    let u := profileApply poison t
    (profileRefused prof leg cfg s = true → u.flag a F.FEC_PROFILE_REFUSED = true) ∧
    (profileRefused prof leg cfg s = false → profileSame prof leg cfg s = false → availLevel s ≤ comboNeed prof leg s →
      u.flag a F.FEC_PROFILE_BUSY = true ∧ u.fld a F.FEC_PROFILE_PROFILE_EFF = prof ∧ u.fld a F.FEC_PROFILE_PORT_EFF = cfg) := by
  obtain ⟨k, rfl⟩ := drawn
  intro a prof leg cfg u
  constructor
  · intro refused
    have raises : u = State.raise1 _ a F.FEC_PROFILE_REFUSED 343 := if_pos refused
    rw [raises]
    exact State.flag_raise1 _ (by decide) _ _ (by unfold Fld.fits; decide) rfl
  · intro listed differs carried
    have starts : u = profileStart prof leg cfg poison { s with freeCtr := k } :=
      (if_neg (ne_true_of_eq_false listed)).trans ((if_neg (ne_true_of_eq_false differs)).trans (if_neg (Nat.not_lt.mpr carried)))
    obtain ⟨busy, profile, ports⟩ := profileStart_inForce prof leg cfg poison { s with freeCtr := k }
    have two : prof % 2 ^ 2 = prof := Nat.mod_mod _ _
    have three : cfg % 2 ^ 3 = cfg := Nat.mod_mod _ _
    rw [starts]
    exact ⟨busy, profile.trans two, ports.trans three⟩

/-! ### The end of a change (R168, R169) -/

theorem beside_rxResume (n : Fin 8) (s : State) : Sets BesideProfile s (rxResume n s) := by
  have shown (l : List Int) (t : State) : Sets BesideProfile t (showTaps n l t) := Sets.refl.foldl _ fun k hk _ =>
    Sets.refl.setReg (fun _ => beside_low (by have := List.mem_range.mp hk; unfold R.WELL_FFE_TAP; omega)) _
  have installed (l : List Int) (t : State) : Sets BesideProfile t (installSet n l t) :=
    (((calm_roundSet l t).sets.of_regs).trans (shown _ _)).trans ((calm_tapsInForce n _).trans (calm_rxPumpsLoad n _)).sets
  have started (t : State) : Sets BesideProfile t (startAttempt n t) :=
    ((Sets.of_regs .refl).trans (installed _ _)).setFld (beside_low (by unfold R.WELL_RX_STATUS; omega)) _
  unfold rxResume
  split
  · split
    · exact (Sets.of_regs .refl).trans (started _)
    · exact (started s).ite .refl _
  · exact .refl

/-- The end of a change in progress clears BUSY, and what follows leaves it so. -/
theorem profileDone_ends (busy : profileBusy s = true) : (profileDone s).flag R.FEC_PROFILE F.FEC_PROFILE_BUSY = false := by
  obtain ⟨t, ends⟩ : ∃ t : State, Sets BesideProfile (t.setFld R.FEC_PROFILE F.FEC_PROFILE_BUSY 0) (profileDone s) := by
    have acquires (t : State) : Sets BesideProfile t (forLanes (fun n s => rxResume n (muteAtBoundary n s)) t) :=
      Sets.refl.forLanes fun n u => (Sets.of_regs .refl).trans (beside_rxResume n _)
    have goes : ¬(!profileBusy s) = true := by rw [busy]; decide
    unfold profileDone
    rw [if_neg goes]
    exact ⟨_, (acquires _).trans (beside_hostFollow _)⟩
  rw [ends.flag (misses_besideProfile _), State.flag, State.fld_setFld _ _ _ _ (by unfold Fld.fits; decide)]
  rfl

end Sys2Proof.Machine
end

section
/-!
PROOF. Frame headers: what the tracker does with the header at its place, and what the rest of a header leaves of its state (R155, R156, R159).
-/
namespace Sys2Proof.Machine

variable (s : State) (n : Fin 8)

/-! ### What a header sets beside the tracker's state -/

/-- The other fields of the tracker's status, its counters, and the registers of the host lanes and of FEC. -/
inductive HeaderBook (n : Fin 8) : Nat → Fld → Prop
  | status {f : Fld} : f.fits → f.apart F.WELL_FRM_STATUS_STATE → HeaderBook n (R.WELL_FRM_STATUS n) f
  | count (f : Fld) : HeaderBook n (R.WELL_FRM_CNT n) f
  | outer {a : Nat} {f : Fld} : OuterBook a f → HeaderBook n a f

theorem away_outer {a b : Nat} {f : Fld} (w : OuterBook a f) (own : 0x800000 ≤ b ∧ b < 0x1000000) : b ≠ a := by
  cases w with
  | host low high => omega
  | steer k => unfold R.LINE_PLL_STATUS; omega
  | high up => omega

theorem misses_frmState : Misses (HeaderBook n) (R.WELL_FRM_STATUS n) F.WELL_FRM_STATUS_STATE := by
  refine ⟨by unfold R.WELL_FRM_STATUS R.SAF_JNL_STATUS; omega, fun a f w => ?_⟩
  cases w with
  | status fits apart => exact .inr ⟨fits, apart⟩
  | count => exact .inl (by unfold R.WELL_FRM_STATUS R.WELL_FRM_CNT; omega)
  | outer w => exact .inl (away_outer w (by unfold R.WELL_FRM_STATUS; omega))

theorem misses_frmCfg (g : Fld) : Misses (HeaderBook n) (R.WELL_FRM_CFG n) g := by
  refine ⟨by unfold R.WELL_FRM_CFG R.SAF_JNL_STATUS; omega, fun a f w => .inl ?_⟩
  cases w with
  | status => unfold R.WELL_FRM_STATUS R.WELL_FRM_CFG; omega
  | count => unfold R.WELL_FRM_CNT R.WELL_FRM_CFG; omega
  | outer w => exact away_outer w (by unfold R.WELL_FRM_CFG; omega)

/-- From `s` to `t` the lane's tracker keeps its state, its misses and its count of frames. -/
structure Tracked (n : Fin 8) (s t : State) : Prop where
  sets : Sets (HeaderBook n) s t
  misses : t.frm[n].misses = s.frm[n].misses
  count : t.line[n].rxCnt = s.line[n].rxCnt

namespace Tracked

variable {s n} {t u : State}

theorem refl : Tracked n s s := ⟨.refl, rfl, rfl⟩
theorem trans (h : Tracked n s t) (g : Tracked n t u) : Tracked n s u :=
  ⟨h.sets.trans g.sets, g.misses.trans h.misses, g.count.trans h.count⟩

theorem setFld (h : Tracked n s t) {a : Nat} {f : Fld} (w : HeaderBook n a f) (v : Nat) : Tracked n s (t.setFld a f v) :=
  ⟨h.sets.setFld w v, h.misses, h.count⟩

theorem modFrm (h : Tracked n s t) {g : FrmSt → FrmSt} (keeps : ∀ f, (g f).misses = f.misses) : Tracked n s (modFrm n g t) :=
  ⟨h.sets.of_regs, (modFrm_keeps FrmSt.misses keeps t n n).trans h.misses, h.count⟩

theorem ite (h : Tracked n s t) (g : Tracked n s u) (c : Prop) [Decidable c] : Tracked n s (if c then t else u) := by
  split
  · exact h
  · exact g

theorem foldl {α : Type} {g : State → α → State} (h : Tracked n s t) (l : List α) (step : ∀ x u, Tracked n u (g u x)) :
    Tracked n s (l.foldl g t) := List.foldlRecOn l g (motive := Tracked n s) h fun _ hu x _ => hu.trans (step x _)

theorem state (h : Tracked n s t) : frmState t n = frmState s n := h.sets.fld (misses_frmState n)

end Tracked

theorem frmState_setFld {v : Nat} (small : v < 4) (t : State) : frmState (t.setFld (R.WELL_FRM_STATUS n) F.WELL_FRM_STATUS_STATE v) n = v :=
  (t.fld_setFld _ _ _ (by unfold Fld.fits; decide)).trans (Nat.mod_eq_of_lt small)

/-! ### The host side's following -/

/-- The framing is in no register and in nothing that bookkeeping sets. -/
theorem frm_inert : Inert (fun _ _ => True) State.frm :=
  ⟨fun _ _ _ _ _ => rfl, fun _ _ _ _ => rfl, fun _ => trivial, fun _ => trivial, fun _ _ _ => rfl, fun _ _ => rfl, fun _ _ => rfl,
    fun _ _ _ => rfl, fun _ _ _ => rfl⟩

theorem raise1_frm (a : Nat) (f : Fld) (id : Nat) : (s.raise1 a f id).frm = s.frm := frm_inert.raise1 s trivial id

theorem tracked_of_calm {t : State} (h : Calm OuterBook s t) (misses : t.frm[n].misses = s.frm[n].misses) : Tracked n s t :=
  ⟨h.sets.mono fun _ _ => .outer, misses, congrArg (fun c => c.2.2.2.2.1) (h.counts n)⟩

theorem monLose_misses (p : Fin 8) (d : Fin 2) : (monLose p d s).frm[n].misses = s.frm[n].misses := by
  have emptied (t : State) : (monEmpty p d t).frm[n].misses = t.frm[n].misses :=
    foldl_keeps (modMon p d _ t) (fun u => u.frm[n].misses) (fun u i => modFrm_keeps FrmSt.misses (fun f => by split <;> rfl) u i n) _
  rw [monLose]
  split
  · rfl
  · refine (emptied _).trans ?_
    exact congrArg (fun v : Vector FrmSt 8 => v[n].misses) (raise1_frm _ _ _ _)

theorem tracked_monLose (p : Fin 8) (d : Fin 2) : Tracked n s (monLose p d s) := tracked_of_calm s n (calm_monLose p d s) (monLose_misses s n p d)
theorem tracked_monRestart (p : Fin 8) (d : Fin 2) : Tracked n s (monRestart p d s) := tracked_of_calm s n (calm_monRestart p d s) rfl

theorem tracked_steerFollow : Tracked n s (steerFollow s) :=
  tracked_of_calm s n (calm_steerFollow s) (foldl_keeps s (fun t => t.frm[n].misses) (by intros; rfl) _)

theorem tracked_hostTxFollow : Tracked n s (hostTxFollow s) :=
  tracked_of_calm s n (calm_hostTxFollow s) (foldl_keeps s (fun t => t.frm[n].misses) (fun t i => by dsimp only; split <;> rfl) _)

theorem tracked_hostFollow : Tracked n s (hostFollow s) := by
  have failures (g : Fin 8 → State → HostSt) : Tracked n s (forLanes (fun i u => { u with host := g i u }) s) :=
    Tracked.refl.foldl _ fun _ _ => tracked_of_calm _ n (.unit .refl) rfl
  have monitors (t : State) : Tracked n t ((List.finRange 8).foldl (fun s (p : Fin 8) => (List.finRange 2).foldl (fun s (d : Fin 2) =>
      if !portExists s p || portFails s p d then (if monLocked s p d then monLose p d s else monRestart p d s) else s) s) t) :=
    Tracked.refl.foldl _ fun p u => Tracked.refl.foldl _ fun d w =>
      ((tracked_monLose w n p d).ite (tracked_monRestart w n p d) _).ite .refl _
  exact (((failures _).trans (monitors _)).trans (tracked_steerFollow _ n)).trans (tracked_hostTxFollow _ n)

/-! ### The header's fields (R155, R156, R159) -/

theorem status_book {f : Fld} (above : 2 ≤ f.lo) (fits : f.lo + f.w ≤ 32) : HeaderBook n (R.WELL_FRM_STATUS n) f := .status fits (.inr above)

theorem tracked_headerFar (h : Nat) : Tracked n s (headerFar n h s) := by
  unfold headerFar
  exact (((Tracked.refl.setFld (status_book n (by decide) (by decide)) _).setFld (status_book n (by decide) (by decide)) _).setFld
    (status_book n (by decide) (by decide)) _).ite .refl _

theorem tracked_headerFields (h : Nat) : Tracked n s (headerFields n h s) := by
  have checked : Tracked n s (if hcrcOk h then headerFar n h s
      else (s.setFld (R.WELL_FRM_STATUS n) F.WELL_FRM_STATUS_CRC_ERR 1).addSat (R.WELL_FRM_CNT n) F.WELL_FRM_CNT_CRC_ERRS 1) :=
    (tracked_headerFar s n h).ite ((Tracked.refl.setFld (status_book n (by decide) (by decide)) 1).setFld (.count _) _) _
  have sequenced (t : State) (p : Option Nat) : Tracked n t (match p with
      | some p => if hdrField h 64 95 = (p + 1) % 2 ^ 32 then t else t.addSat (R.WELL_FRM_CNT n) F.WELL_FRM_CNT_FCNT_ERRS 1
      | none => t) := by
    split
    · exact Tracked.refl.ite (Tracked.refl.setFld (.count _) _) _
    · exact .refl
  have justified (t : State) (c : Prop) [Decidable c] (j : Nat) : Tracked n t (if c then t.setFld (R.WELL_FRM_STATUS n) F.WELL_FRM_STATUS_J_SUBST 1
      else t.setFld (R.WELL_FRM_STATUS n) F.WELL_FRM_STATUS_J_RX j) :=
    (Tracked.refl.setFld (status_book n (by decide) (by decide)) 1).ite (Tracked.refl.setFld (status_book n (by decide) (by decide)) j) c
  exact ((checked.trans (sequenced _ _)).trans (justified _ _ _)).modFrm fun _ => rfl

theorem tracked_deskew (skew : Nat) : Tracked n s (deskew n skew s) := by
  have measured : Tracked n s (s.setFld (R.FEC_LN_ITER n) F.FEC_LN_ITER_SKEW (min 0xFFFF skew)) :=
    Tracked.refl.setFld (.outer (.high (by unfold R.FEC_LN_ITER; omega))) _
  have flagged (t : State) : Tracked n t (t.raise1 (R.FEC_LN_JUST n) F.FEC_LN_JUST_DESKEW_ERR (160 + 8 * n + 6)) :=
    tracked_of_calm t n (Calm.refl.raise1 (.high (by unfold R.FEC_LN_JUST; omega)) _) (by rw [raise1_frm])
  exact ((measured.trans (flagged _)).ite measured _).ite .refl _

/-! ### Loss of frame lock and lock (R107, R156) -/

/-- LOF is set and counted, before the tracker hunts. -/
def lofShown : State := (s.raise1 (R.WELL_FRM_STATUS n) F.WELL_FRM_STATUS_LOF (32 + 16 * n + 15)).addSat (R.WELL_FRM_CNT n) F.WELL_FRM_CNT_LOF_COUNT 1

theorem lofShown_lof : (lofShown s n).flag (R.WELL_FRM_STATUS n) F.WELL_FRM_STATUS_LOF = true := by
  have counter : R.WELL_FRM_STATUS n ≠ R.WELL_FRM_CNT n := by unfold R.WELL_FRM_STATUS R.WELL_FRM_CNT; omega
  have journal : R.WELL_FRM_STATUS n ≠ R.SAF_JNL_STATUS := by unfold R.WELL_FRM_STATUS R.SAF_JNL_STATUS; omega
  rw [lofShown, State.addSat, State.flag, State.fld_setFld_ne _ counter]
  exact s.flag_raise1 journal _ _ (by unfold Fld.fits; decide) rfl

theorem lossOfFrame_hunts : frmState (lossOfFrame n s) n = 0 ∧ (lossOfFrame n s).flag (R.WELL_FRM_STATUS n) F.WELL_FRM_STATUS_LOF = true := by
  have regs : (lossOfFrame n s).regs = ((lofShown s n).setFld (R.WELL_FRM_STATUS n) F.WELL_FRM_STATUS_STATE 0).regs := by
    unfold lossOfFrame
    exact modFrm_regs _ _ _
  constructor
  · exact (fld_of_regs regs _ _).trans (frmState_setFld n (by decide) _)
  · rw [State.flag, fld_of_regs regs, State.fld_setFld_apart _ _ _ _ _ (by unfold Fld.fits; decide) (by unfold Fld.apart; decide)]
    exact lofShown_lof s n

/-- The tracker has taken lock, before the header's fields are taken in. -/
def lockTaken (place : Nat) : State :=
  modFrm n (fun f => { f with misses := 0, fcnt := none, cwNext := if decide (place = s.sig[n].decPrev.length) then f.cwNext else 1024 })
    ((s.setFld (R.WELL_FRM_STATUS n) F.WELL_FRM_STATUS_STATE 2).setFld (R.WELL_FRM_STATUS n) F.WELL_FRM_STATUS_FLOCK_EV 1)

theorem lockTaken_locked (place : Nat) : frmState (lockTaken s n place) n = 2 := by
  have shown : Tracked n (s.setFld (R.WELL_FRM_STATUS n) F.WELL_FRM_STATUS_STATE 2) ((s.setFld (R.WELL_FRM_STATUS n)
      F.WELL_FRM_STATUS_STATE 2).setFld (R.WELL_FRM_STATUS n) F.WELL_FRM_STATUS_FLOCK_EV 1) :=
    Tracked.refl.setFld (status_book n (by decide) (by decide)) 1
  exact (fld_of_regs (modFrm_regs _ _ _) _ _).trans (shown.state.trans (frmState_setFld n (by decide) s))

theorem frameLocked_eq (h place : Nat) : frameLocked n h place s =
    modLine n (fun l => { l with rxCnt := hdrField h 64 95, realign := true }) (headerFields n h (lockTaken s n place)) := rfl

theorem frameLocked_locks (h place : Nat) : frmState (frameLocked n h place s) n = 2 ∧ (frameLocked n h place s).line[n].rxCnt = hdrField h 64 95 := by
  rw [frameLocked_eq]
  constructor
  · exact (modLine_fld _ _ _ _ _).trans ((tracked_headerFields (lockTaken s n place) n h).state.trans (lockTaken_locked s n place))
  · rw [modLine_line, vmod_same]

/-! ### The tracker (R156) -/

theorem drawn_decBits (l : List (Option Nat)) (s : State) : Drawn s (decBits l s).2 := by
  induction l generalizing s with
  | nil => exact .refl s
  | cons a l ih =>
    cases a with
    | some a => exact ih s
    | none => exact Drawn.trans ⟨_, rfl⟩ (ih (s.fresh 2).2)

theorem drawn_headerAt (i : Nat) : Drawn s (headerAt n i s).2 := drawn_decBits _ s

section
variable {s n} {t : State} (h : Drawn s t)
include h

theorem Drawn.fld (a : Nat) (f : Fld) : t.fld a f = s.fld a f := by
  obtain ⟨k, rfl⟩ := h
  rfl

theorem Drawn.frm : t.frm = s.frm := by
  obtain ⟨k, rfl⟩ := h
  rfl

end

section
variable {s n} {pos skew : Nat} (deep : profileEff s = .deep) (runs : s.line[n].rxRun = true)
include deep runs

theorem header_examined : ¬(profileEff s ≠ .deep ∨ (!s.line[n].rxRun) = true) := not_or.mpr ⟨not_not_intro deep, by rw [runs]; decide⟩

/-- In HUNT a hit starts the confirmation. -/
theorem frameHeader_hunt (hunt : frmState s n = 0) : let h := (headerAt n (headerPlace s n pos) s).1
    frmState (frameHeader n pos skew s) n = if syncDiff h ≤ s.fld (R.WELL_FRM_CFG n) F.WELL_FRM_CFG_SYNC_TOL then 1 else 0 := by
  intro h
  have drawn := drawn_headerAt s n (headerPlace s n pos)
  have state : frmState (headerAt n (headerPlace s n pos) s).2 n = 0 := (drawn.fld _ _).trans hunt
  unfold frameHeader
  rw [if_neg (header_examined deep runs)]
  simp only [state, drawn.fld, decide_eq_true_eq]
  split
  · exact (tracked_headerFar _ n h).state.trans ((modFrm_fld _ _ _ _ _).trans (frmState_setFld n (by decide) _))
  · exact state

/-- In CONFIRM a miss ends the confirmation, and the last of enough hits takes lock. -/
theorem frameHeader_confirm (confirms : frmState s n = 1) : let h := (headerAt n (headerPlace s n pos) s).1
    let u := frameHeader n pos skew s
    (¬syncDiff h ≤ s.fld (R.WELL_FRM_CFG n) F.WELL_FRM_CFG_SYNC_TOL → frmState u n = 0) ∧
    (syncDiff h ≤ s.fld (R.WELL_FRM_CFG n) F.WELL_FRM_CFG_SYNC_TOL →
      (¬max 1 (s.fld (R.WELL_FRM_CFG n) F.WELL_FRM_CFG_CONFIRM_N) ≤ s.frm[n].confirm + 1 → frmState u n = 1) ∧
      (max 1 (s.fld (R.WELL_FRM_CFG n) F.WELL_FRM_CFG_CONFIRM_N) ≤ s.frm[n].confirm + 1 →
        frmState u n = 2 ∧ u.line[n].rxCnt = hdrField h 64 95)) := by
  intro h u
  have drawn := drawn_headerAt s n (headerPlace s n pos)
  have state : frmState (headerAt n (headerPlace s n pos) s).2 n = 1 := (drawn.fld _ _).trans confirms
  obtain ⟨y, counted, turn⟩ : ∃ y : State, y.regs = (headerAt n (headerPlace s n pos) s).2.regs ∧ u =
      if ¬syncDiff h ≤ s.fld (R.WELL_FRM_CFG n) F.WELL_FRM_CFG_SYNC_TOL
      then (headerAt n (headerPlace s n pos) s).2.setFld (R.WELL_FRM_STATUS n) F.WELL_FRM_STATUS_STATE 0
      else if s.frm[n].confirm + 1 < max 1 (s.fld (R.WELL_FRM_CFG n) F.WELL_FRM_CFG_CONFIRM_N) then headerFar n h y
      else deskew n skew (frameLocked n h (headerPlace s n pos) y) := by
    refine ⟨modFrm n (fun f => { f with confirm := s.frm[n].confirm + 1 }) (headerAt n (headerPlace s n pos) s).2, modFrm_regs _ _ _, ?_⟩
    unfold u frameHeader
    rw [if_neg (header_examined deep runs)]
    simp only [state, drawn.fld, drawn.frm, modFrm_fld, Bool.not_eq_true', decide_eq_false_iff_not]
    rfl
  refine ⟨fun miss => ?_, fun hit => ⟨fun more => ?_, fun last => ?_⟩⟩
  · rw [turn, if_pos miss]
    exact frmState_setFld n (by decide) _
  · rw [turn, if_neg (not_not_intro hit), if_pos (Nat.lt_of_not_le more)]
    exact (tracked_headerFar y n h).state.trans ((fld_of_regs counted _ _).trans state)
  · rw [turn, if_neg (not_not_intro hit), if_neg (Nat.not_lt.mpr last)]
    obtain ⟨locked, count⟩ := frameLocked_locks y n h (headerPlace s n pos)
    have kept := tracked_deskew (frameLocked n h (headerPlace s n pos) y) n skew
    exact ⟨kept.state.trans locked, kept.count.trans count⟩

/-- In LOCK the misses in a row are counted, and enough of them lose the frame. -/
theorem frameHeader_lock (locked : frmState s n = 2) : let h := (headerAt n (headerPlace s n pos) s).1
    let u := frameHeader n pos skew s
    let m := if syncDiff h ≤ s.fld (R.WELL_FRM_CFG n) F.WELL_FRM_CFG_SYNC_TOL then 0 else s.frm[n].misses + 1
    (¬max 2 (s.fld (R.WELL_FRM_CFG n) F.WELL_FRM_CFG_LOF_N) ≤ m → frmState u n = 2 ∧ u.frm[n].misses = m) ∧
    (max 2 (s.fld (R.WELL_FRM_CFG n) F.WELL_FRM_CFG_LOF_N) ≤ m →
      frmState u n = 0 ∧ u.flag (R.WELL_FRM_STATUS n) F.WELL_FRM_STATUS_LOF = true) := by
  intro h u m
  have drawn := drawn_headerAt s n (headerPlace s n pos)
  have state : frmState (headerAt n (headerPlace s n pos) s).2 n = 2 := (drawn.fld _ _).trans locked
  obtain ⟨x, kept, turn⟩ : ∃ x, Tracked n (modFrm n (fun f => { f with misses := m }) (headerAt n (headerPlace s n pos) s).2) x ∧
      u = if max 2 (x.fld (R.WELL_FRM_CFG n) F.WELL_FRM_CFG_LOF_N) ≤ m then lossOfFrame n x else x := by
    refine ⟨_, (tracked_headerFields _ n h).trans (tracked_deskew _ n skew), ?_⟩
    unfold u frameHeader
    rw [if_neg (header_examined deep runs)]
    simp only [state, drawn.fld, drawn.frm, decide_eq_true_eq]
    rfl
  have limit : x.fld (R.WELL_FRM_CFG n) F.WELL_FRM_CFG_LOF_N = s.fld (R.WELL_FRM_CFG n) F.WELL_FRM_CFG_LOF_N :=
    (kept.sets.fld (misses_frmCfg n _)).trans ((modFrm_fld _ _ _ _ _).trans (drawn.fld _ _))
  rw [limit] at turn
  refine ⟨fun few => ?_, fun many => ?_⟩
  · rw [turn, if_neg few]
    exact ⟨kept.state.trans ((modFrm_fld _ _ _ _ _).trans state), kept.misses.trans (by rw [modFrm_same])⟩
  · rw [turn, if_pos many]
    exact lossOfFrame_hunts x n

/-- FRAME_HEADER_RECEIVE moves the tracker so, and the host side follows. -/
theorem headerReceived_follows : Tracked n (frameHeader n pos skew s) (headerReceived n pos skew s) := by
  unfold headerReceived
  rw [if_neg (header_examined deep runs)]
  exact tracked_hostFollow _ n

theorem headerReceived_lof (lost : (frameHeader n pos skew s).flag (R.WELL_FRM_STATUS n) F.WELL_FRM_STATUS_LOF = true) :
    (headerReceived n pos skew s).flag (R.WELL_FRM_STATUS n) F.WELL_FRM_STATUS_LOF = true := by
  have away : Misses OuterBook (R.WELL_FRM_STATUS n) F.WELL_FRM_STATUS_LOF :=
    ⟨by unfold R.WELL_FRM_STATUS R.SAF_JNL_STATUS; omega, fun _ _ w => .inl (away_outer w (by unfold R.WELL_FRM_STATUS; omega))⟩
  unfold headerReceived
  rw [if_neg (header_examined deep runs)]
  exact ((calm_hostFollow _).sets.flag away).trans lost

end

end Sys2Proof.Machine
end

section
/-!
PROOF. Profile changes, frame headers and codewords: the obligations settled (R149, R155 to R168).
-/
namespace Sys2Proof.Machine

/-! ### Iterations (R162) -/

theorem clampNat_of_mem {lo hi x : Nat} (low : lo ≤ x) (high : x ≤ hi) : clampNat lo hi x = x := by
  rw [clampNat, if_neg (Nat.not_lt.mpr low), if_neg (Nat.not_lt.mpr high)]

/-- Settles O25: a cap from 1 to 12 is its own clamp, and 12 · 40 / 100 = 4. -/
theorem iterationsPermittedUnderTheThrottle : Obligations.IterationsPermittedUnderTheThrottle := by
  intro cap e low high
  constructor
  · rw [capEff, clampNat_of_mem low high]
  · rw [capEff, clampNat_of_mem low high]
    rfl

variable {s : State} {n : Fin 8}

/-! ### What changes nothing -/

theorem profileDone_idle (idle : s.flag R.FEC_PROFILE F.FEC_PROFILE_BUSY = false ∨ s.pwr.held ≠ none) : profileDone s = s := by
  have free : profileBusy s = false := by
    unfold profileBusy
    rcases idle with ended | waits
    · rw [ended, Bool.false_and]
    · rw [Option.isNone_eq_false_iff.mpr (Option.isSome_iff_ne_none.mpr waits), Bool.and_false]
  rw [profileDone, free]
  rfl

theorem headerReceived_idle (pos skew : Nat) (idle : profileEff s ≠ .deep ∨ s.line[n].rxRun = false) : headerReceived n pos skew s = s :=
  if_pos (idle.imp_right fun stopped => by rw [stopped]; rfl)

theorem decodeWindowEnd_idle (free : (s.cores.any fun w => w.lane == n.val) = false) : decodeWindowEnd n s = s := by
  have missing : s.cores.find? (fun w => w.lane == n.val) = none :=
    List.find?_eq_none.mpr fun w member held => ne_true_of_eq_false free (List.any_eq_true.mpr ⟨w, member, held⟩)
  rw [decodeWindowEnd, missing]

theorem codewordAssembled_idle (idle : pwrState s ≠ 0 ∨ profileEff s = .spring) : codewordAssembled n s = s := by
  unfold codewordAssembled
  rcases idle with low | spring
  · exact if_pos low
  · rw [spring]
    exact ite_self s

theorem octCodeword_idle (idle : (octOn s n && isLead s n) = false ∨ (octWhole s n = false ∧ (dirLocked s false n = false ∨
    ((lanesOfPort s (portOfLane s n)).all fun i => octLead s i == 0) = true))) : octCodeword n s = s := by
  cases on : octOn s n && isLead s n with
  | false =>
    unfold octCodeword
    rw [on]
    rfl
  | true =>
    obtain ⟨short, why⟩ := idle.resolve_left (ne_false_of_eq_true on)
    cases lock : dirLocked s false n with
    | false => rw [octCodeword_unlocked on lock, short, if_neg Bool.false_ne_true]
    | true =>
      have clear := why.resolve_left (ne_false_of_eq_true lock)
      rw [octCodeword_locked on lock, leadPassed_of_none s n clear, short, if_neg Bool.false_ne_true]

/-! ### What runs -/

theorem codewordAssembled_standard (active : pwrState s = 0) (standard : profileEff s = .standard) (filled : s.sig[n].llr ≠ []) :
    codewordAssembled n s = stdAssembled n s := by
  have waiting : ¬s.sig[n].llr.isEmpty = true := fun empty => filled (List.isEmpty_iff.mp empty)
  rw [codewordAssembled, if_neg (not_not_intro active), standard]
  exact if_neg waiting

theorem codewordAssembled_deep (active : pwrState s = 0) (deep : profileEff s = .deep) : codewordAssembled n s = deepAssembled n s := by
  rw [codewordAssembled, if_neg (not_not_intro active), deep]

/-- With the monitor locked and no bits ahead, a whole group is taken codeword by codeword. -/
theorem octCodeword_taken (on : (octOn s n && isLead s n) = true) (lock : dirLocked s false n = true)
    (clear : ((lanesOfPort s (portOfLane s n)).all fun i => octLead s i == 0) = true) (whole : octWhole s n = true) :
    octCodeword n s = octTaken s n := by
  rw [octCodeword_locked on lock, leadPassed_of_none s n clear, if_pos whole]

/-- The tracker after a frame header, by the state that it was in. -/
theorem headerReceived_moves (pos skew : Nat) (deep : profileEff s = .deep) (runs : s.line[n].rxRun = true) :
    let h := (headerAt n (headerPlace s n pos) s).1
    let hit := decide (syncDiff h ≤ s.fld (R.WELL_FRM_CFG n) F.WELL_FRM_CFG_SYNC_TOL)
    let last := decide (max 1 (s.fld (R.WELL_FRM_CFG n) F.WELL_FRM_CFG_CONFIRM_N) ≤ s.frm[n].confirm + 1)
    let lost := decide (max 2 (s.fld (R.WELL_FRM_CFG n) F.WELL_FRM_CFG_LOF_N) ≤ s.frm[n].misses + 1)
    let u := headerReceived n pos skew s
    (frmState s n = 0 → frmState u n = if hit then 1 else 0) ∧
    (frmState s n = 1 → frmState u n = if hit then (if last then 2 else 1) else 0) ∧
    (frmState s n = 1 → hit = true → last = true → u.line[n].rxCnt = hdrField h 64 95) ∧
    (frmState s n = 2 → hit = true ∨ lost = false → frmState u n = 2 ∧ u.frm[n].misses = if hit then 0 else s.frm[n].misses + 1) ∧
    (frmState s n = 2 → hit = false → lost = true → frmState u n = 0 ∧ u.flag (R.WELL_FRM_STATUS n) F.WELL_FRM_STATUS_LOF = true) := by
  intro h hit last lost u
  have follows : Tracked n (frameHeader n pos skew s) u := headerReceived_follows deep runs
  have truth (p : Prop) [Decidable p] (a b : Nat) : (if decide p = true then a else b) = if p then a else b := by simp only [decide_eq_true_eq]
  refine ⟨fun hunt => ?_, fun confirms => ?_, fun confirms hits enough => ?_, fun locked few => ?_, fun locked misses many => ?_⟩
  · exact (follows.state.trans (frameHeader_hunt deep runs hunt)).trans (truth _ 1 0).symm
  · obtain ⟨missed, confirmed⟩ := frameHeader_confirm (pos := pos) (skew := skew) deep runs confirms
    rw [follows.state]
    cases hits : hit with
    | false => exact missed (of_decide_eq_false hits)
    | true =>
      obtain ⟨more, locks⟩ := confirmed (of_decide_eq_true hits)
      cases enough : last with
      | false => exact more (of_decide_eq_false enough)
      | true => exact (locks (of_decide_eq_true enough)).1
  · obtain ⟨-, confirmed⟩ := frameHeader_confirm (pos := pos) (skew := skew) deep runs confirms
    exact follows.count.trans ((confirmed (of_decide_eq_true hits)).2 (of_decide_eq_true enough)).2
  · obtain ⟨stays, -⟩ := frameHeader_lock (pos := pos) (skew := skew) deep runs locked
    rw [follows.state, follows.misses, truth]
    refine stays fun many => ?_
    rcases few with hits | few
    · rw [if_pos (of_decide_eq_true hits)] at many
      omega
    · split at many
      · omega
      · exact of_decide_eq_false few many
  · obtain ⟨-, loses⟩ := frameHeader_lock (pos := pos) (skew := skew) deep runs locked
    obtain ⟨hunts, lof⟩ := loses (by rw [if_neg (of_decide_eq_false misses)]; exact of_decide_eq_true many)
    exact ⟨follows.state.trans hunts, headerReceived_lof deep runs lof⟩

/-- The codeword that is taken counts its corrections, or that it has too many errors. -/
theorem octTaken_counts {got : Option (List Nat × Nat)} (result : got = octResult s n (octBits s n s.frm[n].octNext)) : let a := R.FEC_LN_OCT n
    let u := octTaken s n
    (∀ x, got = some x → u.fld a F.FEC_LN_OCT_OCT_CORR_SYM = (s.fld a F.FEC_LN_OCT_OCT_CORR_SYM + x.2) % 2 ^ 24 ∧
      u.fld a F.FEC_LN_OCT_OCT_UNCORR = s.fld a F.FEC_LN_OCT_OCT_UNCORR) ∧
    (got = none → u.fld a F.FEC_LN_OCT_OCT_UNCORR = min 127 (s.fld a F.FEC_LN_OCT_OCT_UNCORR + 1) ∧
      u.fld a F.FEC_LN_OCT_OCT_CORR_SYM = s.fld a F.FEC_LN_OCT_OCT_CORR_SYM) := by
  intro a u
  have same (g : Fld) : u.fld a g = (octOne n s.frm[n].octNext s).fld a g := octTaken_fld s n g
  rw [same, same]
  exact ⟨fun _ corrected => octOne_corrects s n (result.symm.trans corrected), fun failed => octOne_fails s n (result.symm.trans failed)⟩

/-- Settles O24: profile changes by what every later step leaves of FEC_PROFILE, headers by the tracker's states, codewords by what delivery keeps. -/
theorem framingAndCodesComplete : Obligations.FramingAndCodesComplete := by
  intro s n running
  have unmoved {c : Instr} {g : State → State} (cmd : exec c s = outcome s g) (same : g s = s) : Completes c s s :=
    (congrArg (Completes c s) same).mp (completes_of_outcome s cmd running)
  refine ⟨?_, ?_, ?_, ?_, ?_, ?_, ?_, ?_, ?_, ?_, ?_⟩
  · intro o v a w x prof leg cfg ok
    obtain ⟨poison, t, drawn, effect⟩ := accepted_apply o v s
    rw [effect]
    exact ⟨completesWrite_of_ok s rfl ok, profileApply_answers poison drawn⟩
  · intro busy raised
    have runs : profileBusy s = true := by rw [profileBusy, busy, raised]; rfl
    exact ⟨_, completes_of_outcome s (g := profileDone) rfl running, profileDone_ends runs⟩
  · exact fun idle => unmoved (g := profileDone) rfl (profileDone_idle idle)
  · intro pos skew h hit last lost
    exact ⟨fun deep runs => ⟨_, completes_of_outcome s (g := headerReceived n pos skew) rfl running, headerReceived_moves pos skew deep runs⟩,
      fun idle => unmoved (g := headerReceived n pos skew) rfl (headerReceived_idle pos skew idle)⟩
  · intro active standard filled
    refine ⟨_, completes_of_outcome s (g := codewordAssembled n) rfl running, ?_⟩
    rw [codewordAssembled_standard active standard filled]
    exact stdAssembled_counts s n
  · intro k active deep aligned inRange left free
    refine ⟨_, completes_of_outcome s (g := codewordAssembled n) rfl running, ?_⟩
    rw [codewordAssembled_deep active deep]
    exact deepAssembled_starts aligned left inRange free
  · intro k active deep aligned skewed left
    refine ⟨_, completes_of_outcome s (g := codewordAssembled n) rfl running, ?_⟩
    rw [codewordAssembled_deep active deep]
    exact deepAssembled_passes aligned left skewed
  · exact fun idle => unmoved (g := codewordAssembled n) rfl (codewordAssembled_idle idle)
  · intro held
    obtain ⟨w, oldest⟩ := Option.isSome_iff_exists.mp (List.find?_isSome.mpr (List.any_eq_true.mp held))
    exact ⟨_, completes_of_outcome s (g := decodeWindowEnd n) rfl running, decodeWindowEnd_leaves s n oldest⟩
  · exact fun free => unmoved (g := decodeWindowEnd n) rfl (decodeWindowEnd_idle free)
  · intro lanes on lock whole lead c k a bits er got
    have terminates := completes_of_outcome s (g := octCodeword n) (c := .octCodeword n) rfl running
    have result : got = octResult s n (octBits s n c) := by
      have same : bits = octBits s n c := by
        rw [octBits_eq]
        refine List.map_congr_left fun p _ => ?_
        cases lanes[p.1]? <;> rfl
      exact congrArg (octResult s n) same
    refine ⟨fun runs locked clear group => ⟨_, terminates, ?_⟩, fun runs locked ahead => ⟨_, terminates, octCodeword_lead runs locked ahead⟩,
      fun runs free group => ⟨_, terminates, ?_⟩, fun idle => unmoved (g := octCodeword n) rfl (octCodeword_idle idle)⟩
    · rw [octCodeword_taken runs locked clear group]
      exact ⟨octTaken_next s n, octTaken_counts result⟩
    · have whole : octWhole s n = true := group
      rw [octCodeword_unlocked runs free, if_pos whole]
      exact ⟨(passed_octRelease n s).sets.reg (misses_oct n), (octRelease_own s n).1⟩

end Sys2Proof.Machine
end

section
/-!
PROOF. The registers of the host lanes: what the steps of the host side leave of the lanes' settings and status and of the common registers
(R176, R179, R184, R190).
-/
namespace Sys2Proof.Machine

/-! ### The lanes' registers -/

/-- HOST_LN_CFG and HOST_LN_STATUS of every lane, and the common registers of the host lanes. -/
abbrev LaneReg (a : Nat) : Prop := 0x200000 ≤ a ∧ a < 0x208000 ∧ a % 0x1000 < 8 ∨ 0x208000 ≤ a ∧ a < 0x208100

theorem LaneReg.ne_journal {a : Nat} (lane : LaneReg a) : a ≠ R.SAF_JNL_STATUS := by unfold R.SAF_JNL_STATUS; omega

theorem laneReg_cfg (n : Fin 8) : LaneReg (R.HOST_LN_CFG n) := by unfold R.HOST_LN_CFG; omega
theorem laneReg_status (n : Fin 8) : LaneReg (R.HOST_LN_STATUS n) := by unfold R.HOST_LN_STATUS; omega

/-- From `s` to `t` those registers are left. -/
def LanesKept (s t : State) : Prop := ∀ b, LaneReg b → t.reg b = s.reg b

namespace LanesKept

variable {s t u : State}

theorem refl : LanesKept s s := fun _ _ => rfl
theorem trans (h : LanesKept s t) (g : LanesKept t u) : LanesKept s u := fun b lane => (g b lane).trans (h b lane)
theorem of_regs (regs : t.regs = s.regs := by rfl) : LanesKept s t := fun b _ => State.reg_of_regs regs b

theorem fld (h : LanesKept s t) {b : Nat} (lane : LaneReg b) (g : Fld) : t.fld b g = s.fld b g := by simp only [State.fld, h b lane]
theorem flag (h : LanesKept s t) {b : Nat} (lane : LaneReg b) (g : Fld) : t.flag b g = s.flag b g := by simp only [State.flag, h.fld lane]

theorem ite (h : LanesKept s t) (g : LanesKept s u) (c : Prop) [Decidable c] : LanesKept s (if c then t else u) := by
  split
  · exact h
  · exact g

theorem forLanes {g : Fin 8 → State → State} (step : ∀ k t, LanesKept t (g k t)) : LanesKept s (forLanes g s) :=
  List.foldlRecOn (motive := LanesKept s) _ _ refl fun t h k _ => h.trans (step k t)

/-- A register that is none of them is set. -/
theorem setReg {a : Nat} (other : ¬ LaneReg a) (w : Word) : LanesKept s (s.setReg a w) := fun b lane =>
  s.reg_setReg_ne (fun same => other (by rw [← same]; exact lane)) w

/-- The same field is set on both sides. -/
theorem congr_setFld (h : LanesKept s t) {a : Nat} (lane : LaneReg a) (f : Fld) (v : Nat) : LanesKept (s.setFld a f v) (t.setFld a f v) := by
  intro b own
  by_cases same : b = a
  · subst same
    simp only [State.setFld, State.reg_setReg, h b lane]
  · rw [State.reg_setFld_ne _ same, State.reg_setFld_ne _ same, h b own]

theorem hostState (h : LanesKept s t) (n : Fin 8) : hostState t n = hostState s n := h.fld (laneReg_status n) _
theorem hostEn (h : LanesKept s t) (n : Fin 8) : hostEn t n = hostEn s n := h.flag (laneReg_cfg n) _
theorem trainAuto (h : LanesKept s t) : trainAuto t = trainAuto s := h.flag (by decide) _
theorem hostTest (h : LanesKept s t) : hostTest t = hostTest s := by simp only [Machine.hostTest, h.fld (show LaneReg R.HOST_CTRL by decide)]

end LanesKept

theorem flag_of_fld {s t : State} {a : Nat} {f : Fld} (same : t.fld a f = s.fld a f) : t.flag a f = s.flag a f := by simp only [State.flag, same]

/-! ### What the host side's steps leave -/

/-- Of the host side the following sets the monitors' status alone. -/
theorem Sets.lanesKept {s t : State} (h : Sets HostSideBook s t) : LanesKept s t := fun b lane =>
  h.reg fun g => ⟨lane.ne_journal, fun a f w => .inl (by
    cases w with
    | mon p d => unfold R.HOST_MON_STATUS; omega
    | steer k => unfold R.LINE_PLL_STATUS; omega)⟩

variable (s : State) (n : Fin 8)

theorem lanesKept_hostFollow : LanesKept s (hostFollow s) := (sets_hostFollow s).lanesKept
theorem lanesKept_steerFollow : LanesKept s (steerFollow s) := (sets_steerFollow s).lanesKept

theorem steerFollow_host : (steerFollow s).host = s.host := foldl_keeps s State.host (by intros; rfl) _

theorem lanesKept_hostTaps (c : Bool) : LanesKept s (if c then
    let (l, s) := freshList 32 6 s
    l.zipIdx.foldl (fun s p => s.setReg (R.HOST_LN_FFE n p.2) (word p.1)) s else s) := by
  have drawn : LanesKept s (freshList 32 6 s).2 := .of_regs (by rw [freshList_state])
  have six := freshList_length 32 6 s
  generalize freshList 32 6 s = values at drawn six ⊢
  obtain ⟨l, t⟩ := values
  refine .ite (List.foldlRecOn (motive := LanesKept s) _ _ drawn fun u h p hp => h.trans (.setReg ?_ _)) .refl _
  have small := List.snd_lt_of_mem_zipIdx hp
  unfold R.HOST_LN_FFE
  dsimp only at six
  omega

/-- A receiver's figures are none of its settings and status. -/
theorem lanesKept_hostMeasure : LanesKept s (hostMeasure n s) := by
  have fom (c : Bool) (t : State) : LanesKept t (if c then
      let (v, t) := t.fresh 8
      t.setFld (R.HOST_LN_FOM n) F.HOST_LN_FOM_FOM v else t) :=
    .ite (.trans (t := (t.fresh 8).2) .of_regs (.setReg (by unfold R.HOST_LN_FOM; omega) _)) .refl _
  have errors (c : Prop) [Decidable c] (t : State) : LanesKept t (if c then
      let (v, t) := t.fresh 32
      t.setReg (R.HOST_LN_PRBS n) (word ((t.reg (R.HOST_LN_PRBS n)).toNat + v)) else t) :=
    .ite (.trans (t := (t.fresh 32).2) .of_regs (.setReg (by unfold R.HOST_LN_PRBS; omega) _)) .refl _
  have begun : LanesKept s (modHost n (fun l => { l with measAt := s.now }) s) := .of_regs
  exact .ite .refl (((begun.trans (fom _ _)).trans (lanesKept_hostTaps _ n _)).trans (errors _ _)) _

theorem lanesKept_leaveActive : LanesKept s (leaveActive n s) :=
  .ite (.setReg (by unfold R.HOST_LN_FOM; omega) _) .refl _

/-- A lane that goes to a state shows it, and no other of these registers changes. -/
theorem lanesKept_hostTo (v : Nat) : LanesKept (setHostState n v s) (hostTo n v s) := by
  have ended : LanesKept s (modHost n (fun l => { l with train := none, req := none }) (leaveActive n s)) :=
    (lanesKept_leaveActive s n).trans .of_regs
  exact (ended.congr_setFld (laneReg_status n) _ v).trans (lanesKept_hostFollow _)

/-- The CDR's lock goes. -/
theorem lanesKept_cdrDrop : LanesKept (s.setFld (R.HOST_LN_STATUS n) F.HOST_LN_STATUS_CDR_LOCK 0) (cdrDrop n s) :=
  ((lanesKept_hostMeasure s n).congr_setFld (laneReg_status n) _ 0).trans (lanesKept_steerFollow _)

/-! ### A lane's status -/

theorem hostState_hostTo {v : Nat} (small : v < 8) : hostState (hostTo n v s) n = v :=
  ((lanesKept_hostTo s n v).hostState n).trans ((s.fld_setFld _ _ _ (by unfold Fld.fits; decide)).trans (Nat.mod_eq_of_lt small))

/-- The other fields of the status stay. -/
theorem status_hostTo (v : Nat) {g : Fld} (apart : F.HOST_LN_STATUS_STATE.apart g := by unfold Fld.apart; decide) :
    (hostTo n v s).fld (R.HOST_LN_STATUS n) g = s.fld (R.HOST_LN_STATUS n) g :=
  ((lanesKept_hostTo s n v).fld (laneReg_status n) g).trans (s.fld_setFld_apart _ _ g v (by unfold Fld.fits; decide) apart)

theorem unlocked_cdrDrop : (cdrDrop n s).flag (R.HOST_LN_STATUS n) F.HOST_LN_STATUS_CDR_LOCK = false :=
  ((lanesKept_cdrDrop s n).flag (laneReg_status n) _).trans (flag_setFld_zero s (by unfold Fld.fits; decide) rfl)

theorem status_cdrDrop {g : Fld} (apart : F.HOST_LN_STATUS_CDR_LOCK.apart g := by unfold Fld.apart; decide) :
    (cdrDrop n s).fld (R.HOST_LN_STATUS n) g = s.fld (R.HOST_LN_STATUS n) g :=
  ((lanesKept_cdrDrop s n).fld (laneReg_status n) g).trans (s.fld_setFld_apart _ _ g 0 (by unfold Fld.fits; decide) apart)

/-! ### What follows CDR lock (R179) -/

theorem hostState_hostActive : hostState (hostActive n s) n = 4 := hostState_hostTo _ n (by decide)

theorem status_hostActive {g : Fld} (apart : F.HOST_LN_STATUS_STATE.apart g := by unfold Fld.apart; decide) :
    (hostActive n s).fld (R.HOST_LN_STATUS n) g = s.fld (R.HOST_LN_STATUS n) g := status_hostTo _ n 4 apart

theorem hostState_hostNoPeer : hostState (hostNoPeer n s) n = 4 := hostState_hostActive _ n

/-- The taps come into force beside the registers, so of the status a lane without a peer shows that alone. -/
theorem status_hostNoPeer {g : Fld} (apart : F.HOST_LN_STATUS_STATE.apart g := by unfold Fld.apart; decide) :
    (hostNoPeer n s).fld (R.HOST_LN_STATUS n) g =
      (s.setFld (R.HOST_LN_STATUS n) F.HOST_LN_STATUS_TRAIN_NOPEER 1).fld (R.HOST_LN_STATUS n) g := status_hostActive _ n apart

/-- A lane that skips training, and each with training off, is ACTIVE; another one waits for training frames. -/
theorem hostState_hostLocked : hostState (hostLocked n s) n = if s.host.lanes[n].skip || !trainAuto s then 4 else 2 := by
  cases skips : s.host.lanes[n].skip with
  | true =>
    rw [hostLocked, if_pos skips]
    exact (hostState_hostActive s n).trans (if_pos (Bool.true_or _)).symm
  | false =>
    rw [hostLocked, if_neg (ne_true_of_eq_false skips)]
    cases trainAuto s with
    | true => exact (hostState_hostTo s n (by decide)).trans (if_neg (by decide)).symm
    | false => exact (hostState_hostNoPeer s n).trans (if_pos (by decide)).symm

theorem status_hostLocked {g : Fld} (state : F.HOST_LN_STATUS_STATE.apart g := by unfold Fld.apart; decide)
    (peer : F.HOST_LN_STATUS_TRAIN_NOPEER.apart g := by unfold Fld.apart; decide) :
    (hostLocked n s).fld (R.HOST_LN_STATUS n) g = s.fld (R.HOST_LN_STATUS n) g := by
  unfold hostLocked
  split
  · exact status_hostActive s n state
  · split
    · exact status_hostTo s n 2 state
    · exact (status_hostNoPeer s n state).trans (s.fld_setFld_apart _ _ g 1 (by unfold Fld.fits; decide) peer)

end Sys2Proof.Machine
end

section
/-!
PROOF. Signal, clock recovery and frequency events of a host lane (R175, R178, R179, R183, R184).
-/
namespace Sys2Proof.Machine

variable (s : State) (n : Fin 8)

/-! ### A lane that falls back (R179) -/

/-- The CDR's lock drops, and outside the test modes bring-up repeats from step 2. -/
def hostFall : State := if hostState (cdrDrop n s) n = 5 then cdrDrop n s else hostTo n 1 (cdrDrop n s)

theorem hostState_hostFall : hostState (hostFall s n) n = if hostState s n = 5 then 5 else 1 := by
  have same : hostState (cdrDrop n s) n = hostState s n := status_cdrDrop s n
  unfold hostFall
  rw [same]
  split
  next test => exact same.trans test
  next => exact hostState_hostTo _ n (by decide)

/-- Beside the state and the lock a fall leaves the lane's status. -/
theorem status_hostFall {g : Fld} (state : F.HOST_LN_STATUS_STATE.apart g := by unfold Fld.apart; decide)
    (lock : F.HOST_LN_STATUS_CDR_LOCK.apart g := by unfold Fld.apart; decide) :
    (hostFall s n).fld (R.HOST_LN_STATUS n) g = s.fld (R.HOST_LN_STATUS n) g := by
  unfold hostFall
  split
  · exact status_cdrDrop s n lock
  · exact (status_hostTo _ n 1 state).trans (status_cdrDrop s n lock)

theorem unlocked_hostFall : (hostFall s n).flag (R.HOST_LN_STATUS n) F.HOST_LN_STATUS_CDR_LOCK = false := by
  unfold hostFall
  split
  · exact unlocked_cdrDrop s n
  · exact (flag_of_fld (status_hostTo _ n 1)).trans (unlocked_cdrDrop s n)

/-- A flag of the status that an event raises is seen after the fall, and the state is the one before the event's. -/
theorem hostFall_raised {f : Fld} (id : Nat) (one : f.w = 1 := by rfl) (fits : f.fits := by unfold Fld.fits; decide)
    (state : F.HOST_LN_STATUS_STATE.apart f := by unfold Fld.apart; decide) (lock : F.HOST_LN_STATUS_CDR_LOCK.apart f := by unfold Fld.apart; decide)
    (below : f.apart F.HOST_LN_STATUS_STATE := by unfold Fld.apart; decide) :
    let u := hostFall (s.raise1 (R.HOST_LN_STATUS n) f id) n
    u.flag (R.HOST_LN_STATUS n) f = true ∧ u.flag (R.HOST_LN_STATUS n) F.HOST_LN_STATUS_CDR_LOCK = false ∧
      hostState u n = if hostState s n = 5 then 5 else 1 := by
  intro u
  have journal := (laneReg_status n).ne_journal
  have same : hostState (s.raise1 (R.HOST_LN_STATUS n) f id) n = hostState s n := fld_raise_apart s journal fits below 1 id
  refine ⟨(flag_of_fld (status_hostFall _ n state lock)).trans (s.flag_raise1 journal f id fits one), unlocked_hostFall _ n, ?_⟩
  rw [← same]
  exact hostState_hostFall _ n

/-! ### Signal (R179) -/

variable {s n}

theorem hostSignal_detects (enabled : hostEn s n = true) (awake : deepSleep s = false)
    (dark : s.flag (R.HOST_LN_STATUS n) F.HOST_LN_STATUS_SIG_DET = false) : let u := hostSignal n s
    u.flag (R.HOST_LN_STATUS n) F.HOST_LN_STATUS_SIG_DET = true ∧ hostState u n = if hostState s n ≤ 1 then 1 else hostState s n := by
  intro u
  obtain ⟨t, ht⟩ : ∃ t, t = s.setFld (R.HOST_LN_STATUS n) F.HOST_LN_STATUS_SIG_DET 1 := ⟨_, rfl⟩
  have acts : u = if hostState t n ≤ 1 then hostTo n 1 t else t := by rw [ht]; exact if_pos (by simp only [enabled, awake, dark]; decide)
  have shown : t.flag (R.HOST_LN_STATUS n) F.HOST_LN_STATUS_SIG_DET = true := by
    rw [ht]
    exact flag_setFld_one s (by unfold Fld.fits; decide) rfl
  have same : hostState t n = hostState s n := by
    rw [ht]
    exact s.fld_setFld_apart _ _ _ 1 (by unfold Fld.fits; decide) (by unfold Fld.apart; decide)
  rw [acts, same]
  split
  · exact ⟨(flag_of_fld (status_hostTo t n 1)).trans shown, hostState_hostTo t n (by decide)⟩
  · exact ⟨shown, same⟩

theorem hostSignal_rests (rests : hostEn s n = false ∨ deepSleep s = true ∨ s.flag (R.HOST_LN_STATUS n) F.HOST_LN_STATUS_SIG_DET = true) :
    hostSignal n s = s := by
  refine if_neg fun ⟨enabled, awake, dark⟩ => ?_
  rcases rests with off | asleep | seen
  · exact absurd enabled (by rw [off]; decide)
  · exact absurd awake (by rw [asleep]; decide)
  · exact absurd dark (by rw [seen]; decide)

theorem hostLos_falls (seen : s.flag (R.HOST_LN_STATUS n) F.HOST_LN_STATUS_SIG_DET = true) : let u := hostLos n s
    u.flag (R.HOST_LN_STATUS n) F.HOST_LN_STATUS_SIG_DET = false ∧ u.flag (R.HOST_LN_STATUS n) F.HOST_LN_STATUS_LOS = true ∧
      u.flag (R.HOST_LN_STATUS n) F.HOST_LN_STATUS_CDR_LOCK = false ∧ hostState u n = if hostState s n = 5 then 5 else 1 := by
  intro u
  obtain ⟨t, ht⟩ : ∃ t, t = s.setFld (R.HOST_LN_STATUS n) F.HOST_LN_STATUS_SIG_DET 0 := ⟨_, rfl⟩
  have acts : u = hostFall (t.raise1 (R.HOST_LN_STATUS n) F.HOST_LN_STATUS_LOS (334 + n)) n := by rw [ht]; exact if_pos seen
  have same : hostState t n = hostState s n := by
    rw [ht]
    exact s.fld_setFld_apart _ _ _ 0 (by unfold Fld.fits; decide) (by unfold Fld.apart; decide)
  have gone : t.flag (R.HOST_LN_STATUS n) F.HOST_LN_STATUS_SIG_DET = false := by
    rw [ht]
    exact flag_setFld_zero s (by unfold Fld.fits; decide) rfl
  have kept : u.fld (R.HOST_LN_STATUS n) F.HOST_LN_STATUS_SIG_DET = t.fld (R.HOST_LN_STATUS n) F.HOST_LN_STATUS_SIG_DET := by
    rw [acts]
    exact (status_hostFall _ n).trans (fld_raise_apart t (laneReg_status n).ne_journal (by unfold Fld.fits; decide) (by unfold Fld.apart; decide) 1 _)
  refine ⟨(flag_of_fld kept).trans gone, ?_⟩
  rw [acts, ← same]
  exact hostFall_raised t n _

/-! ### Clock recovery (R178, R179) -/

theorem hostCdrLol_falls (locked : s.flag (R.HOST_LN_STATUS n) F.HOST_LN_STATUS_CDR_LOCK = true) : let u := hostCdrLol n s
    u.flag (R.HOST_LN_STATUS n) F.HOST_LN_STATUS_CDR_LOL = true ∧ u.flag (R.HOST_LN_STATUS n) F.HOST_LN_STATUS_CDR_LOCK = false ∧
      hostState u n = if hostState s n = 5 then 5 else 1 := by
  intro u
  have acts : u = hostFall (s.raise1 (R.HOST_LN_STATUS n) F.HOST_LN_STATUS_CDR_LOL (334 + n)) n := if_pos locked
  rw [acts]
  exact hostFall_raised s n _

theorem hostFreqErr_falls {ofs : Int} (seen : s.flag (R.HOST_LN_STATUS n) F.HOST_LN_STATUS_SIG_DET = true) (beyond : freqLimit s < ofs.natAbs) :
    let u := hostFreqErr n ofs s
    u.flag (R.HOST_LN_STATUS n) F.HOST_LN_STATUS_FREQ_ERR = true ∧ u.flag (R.HOST_LN_STATUS n) F.HOST_LN_STATUS_CDR_LOCK = false ∧
      hostState u n = if hostState s n = 5 then 5 else 1 := by
  intro u
  obtain ⟨t, ht⟩ : ∃ t, t = s.setFld (R.HOST_LN_STATUS n) F.HOST_LN_STATUS_FREQ_OFS (unsigned 16 (clampInt (-32768) 32767 ofs)) := ⟨_, rfl⟩
  have acts : u = hostFall (t.raise1 (R.HOST_LN_STATUS n) F.HOST_LN_STATUS_FREQ_ERR (334 + n)) n := by rw [ht]; exact if_pos ⟨seen, beyond⟩
  have same : hostState t n = hostState s n := by
    rw [ht]
    exact s.fld_setFld_apart _ _ _ _ (by unfold Fld.fits; decide) (by unfold Fld.apart; decide)
  rw [acts, ← same]
  exact hostFall_raised t n _

theorem hostFreqErr_rests {ofs : Int}
    (rests : s.flag (R.HOST_LN_STATUS n) F.HOST_LN_STATUS_SIG_DET = false ∨ ofs.natAbs ≤ freqLimit s) : hostFreqErr n ofs s = s := by
  refine if_neg fun ⟨seen, beyond⟩ => ?_
  rcases rests with dark | within
  · exact absurd seen (by rw [dark]; decide)
  · omega

/-! ### CDR lock (R176, R179, R183) -/

variable (s n)

/-- The CTLE setting in force at the lock: the manual one, the retained one of a lane that returns, or the one chosen. -/
def ctleChosen (ctle : Nat) : State :=
  if s.flag (R.HOST_LN_CFG n) F.HOST_LN_CFG_CTLE_MAN
    then s.setFld (R.HOST_LN_STATUS n) F.HOST_LN_STATUS_CTLE_EFF (s.fld (R.HOST_LN_CFG n) F.HOST_LN_CFG_CTLE)
  else if s.host.lanes[n].skip then s
  else s.setFld (R.HOST_LN_STATUS n) F.HOST_LN_STATUS_CTLE_EFF ctle

theorem ctleChosen_ctle (ctle : Nat) : (ctleChosen s n ctle).fld (R.HOST_LN_STATUS n) F.HOST_LN_STATUS_CTLE_EFF =
    if s.flag (R.HOST_LN_CFG n) F.HOST_LN_CFG_CTLE_MAN then s.fld (R.HOST_LN_CFG n) F.HOST_LN_CFG_CTLE
    else if s.host.lanes[n].skip then s.fld (R.HOST_LN_STATUS n) F.HOST_LN_STATUS_CTLE_EFF else ctle % 2 ^ F.HOST_LN_STATUS_CTLE_EFF.w := by
  have fits : F.HOST_LN_STATUS_CTLE_EFF.fits := by unfold Fld.fits; decide
  unfold ctleChosen
  split
  · exact (s.fld_setFld _ _ _ fits).trans (Nat.mod_eq_of_lt (fld_lt s _ F.HOST_LN_CFG_CTLE))
  · split
    · rfl
    · exact s.fld_setFld _ _ _ fits

theorem ctleChosen_eq (ctle : Nat) : ctleChosen s n ctle = s ∨
    ∃ v, ctleChosen s n ctle = s.setFld (R.HOST_LN_STATUS n) F.HOST_LN_STATUS_CTLE_EFF v := by
  unfold ctleChosen
  split
  · exact .inr ⟨_, rfl⟩
  · split
    · exact .inl rfl
    · exact .inr ⟨_, rfl⟩

/-- The choice leaves what bring-up goes by. -/
theorem ctleChosen_keeps (ctle : Nat) : let u := ctleChosen s n ctle
    u.host = s.host ∧ hostState u n = hostState s n ∧ trainAuto u = trainAuto s := by
  intro u
  have away : R.HOST_CTRL ≠ R.HOST_LN_STATUS n := by unfold R.HOST_CTRL R.HOST_LN_STATUS; omega
  rcases ctleChosen_eq s n ctle with none | ⟨v, sets⟩
  · exact ⟨congrArg _ none, congrArg (hostState · n) none, congrArg _ none⟩
  · simp only [u, sets]
    exact ⟨rfl, s.fld_setFld_apart _ _ _ v (by unfold Fld.fits; decide) (by unfold Fld.apart; decide),
      flag_of_fld (s.fld_setFld_ne away _ _ v)⟩

/-- The lane has CDR lock, with the setting and the measured offset. -/
def hostCdrTaken (ctle : Nat) (ofs : Int) : State :=
  steerFollow (((ctleChosen s n ctle).setFld (R.HOST_LN_STATUS n) F.HOST_LN_STATUS_FREQ_OFS (unsigned 16 (clampInt (-32768) 32767 ofs))).setFld
    (R.HOST_LN_STATUS n) F.HOST_LN_STATUS_CDR_LOCK 1)

theorem hostCdrTaken_locks (ctle : Nat) (ofs : Int) : let u := hostCdrTaken s n ctle ofs
    u.flag (R.HOST_LN_STATUS n) F.HOST_LN_STATUS_CDR_LOCK = true ∧
      u.fld (R.HOST_LN_STATUS n) F.HOST_LN_STATUS_CTLE_EFF = (ctleChosen s n ctle).fld (R.HOST_LN_STATUS n) F.HOST_LN_STATUS_CTLE_EFF := by
  intro u
  obtain ⟨t, ht⟩ : ∃ t, t = (ctleChosen s n ctle).setFld (R.HOST_LN_STATUS n) F.HOST_LN_STATUS_FREQ_OFS
    (unsigned 16 (clampInt (-32768) 32767 ofs)) := ⟨_, rfl⟩
  have steered : LanesKept (t.setFld (R.HOST_LN_STATUS n) F.HOST_LN_STATUS_CDR_LOCK 1) u := by rw [ht]; exact lanesKept_steerFollow _
  refine ⟨(steered.flag (laneReg_status n) _).trans (flag_setFld_one t (by unfold Fld.fits; decide) rfl), ?_⟩
  rw [steered.fld (laneReg_status n), t.fld_setFld_apart _ _ _ _ (by unfold Fld.fits; decide) (by unfold Fld.apart; decide), ht]
  exact State.fld_setFld_apart _ _ _ _ _ (by unfold Fld.fits; decide) (by unfold Fld.apart; decide)

/-- The lock leaves what bring-up goes by. -/
theorem hostCdrTaken_keeps (ctle : Nat) (ofs : Int) : let u := hostCdrTaken s n ctle ofs
    u.host = s.host ∧ hostState u n = hostState s n ∧ trainAuto u = trainAuto s := by
  intro u
  have away : R.HOST_CTRL ≠ R.HOST_LN_STATUS n := by unfold R.HOST_CTRL R.HOST_LN_STATUS; omega
  obtain ⟨host, state, train⟩ := ctleChosen_keeps s n ctle
  refine ⟨(steerFollow_host _).trans host, ?_, ?_⟩
  · refine ((lanesKept_steerFollow _).hostState n).trans (Eq.trans ?_ state)
    exact (State.fld_setFld_apart _ _ _ _ _ (by unfold Fld.fits; decide) (by unfold Fld.apart; decide)).trans
      (State.fld_setFld_apart _ _ _ _ _ (by unfold Fld.fits; decide) (by unfold Fld.apart; decide))
  · exact (lanesKept_steerFollow _).trainAuto.trans
      ((flag_of_fld ((State.fld_setFld_ne _ away _ _ _).trans (State.fld_setFld_ne _ away _ _ _))).trans train)

variable {s n}

theorem hostCdrLock_locks {ctle : Nat} {ofs : Int} (seen : s.flag (R.HOST_LN_STATUS n) F.HOST_LN_STATUS_SIG_DET = true)
    (free : s.flag (R.HOST_LN_STATUS n) F.HOST_LN_STATUS_CDR_LOCK = false) (within : ofs.natAbs ≤ freqLimit s) : let u := hostCdrLock n ctle ofs s
    u.flag (R.HOST_LN_STATUS n) F.HOST_LN_STATUS_CDR_LOCK = true ∧
      (hostState u n = if hostState s n = 1 then (if s.host.lanes[n].skip || !trainAuto s then 4 else 2) else hostState s n) ∧
      u.fld (R.HOST_LN_STATUS n) F.HOST_LN_STATUS_CTLE_EFF =
        if s.flag (R.HOST_LN_CFG n) F.HOST_LN_CFG_CTLE_MAN then s.fld (R.HOST_LN_CFG n) F.HOST_LN_CFG_CTLE
        else if s.host.lanes[n].skip then s.fld (R.HOST_LN_STATUS n) F.HOST_LN_STATUS_CTLE_EFF
        else ctle % 2 ^ F.HOST_LN_STATUS_CTLE_EFF.w := by
  intro u
  obtain ⟨lock, setting⟩ := hostCdrTaken_locks s n ctle ofs
  obtain ⟨host, state, train⟩ := hostCdrTaken_keeps s n ctle ofs
  have acts : u = if hostState (hostCdrTaken s n ctle ofs) n = 1 then hostLocked n (hostCdrTaken s n ctle ofs) else hostCdrTaken s n ctle ofs :=
    (if_pos ⟨seen, by rw [free]; rfl⟩).trans (if_neg (Nat.not_lt.mpr within))
  rw [acts, state, ← ctleChosen_ctle, ← setting]
  split
  · refine ⟨(flag_of_fld (status_hostLocked _ n)).trans lock, ?_, status_hostLocked _ n⟩
    rw [hostState_hostLocked, host, train]
  · exact ⟨lock, state, rfl⟩

theorem hostCdrLock_beyond {ctle : Nat} {ofs : Int} (seen : s.flag (R.HOST_LN_STATUS n) F.HOST_LN_STATUS_SIG_DET = true)
    (free : s.flag (R.HOST_LN_STATUS n) F.HOST_LN_STATUS_CDR_LOCK = false) (beyond : freqLimit s < ofs.natAbs) :
    hostCdrLock n ctle ofs s = hostFreqErr n ofs s :=
  (if_pos ⟨seen, by rw [free]; rfl⟩).trans (if_pos beyond)

theorem hostCdrLock_rests {ctle : Nat} {ofs : Int}
    (rests : s.flag (R.HOST_LN_STATUS n) F.HOST_LN_STATUS_SIG_DET = false ∨ s.flag (R.HOST_LN_STATUS n) F.HOST_LN_STATUS_CDR_LOCK = true) :
    hostCdrLock n ctle ofs s = s := by
  refine if_neg fun ⟨seen, free⟩ => ?_
  rcases rests with dark | locked
  · exact absurd seen (by rw [dark]; decide)
  · exact absurd free (by rw [locked]; decide)

/-- Settles O26: each event acts by the branch of its operation, and what follows leaves the lanes' settings and status. -/
theorem hostLaneSignalEventsComplete : Obligations.HostLaneSignalEventsComplete := by
  intro s n running st
  refine ⟨?detected, ?undetected, ?lost, ?unlost, fun ctle ofs seen free => ⟨?locked, ?beyond⟩, ?unlocked, ?slipped, ?unslipped, ?strayed, ?unstrayed⟩
  case detected =>
    exact fun enabled awake dark => ⟨_, completes_of_outcome s (g := hostSignal n) rfl running, hostSignal_detects enabled awake dark⟩
  case undetected => exact fun rests => completes_unchanged s (g := hostSignal n) rfl running (hostSignal_rests rests)
  case lost => exact fun seen => ⟨_, completes_of_outcome s (g := hostLos n) rfl running, hostLos_falls seen⟩
  case unlost =>
    exact fun dark => completes_unchanged s (g := hostLos n) rfl running (if_neg (ne_true_of_eq_false dark))
  case locked => exact fun within => ⟨_, completes_of_outcome s (g := hostCdrLock n ctle ofs) rfl running, hostCdrLock_locks seen free within⟩
  case beyond =>
    intro far
    have lock : exec (.hostCdrLock n ctle ofs) s = _ := completes_of_outcome s (g := hostCdrLock n ctle ofs) rfl running
    rw [lock, hostCdrLock_beyond seen free far]
    exact (completes_of_outcome s (c := .hostFreqErr n ofs) (g := hostFreqErr n ofs) rfl running).symm
  case unlocked => exact fun ctle ofs rests => completes_unchanged s (g := hostCdrLock n ctle ofs) rfl running (hostCdrLock_rests rests)
  case slipped =>
    intro locked
    obtain ⟨slip, lock, state⟩ := hostCdrLol_falls locked
    exact ⟨_, completes_of_outcome s (g := hostCdrLol n) rfl running, lock, slip, state⟩
  case unslipped => exact fun free => completes_unchanged s (g := hostCdrLol n) rfl running (if_neg (ne_true_of_eq_false free))
  case strayed => exact fun ofs seen far => ⟨_, completes_of_outcome s (g := hostFreqErr n ofs) rfl running, hostFreqErr_falls seen far⟩
  case unstrayed => exact fun ofs rests => completes_unchanged s (g := hostFreqErr n ofs) rfl running (hostFreqErr_rests rests)

end Sys2Proof.Machine
end

section
/-!
PROOF. Link training of a host lane: its start, the requests it answers, its search and its ends (R179 to R182).
-/
namespace Sys2Proof.Machine

variable {s : State} {n : Fin 8}

/-! ### Start and want of a peer (R179) -/

theorem modHost_lane (g : HostLane → HostLane) : (modHost n g s).host.lanes[n] = g s.host.lanes[n] := vmod_same _ _ _

theorem hostTrainBegin_trains : hostState (hostTrainBegin n s) n = 3 ∧ (hostTrainBegin n s).host.lanes[n].train = some {} := by
  obtain ⟨t, ht⟩ : ∃ t, t = hostTo n 3 (s.addSat (R.HOST_LN_FOM n) F.HOST_LN_FOM_TRAIN_COUNT 1) := ⟨_, rfl⟩
  obtain ⟨u, hu⟩ : ∃ u, u = t.setFld (R.HOST_LN_STATUS n) F.HOST_LN_STATUS_TRAIN_NOPEER 0 := ⟨_, rfl⟩
  have begins : hostTrainBegin n s = modHost n (fun l => { l with skip := false, train := some {}, req := some (.preset (chanClass u + 1)) }) u := by
    rw [hu, ht]
    rfl
  have state : hostState u n = hostState t n := by
    rw [hu]
    exact t.fld_setFld_apart _ _ _ 0 (by unfold Fld.fits; decide) (by unfold Fld.apart; decide)
  rw [begins, modHost_lane]
  refine ⟨state.trans ?_, rfl⟩
  rw [ht]
  exact hostState_hostTo _ n (by decide)

theorem hostTrainFrames_trains (auto : trainAuto s = true) (normal : hostTest s = 0) (waits : hostState s n = 2 ∨ hostState s n = 4) :
    let u := hostTrainFrames n s
    hostState u n = 3 ∧ u.host.lanes[n].train = some {} := by
  intro u
  have acts : u = hostTrainBegin n s := if_pos ⟨auto, normal, waits⟩
  rw [acts]
  exact hostTrainBegin_trains

theorem hostTrainFrames_rests (rests : trainAuto s = false ∨ hostTest s ≠ 0 ∨ (hostState s n ≠ 2 ∧ hostState s n ≠ 4)) : hostTrainFrames n s = s := by
  refine if_neg fun ⟨auto, normal, waits⟩ => ?_
  rcases rests with off | test | ⟨notLocked, notActive⟩
  · exact absurd auto (ne_true_of_eq_false off)
  · exact test normal
  · exact waits.elim notLocked notActive

theorem hostTrainNoPeer_ends (waits : hostState s n = 2) : let u := hostTrainNoPeer n s
    hostState u n = 4 ∧ u.flag (R.HOST_LN_STATUS n) F.HOST_LN_STATUS_TRAIN_NOPEER = true := by
  intro u
  have acts : u = hostNoPeer n s := if_pos waits
  rw [acts]
  exact ⟨hostState_hostNoPeer s n, (flag_of_fld (status_hostNoPeer s n)).trans (flag_setFld_one s (by unfold Fld.fits; decide) rfl)⟩

/-! ### Requests of the host (R182) -/

theorem hostCoefRequest_answers {q : CoefReq} (takes : (!groupReacting s (if n.val < 4 then 0 else 1) &&
    (hostState s n == 3 || (hostState s n == 4 && !trainAuto s))) = true) : let u := hostCoefRequest n q s
    u.host.lanes[n].resp = some (coefAnswer s n q).1 ∧ u.regs = s.regs := by
  intro u
  obtain ⟨t, ht⟩ : ∃ t, t = if (coefAnswer s n q).1 = .updated then setFir n (coefAnswer s n q).2 s else s := ⟨_, rfl⟩
  obtain ⟨free, answers⟩ := Bool.and_eq_true_iff.mp takes
  have acts : u = modHost n (fun x => { x with resp := some (coefAnswer s n q).1 }) t := by
    rw [ht]
    refine if_neg ?_
    rw [answers, (Bool.not_eq_true' _).mp free]
    decide
  have regs : t.regs = s.regs := by
    rw [ht]
    split <;> rfl
  rw [acts, modHost_lane]
  exact ⟨rfl, regs⟩

theorem hostCoefRequest_rests {q : CoefReq} (rests : (!groupReacting s (if n.val < 4 then 0 else 1) &&
    (hostState s n == 3 || (hostState s n == 4 && !trainAuto s))) = false) : hostCoefRequest n q s = s := by
  refine if_pos ?_
  rcases Bool.and_eq_false_iff.mp rests with reacts | idle
  · rw [(Bool.not_eq_false' _).mp reacts, Bool.true_or]
  · rw [idle, Bool.not_false, Bool.or_true]

/-! ### The search (R181) -/

variable {t : HostTrain}

theorem hostCoefStatus_preset {q : CoefReq} (r : CoefStatus) (runs : s.host.lanes[n].train = some t) (asked : s.host.lanes[n].req = some q)
    (preset : t.phase = .preset) : hostCoefStatus n r s = setSearch n { t with phase := .base } none s := by
  simp only [hostCoefStatus, runs, asked, preset]

theorem hostCoefStatus_updated {q : CoefReq} (runs : s.host.lanes[n].train = some t) (asked : s.host.lanes[n].req = some q)
    (step : t.phase = .step) : hostCoefStatus n .updated s = setSearch n { t with phase := .trial } none s := by
  simp only [hostCoefStatus, runs, asked, step, if_true]

theorem setSearch_sets (q : Option CoefReq) : let u := setSearch n t q s
    u.host.lanes[n].train = some t ∧ u.host.lanes[n].req = q := by
  intro u
  rw [show u = modHost n _ s from rfl, modHost_lane]
  exact ⟨rfl, rfl⟩

theorem searchStep_requests (up : Bool) (phase : TrainPhase) : let u := searchStep n t up phase s
    u.regs = s.regs ∧ u.host.lanes[n].train = some { t with phase := phase } ∧ u.host.lanes[n].req = some (.step (hostOrder t.i) up) :=
  ⟨rfl, setSearch_sets _⟩

theorem hostTrialDone_base (sum cnt : Nat) (runs : s.host.lanes[n].train = some t) (base : t.phase = .base) :
    hostTrialDone n sum cnt s = searchStep n { t with bSum := sum, bCnt := cnt, i := 0, up := true } true .step s := by
  simp only [hostTrialDone, runs, base]

theorem hostTrialDone_trial (sum cnt : Nat) (runs : s.host.lanes[n].train = some t) (trial : t.phase = .trial) :
    hostTrialDone n sum cnt s = if sum * t.bCnt < (t.bSum + s.fld R.HOST_CTRL F.HOST_CTRL_TRAIN_MIN_GAIN * t.bCnt) * cnt
      then searchStep n t (!t.up) .revert s
      else searchStep n { t with bSum := sum, bCnt := cnt, moved := true, kept := t.kept + 1 } t.up .step s := by
  simp only [hostTrialDone, runs, trial]

theorem hostTrialDone_regs (sum cnt : Nat) : (hostTrialDone n sum cnt s).regs = s.regs := by
  unfold hostTrialDone
  split
  · rfl
  · split
    · rfl
    · dsimp only
      split <;> rfl
    · rfl

/-! ### Ends (R181) -/

theorem hostTrainDone_ends (runs : s.host.lanes[n].train = some t) (ready : t.ready = true) (trains : hostState s n = 3) :
    let u := hostTrainDone n s
    hostState u n = 4 ∧ u.flag (R.HOST_LN_STATUS n) F.HOST_LN_STATUS_TRAIN_DONE = true := by
  intro u
  have acts : u = hostActive n (s.setFld (R.HOST_LN_STATUS n) F.HOST_LN_STATUS_TRAIN_DONE 1) := by
    simp only [u, hostTrainDone, runs, ready, trains, and_self, if_true]
  rw [acts]
  exact ⟨hostState_hostActive _ n, (flag_of_fld (status_hostActive _ n)).trans (flag_setFld_one s (by unfold Fld.fits; decide) rfl)⟩

theorem hostTrainDone_rests (idle : hostState s n ≠ 3) : hostTrainDone n s = s := by
  unfold hostTrainDone
  split
  · exact if_neg fun both => idle both.2
  · rfl

theorem hostTrainTimeout_ends (trains : hostState s n = 3) : let u := hostTrainTimeout n s
    hostState u n = 4 ∧ u.flag (R.HOST_LN_STATUS n) F.HOST_LN_STATUS_TRAIN_FAIL = true := by
  intro u
  have acts : u = hostActive n (s.raise1 (R.HOST_LN_STATUS n) F.HOST_LN_STATUS_TRAIN_FAIL (334 + n)) := if_pos trains
  rw [acts]
  exact ⟨hostState_hostActive _ n, (flag_of_fld (status_hostActive _ n)).trans
    (s.flag_raise1 (laneReg_status n).ne_journal _ _ (by unfold Fld.fits; decide) rfl)⟩

/-- Settles O27: each event acts by the branch of its operation, the search by its phase. -/
theorem hostLaneTrainingComplete : Obligations.HostLaneTrainingComplete := by
  intro s n running st
  refine ⟨?frames, ?noFrames, ?noPeer, ?notWaiting, ?request, ?status, ?trial, ?noTrial, ?done, ?timeout, ?idle⟩
  case frames =>
    exact fun auto normal waits => ⟨_, completes_of_outcome s (g := hostTrainFrames n) rfl running, hostTrainFrames_trains auto normal waits⟩
  case noFrames => exact fun rests => completes_unchanged s (g := hostTrainFrames n) rfl running (hostTrainFrames_rests rests)
  case noPeer => exact fun waits => ⟨_, completes_of_outcome s (g := hostTrainNoPeer n) rfl running, hostTrainNoPeer_ends waits⟩
  case notWaiting => exact fun other => completes_unchanged s (g := hostTrainNoPeer n) rfl running (if_neg other)
  case request =>
    intro q takes
    exact ⟨fun answers => ⟨_, completes_of_outcome s (g := hostCoefRequest n q) rfl running, hostCoefRequest_answers answers⟩,
      fun rests => completes_unchanged s (g := hostCoefRequest n q) rfl running (hostCoefRequest_rests rests)⟩
  case status =>
    intro t q r runs asked
    have completes := completes_of_outcome s (c := .hostCoeffStatus n r) (g := hostCoefStatus n r) rfl running
    refine ⟨fun preset => ⟨_, completes, ?_⟩, fun step updated => ⟨_, completes, ?_⟩⟩
    · rw [hostCoefStatus_preset r runs asked preset]
      exact setSearch_sets none
    · subst updated
      rw [hostCoefStatus_updated runs asked step]
      exact setSearch_sets none
  case trial =>
    intro t sum cnt runs
    refine ⟨_, completes_of_outcome s (g := hostTrialDone n sum cnt) rfl running, hostTrialDone_regs sum cnt, fun base => ?_, fun trial =>
      ⟨fun loses => ?_, fun gains => ?_⟩⟩
    · rw [hostTrialDone_base sum cnt runs base]
      exact (searchStep_requests _ _).2
    · rw [hostTrialDone_trial sum cnt runs trial, if_pos loses]
      exact (searchStep_requests _ _).2
    · rw [hostTrialDone_trial sum cnt runs trial, if_neg gains]
      exact (searchStep_requests _ _).2
  case noTrial =>
    intro sum cnt idle
    exact completes_unchanged s (g := hostTrialDone n sum cnt) rfl running (by simp only [hostTrialDone, idle])
  case done => exact fun t runs ready trains => ⟨_, completes_of_outcome s (g := hostTrainDone n) rfl running, hostTrainDone_ends runs ready trains⟩
  case timeout => exact fun trains => ⟨_, completes_of_outcome s (g := hostTrainTimeout n) rfl running, hostTrainTimeout_ends trains⟩
  case idle =>
    exact fun other => ⟨completes_unchanged s (g := hostTrainDone n) rfl running (hostTrainDone_rests other),
      completes_unchanged s (g := hostTrainTimeout n) rfl running (if_neg other)⟩

end Sys2Proof.Machine
end

section
/-!
PROOF. Writes of the host lanes' registers: what a write stores, and that a lane's operations reach no setting and no other lane's status
(R11, R174, R190).
-/
namespace Sys2Proof.Machine

variable (s : State)

/-! ### The word of a one-field write -/

/-- One field of the word in which a write keeps what the register stores. -/
def keepFld (a : Nat) (w : Word) (f : Fld) : Word := if f.ty = .rw ∨ f.ty = .rwl then f.put w (s.fld a f) else w

theorem get_foldl_keepFld (a : Nat) {g : Fld} : ∀ (l : List Fld) (x : Word), (∀ f ∈ l, f.fits ∧ f.apart g) → g.get (l.foldl (keepFld s a) x) = g.get x
  | [], _, _ => rfl
  | f :: l, x, h => by
    obtain ⟨⟨fits, apart⟩, rest⟩ := List.forall_mem_cons.mp h
    have first : g.get (keepFld s a x f) = g.get x := by
      unfold keepFld
      split
      · exact get_put_apart f g x _ fits apart
      · rfl
    exact (get_foldl_keepFld a l _ rest).trans first

section
variable {a : Nat} {r : RegSpec} (spec : specAt a = some r)
include spec

theorem keepWord_eq : keepWord s a = r.flds.foldl (keepFld s a) 0 := by
  rw [keepWord, spec]
  refine congrArg (fun step => r.flds.foldl step 0) (funext fun w => funext fun f => ?_)
  unfold keepFld
  cases f.ty <;> rfl

/-- A read-write field of the word holds what the register stores, a command bit 0. -/
theorem get_keepWord (laid : Laid r.flds) {f : Fld} (field : f ∈ r.flds) :
    f.get (keepWord s a) = if f.ty = .rw ∨ f.ty = .rwl then s.fld a f else 0 := by
  obtain ⟨lower, upper, row⟩ := List.append_of_mem field
  obtain ⟨order, inside⟩ := laid
  rw [row] at order inside
  obtain ⟨-, above, between⟩ := List.pairwise_append.mp order
  have below : ∀ g ∈ lower, g.fits ∧ g.apart f := fun g hg =>
    ⟨inside g (List.mem_append_left _ hg), .inl (between g hg f List.mem_cons_self)⟩
  have beyond : ∀ g ∈ upper, g.fits ∧ g.apart f := fun g hg =>
    ⟨inside g (List.mem_append_right _ (List.mem_cons_of_mem _ hg)), .inr ((List.pairwise_cons.mp above).1 g hg)⟩
  have fits : f.fits := inside f (List.mem_append_right _ List.mem_cons_self)
  have zero : f.get 0 = 0 := by simp [Fld.get]
  rw [keepWord_eq s spec, row, List.foldl_append, List.foldl_cons, get_foldl_keepFld s a upper _ beyond]
  unfold keepFld
  split
  · rw [get_put_same f _ _ fits]
    exact Nat.mod_mod _ _
  · exact (get_foldl_keepFld s a lower 0 below).trans zero

end

/-! ### The registers' writes -/

section
variable {a : Nat} (lane : LaneReg a)
include lane

theorem effects_host (o : Origin) (w : Word) (old : State) : effects o a w old s = effHost a w old s := by
  have noSem : arrIdx a (R.CHIP_SEM 0) 4 16 = none := by
    unfold arrIdx R.CHIP_SEM
    rw [if_neg]
    omega
  simp only [effects, noSem, show ¬ a < 0x10000 by omega, show ¬ a < 0x20000 by omega, show ¬ a < 0x30000 by omega, show ¬ a < 0x40000 by omega,
    show ¬ a < 0x50000 by omega, show ¬ a < 0x60000 by omega, show ¬ a < 0x80000 by omega, show ¬ a < 0x100000 by omega,
    show ¬ a < 0x200000 by omega, show a < 0x400000 by omega, if_true, if_false]

/-- What comes up to date before a write leaves the lanes' settings and status. -/
theorem lanesKept_before : LanesKept s (before a s) := by
  have clocks : LanesKept s (hostTxFollow (steerFollow s)) := (lanesKept_steerFollow s).trans (.of_regs (hostTxFollow_regs _))
  have notScrub : a ≠ R.CIS_SCRUB_CFG := by unfold R.CIS_SCRUB_CFG; omega
  unfold before
  rw [if_neg notScrub]
  exact (lanesKept_hostMeasure s _).ite ((LanesKept.forLanes fun k t => lanesKept_hostMeasure t k).ite (clocks.ite .refl _) _) _

/-- Each of the registers but a map stores the fields that a write reaches. -/
theorem store_laneReg (o : Origin) (r : RegSpec) (w : Word) : let x := storeWord s r a w
    store o r a w s = if (a = R.HOST_RX_MAP ∨ a = R.HOST_TX_MAP) ∧ !isPerm (F.HOST_RX_MAP_MAP.get x) then
      s.raise1 R.HOST_STATUS F.HOST_STATUS_MAP_ERR 342 else s.setReg a x := by
  intro x
  have stores : storesNothing a = false := by
    have noSem : arrIdx a (R.CHIP_SEM 0) 4 16 = none := by unfold arrIdx R.CHIP_SEM; rw [if_neg]; omega
    have noData : arrIdx a (R.ATL_PD_DATA 0) 0x1000 8 = none := by unfold arrIdx R.ATL_PD_DATA; rw [if_neg]; omega
    have notGateway : a ≠ R.SEEP_GW_TXDATA := by unfold R.SEEP_GW_TXDATA; omega
    simp [storesNothing, noSem, noData, notGateway, show ¬ a < 0x21000 by omega, show ¬ a < 0x33000 by omega]
  have present : monAbsent s a = false := by simp [monAbsent, show ¬ 0x208100 ≤ a by omega]
  have notLo : a ≠ R.THM_BAND_LO := by unfold R.THM_BAND_LO; omega
  have notHi : a ≠ R.THM_BAND_HI := by unfold R.THM_BAND_HI; omega
  have notWd : a ≠ R.SAF_WD_CFG := by unfold R.SAF_WD_CFG; omega
  have notCh : a ≠ R.MON_CH 16 := by unfold R.MON_CH; omega
  have notStage : a ≠ R.BOOT_STAGE_CTRL := by unfold R.BOOT_STAGE_CTRL; omega
  have keeps (t : State) : storeKeep o a s t = t := by
    simp only [storeKeep, notWd, notCh, notStage, false_and, if_false, show ¬ 0x800000 ≤ a by omega]
  simp only [store, stores, present, notLo, notHi, keeps, false_and, or_self, if_false]
  rfl

theorem stored_laneReg (notMap : a ≠ R.HOST_RX_MAP ∧ a ≠ R.HOST_TX_MAP) {r : RegSpec} (spec : specAt a = some r) (o : Origin) (w : Word) :
    stored o a w s = (before a s).setReg a (storeWord (before a s) r a w) := by
  simp only [stored, spec, store_laneReg _ lane, notMap, or_self, false_and, if_false]

/-- The other registers keep what they hold. -/
theorem reg_stored (notMap : a ≠ R.HOST_RX_MAP ∧ a ≠ R.HOST_TX_MAP) {r : RegSpec} (spec : specAt a = some r) (o : Origin) (w : Word) {b : Nat}
    (own : LaneReg b) (other : b ≠ a) : (stored o a w s).reg b = s.reg b := by
  rw [stored_laneReg s lane notMap spec, State.reg_setReg_ne _ other, lanesKept_before s lane b own]

/-- A read-write field holds what is written. -/
theorem fld_stored (notMap : a ≠ R.HOST_RX_MAP ∧ a ≠ R.HOST_TX_MAP) {r : RegSpec} (spec : specAt a = some r) (laid : Laid r.flds) {f : Fld}
    (field : f ∈ r.flds) (plain : f.ty = .rw) (unbounded : f.lim = none) (whole : r.masked = false) (o : Origin) (w : Word) :
    (stored o a w s).fld a f = f.get w := by
  rw [stored_laneReg s lane notMap spec, State.fld, State.reg_setReg]
  exact get_storeWord_plain _ laid field plain unbounded whole a w

end

/-! ### What a lane's operations reach -/

section
variable (n : Fin 8) {b : Nat} (lane : LaneReg b) (other : b ≠ R.HOST_LN_STATUS n)
include lane other

theorem reg_hostTo (v : Nat) : (hostTo n v s).reg b = s.reg b := (lanesKept_hostTo s n v b lane).trans (s.reg_setFld_ne other _ _)

theorem reg_cdrDrop : (cdrDrop n s).reg b = s.reg b := (lanesKept_cdrDrop s n b lane).trans (s.reg_setFld_ne other _ _)

theorem reg_hostLocked : (hostLocked n s).reg b = s.reg b := by
  have active (t : State) : (hostActive n t).reg b = t.reg b := reg_hostTo _ n lane other 4
  unfold hostLocked
  split
  · exact active s
  · split
    · exact reg_hostTo s n lane other 2
    · exact (active _).trans (s.reg_setFld_ne other _ _)

end

theorem status_ne {n k : Fin 8} (other : k ≠ n) : R.HOST_LN_STATUS n ≠ R.HOST_LN_STATUS k := by
  have apart : k.val ≠ n.val := fun same => other (Fin.ext same)
  unfold R.HOST_LN_STATUS
  omega

theorem cfg_ne_status (n k : Fin 8) : R.HOST_LN_CFG n ≠ R.HOST_LN_STATUS k := by unfold R.HOST_LN_CFG R.HOST_LN_STATUS; omega
theorem ctrl_ne_status (n : Fin 8) : R.HOST_CTRL ≠ R.HOST_LN_STATUS n := by unfold R.HOST_CTRL R.HOST_LN_STATUS; omega
theorem ctrl_ne_cfg (n : Fin 8) : R.HOST_CTRL ≠ R.HOST_LN_CFG n := by unfold R.HOST_CTRL R.HOST_LN_CFG; omega

theorem fld_of_reg {s t : State} {a : Nat} (same : t.reg a = s.reg a) (f : Fld) : t.fld a f = s.fld a f := congrArg f.get same

theorem hostEn_of_reg {s t : State} {n : Fin 8} (same : t.reg (R.HOST_LN_CFG n) = s.reg (R.HOST_LN_CFG n)) : hostEn t n = hostEn s n :=
  flag_of_fld (fld_of_reg same _)

theorem hostState_of_reg {s t : State} {n : Fin 8} (same : t.reg (R.HOST_LN_STATUS n) = s.reg (R.HOST_LN_STATUS n)) : hostState t n = hostState s n :=
  fld_of_reg same _

theorem trainAuto_of_reg {s t : State} (same : t.reg R.HOST_CTRL = s.reg R.HOST_CTRL) : trainAuto t = trainAuto s := flag_of_fld (fld_of_reg same _)

theorem hostTest_of_reg {s t : State} (same : t.reg R.HOST_CTRL = s.reg R.HOST_CTRL) : hostTest t = hostTest s := by
  simp only [hostTest, fld_of_reg same]

end Sys2Proof.Machine
end

section
/-!
PROOF. The commands on the host lanes' registers: enables, retrains, polarities, maps and test modes (R174, R175, R179, R182, R189).
-/
namespace Sys2Proof.Machine

variable {s : State} {n : Fin 8}

/-! ### HOST_LN_CFG -/

/-- The row of the lanes' settings. -/
def hostCfgSpec : RegSpec :=
  { base := 0x200000, dims := [(0x1000, 8)],
    flds := [F.HOST_LN_CFG_EN, F.HOST_LN_CFG_RX_POL, F.HOST_LN_CFG_TX_POL, F.HOST_LN_CFG_RETRAIN, F.HOST_LN_CFG_CTLE_MAN, F.HOST_LN_CFG_CTLE,
      F.HOST_LN_CFG_CDR_BW, F.HOST_LN_CFG_DFE_EN, F.HOST_LN_CFG_FFE_HOLD] }

theorem specAt_hostCfg (n : Fin 8) : specAt (R.HOST_LN_CFG n) = some hostCfgSpec := by revert n; decide +kernel

theorem laid_hostCfg : Laid hostCfgSpec.flds := by decide

theorem cfg_notMap (n : Fin 8) : R.HOST_LN_CFG n ≠ R.HOST_RX_MAP ∧ R.HOST_LN_CFG n ≠ R.HOST_TX_MAP := by
  unfold R.HOST_LN_CFG R.HOST_RX_MAP R.HOST_TX_MAP
  omega

theorem lane_cfg (n : Fin 8) : lane ((R.HOST_LN_CFG n - 0x200000) / 0x1000) = n := by
  revert n
  decide

/-- The settings stored, with the manual CTLE setting in force. -/
def cfgSettled (o : Origin) (n : Fin 8) (w : Word) (s : State) : State :=
  when ((stored o (R.HOST_LN_CFG n) w s).flag (R.HOST_LN_CFG n) F.HOST_LN_CFG_CTLE_MAN)
    (fun s => s.setFld (R.HOST_LN_STATUS n) F.HOST_LN_STATUS_CTLE_EFF (s.fld (R.HOST_LN_CFG n) F.HOST_LN_CFG_CTLE)) (stored o (R.HOST_LN_CFG n) w s)

theorem reg_cfgSettled (o : Origin) (w : Word) {b : Nat} (other : b ≠ R.HOST_LN_STATUS n) :
    (cfgSettled o n w s).reg b = (stored o (R.HOST_LN_CFG n) w s).reg b := by
  unfold cfgSettled when
  split
  · exact State.reg_setFld_ne _ other _ _
  · rfl

/-- What bring-up goes by stays. -/
theorem cfgSettled_keeps (o : Origin) (w : Word) : hostState (cfgSettled o n w s) n = hostState s n ∧
    (cfgSettled o n w s).reg R.HOST_CTRL = s.reg R.HOST_CTRL := by
  have stays {b : Nat} (own : LaneReg b) (other : b ≠ R.HOST_LN_CFG n) : (stored o (R.HOST_LN_CFG n) w s).reg b = s.reg b :=
    reg_stored s (laneReg_cfg n) (cfg_notMap n) (specAt_hostCfg n) o w own other
  refine ⟨Eq.trans ?_ (hostState_of_reg (stays (laneReg_status n) (cfg_ne_status n n).symm)),
    (reg_cfgSettled o w (ctrl_ne_status n)).trans (stays (by decide) (ctrl_ne_cfg n))⟩
  unfold cfgSettled when
  split
  · exact State.fld_setFld_apart _ _ _ _ _ (by unfold Fld.fits; decide) (by unfold Fld.apart; decide)
  · rfl

theorem fld_cfgSettled (o : Origin) (w : Word) {g : Fld} (field : g ∈ hostCfgSpec.flds := by decide) (plain : g.ty = .rw := by rfl)
    (unbounded : g.lim = none := by rfl) : (cfgSettled o n w s).fld (R.HOST_LN_CFG n) g = g.get w :=
  (fld_of_reg (reg_cfgSettled o w (cfg_ne_status n n)) g).trans
    (fld_stored s (laneReg_cfg n) (cfg_notMap n) (specAt_hostCfg n) laid_hostCfg field plain unbounded rfl o w)

/-- A setting differs. -/
def cfgTurned (s t : State) (n : Fin 8) (g : Fld) : Bool := t.fld (R.HOST_LN_CFG n) g != s.fld (R.HOST_LN_CFG n) g

theorem cfgTurned_of_same {t : State} {g : Fld} (same : t.fld (R.HOST_LN_CFG n) g = s.fld (R.HOST_LN_CFG n) g) : cfgTurned s t n g = false := by
  rw [cfgTurned, same, bne_self_eq_false]

theorem cfgTurned_of_flag {t : State} {g : Fld} {b : Bool} (new : t.flag (R.HOST_LN_CFG n) g = b) (old : s.flag (R.HOST_LN_CFG n) g = !b) :
    cfgTurned s t n g = true := by
  rw [cfgTurned, bne_iff_ne]
  intro same
  have both := flag_of_fld same
  rw [new, old] at both
  cases b <;> exact absurd both (by decide)

/-- A write of HOST_LN_CFG acts on what it has settled: a change of EN starts or ends the lane, a change of a polarity alone restarts it, and
a RETRAIN follows. -/
theorem accepted_cfg (o : Origin) (w : Word) : let t := cfgSettled o n w s
    accepted o (R.HOST_LN_CFG n) w s = hostFollow (when (cmd F.HOST_LN_CFG_RETRAIN w) (hostRetrain n)
      (if cfgTurned s t n F.HOST_LN_CFG_EN then hostEnable n (hostEn t n) t
        else when (cfgTurned s t n F.HOST_LN_CFG_RX_POL || cfgTurned s t n F.HOST_LN_CFG_TX_POL) (hostPolarity n) t)) := by
  intro t
  have old (u : State) (g : Fld) : changed (before (R.HOST_LN_CFG n) s) u (R.HOST_LN_CFG n) g =
      cfgTurned s u n g := by
    rw [changed, cfgTurned, (lanesKept_before s (laneReg_cfg n)).fld (laneReg_cfg n)]
  have low : R.HOST_LN_CFG n < 0x208000 := by unfold R.HOST_LN_CFG; omega
  rw [accepted, effects_host _ (laneReg_cfg n), effHost, if_pos low, lane_cfg, effHostLane, if_pos rfl]
  simp only [old]
  rfl

section
variable {f : Fld} (field : f ∈ hostCfgSpec.flds) (v : Nat)
include field

/-- The field of a one-field write is written. -/
theorem cfgSettled_written (o : Origin) (plain : f.ty = .rw) (unbounded : f.lim = none) :
    (cfgSettled o n (f.put (keepWord s (R.HOST_LN_CFG n)) v) s).fld (R.HOST_LN_CFG n) f = v % 2 ^ f.w :=
  (fld_cfgSettled o _ field plain unbounded).trans (get_put_same f _ v (fits_of_laid laid_hostCfg field))

/-- The other settings are written with what they hold. -/
theorem cfgSettled_kept (o : Origin) {g : Fld} (apart : f.apart g := by unfold Fld.apart; decide) (kept : g ∈ hostCfgSpec.flds := by decide)
    (plain : g.ty = .rw := by rfl) (unbounded : g.lim = none := by rfl) :
    (cfgSettled o n (f.put (keepWord s (R.HOST_LN_CFG n)) v) s).fld (R.HOST_LN_CFG n) g = s.fld (R.HOST_LN_CFG n) g := by
  rw [fld_cfgSettled o _ kept plain unbounded, get_put_apart f g _ v (fits_of_laid laid_hostCfg field) apart,
    get_keepWord s (specAt_hostCfg n) laid_hostCfg kept, if_pos (.inl plain)]

/-- No RETRAIN comes with the write of another field. -/
theorem no_retrain (apart : f.apart F.HOST_LN_CFG_RETRAIN := by unfold Fld.apart; decide) :
    cmd F.HOST_LN_CFG_RETRAIN (f.put (keepWord s (R.HOST_LN_CFG n)) v) = false := by
  rw [cmd, get_put_apart f _ _ v (fits_of_laid laid_hostCfg field) apart, get_keepWord s (specAt_hostCfg n) laid_hostCfg (by decide)]
  rfl

end

/-! ### EN (R179) -/

theorem hostEnable_starts (on : Bool) : let u := hostEnable n on s
    u.reg (R.HOST_LN_CFG n) = s.reg (R.HOST_LN_CFG n) ∧ hostState u n = (if on && decide (hostTest s ≠ 0) then 5 else 0) ∧
      u.flag (R.HOST_LN_STATUS n) F.HOST_LN_STATUS_SIG_DET = false := by
  intro u
  obtain ⟨t, ht⟩ : ∃ t, t = (modHost n (fun l => { l with skip := false }) s).setFld (R.HOST_LN_STATUS n) F.HOST_LN_STATUS_SIG_DET 0 := ⟨_, rfl⟩
  have acts : u = hostTo n (if on && decide (hostTest (cdrDrop n t) ≠ 0) then 5 else 0) (cdrDrop n t) := by rw [ht]; rfl
  have dark : t.flag (R.HOST_LN_STATUS n) F.HOST_LN_STATUS_SIG_DET = false := by
    rw [ht]
    exact flag_setFld_zero _ (by unfold Fld.fits; decide) rfl
  have reg {b : Nat} (own : LaneReg b) (other : b ≠ R.HOST_LN_STATUS n) : (cdrDrop n t).reg b = s.reg b := by
    rw [reg_cdrDrop t n own other, ht]
    exact State.reg_setFld_ne _ other _ _
  rw [acts, hostTest_of_reg (reg (by decide) (ctrl_ne_status n))]
  refine ⟨(reg_hostTo _ n (laneReg_cfg n) (cfg_ne_status n n) _).trans (reg (laneReg_cfg n) (cfg_ne_status n n)),
    hostState_hostTo _ n (by split <;> decide), ?_⟩
  exact (flag_of_fld ((status_hostTo _ n _).trans (status_cdrDrop t n))).trans dark

theorem enable_accepted (o : Origin) (on : Bool) (turns : hostEn s n = !on) : let a := R.HOST_LN_CFG n
    let u := accepted o a (F.HOST_LN_CFG_EN.put (keepWord s a) (b2n on)) s
    hostEn u n = on ∧ hostState u n = (if on && decide (hostTest s ≠ 0) then 5 else 0) ∧
      u.flag (R.HOST_LN_STATUS n) F.HOST_LN_STATUS_SIG_DET = false := by
  intro a u
  obtain ⟨t, ht⟩ : ∃ t, t = cfgSettled o n (F.HOST_LN_CFG_EN.put (keepWord s a) (b2n on)) s := ⟨_, rfl⟩
  have field : F.HOST_LN_CFG_EN ∈ hostCfgSpec.flds := by decide
  have enabled : hostEn t n = on := by
    have written : t.fld a F.HOST_LN_CFG_EN = b2n on % 2 ^ 1 := by rw [ht]; exact cfgSettled_written field _ o rfl rfl
    rw [hostEn, State.flag, written]
    cases on <;> rfl
  have acts : u = hostFollow (hostEnable n on t) := by
    refine (accepted_cfg o _).trans ?_
    rw [no_retrain field _, ← ht, if_pos (cfgTurned_of_flag enabled turns), enabled]
    rfl
  have follows := lanesKept_hostFollow (hostEnable n on t)
  obtain ⟨cfg, state, dark⟩ := hostEnable_starts (s := t) (n := n) on
  have test : hostTest t = hostTest s := hostTest_of_reg (by rw [ht]; exact (cfgSettled_keeps o _).2)
  rw [acts, follows.hostEn, follows.hostState, follows.flag (laneReg_status n), hostEn_of_reg cfg, ← test]
  exact ⟨enabled, state, dark⟩

/-! ### RETRAIN (R179) -/

theorem hostRetrain_active (active : hostState s n = 4) (auto : trainAuto s = true) : hostState (hostRetrain n s) n = 2 := by
  obtain ⟨t, ht⟩ : ∃ t, t = modHost n (fun l => { l with skip := false }) s := ⟨_, rfl⟩
  have still : hostState t n = 4 := by rw [ht]; exact active
  have trains : hostRetrain n s = hostLocked n t := by
    unfold hostRetrain
    simp only [← ht, still]
  have skip : t.host.lanes[n].skip = false := by rw [ht, modHost_lane]
  have same : trainAuto t = true := by rw [ht]; exact auto
  rw [trains, hostState_hostLocked, skip, same]
  rfl

theorem retrain_accepted (o : Origin) (active : hostState s n = 4) (auto : trainAuto s = true) : let a := R.HOST_LN_CFG n
    hostState (accepted o a (F.HOST_LN_CFG_RETRAIN.put (keepWord s a) 1) s) n = 2 := by
  intro a
  obtain ⟨t, ht⟩ : ∃ t, t = cfgSettled o n (F.HOST_LN_CFG_RETRAIN.put (keepWord s a) 1) s := ⟨_, rfl⟩
  have field : F.HOST_LN_CFG_RETRAIN ∈ hostCfgSpec.flds := by decide
  have go : cmd F.HOST_LN_CFG_RETRAIN (F.HOST_LN_CFG_RETRAIN.put (keepWord s a) 1) = true := cmd_withBit (by unfold Fld.fits; decide) rfl _
  have en : cfgTurned s t n F.HOST_LN_CFG_EN = false := cfgTurned_of_same (by rw [ht]; exact cfgSettled_kept field 1 o)
  have rx : cfgTurned s t n F.HOST_LN_CFG_RX_POL = false := cfgTurned_of_same (by rw [ht]; exact cfgSettled_kept field 1 o)
  have tx : cfgTurned s t n F.HOST_LN_CFG_TX_POL = false := cfgTurned_of_same (by rw [ht]; exact cfgSettled_kept field 1 o)
  have acts : accepted o a (F.HOST_LN_CFG_RETRAIN.put (keepWord s a) 1) s = hostFollow (hostRetrain n t) := by
    refine (accepted_cfg o _).trans ?_
    rw [go, ← ht, en, rx, tx]
    rfl
  obtain ⟨state, ctrl⟩ := cfgSettled_keeps (s := s) (n := n) o (F.HOST_LN_CFG_RETRAIN.put (keepWord s a) 1)
  rw [← ht] at state ctrl
  rw [acts, (lanesKept_hostFollow _).hostState]
  exact hostRetrain_active (state.trans active) ((trainAuto_of_reg ctrl).trans auto)

/-! ### Polarities (R175) -/

theorem hostPolarity_restarts (enabled : hostEn s n = true) (low : 1 ≤ hostState s n) (high : hostState s n ≤ 4) : let u := hostPolarity n s
    hostState u n = 1 ∧ u.reg (R.HOST_LN_CFG n) = s.reg (R.HOST_LN_CFG n) := by
  intro u
  have acts : u = hostTo n 1 (cdrDrop n (modHost n (fun l => { l with skip := false }) s)) := if_pos ⟨enabled, low, high⟩
  rw [acts]
  exact ⟨hostState_hostTo _ n (by decide),
    (reg_hostTo _ n (laneReg_cfg n) (cfg_ne_status n n) 1).trans (reg_cdrDrop _ n (laneReg_cfg n) (cfg_ne_status n n))⟩

theorem polarity_accepted (o : Origin) (rx inv : Bool) : let a := R.HOST_LN_CFG n
    let f := if rx then F.HOST_LN_CFG_RX_POL else F.HOST_LN_CFG_TX_POL
    let u := accepted o a (f.put (keepWord s a) (b2n inv)) s
    s.flag a f = !inv → hostEn s n = true → 1 ≤ hostState s n → hostState s n ≤ 4 → hostState u n = 1 ∧ u.flag a f = inv := by
  intro a f u turns enabled low high
  obtain ⟨t, ht⟩ : ∃ t, t = cfgSettled o n (f.put (keepWord s a) (b2n inv)) s := ⟨_, rfl⟩
  have field : f ∈ hostCfgSpec.flds := by cases rx <;> decide
  have plain : f.ty = .rw ∧ f.lim = none ∧ f.w = 1 := by cases rx <;> exact ⟨rfl, rfl, rfl⟩
  obtain ⟨ty, unbounded, one⟩ := plain
  have apart : f.apart F.HOST_LN_CFG_EN ∧ f.apart F.HOST_LN_CFG_RETRAIN := by unfold Fld.apart; cases rx <;> decide
  have shown : t.flag a f = inv := by
    have written : t.fld a f = b2n inv % 2 ^ f.w := by rw [ht]; exact cfgSettled_written field _ o ty unbounded
    rw [State.flag, written, one]
    cases inv <;> rfl
  have en : t.fld a F.HOST_LN_CFG_EN = s.fld a F.HOST_LN_CFG_EN := by rw [ht]; exact cfgSettled_kept field _ o apart.1
  have changes : (cfgTurned s t n F.HOST_LN_CFG_RX_POL || cfgTurned s t n F.HOST_LN_CFG_TX_POL) = true := by
    have own : cfgTurned s t n f = true := cfgTurned_of_flag shown turns
    cases rx with
    | true => exact Bool.or_eq_true_iff.mpr (.inl own)
    | false => exact Bool.or_eq_true_iff.mpr (.inr own)
  have acts : u = hostFollow (hostPolarity n t) := by
    refine (accepted_cfg o _).trans ?_
    rw [no_retrain field _ apart.2, ← ht, cfgTurned_of_same en, changes]
    rfl
  have state : hostState t n = hostState s n := by rw [ht]; exact (cfgSettled_keeps o _).1
  obtain ⟨restarted, cfg⟩ := hostPolarity_restarts (s := t) (n := n) ((flag_of_fld en).trans enabled) (by rwa [state]) (by rwa [state])
  have follows := lanesKept_hostFollow (hostPolarity n t)
  rw [acts, follows.hostState, follows.flag (laneReg_cfg n), flag_of_fld (fld_of_reg cfg f)]
  exact ⟨restarted, shown⟩

/-! ### Maps (R174) -/

/-- The row of a map, and the row it is while its lock is open. -/
def mapSpec (a : Nat) : RegSpec := { base := a, dims := [], flds := [F.HOST_RX_MAP_MAP, F.HOST_RX_MAP_LOCK], lockAt := some a }
def openMapSpec (a : Nat) : RegSpec :=
  { base := a, dims := [], flds := [{ F.HOST_RX_MAP_MAP with ty := .rw }, F.HOST_RX_MAP_LOCK], lockAt := some a }

/-- Bit 31 of a map's register is its lock. -/
theorem fldLocked_map (t : State) (a : Nat) : fldLocked t (mapSpec a) a F.HOST_RX_MAP_MAP = bitOf (t.reg a).toNat 31 := by
  show bitOf (t.reg (a + (a - a))).toNat 31 = _
  rw [Nat.sub_self, Nat.add_zero]

/-- While the lock is open a write stores the map as written. -/
theorem get_storeWord_map {t : State} {a : Nat} {w : Word} (opened : fldLocked t (mapSpec a) a F.HOST_RX_MAP_MAP = false) :
    F.HOST_RX_MAP_MAP.get (storeWord t (mapSpec a) a w) = F.HOST_RX_MAP_MAP.get w := by
  have first : putFld t (mapSpec a) a w (t.reg a) F.HOST_RX_MAP_MAP = putFld t (openMapSpec a) a w (t.reg a) { F.HOST_RX_MAP_MAP with ty := .rw } := by
    unfold putFld
    rw [opened]
    rfl
  have same : storeWord t (mapSpec a) a w = storeWord t (openMapSpec a) a w := congrArg (putFld t (mapSpec a) a w · F.HOST_RX_MAP_LOCK) first
  rw [same]
  exact get_storeWord_plain t (r := openMapSpec a) (f := { F.HOST_RX_MAP_MAP with ty := .rw }) (show Laid (openMapSpec 0).flds by decide) List.mem_cons_self rfl rfl rfl a w

section
variable {a : Nat} (map : a = R.HOST_RX_MAP ∨ a = R.HOST_TX_MAP)
include map

theorem specAt_map : specAt a = some (mapSpec a) := by
  rcases map with rfl | rfl <;> decide +kernel

theorem laneReg_map : LaneReg a := by
  rcases map with rfl | rfl <;> decide

theorem accepted_map (o : Origin) (w : Word) : accepted o a w s = hostFollow (stored o a w s) := by
  have high : ¬ a < 0x208000 := by rcases map with rfl | rfl <;> decide
  rw [accepted, effects_host _ (laneReg_map map), effHost, if_neg high, if_pos map]

theorem map_accepted {o : Origin} {w : Word} (ok : WriteOk o a w s = true) : let u := accepted o a w s
    (isPerm (F.HOST_RX_MAP_MAP.get w) = true → u.fld a F.HOST_RX_MAP_MAP = F.HOST_RX_MAP_MAP.get w) ∧
    (isPerm (F.HOST_RX_MAP_MAP.get w) = false → u.fld a F.HOST_RX_MAP_MAP = s.fld a F.HOST_RX_MAP_MAP ∧
      u.flag R.HOST_STATUS F.HOST_STATUS_MAP_ERR = true) := by
  intro u
  have own := laneReg_map map
  have spec := specAt_map map
  obtain ⟨t, ht⟩ : ∃ t, t = before a s := ⟨_, rfl⟩
  have kept : LanesKept s t := by rw [ht]; exact lanesKept_before s own
  have opened : fldLocked t (mapSpec a) a F.HOST_RX_MAP_MAP = false := by
    have fits := writeFits_of_ok s ok
    simp only [WriteFits, Bool.and_eq_true, spec, Bool.not_eq_true'] at fits
    obtain ⟨-, free⟩ := fits
    have reached : (fldBits (mapSpec a) w F.HOST_RX_MAP_MAP != 0) = true := by simp [fldBits, writeMaskOf, mapSpec, F.HOST_RX_MAP_MAP]
    have unlocked := List.any_eq_false.mp free F.HOST_RX_MAP_MAP List.mem_cons_self
    rw [reached, Bool.true_and, Bool.not_eq_true] at unlocked
    rw [fldLocked_map, kept a own, ← fldLocked_map]
    exact unlocked
  have get := get_storeWord_map (w := w) opened
  have stores : stored o a w s = if isPerm (F.HOST_RX_MAP_MAP.get w) = true then t.setReg a (storeWord t (mapSpec a) a w)
      else t.raise1 R.HOST_STATUS F.HOST_STATUS_MAP_ERR 342 := by
    simp only [stored, spec, ← ht, store_laneReg t own, get, map, true_and]
    cases isPerm (F.HOST_RX_MAP_MAP.get w) <;> rfl
  have follows := lanesKept_hostFollow (stored o a w s)
  have acts : u = hostFollow (stored o a w s) := accepted_map map o w
  rw [acts, follows.fld own, follows.flag (show LaneReg R.HOST_STATUS by decide), stores]
  refine ⟨fun perm => ?_, fun noPerm => ?_⟩
  · rw [if_pos perm, State.fld, State.reg_setReg]
    exact get
  · rw [if_neg (ne_true_of_eq_false noPerm)]
    have away : a ≠ R.HOST_STATUS := by rcases map with rfl | rfl <;> decide
    exact ⟨fld_of_reg ((t.reg_raise away own.ne_journal _ 1 342).trans (kept a own)) _,
      t.flag_raise1 (by decide) _ _ (by unfold Fld.fits; decide) rfl⟩

end

/-! ### Test modes (R189) -/

/-- The row of HOST_CTRL. -/
def hostCtrlSpec : RegSpec :=
  { base := 0x208008, dims := [],
    flds := [F.HOST_CTRL_CHAN_CLASS, F.HOST_CTRL_TRAIN_MODE, F.HOST_CTRL_RX_FAIL_ACTION, F.HOST_CTRL_TEST, F.HOST_CTRL_TEST_LOW_RATE,
      F.HOST_CTRL_TRAIN_TIMEOUT, F.HOST_CTRL_TRAIN_WIN, F.HOST_CTRL_TRAIN_MIN_GAIN] }

theorem specAt_hostCtrl : specAt R.HOST_CTRL = some hostCtrlSpec := by decide +kernel

/-- One lane when TEST changes: into a test mode, or back into service. -/
def testLane (on : Bool) (n : Fin 8) (s : State) : State :=
  if !hostEn s n then s
  else if on then hostTo n 5 ((modHost n (fun l => { l with measAt := s.now }) s).setReg (R.HOST_LN_PRBS n) 0)
  else
    let s := modHost n (fun l => { l with skip := false }) s
    let st := R.HOST_LN_STATUS n
    if s.flag st F.HOST_LN_STATUS_CDR_LOCK then hostLocked n s
    else hostTo n (if s.flag st F.HOST_LN_STATUS_SIG_DET then 1 else 0) s

theorem hostTestChange_eq : hostTestChange s = rateFollow (forLanes (testLane (decide (hostTest s ≠ 0))) s) := rfl

theorem reg_testLane (on : Bool) {b : Nat} (own : LaneReg b) (other : b ≠ R.HOST_LN_STATUS n) : (testLane on n s).reg b = s.reg b := by
  have prbs : ¬ LaneReg (R.HOST_LN_PRBS n) := by unfold R.HOST_LN_PRBS; omega
  unfold testLane
  split
  · rfl
  · split
    · exact (reg_hostTo _ n own other 5).trans (LanesKept.setReg prbs 0 b own)
    · dsimp only
      split
      · exact reg_hostLocked _ n own other
      · exact reg_hostTo _ n own other _

theorem testLane_enters (enabled : hostEn s n = true) : hostState (testLane true n s) n = 5 := by
  have acts : testLane true n s = hostTo n 5 ((modHost n (fun l => { l with measAt := s.now }) s).setReg (R.HOST_LN_PRBS n) 0) :=
    (if_neg (by rw [enabled]; decide)).trans (if_pos rfl)
  rw [acts]
  exact hostState_hostTo _ n (by decide)

theorem hostTestChange_enters (test : hostTest s ≠ 0) (enabled : hostEn s n = true) : hostState (hostTestChange s) n = 5 := by
  have away : R.HOST_LN_STATUS n ≠ R.HOST_STATUS := by unfold R.HOST_LN_STATUS R.HOST_STATUS; omega
  rw [hostTestChange_eq, decide_eq_true test]
  refine (State.fld_setFld_ne _ away _ _ _).trans ?_
  exact forLanes_lane s (P := fun t => hostEn t n = true) (Q := fun t => hostState t n = 5) n
    (fun k _ t on => (hostEn_of_reg (reg_testLane true (laneReg_cfg n) (cfg_ne_status n k))).trans on) (fun t on => testLane_enters on)
    (fun k other t five => (hostState_of_reg (reg_testLane true (laneReg_status n) (status_ne other))).trans five) enabled

theorem rateFollow_ctrl : (rateFollow s).reg R.HOST_CTRL = s.reg R.HOST_CTRL := s.reg_setFld_ne (by decide) _ _

theorem hostTestChange_ctrl : (hostTestChange s).reg R.HOST_CTRL = s.reg R.HOST_CTRL := by
  rw [hostTestChange_eq, rateFollow_ctrl]
  exact foldl_keeps s (State.reg · R.HOST_CTRL) (fun t k => reg_testLane _ (by decide) (ctrl_ne_status k)) _

theorem firFromRegs_regs (k : Fin 8) (t : State) : (firFromRegs k t).regs = t.regs := rfl

theorem trainModeChange_regs (c : Bool) (t : State) : (when c trainModeChange t).regs = t.regs := by
  unfold when trainModeChange
  split
  · split
    · rfl
    · exact foldl_keeps t State.regs (fun u (k : Fin 8) => firFromRegs_regs k u) _
  · rfl

/-- A write of HOST_CTRL acts on what it has stored: a change of TEST moves the lanes, and beside the registers taps may come into force. -/
theorem accepted_ctrl (o : Origin) (w : Word) : let t := stored o R.HOST_CTRL w s
    (accepted o R.HOST_CTRL w s).regs = (if hostTest t ≠ hostTest s then hostFollow (hostTestChange t) else rateFollow t).regs := by
  intro t
  have notMap : ¬ (R.HOST_CTRL = R.HOST_RX_MAP ∨ R.HOST_CTRL = R.HOST_TX_MAP) := by decide
  rw [accepted, effects_host _ (by decide), effHost, if_neg (by decide), if_neg notMap, if_pos rfl,
    (lanesKept_before s (show LaneReg R.HOST_CTRL by decide)).hostTest]
  exact trainModeChange_regs _ _

theorem testMode_accepted (o : Origin) (w : Word) : let a := R.HOST_CTRL
    let u := accepted o a w s
    u.fld a F.HOST_CTRL_TEST = F.HOST_CTRL_TEST.get w ∧ (hostTest s = 0 → hostTest u ≠ 0 → hostEn s n = true → hostState u n = 5) := by
  intro a u
  have own : LaneReg a := by decide
  have notMap : a ≠ R.HOST_RX_MAP ∧ a ≠ R.HOST_TX_MAP := by decide
  obtain ⟨t, ht⟩ : ∃ t, t = stored o a w s := ⟨_, rfl⟩
  have regs : u.regs = (if hostTest t ≠ hostTest s then hostFollow (hostTestChange t) else rateFollow t).regs := by rw [ht]; exact accepted_ctrl o w
  have ctrl : u.reg a = t.reg a := by
    refine (State.reg_of_regs regs a).trans ?_
    split
    · exact (lanesKept_hostFollow _ a own).trans hostTestChange_ctrl
    · exact rateFollow_ctrl
  refine ⟨?_, fun normal test enabled => ?_⟩
  · rw [fld_of_reg ctrl, ht]
    exact fld_stored s own notMap specAt_hostCtrl (by decide) (by decide) rfl rfl rfl o w
  · have on : hostTest t ≠ 0 := by rwa [← hostTest_of_reg ctrl]
    have stays : hostEn t n = true := by
      have cfg : t.reg (R.HOST_LN_CFG n) = s.reg (R.HOST_LN_CFG n) := by
        rw [ht]
        exact reg_stored s own notMap specAt_hostCtrl o w (laneReg_cfg n) (ctrl_ne_cfg n).symm
      rwa [hostEn_of_reg cfg]
    rw [if_pos (by rwa [normal])] at regs
    rw [hostState_of_reg (State.reg_of_regs regs _), (lanesKept_hostFollow _).hostState]
    exact hostTestChange_enters on stays

/-! ### The statement -/

/-- Settles O28: each command is an accepted write, and what follows the change it makes leaves the lanes' settings and status. -/
theorem hostRegisterCommandsComplete : Obligations.HostRegisterCommandsComplete := by
  intro s n
  refine ⟨?enable, ?retrain, ?polarity, ?map, ?test⟩
  case enable =>
    intro o on a w u ok turns
    exact ⟨completesWrite_of_field s rfl ok, enable_accepted o on turns⟩
  case retrain =>
    intro o a w ok
    exact ⟨completesWrite_of_field s rfl ok, retrain_accepted o⟩
  case polarity =>
    intro o rx inv a f w ok
    exact ⟨completesWrite_of_field s rfl ok, polarity_accepted o rx inv⟩
  case map =>
    intro o rx v a ok
    exact ⟨completesWrite_of_ok s rfl ok, map_accepted (by cases rx; exacts [.inr rfl, .inl rfl]) ok⟩
  case test =>
    intro o v a u ok
    obtain ⟨stores, enters⟩ := testMode_accepted (s := s) (n := n) o v
    exact ⟨completesWrite_of_ok s rfl ok, stores, fun normal test _ enabled => enters normal test enabled⟩

end Sys2Proof.Machine
end

section
/-!
PROOF. The KP4 monitors: their codewords, windows and markers (R185 to R188).
-/
namespace Sys2Proof.Machine

variable (s : State) (p : Fin 8) (d : Fin 2)

/-! ### A monitor's counters -/

theorem modMon_same (g : MonCnt → MonCnt) : (modMon p d g s).host.mon[monIdx p d] = g s.host.mon[monIdx p d] := vmod_same _ _ _

theorem monStatus_ne_journal : R.HOST_MON_STATUS p d ≠ R.SAF_JNL_STATUS := by unfold R.HOST_MON_STATUS R.SAF_JNL_STATUS; omega

/-- The host side's state is in no register and in nothing that bookkeeping sets. -/
theorem host_inert : Inert (fun _ _ => True) State.host :=
  ⟨fun _ _ _ _ _ => rfl, fun _ _ _ _ => rfl, fun _ => trivial, fun _ => trivial, fun _ _ _ => rfl, fun _ _ => rfl, fun _ _ => rfl,
    fun _ _ _ => rfl, fun _ _ _ => rfl⟩

theorem raise1_mon (a : Nat) (f : Fld) (id : Nat) : (s.raise1 a f id).host.mon = s.host.mon := congrArg HostSt.mon (host_inert.raise1 s trivial id)

/-- What leaves a lane's framing to other updates keeps the monitors and the registers. -/
theorem foldl_modFrm_keeps (g : Fin 8 → FrmSt → FrmSt) (l : List (Fin 8)) :
    (l.foldl (fun s i => modFrm i (g i) s) s).host = s.host ∧ (l.foldl (fun s i => modFrm i (g i) s) s).regs = s.regs :=
  ⟨foldl_keeps s State.host (by intros; rfl) l, foldl_keeps s State.regs (by intros; rfl) l⟩

/-- What is dropped with a monitor's lock leaves its counters but for the place in a group. -/
theorem monEmpty_keeps : (monEmpty p d s).host.mon[monIdx p d] = { s.host.mon[monIdx p d] with next := 0 } ∧ (monEmpty p d s).regs = s.regs := by
  have kept : (monEmpty p d s).host = (modMon p d (fun m => { m with next := 0 }) s).host ∧ (monEmpty p d s).regs = s.regs := foldl_modFrm_keeps _ _ _
  obtain ⟨host, regs⟩ := kept
  exact ⟨(congrArg (fun h => h.mon[monIdx p d]) host).trans (modMon_same s p d _), regs⟩

theorem monAdvance_keeps : (∃ k, (monAdvance p d s).host.mon[monIdx p d] = { s.host.mon[monIdx p d] with next := k }) ∧
    (monAdvance p d s).regs = s.regs := by
  unfold monAdvance
  split
  · exact ⟨⟨_, modMon_same s p d _⟩, rfl⟩
  · obtain ⟨host, regs⟩ := foldl_modFrm_keeps (modMon p d (fun m => { m with next := 0 }) s) _ (lanesOfPort s p)
    exact ⟨⟨0, (congrArg (fun h => h.mon[monIdx p d]) host).trans (modMon_same s p d _)⟩, regs⟩

/-! ### A codeword (R187, R188) -/

theorem drawn_openBits (l : List (Option Bool)) : Drawn s (openBits l s).2 := by
  induction l generalizing s with
  | nil => exact .refl s
  | cons b l ih =>
    cases b with
    | some b => exact ih s
    | none => exact Drawn.trans ⟨_, rfl⟩ (ih (s.fresh 1).2)

theorem drawn_monErrors : Drawn s (monErrors p d s).2 := by
  unfold monErrors
  extract_lets lanes bits
  have drawn := drawn_openBits s bits
  generalize openBits bits s = opened at drawn ⊢
  exact drawn

theorem drawn_keeps {s t : State} (drawn : Drawn s t) : t.host = s.host ∧ t.regs = s.regs := by
  obtain ⟨k, rfl⟩ := drawn
  exact ⟨rfl, rfl⟩

/-- A monitor's counters after a codeword that cannot be decoded. -/
def uncorrCounted (m : MonCnt) : MonCnt :=
  { m with cw := (m.cw + 1) % 2 ^ 64, win := m.win + 1, winHigh := m.winHigh + 1, uncorr := (m.uncorr + 1) % 2 ^ 32 }

/-- A monitor's counters after a codeword with `k` symbols corrected. -/
def corrCounted (deg k : Nat) (m : MonCnt) : MonCnt :=
  { m with cw := (m.cw + 1) % 2 ^ 64, win := m.win + 1, winHigh := m.winHigh + b2n (decide (deg ≤ k)), sym := (m.sym + k) % 2 ^ 32,
           bins := m.bins.set k (((m.bins[k]?).getD 0 + 1) % 2 ^ 32) }

theorem monCount_uncorrectable : monCount p d none s =
    (modMon p d uncorrCounted s).raise1 (R.HOST_MON_STATUS p d) F.HOST_MON_STATUS_UNCORR_EV (344 + 2 * p + d) := by
  simp only [monCount, b2n, Option.isSome_none, Bool.false_eq_true, if_false, if_true]
  rfl

theorem monCount_corrected (k : Nat) : monCount p d (some k) s = modMon p d (corrCounted (degBin s) k) s := by
  simp only [monCount, Option.isSome_some, if_true]
  rfl

theorem monCodeword_ready (ready : monReady s p d = true) :
    monCodeword p d s = monAdvance p d (monCount p d (monErrors p d s).1 (monErrors p d s).2) := by
  rw [monCodeword, if_pos ready]

/-- The monitor counts the codeword by what its decoder finds. -/
theorem monCodeword_counts (ready : monReady s p d = true) : let m := s.host.mon[monIdx p d]
    let u := monCodeword p d s
    u.host.mon[monIdx p d].win = m.win + 1 ∧
    ((monErrors p d s).1 = none → u.host.mon[monIdx p d].winHigh = m.winHigh + 1 ∧ u.host.mon[monIdx p d].uncorr = (m.uncorr + 1) % 2 ^ 32 ∧
      u.flag (R.HOST_MON_STATUS p d) F.HOST_MON_STATUS_UNCORR_EV = true) ∧
    (∀ k, (monErrors p d s).1 = some k → u.host.mon[monIdx p d].bins = m.bins.set k (((m.bins[k]?).getD 0 + 1) % 2 ^ 32) ∧
      u.host.mon[monIdx p d].winHigh = m.winHigh + (if max 1 (s.fld R.HOST_MON_CFG F.HOST_MON_CFG_DEG_BIN) ≤ k then 1 else 0) ∧
      u.host.mon[monIdx p d].uncorr = m.uncorr ∧ u.regs = s.regs) := by
  intro m u
  have acts : u = _ := monCodeword_ready s p d ready
  obtain ⟨host, same⟩ := drawn_keeps (drawn_monErrors s p d)
  rw [acts]
  generalize (monErrors p d s).1 = errors
  generalize (monErrors p d s).2 = x at host same
  have mon : x.host.mon[monIdx p d] = m := congrArg (fun h => h.mon[monIdx p d]) host
  obtain ⟨⟨next, counters⟩, regs⟩ := monAdvance_keeps (monCount p d errors x) p d
  rw [counters]
  cases errors with
  | none =>
    have counted : (monCount p d none x).host.mon[monIdx p d] = uncorrCounted m := by
      rw [monCount_uncorrectable, raise1_mon, modMon_same, mon]
    have event : (monCount p d none x).flag (R.HOST_MON_STATUS p d) F.HOST_MON_STATUS_UNCORR_EV = true := by
      rw [monCount_uncorrectable]
      exact State.flag_raise1 _ (monStatus_ne_journal p d) _ _ (by unfold Fld.fits; decide) rfl
    rw [counted]
    exact ⟨rfl, fun _ => ⟨rfl, rfl, (flag_of_regs regs _ _).trans event⟩, fun k corrected => absurd corrected (by simp)⟩
  | some e =>
    have counted : (monCount p d (some e) x).host.mon[monIdx p d] = corrCounted (degBin s) e m := by
      rw [monCount_corrected, modMon_same, mon, degBin, degBin, fld_of_regs same]
    rw [counted]
    refine ⟨rfl, fun failed => absurd failed (by simp), fun k corrected => ?_⟩
    obtain rfl := Option.some.inj corrected
    have high : b2n (decide (degBin s ≤ e)) = if degBin s ≤ e then 1 else 0 := by simp only [b2n, decide_eq_true_eq]
    exact ⟨rfl, congrArg (m.winHigh + ·) high, rfl, regs.trans ((congrArg State.regs (monCount_corrected x p d e)).trans same)⟩

/-! ### The end of a window (R188) -/

theorem monWindow_ends (full : 2 ^ 24 ≤ s.host.mon[monIdx p d].win) : let m := s.host.mon[monIdx p d]
    let u := monWindow p d s
    u.host.mon[monIdx p d].win = 0 ∧ u.host.mon[monIdx p d].winHigh = 0 ∧
    (s.fld R.HOST_MON_CFG F.HOST_MON_CFG_DEG_COUNT < m.winHigh → u.flag (R.HOST_MON_STATUS p d) F.HOST_MON_STATUS_DEGRADE = true) ∧
    (m.winHigh ≤ s.fld R.HOST_MON_CFG F.HOST_MON_CFG_DEG_COUNT → u.regs = s.regs) := by
  intro m u
  obtain ⟨t, ht⟩ : ∃ t, t = modMon p d (fun m => { m with win := 0, winHigh := 0 }) s := ⟨_, rfl⟩
  have emptied : t.host.mon[monIdx p d] = { m with win := 0, winHigh := 0 } := by rw [ht, modMon_same]
  have acts : u = if s.fld R.HOST_MON_CFG F.HOST_MON_CFG_DEG_COUNT < m.winHigh
      then t.raise1 (R.HOST_MON_STATUS p d) F.HOST_MON_STATUS_DEGRADE (344 + 2 * p + d) else t := by
    rw [ht]
    exact if_neg (Nat.not_lt.mpr full)
  rw [acts]
  rcases Nat.lt_or_ge (s.fld R.HOST_MON_CFG F.HOST_MON_CFG_DEG_COUNT) m.winHigh with many | few
  · rw [if_pos many, raise1_mon, emptied]
    exact ⟨rfl, rfl, fun _ => t.flag_raise1 (monStatus_ne_journal p d) _ _ (by unfold Fld.fits; decide) rfl, fun few => absurd many (Nat.not_lt.mpr few)⟩
  · rw [if_neg (Nat.not_lt.mpr few), emptied]
    exact ⟨rfl, rfl, fun many => absurd many (Nat.not_lt.mpr few), fun _ => by rw [ht]; rfl⟩

/-- Settles O29: a codeword counts by what its decoder finds, and a full window ends by its high count. -/
theorem degradeWindowOfAMonitor : Obligations.DegradeWindowOfAMonitor := by
  intro s p d running a m
  refine ⟨fun ready => ⟨_, completes_of_outcome s (g := monCodeword p d) rfl running, monCodeword_counts s p d ready⟩, fun waits => ?_,
    fun full => ⟨_, completes_of_outcome s (g := monWindow p d) rfl running, monWindow_ends s p d full⟩, fun runs => ?_⟩
  · exact completes_unchanged s (g := monCodeword p d) rfl running (if_neg (ne_true_of_eq_false waits))
  · exact completes_unchanged s (g := monWindow p d) rfl running (if_pos runs)

end Sys2Proof.Machine
end

section
/-!
PROOF. The markers, snapshots and clears of the KP4 monitors (R186, R187).
-/
namespace Sys2Proof.Machine

variable (s : State) (p : Fin 8) (d : Fin 2)

/-! ### Lock (R186) -/

/-- A locked monitor that loses its lock shows it. -/
theorem monLose_shows (locked : monLocked s p d = true) : monLocked (monLose p d s) p d = false ∧
    (monLose p d s).flag (R.HOST_MON_STATUS p d) F.HOST_MON_STATUS_LOCK_LOSS = true := by
  obtain ⟨a, ha⟩ : ∃ a, a = R.HOST_MON_STATUS p d := ⟨_, rfl⟩
  have journal : a ≠ R.SAF_JNL_STATUS := by rw [ha]; exact monStatus_ne_journal p d
  obtain ⟨t, ht⟩ : ∃ t, t = (s.setFld a F.HOST_MON_STATUS_LOCK 0).raise1 a F.HOST_MON_STATUS_LOCK_LOSS (344 + 2 * p + d) := ⟨_, rfl⟩
  have acts : monLose p d s = monEmpty p d (monRestart p d (t.addSat a F.HOST_MON_STATUS_LOSS_COUNT 1)) := by
    rw [ht, ha]
    exact if_neg (by rw [locked]; decide)
  have counted (g : Fld) (apart : F.HOST_MON_STATUS_LOSS_COUNT.apart g) : (monLose p d s).fld a g = t.fld a g := by
    rw [acts]
    exact (fld_of_regs (monEmpty_keeps _ p d).2 a g).trans (t.fld_setFld_apart a _ g _ (by unfold Fld.fits; decide) apart)
  have open' : t.flag a F.HOST_MON_STATUS_LOCK = false := by
    rw [ht]
    exact (flag_of_fld (fld_raise_apart _ journal (by unfold Fld.fits; decide) (by unfold Fld.apart; decide) 1 _)).trans
      (flag_setFld_zero s (by unfold Fld.fits; decide) rfl)
  have event : t.flag a F.HOST_MON_STATUS_LOCK_LOSS = true := by
    rw [ht]
    exact State.flag_raise1 _ journal _ _ (by unfold Fld.fits; decide) rfl
  rw [monLocked, ← ha]
  exact ⟨(flag_of_fld (counted _ (by unfold Fld.apart; decide))).trans open', (flag_of_fld (counted _ (by unfold Fld.apart; decide))).trans event⟩

/-- A monitor that takes lock shows it, with its marker counts as they are. -/
theorem monLock_shows : monLocked (monLock p d s) p d = true ∧
    (monLock p d s).host.mon[monIdx p d].good = s.host.mon[monIdx p d].good := by
  obtain ⟨t, ht⟩ : ∃ t, t = s.setFld (R.HOST_MON_STATUS p d) F.HOST_MON_STATUS_LOCK 1 := ⟨_, rfl⟩
  obtain ⟨emptied, regs⟩ := monEmpty_keeps t p d
  have kept : (monLock p d s).host = (monEmpty p d t).host ∧ (monLock p d s).regs = (monEmpty p d t).regs := by
    rw [ht]
    exact foldl_modFrm_keeps _ _ _
  obtain ⟨host, same⟩ := kept
  refine ⟨(flag_of_regs (same.trans regs) _ _).trans ?_, ?_⟩
  · rw [ht]
    exact flag_setFld_one s (by unfold Fld.fits; decide) rfl
  · refine (congrArg (fun h : HostSt => h.mon[monIdx p d].good) host).trans ((congrArg MonCnt.good emptied).trans ?_)
    rw [ht]
    rfl

/-! ### Markers (R186) -/

/-- A lane's counts of consecutive markers, found and missed, after one more. -/
def markerCounted (k : Fin 8) (found : Bool) (m : MonCnt) : MonCnt :=
  { m with good := m.good.set k (if found then (m.good[k.val]?).getD 0 + 1 else 0),
           bad := m.bad.set k (if found then 0 else (m.bad[k.val]?).getD 0 + 1) }

variable {s p d} {k : Fin 8}

theorem amReceive_rests (absent : portExists s p = false ∨ portFails s p d = true) (found : Bool) : amReceive p d k found s = s := by
  refine if_pos ?_
  rcases absent with missing | fails
  · rw [missing]; rfl
  · rw [fails, Bool.or_true]

section
variable (port : portExists s p = true) (receives : portFails s p d = false)
include port receives

theorem amReceive_runs (found : Bool) : let t := modMon p d (markerCounted k found) s
    let lanes := (lanesOfPort s p).length
    let m := markerCounted k found s.host.mon[monIdx p d]
    amReceive p d k found s = if monLocked s p d then
      (if (m.bad.take lanes).any fun c => decide (amLossN s ≤ c) then monLose p d t else t)
      else if (m.good.take lanes).all fun c => decide (amLockN s ≤ c) then monLock p d t else t := by
  intro t lanes m
  have same : t.host.mon[monIdx p d] = m := modMon_same s p d _
  rw [← same]
  exact if_neg (by rw [port, receives]; decide)

/-- The missing marker that reaches the limit ends the lock. -/
theorem amReceive_loses (locked : monLocked s p d = true) (inside : k.val < (lanesOfPort s p).length)
    (counts : s.host.mon[monIdx p d].bad.length = 8) (limit : amLossN s ≤ (s.host.mon[monIdx p d].bad[k.val]?).getD 0 + 1) :
    let u := amReceive p d k false s
    monLocked u p d = false ∧ u.flag (R.HOST_MON_STATUS p d) F.HOST_MON_STATUS_LOCK_LOSS = true := by
  intro u
  have reaches : ((markerCounted k false s.host.mon[monIdx p d]).bad.take (lanesOfPort s p).length).any (fun c => decide (amLossN s ≤ c)) = true := by
    refine List.any_eq_true.mpr ⟨_, List.mem_of_getElem? (i := k.val) ?_, decide_eq_true limit⟩
    have here : k.val < s.host.mon[monIdx p d].bad.length := by omega
    rw [List.getElem?_take_of_lt inside]
    exact List.getElem?_set_self here
  have acts : u = monLose p d (modMon p d (markerCounted k false) s) :=
    (amReceive_runs port receives false).trans ((if_pos locked).trans (if_pos reaches))
  rw [acts]
  exact monLose_shows _ p d locked

/-- A found marker raises its lane's count, and enough on every lane take the lock. -/
theorem amReceive_locks (unlocked : monLocked s p d = false) (counts : s.host.mon[monIdx p d].good.length = 8) :
    let u := amReceive p d k true s
    u.host.mon[monIdx p d].good[k.val]? = some ((s.host.mon[monIdx p d].good[k.val]?).getD 0 + 1) ∧
    ((∀ j : Fin 8, j.val < (lanesOfPort s p).length →
      amLockN s ≤ (s.host.mon[monIdx p d].good[j.val]?).getD 0 + if j = k then 1 else 0) → monLocked u p d = true) := by
  intro u
  obtain ⟨t, ht⟩ : ∃ t, t = modMon p d (markerCounted k true) s := ⟨_, rfl⟩
  obtain ⟨good, hg⟩ : ∃ good, good = (markerCounted k true s.host.mon[monIdx p d]).good := ⟨_, rfl⟩
  have acts : u = if (good.take (lanesOfPort s p).length).all fun c => decide (amLockN s ≤ c) then monLock p d t else t := by
    rw [hg, ht]
    exact (amReceive_runs port receives true).trans (if_neg (ne_true_of_eq_false unlocked))
  have counted : t.host.mon[monIdx p d].good = good := by rw [ht, modMon_same, hg]
  have set (j : Fin 8) : good[j.val]? = some ((s.host.mon[monIdx p d].good[j.val]?).getD 0 + if j = k then 1 else 0) := by
    have inside : j.val < s.host.mon[monIdx p d].good.length := by omega
    rw [hg]
    by_cases same : j = k
    · subst same
      rw [if_pos rfl]
      exact List.getElem?_set_self inside
    · rw [if_neg same, Nat.add_zero, List.getElem?_eq_getElem inside]
      exact (List.getElem?_set_ne fun e => same (Fin.ext e.symm)).trans (List.getElem?_eq_getElem inside)
  have kept : u.host.mon[monIdx p d].good = good := by
    rw [acts]
    split
    · exact (monLock_shows t p d).2.trans counted
    · exact counted
  refine ⟨by rw [kept, set k, if_pos rfl], fun enough => ?_⟩
  have all : (good.take (lanesOfPort s p).length).all (fun c => decide (amLockN s ≤ c)) = true := by
    refine List.all_eq_true.mpr fun c hc => ?_
    obtain ⟨j, here⟩ := List.mem_iff_getElem?.mp hc
    rw [List.getElem?_take] at here
    split at here
    case isFalse => exact absurd here (by simp)
    rename_i inside
    have value := here
    have small : j < 8 := by
      have length : good.length = 8 := by rw [hg]; exact (List.length_set ..).trans counts
      rw [← length]
      exact (List.getElem?_eq_some_iff.mp value).1
    have lock := enough ⟨j, small⟩ inside
    rw [set ⟨j, small⟩] at value
    rw [← Option.some.inj value]
    exact decide_eq_true lock
  rw [acts, if_pos all]
  exact (monLock_shows t p d).1

end

/-! ### All monitors of a mask (R187) -/

theorem forMons_none (g : Fin 8 → Fin 2 → State → State) : forMons 0 g s = s := by
  have clear (q : Nat) : bitOf 0 q = false := by simp [bitOf]
  simp only [forMons, clear, Bool.false_and, Bool.false_eq_true, if_false]
  exact foldl_keeps s id (fun _ _ => rfl) _

/-- What every monitor's update keeps, and what the monitor's own update makes of it, holds after the updates of a mask that names its port. -/
theorem forMons_own {P Q : State → Prop} {g : Fin 8 → Fin 2 → State → State} {mask : Nat} (named : bitOf mask p = true)
    (exists' : ∀ t, P t → portExists t p = true) (before : ∀ q e t, P t → P (g q e t)) (own : ∀ t, P t → Q (g p d t))
    (after : ∀ q e t, (q, e) ≠ (p, d) → Q t → Q (g q e t)) (start : P s) : Q (forMons mask g s) := by
  refine forLanes_lane s (P := P) (Q := Q) p (fun q _ t h => ?_) (fun t h => ?_) (fun q other t h => ?_) start
  · split
    · exact before q 1 _ (before q 0 t h)
    · exact h
  · rw [named, exists' t h]
    obtain rfl | rfl : d = 0 ∨ d = 1 := by omega
    · exact after p 1 _ (by simp) (own t h)
    · exact own _ (before p 0 t h)
  · have away (e : Fin 2) : (q, e) ≠ (p, d) := fun same => other (Prod.ext_iff.mp same).1
    split
    · exact after q 1 _ (away 1) (after q 0 t (away 0) h)
    · exact h

theorem portExists_of_reg {s t : State} (same : t.reg R.FEC_PROFILE = s.reg R.FEC_PROFILE) : portExists t p = portExists s p := by
  have cfg : portCfg t = portCfg s := fld_of_reg same _
  unfold portExists portLow
  rw [cfg]

/-! ### Snapshots and clears (R187) -/

theorem monSnap_host (q : Fin 8) (e : Fin 2) (t : State) : (monSnap q e t).host = t.host := foldl_keeps _ State.host (by intros; rfl) _

/-- The counters of a snapshot but for the bins. -/
def snapTotals (p : Fin 8) (d : Fin 2) (s : State) : State :=
  let m := s.host.mon[monIdx p d]
  (((s.setReg (R.HOST_MON_CW_LO p d) (word m.cw)).setReg (R.HOST_MON_CW_HI p d) (word (m.cw / 2 ^ 32))).setReg (R.HOST_MON_UNCORR p d)
    (word m.uncorr)).setReg (R.HOST_MON_SYM p d) (word m.sym)

/-- Writes of bins leave a register that is none of the sixteen. -/
theorem reg_foldl_bins {b : Nat} (away : b < R.HOST_MON_BIN p d 0 ∨ R.HOST_MON_BIN p d 16 ≤ b) (w : Nat → Word) (ks : List Nat)
    (sixteen : ∀ k ∈ ks, k < 16) (t : State) : (ks.foldl (fun t k => t.setReg (R.HOST_MON_BIN p d k) (w k)) t).reg b = t.reg b :=
  List.foldlRecOn (motive := fun u : State => u.reg b = t.reg b) _ _ rfl fun u h k small =>
    (u.reg_setReg_ne (by have := sixteen k small; unfold R.HOST_MON_BIN at away ⊢; omega) _).trans h

/-- The bins of a snapshot stand above the other counters. -/
theorem reg_monSnap_bins {b : Nat} (away : b < R.HOST_MON_BIN p d 0 ∨ R.HOST_MON_BIN p d 16 ≤ b) : (monSnap p d s).reg b = (snapTotals p d s).reg b := by
  unfold monSnap
  exact reg_foldl_bins away (fun k => word ((s.host.mon[monIdx p d].bins[k]?).getD 0)) _ (fun _ => List.mem_range.mp) (snapTotals p d s)

/-- A snapshot writes the monitor's own registers. -/
theorem reg_monSnap {b : Nat} (away : b < R.HOST_MON_CW_LO p d ∨ R.HOST_MON_BIN p d 16 ≤ b) : (monSnap p d s).reg b = s.reg b := by
  unfold R.HOST_MON_CW_LO at away
  unfold R.HOST_MON_BIN at away
  rw [reg_monSnap_bins (by unfold R.HOST_MON_BIN; omega), snapTotals, State.reg_setReg_ne _ (by unfold R.HOST_MON_SYM; omega),
    State.reg_setReg_ne _ (by unfold R.HOST_MON_UNCORR; omega), State.reg_setReg_ne _ (by unfold R.HOST_MON_CW_HI; omega),
    State.reg_setReg_ne _ (by unfold R.HOST_MON_CW_LO; omega)]

/-- The registers of a monitor's snapshot hold its counters. -/
def Snapped (p : Fin 8) (d : Fin 2) (m : MonCnt) (t : State) : Prop :=
  t.reg (R.HOST_MON_CW_LO p d) = word m.cw ∧ t.reg (R.HOST_MON_UNCORR p d) = word m.uncorr ∧ t.reg (R.HOST_MON_SYM p d) = word m.sym

theorem snapped_monSnap : Snapped p d s.host.mon[monIdx p d] (monSnap p d s) := by
  have lo : R.HOST_MON_CW_LO p d < R.HOST_MON_BIN p d 0 := by unfold R.HOST_MON_CW_LO R.HOST_MON_BIN; omega
  have uncorr : R.HOST_MON_UNCORR p d < R.HOST_MON_BIN p d 0 := by unfold R.HOST_MON_UNCORR R.HOST_MON_BIN; omega
  have sym : R.HOST_MON_SYM p d < R.HOST_MON_BIN p d 0 := by unfold R.HOST_MON_SYM R.HOST_MON_BIN; omega
  have apart : R.HOST_MON_CW_LO p d + 4 = R.HOST_MON_CW_HI p d ∧ R.HOST_MON_CW_HI p d + 4 = R.HOST_MON_UNCORR p d ∧
      R.HOST_MON_UNCORR p d + 4 = R.HOST_MON_SYM p d := by
    unfold R.HOST_MON_CW_LO R.HOST_MON_CW_HI R.HOST_MON_UNCORR R.HOST_MON_SYM
    omega
  obtain ⟨one, two, three⟩ := apart
  refine ⟨(reg_monSnap_bins (.inl lo)).trans ?_, (reg_monSnap_bins (.inl uncorr)).trans ?_, (reg_monSnap_bins (.inl sym)).trans ?_⟩
  · rw [snapTotals, State.reg_setReg_ne _ (by omega), State.reg_setReg_ne _ (by omega), State.reg_setReg_ne _ (by omega), State.reg_setReg]
  · rw [snapTotals, State.reg_setReg_ne _ (by omega), State.reg_setReg]
  · rw [snapTotals, State.reg_setReg]

/-- The snapshot of another monitor leaves them. -/
theorem Snapped.other {m : MonCnt} {t : State} (h : Snapped p d m t) {q : Fin 8} {e : Fin 2} (other : (q, e) ≠ (p, d)) :
    Snapped p d m (monSnap q e t) := by
  have apart : q.val ≠ p.val ∨ e.val ≠ d.val := by
    by_contra same
    push Not at same
    exact other (Prod.ext (Fin.ext same.1) (Fin.ext same.2))
  have away {b : Nat} (lo : R.HOST_MON_CW_LO p d ≤ b) (hi : b < R.HOST_MON_BIN p d 0) : (monSnap q e t).reg b = t.reg b := by
    unfold R.HOST_MON_CW_LO at lo
    unfold R.HOST_MON_BIN at hi
    exact reg_monSnap (by unfold R.HOST_MON_CW_LO R.HOST_MON_BIN; omega)
  obtain ⟨cw, uncorr, sym⟩ := h
  exact ⟨(away (by omega) (by unfold R.HOST_MON_CW_LO R.HOST_MON_BIN; omega)).trans cw,
    (away (by unfold R.HOST_MON_CW_LO R.HOST_MON_UNCORR; omega) (by unfold R.HOST_MON_UNCORR R.HOST_MON_BIN; omega)).trans uncorr,
    (away (by unfold R.HOST_MON_CW_LO R.HOST_MON_SYM; omega) (by unfold R.HOST_MON_SYM R.HOST_MON_BIN; omega)).trans sym⟩

theorem forMons_snaps {mask : Nat} (named : bitOf mask p = true) (port : portExists s p = true) :
    Snapped p d s.host.mon[monIdx p d] (forMons mask monSnap s) := by
  have profile (q : Fin 8) (e : Fin 2) (t : State) : (monSnap q e t).reg R.FEC_PROFILE = t.reg R.FEC_PROFILE :=
    reg_monSnap (.inr (by unfold R.HOST_MON_BIN R.FEC_PROFILE; omega))
  refine forMons_own (P := fun t => t.host = s.host ∧ portExists t p = true) named (fun _ h => h.2)
    (fun q e t h => ⟨(monSnap_host q e t).trans h.1, (portExists_of_reg (profile q e t)).trans h.2⟩) (fun t h => ?_) (fun q e t other h => h.other other)
    ⟨rfl, port⟩
  rw [← h.1]
  exact snapped_monSnap

theorem monIdx_ne {q : Fin 8} {e : Fin 2} (other : (q, e) ≠ (p, d)) : monIdx p d ≠ monIdx q e := by
  intro same
  have value : 2 * p.val + d.val = 2 * q.val + e.val := congrArg Fin.val same
  exact other (Prod.ext (Fin.ext (show q.val = p.val by omega)) (Fin.ext (show e.val = d.val by omega)))

/-- A monitor's running counters are empty. -/
def Cleared (p : Fin 8) (d : Fin 2) (t : State) : Prop :=
  t.host.mon[monIdx p d].cw = 0 ∧ t.host.mon[monIdx p d].uncorr = 0 ∧ t.host.mon[monIdx p d].sym = 0

theorem cleared_monClear : Cleared p d (monClear p d s) := by
  have emptied := modMon_same s p d fun m => { m with cw := 0, uncorr := 0, sym := 0, bins := List.replicate 16 0 }
  unfold Cleared monClear
  rw [emptied]
  exact ⟨rfl, rfl, rfl⟩

/-- Emptying another monitor leaves them. -/
theorem Cleared.other {t : State} (h : Cleared p d t) {q : Fin 8} {e : Fin 2} (other : (q, e) ≠ (p, d)) : Cleared p d (monClear q e t) := by
  have kept : (monClear q e t).host.mon[monIdx p d] = t.host.mon[monIdx p d] := vmod_ne _ (monIdx_ne other) _
  unfold Cleared
  rwa [kept]

theorem forMons_clears {mask : Nat} (named : bitOf mask p = true) (port : portExists s p = true) :
    Cleared p d (forMons mask monClear s) := by
  exact forMons_own (P := fun t => portExists t p = true) (Q := Cleared p d) named (fun _ h => h) (fun _ _ _ h => h) (fun _ _ => cleared_monClear)
    (fun _ _ _ other h => h.other other) port

/-! ### HOST_MON_SNAP (R187) -/

/-- The row of HOST_MON_SNAP. -/
def monSnapSpec : RegSpec := { base := 0x208010, dims := [], flds := [F.HOST_MON_SNAP_SNAP, F.HOST_MON_SNAP_CLEAR] }

theorem specAt_monSnap : specAt R.HOST_MON_SNAP = some monSnapSpec := by decide +kernel

theorem laid_monSnap : Laid monSnapSpec.flds := by decide

variable (s p) in
/-- Storing the command's word changes neither the counters nor the ports. -/
theorem stored_monSnap (o : Origin) (w : Word) : let t := stored o R.HOST_MON_SNAP w s
    t.host = s.host ∧ portExists t p = portExists s p := by
  intro t
  have early : before R.HOST_MON_SNAP s = s := by
    simp only [before, R.HOST_MON_SNAP, R.HOST_CTRL, R.HOST_RX_MAP, R.HOST_TX_MAP, R.CIS_SCRUB_CFG]
    rfl
  have sets : t = s.setReg R.HOST_MON_SNAP (storeWord s monSnapSpec R.HOST_MON_SNAP w) := by
    have stores := stored_laneReg s (a := R.HOST_MON_SNAP) (by decide) (by decide) specAt_monSnap o w
    rwa [early] at stores
  rw [sets]
  exact ⟨rfl, portExists_of_reg (s.reg_setReg_ne (by decide) _)⟩

theorem accepted_monSnap (o : Origin) (w : Word) : accepted o R.HOST_MON_SNAP w s =
    forMons (F.HOST_MON_SNAP_CLEAR.get w) monClear (forMons (F.HOST_MON_SNAP_SNAP.get w) monSnap (stored o R.HOST_MON_SNAP w s)) := by
  have notMap : ¬ (R.HOST_MON_SNAP = R.HOST_RX_MAP ∨ R.HOST_MON_SNAP = R.HOST_TX_MAP) := by decide
  rw [accepted, effects_host _ (by decide), effHost, if_neg (by decide), if_neg notMap, if_neg (by decide), if_pos rfl, monSnapWrite]

/-- A command bit that is not written is 0. -/
theorem get_keepWord_monSnap {f : Fld} (field : f ∈ monSnapSpec.flds) (command : f.ty = .wo) : f.get (keepWord s R.HOST_MON_SNAP) = 0 := by
  rw [get_keepWord s specAt_monSnap laid_monSnap field, command]
  rfl

theorem bitOf_written {f : Fld} (fits : f.fits) (eight : f.w = 8) (w : Word) (ports : Nat) : bitOf (f.get (f.put w ports)) p = bitOf ports p := by
  rw [get_put_same f w ports fits, eight]
  exact bitOf_mod_two_pow p.isLt ports

theorem monSnap_accepted (o : Origin) {ports : Nat} (named : bitOf ports p = true) (port : portExists s p = true) : let a := R.HOST_MON_SNAP
    Snapped p d s.host.mon[monIdx p d] (accepted o a (F.HOST_MON_SNAP_SNAP.put (keepWord s a) ports) s) := by
  intro a
  obtain ⟨w, hw⟩ : ∃ w, w = F.HOST_MON_SNAP_SNAP.put (keepWord s a) ports := ⟨_, rfl⟩
  obtain ⟨host, exists'⟩ := stored_monSnap s p o w
  have snap : bitOf (F.HOST_MON_SNAP_SNAP.get w) p = true := by
    rw [hw, bitOf_written (by unfold Fld.fits; decide) rfl]
    exact named
  have clear : F.HOST_MON_SNAP_CLEAR.get w = 0 := by
    rw [hw, get_put_apart _ _ _ _ (by unfold Fld.fits; decide) (by unfold Fld.apart; decide)]
    exact get_keepWord_monSnap (by decide) rfl
  rw [← hw, accepted_monSnap, clear, forMons_none, ← host]
  exact forMons_snaps snap (exists'.trans port)

theorem monClear_accepted (o : Origin) {ports : Nat} (named : bitOf ports p = true) (port : portExists s p = true) : let a := R.HOST_MON_SNAP
    Cleared p d (accepted o a (F.HOST_MON_SNAP_CLEAR.put (keepWord s a) ports) s) := by
  intro a
  obtain ⟨w, hw⟩ : ∃ w, w = F.HOST_MON_SNAP_CLEAR.put (keepWord s a) ports := ⟨_, rfl⟩
  have clear : bitOf (F.HOST_MON_SNAP_CLEAR.get w) p = true := by
    rw [hw, bitOf_written (by unfold Fld.fits; decide) rfl]
    exact named
  have snap : F.HOST_MON_SNAP_SNAP.get w = 0 := by
    rw [hw, get_put_apart _ _ _ _ (by unfold Fld.fits; decide) (by unfold Fld.apart; decide)]
    exact get_keepWord_monSnap (by decide) rfl
  rw [← hw, accepted_monSnap, snap, forMons_none]
  exact forMons_clears clear ((stored_monSnap s p o w).2.trans port)

/-! ### The statement -/

/-- Settles O30: markers by the count that they make, snapshots and clears by the monitors that the written mask names. -/
theorem monitorMarkersAndSnapshotsComplete : Obligations.MonitorMarkersAndSnapshotsComplete := by
  intro s p k d
  refine ⟨?lost, ?found, ?rests, ?snap, ?clear⟩
  case lost =>
    exact fun running port receives locked inside counts limit => ⟨_, completes_of_outcome s (g := amReceive p d k false) rfl running,
      amReceive_loses port receives locked inside counts limit⟩
  case found =>
    exact fun running port receives unlocked counts => ⟨_, completes_of_outcome s (g := amReceive p d k true) rfl running,
      amReceive_locks port receives unlocked counts⟩
  case rests =>
    exact fun running absent found => completes_unchanged s (g := amReceive p d k found) rfl running (amReceive_rests absent found)
  case snap =>
    intro o ports a w u ok
    exact ⟨completesWrite_of_field s rfl ok, fun named port => monSnap_accepted o named port⟩
  case clear =>
    intro o ports a w u ok
    exact ⟨completesWrite_of_field s rfl ok, fun named port => show Cleared p d u from monClear_accepted o named port⟩

end Sys2Proof.Machine
end
